-- ==== Sys2Proof/Word.lean ====
section
/-!
DEFINITION. The word types of the module: a 32-bit register word (R6), a byte, and the plainest helpers on them.
-/
namespace Sys2Proof

/-- A register word: every register is 32 bits wide (R6). -/
abbrev Word := BitVec 32

/-- A byte of a memory, a buffer, a frame or a telegram. -/
abbrev Byte := BitVec 8

/-- The word of a number, modulo 2^32. -/
abbrev word (n : Nat) : Word := BitVec.ofNat 32 n

/-- The byte of a number, modulo 256. -/
abbrev byte (n : Nat) : Byte := BitVec.ofNat 8 n

/-- 0 or 1. -/
def bit (b : Bool) : Nat := if b then 1 else 0

end Sys2Proof
end

