-- ==== Sys2Proof/Machine/Table.lean ====
section
/-!
DEFINITION. Sparse tables in one canonical form: keys strictly rising, and no entry equal to what an unlisted
key reads as. Registers, memories (a list of Host.Cell) and every numbered resource of the module are such tables.
-/
namespace Sys2Proof

/-- A sparse table. An unlisted key reads as the type's default. -/
abbrev Tbl (α : Type) := List (Nat × α)

/-- What key `k` reads as. -/
def Tbl.get {α : Type} [Inhabited α] : Tbl α → Nat → α
  | [], _ => default
  | (j, v) :: t, k => if j = k then v else Tbl.get t k

/-- Puts `v` at `k`, keeping the keys rising. -/
def Tbl.put {α : Type} (k : Nat) (v : α) : Tbl α → Tbl α
  | [] => [(k, v)]
  | (j, w) :: t => if k < j then (k, v) :: (j, w) :: t else if k = j then (k, v) :: t else (j, w) :: Tbl.put k v t

/-- Takes `k` out. -/
def Tbl.del {α : Type} (k : Nat) : Tbl α → Tbl α
  | [] => []
  | (j, w) :: t => if k = j then Tbl.del k t else (j, w) :: Tbl.del k t

/-- Writes `v` at `k`: writing the default takes the entry out, so equal tables are equal lists. -/
def Tbl.set {α : Type} [Inhabited α] [DecidableEq α] (t : Tbl α) (k : Nat) (v : α) : Tbl α :=
  if v = default then Tbl.del k t else Tbl.put k v t

/-- Replaces what stands at `k` by its image under `f`. -/
def Tbl.upd {α : Type} [Inhabited α] [DecidableEq α] (t : Tbl α) (k : Nat) (f : α → α) : Tbl α :=
  Tbl.set t k (f (Tbl.get t k))

/-- Writes a list of values at successive keys. -/
def Tbl.setList {α : Type} [Inhabited α] [DecidableEq α] (t : Tbl α) (k : Nat) : List α → Tbl α
  | [] => t
  | v :: vs => Tbl.setList (Tbl.set t k v) (k + 1) vs

/-- The values at `n` successive keys from `k` on. -/
def Tbl.getList {α : Type} [Inhabited α] (t : Tbl α) (k n : Nat) : List α :=
  (List.range n).map fun i => Tbl.get t (k + i)

/-- The canonical form, read from key `lo` on: keys at least `lo` and rising, no default entry. -/
def Tbl.wfFrom {α : Type} [Inhabited α] [DecidableEq α] : Nat → Tbl α → Bool
  | _, [] => true
  | lo, (j, v) :: t => decide (lo ≤ j) && decide (v ≠ default) && Tbl.wfFrom (j + 1) t

/-- The canonical form of a table. -/
def Tbl.wf {α : Type} [Inhabited α] [DecidableEq α] (t : Tbl α) : Bool := Tbl.wfFrom 0 t

/-- The canonical form of a memory: addresses strictly rising, and no entry equal to what an unlisted address reads as, which is 0. -/
abbrev Memory.wf (m : Tbl (BitVec 8)) : Bool := Tbl.wf m

/-- A table of the values of `f` at 0, 1, …, `n - 1`. -/
def Tbl.ofFn {α : Type} [Inhabited α] [DecidableEq α] (n : Nat) (f : Nat → α) : Tbl α :=
  (List.range n).foldl (fun t i => Tbl.set t i (f i)) []

end Sys2Proof
end

