-- ==== Sys2Proof/Machine/Data.lean ====
section
/-!
DEFINITION. The data of the module, block by block: what each block holds beyond the registers that stand in the register table,
and the messages, frames and records that blocks exchange.
-/
namespace Sys2Proof

/-- One copy of an outbound transaction as the voter sees it (R70): address, data, kind 0 read, 1 write, 2 phase mark. -/
structure Txn where
  addr : Nat
  data : Word
  kind : Nat
  deriving DecidableEq, Repr, Inhabited

/-- An entry of an alignment queue (R70): the transaction and its 9 parity bits. -/
structure QEntry where
  txn : Txn
  parity : BitVec 9
  deriving DecidableEq, Repr, Inhabited

/-- What a core writes into its alignment queue (R70), and what turns over in the entry while it stands there (R96): masks over address,
data, kind and parity bits, all 0 in an entry without an error. -/
structure QWrite where
  txn : Txn
  upAddr : Word
  upData : Word
  upKind : BitVec 2
  upParity : BitVec 9
  deriving DecidableEq, Repr, Inhabited

/-- A store by a core to a memory of its region (R79): address, data, byte enables. -/
structure Store where
  addr : Nat
  data : Word
  be : BitVec 4
  deriving DecidableEq, Repr, Inhabited

/-- One sample of the region monitors (R94), by region: supply in mV, temperature in 0.125 °C, phase deviation in 1/16 core cycle. -/
structure RegionSample where
  mv : Tbl Nat
  temp : Tbl Int
  phase : Tbl Int
  deriving DecidableEq, Repr, Inhabited

/-- An address as an agent of the interconnect gives it (R25, R28): `who` is 0 for the triad, 1 for the CP, 2 for the SP,
3 + k for the debugger at region k (R489). -/
structure BusAddr where
  who : Nat
  addr : Nat
  deriving DecidableEq, Repr, Inhabited

/-- What a VC start reads: the output pins (R344), and the length of the VC that ends on Mantle's oscillator (R121). -/
structure VcReading where
  pins : BitVec 48
  meas : Nat
  deriving DecidableEq, Repr, Inhabited

/-- What the VAU finds at 990 µs: the detected steps of the injected-mismatch test (R97), the memory CRCs of the three regions (R90). -/
structure CloseResults where
  detected : BitVec 7
  crcs : List Word
  deriving DecidableEq, Repr, Inhabited

/-- How a transmitted frame ends: 0 success, 1–6 the error as DBC_ERR.LEC names it, 7 lost arbitration; the loop delay measured in it
(R250, R274). -/
structure FrameEnd where
  result : Nat
  tdcv : Nat
  deriving DecidableEq, Repr, Inhabited

end Sys2Proof

namespace Sys2Proof.Machine

/-! ### SYS: module state, vital cycle -/

/-- The module states of R30 (SYS_STATE.STATE in this order). -/
inductive ModState where
  | off | kindling | boot | configCheck | join | banked | active | safe | maint
  deriving DecidableEq, Repr, Inhabited

/-- The triad modes of R34 (SYS_STATE.MODE). -/
inductive TriMode where
  | t3 | t2f | t2s
  deriving DecidableEq, Repr, Inhabited

/-- Why the module is held in reset in `KINDLING` (R30, R33). -/
inductive Hold where
  | none | selftest | button
  deriving DecidableEq, Repr, Inhabited

/-- A record that waits for the next successful start: code, ARG object, ARG value. -/
structure Note where
  code : Nat
  obj : Nat
  val : Nat
  deriving DecidableEq, Repr, Inhabited

/-- One auxiliary processor, CP or SP (R27, R455). -/
structure Proc where
  /-- VCs since its last doorbell heartbeat was taken. -/
  miss : Nat
  /-- Held in reset: before the boot chain releases it, and while it reloads its image. -/
  reset : Bool
  /-- Held in reset until the boot chain releases it (R452), or after a failed retry until the next module reset (R455). -/
  dead : Bool
  /-- Reload attempts since SYS reset it. -/
  tries : Nat
  deriving DecidableEq, Repr, Inhabited

/-- SYS and the VC timer. -/
structure Sys where
  state : ModState
  mode : TriMode
  fenced : Option Nat
  split : Option Nat
  /-- Maintenance-start flag, kept in MRAM (R31). -/
  maintFlag : Bool
  hold : Hold
  /-- The reset button's fault stands (R33). -/
  buttonFault : Bool
  /-- Causes recorded at the next successful start (R30, R33). -/
  startNotes : List Note
  /-- The VC timer runs (R54). -/
  vcOn : Bool
  vcn : Word
  /-- The first VC start of the runtime has been taken, so the next one increments (R54). -/
  vcStarted : Bool
  phase : Nat
  tick : Nat
  /-- Phase and tick of the newest mark of this VC, for the read of SYS_PHASE_HWMp in the tick that sets it (R68). -/
  lastMark : Option (Nat × Nat)
  /-- Trim of the last VC and of the running one, −4 to +4 ticks (R56). -/
  trim : Int
  trimNow : Int
  vcnLoaded : Bool
  cp : Proc
  sp : Proc
  /-- The slot epoch as the MRAM state flags hold it (R424). -/
  epoch : Nat
  /-- Slot code read on X20 (R494). -/
  slotCode : Nat
  /-- Restrictive telegram cycles still to send after entry to `SAFE` (R37). -/
  safeCycles : Nat
  /-- The all-amber LED display of R505 stands. -/
  ledAmber : Bool
  /-- Data of the last read a command made; the model's own output port. -/
  rdata : Word
  deriving DecidableEq, Repr, Inhabited

/-! ### VAU -/

/-- The voting and alignment unit beyond its registers. -/
structure Vau where
  /-- Regions minority pending in this VC (R77). -/
  pending : BitVec 3
  debug : Bool
  /-- Regions at whose access port a debugger is attached (R489). -/
  attached : BitVec 3
  /-- Alignment queues, oldest entry first; the regions whose core stalls on a full queue (R69, R70). -/
  queue : Tbl (List QEntry)
  stalled : BitVec 3
  /-- The copies that the voter holds of the present transaction, and how many late copies of decided ones a region still owes (R72). -/
  copy : Tbl (Option QEntry)
  owed : Tbl Nat
  /-- An entry has failed its parity as the voter took it, and the fault is not yet raised (R96). -/
  parityBad : Bool
  /-- The region in the rejoin sequence (R90), why, its VC 1–40 (0 from the accepted request to
  the end of that VC), and whether its self-test has passed. -/
  seqRegion : Option Nat
  seqFence : Bool
  seqVc : Nat
  seqSelftestDone : Bool
  /-- Operating milliseconds of each fence of the last 24 h, newest first: region, time (R85). -/
  fences : List (Nat × Nat)
  held : BitVec 3
  /-- VCs since the last fence, split or rejoin; none before the first (R87). -/
  sinceChange : Option Nat
  /-- Captured in this VC, per region (R81). -/
  captured : BitVec 3
  /-- A capture write has been taken in this VC. -/
  captureWritten : Bool
  /-- Captured SIGA of region k at k, SIGW at 3 + k, until the comparison shows them. -/
  sig : Tbl Word
  /-- The running write fold SIGW of each region (R79, R81). -/
  sigw : Tbl Word
  /-- VCN and 10 µs period of the monitor readings that stand in VAU_RM_* (R102). -/
  sampled : Option (Word × Nat)
  /-- Values of registers that are shown from 990 µs of a VC on (R102), by address: VAU_MIN_*, VAU_ST_*, VAU_ECC_CORRk. -/
  now : Tbl Word
  /-- Milliseconds of the running minute of VAU_ST_AGEk, by region. -/
  ageMs : Tbl Nat
  deriving DecidableEq, Repr, Inhabited

/-! ### Mantle -/

/-- Mantle's states (R120, MNT_STAT.STATE in this order). -/
inductive MState where
  | wait | run | hold | idle | msafe
  deriving DecidableEq, Repr, Inhabited

/-- Mantle's view of one door unit: locked flags of its last valid report and the VC start strobes since (R106). -/
structure MUnit where
  seen : Bool
  lockL : Bool
  lockR : Bool
  age : Nat
  deriving DecidableEq, Repr, Inhabited

/-- The discrepancy counters of one edge (R114). -/
structure MDisc where
  loop : Nat
  berth : Nat
  zspd : Nat
  trip : Bool
  deriving DecidableEq, Repr, Inhabited

/-- Mantle. -/
structure Mnt where
  st : MState
  /-- Filtered FI64–FI95 now, and as latched at the last VC start strobe. -/
  filt : BitVec 32
  latched : BitVec 32
  /-- VC start strobes through which each ZSPD input has stood energised without break. -/
  zsRun : Tbl Nat
  units : Tbl MUnit
  /-- Fresh and locked units as judged at the last strobe (bit 16e + u). -/
  locked : BitVec 128
  /-- The standing triad vector, the vector staged in this VC's P1, and which halves have been written. -/
  tvec : BitVec 64
  tset : BitVec 64
  tsetLo : Bool
  tsetHi : Bool
  /-- The staged vector fails dual-rail coding. -/
  tsetBad : Bool
  /-- The vector frozen at 350 µs, and whether it was received. -/
  tfrozen : Option (BitVec 64)
  /-- The all-restrictive vector has been taken since the last freeze (R111). -/
  restricted : Bool
  /-- Halves of the all-restrictive vector written outside P1 in this VC (R111). -/
  outLo : Bool
  outHi : Bool
  vecOk : Bool
  vecAbsent : Nat
  /-- Mantle's vector of this VC, and the vector the triad read at the previous 416 µs (R117). -/
  mvec : BitVec 64
  readVec : BitVec 64
  /-- M_OK as read with it. -/
  readOk : Bool
  ga : BitVec 12
  sa : BitVec 8
  da : BitVec 8
  /-- Lines whose rules held on the latched values and on the values at 352 µs (R109). -/
  gq : BitVec 12
  sq : BitVec 8
  dq : BitVec 8
  disc : Tbl MDisc
  /-- Heartbeat writes taken in this P5, and the word. -/
  hbWrites : Nat
  hbWord : Word
  /-- Last valid heartbeat: code and VCN byte; consecutive valid 0x96 in `WAIT`; consecutive misses; strobes since. -/
  hbCode : Nat
  hbVcn : Nat
  hbRun : Nat
  hbMiss : Nat
  hbSince : Nat
  /-- The bytes in the load port, and whether the table was found valid. -/
  tab : Tbl Byte
  tabLen : Nat
  tabOk : Bool
  /-- Mantle's one-time-programmable memory (R128, R458): its copies of CK0–CK3, programmed, revoked or unusable. -/
  ck : Tbl (List Byte)
  ckProg : BitVec 4
  ckRev : BitVec 4
  /-- Door command buffers sealed in the last P2, telegram buffers sealed, buffers masked. -/
  sealedDoor : BitVec 8
  sealedTel : Nat
  masked : Nat
  /-- The supply supervisor's own reset or the VC timing watchdog has fired (R103, R121). -/
  strobeLost : Bool
  /-- The triad has read `MSAFE` and recorded it (R40). -/
  msafeRead : Bool
  /-- Length of the last VC on Mantle's oscillator (R121); masked seals since reset, and 0x0316 recorded in this VC (R118, R130). -/
  vcMeas : Nat
  sealCount : Word
  maskNoted : Bool
  deriving DecidableEq, Repr, Inhabited

/-! ### EVR and JNL -/

/-- The newest low-level record, as EVR keeps it to match repeats (R398). -/
structure LowRec where
  rseq : Word
  slot : Nat
  code : Nat
  src : Nat
  arg : Word
  ms : Nat
  rep : Nat
  open_ : Bool
  deriving DecidableEq, Repr, Inhabited

/-- A low-level request: source, code, ARG. -/
structure LowReq where
  src : Nat
  code : Nat
  arg : Word
  deriving DecidableEq, Repr, Inhabited

/-- A NAND record as staged or programmed: its NSEQ and its bytes (R401). -/
structure NandRec where
  nseq : Word
  bytes : List Byte
  deriving DecidableEq, Repr, Inhabited

/-- The event recorder. -/
structure Evr where
  /-- Time tag: power-cycle count and operating milliseconds (R388). -/
  cyc : Nat
  ms : Nat
  /-- Periods of the reference since the last operating millisecond. -/
  periods : Nat
  /-- A saturation has been recorded since the start (R390). -/
  satNoted : Bool
  /-- The slot the next time checkpoint, NSEQ checkpoint and copied mark take: false A, true B. -/
  ckTime : Bool
  ckNseq : Bool
  ckCopied : Bool
  rseq : Word
  slot : Nat
  newest : Option LowRec
  scanDone : Bool
  /-- Requests held until the scan completes, in arrival order (R400). -/
  held : List LowReq
  /-- Runtime records that took a slot in this VC (R397). -/
  rtThisVc : Nat
  /-- The operating milliseconds at the last time checkpoint and at the last round of CORRELATION records (R389, R406). -/
  ckMs : Nat
  corrMs : Nat
  /-- Drops not yet announced by a 0x0D01 or 0x0D02 record, by writer (R397, R400). -/
  drops : Tbl Nat
  /-- Codes of the per-region blocks whose event flags the runtime reads in P4 (R395). -/
  flags : List LowReq
  /-- NAND records of the runtime that wait for P4: TYPE and BODY (R403). -/
  posts : List (Nat × List Byte)
  nseq : Word
  /-- The NSEQ checkpoint found at the start. -/
  nseqStart : Word
  staged : List NandRec
  /-- How many of the staged records, from the oldest on, stand on NAND and await their confirmation. -/
  programmed : Nat
  /-- NAND records dropped since the last LOST record, and the first NSEQ of them. -/
  lostCnt : Nat
  lostFirst : Word
  /-- The data bytes of the pages on NAND, oldest first, and the next page sequence number. -/
  nand : List (List Byte)
  pseq : Word
  /-- NAND blocks retired to the reserve, of which there are 382. -/
  retired : Nat
  deriving DecidableEq, Repr, Inhabited

/-- The journal interface beyond its registers. -/
structure Jnl where
  /-- Cells written in this VC (R410). -/
  written : List Nat
  /-- Cells that the runtime writes in the next P4 it may: cell, KIND and payload (R409). -/
  due : List (Nat × Nat × List Byte)
  deriving DecidableEq, Repr, Inhabited

/-! ### ITE, CRD, PDS -/

/-- The table engine beyond its registers. -/
structure Ite where
  busy : Bool
  /-- The token copy of R144 is in progress. -/
  copying : Bool
  /-- GO has been accepted in this VC (R146). -/
  goTaken : Bool
  done : Bool
  nses : Nat
  /-- The copy of the token states taken at launch (R144). -/
  frozen : Tbl Word
  deriving DecidableEq, Repr, Inhabited

/-- The Cord ledger beyond its registers. -/
structure Crd where
  /-- Token entries, laid out as R168. -/
  tok : Tbl Word
  loading : Bool
  /-- LOAD_BEGIN has been performed in this VC (R170). -/
  loadBegun : Bool
  /-- Running counts of R177, one per state in the order of R168. -/
  nFree : Nat
  nHeld : Nat
  nRel : Nat
  nBlk : Nat
  nLent : Nat
  nRem : Nat
  censusDone : Bool
  censusGo : Bool
  ops : Nat
  /-- CRD_OP writes held while the token copy is in progress, in order (R172): OP and OPA words. -/
  heldOps : List (Word × Word)
  deriving DecidableEq, Repr, Inhabited

/-- The tracking states of R198. -/
inductive TrackSt where
  | waiting | valid | coast | lost
  deriving DecidableEq, Repr, Inhabited

/-- PDS's view of one leaf (R194–R201). -/
structure PLeaf where
  st : TrackSt
  miss : Nat
  /-- Newest taken report: travel, velocity, sample instant. -/
  trv : Nat
  vel : Int
  vcn : Word
  start : Nat
  /-- Latched position L. -/
  pos : Nat
  isNew : Bool
  jumped : Bool
  /-- The newest report formed an interval, and how many missing reports it spans. -/
  hasIval : Bool
  ivalMiss : Nat
  ivalJumped : Bool
  /-- Intervals formed, and the numbers of the jumped ones of the last 16 since the last 0x0604. -/
  ivals : Nat
  jumps : List Nat
  deriving DecidableEq, Repr, Inhabited

/-- Berth state of one edge beyond PDS_BSTAT (R211). -/
structure PBerth where
  /-- B1 of the last VC: valid and offset. -/
  bValid : Bool
  bOfs : Int
  lref : Int
  /-- The present L and the one before are both fresh (R203, R213). -/
  hasIval : Bool
  deriving DecidableEq, Repr, Inhabited

/-- The travel clock beyond its registers; slot configuration, argument, result and time stand in their registers. -/
structure Pds where
  leaf : Tbl PLeaf
  /-- Sample instant of the last report taken from each unit: VCN and offset in µs; none before the first (R195). -/
  lastTaken : Tbl (Option (Word × Nat))
  berth : Tbl PBerth
  /-- ARG as each slot's last arming took it (R203): leaf slot i at i, berth slot j at 512 + j. -/
  arg : Tbl Word
  ready : Bool
  deriving DecidableEq, Repr, Inhabited

/-! ### Lending (R182–R190) -/

/-- A lending message (R182). -/
structure LendMsg where
  kind : Nat
  from_ : Nat
  to_ : Nat
  epoch : Nat
  elem : Nat
  orphan : Bool
  lseq : Word
  vcn : Word
  deriving DecidableEq, Repr, Inhabited

/-- An entry of the borrow book: element, owner slot, session, LSEQ, RETURN rather than BORROW, and the VCN of its last message. -/
structure Borrow where
  elem : Nat
  owner : Nat
  ses : Nat
  lseq : Word
  isRet : Bool
  sent : Word
  deriving DecidableEq, Repr, Inhabited

/-- An entry of the lend book: element, borrower slot, LSEQ, CONFIRMED, VCN of its last GRANT and of its last AUDIT. -/
structure Loan where
  elem : Nat
  borrower : Nat
  lseq : Word
  confirmed : Bool
  sent : Word
  audited : Word
  deriving DecidableEq, Repr, Inhabited

/-- A message that waits for the banked peer's acknowledgement of the ledger change behind it (R185). -/
structure LendWait where
  msg : LendMsg
  since : Word
  deriving DecidableEq, Repr, Inhabited

/-- The runtime's lending. -/
structure Lend where
  borrows : List Borrow
  loans : List Loan
  lseq : Word
  /-- LSEQ under which each foreign token is held (R187). -/
  remLseq : Tbl Word
  /-- Last epoch seen from each slot plus 1; 0 = none seen. -/
  epochs : Tbl Nat
  /-- Messages for the next cascade exchange, oldest first, and those waiting under R185. -/
  out : List LendMsg
  waiting : List LendWait
  /-- Claims after a cold start: running, CLAIM messages counted per slot, CLAIM_END count plus 1 per slot, VCN of the last query. -/
  claiming : Bool
  claims : Tbl Nat
  claimEnds : Tbl Nat
  queried : Word
  deriving DecidableEq, Repr, Inhabited

/-- A door unit's report as DBC hands it over (R195, R260): travel and velocity of leaves 0 and 1, the flag bytes, the sample
instant, whether its safety-layer code was valid, whether it came since the last snapshot. -/
structure UnitRep where
  seen : Bool
  isNew : Bool
  codeOk : Bool
  trv0 : Nat
  trv1 : Nat
  vel0 : Int
  vel1 : Int
  flags : Byte
  ustat : Byte
  alive : Byte
  vcn : Word
  start : Nat
  deriving DecidableEq, Repr, Inhabited
/-! ### DSU (R218–R247) -/

/-- Leaf states (DSU_LEAFi.STATE in this order). -/
inductive LeafSt where
  | closedLocked | unlocking | opening | open_ | closing | reopening | stopping | torqueOff | isolated | fault
  deriving DecidableEq, Repr, Inhabited

/-- Edge states (DSU_ESTATEe.STATE in this order). -/
inductive EdgeSt where
  | secure | enabled | inCycle | closing | provingClosed | localSafe
  deriving DecidableEq, Repr, Inhabited

/-- One leaf machine (R226, R234–R236, R241, R243). -/
structure DLeaf where
  st : LeafSt
  cyc : Bool
  creep : Bool
  held : Bool
  unitSs : Bool
  reopens : Nat
  /-- VCs in the present state. -/
  timer : Nat
  /-- VCs since entry to `UNLOCKING`, until `OPEN`. -/
  openT : Nat
  /-- VCs in `CLOSING` with slot 2i + 1 fired. -/
  lockT : Nat
  /-- |VEL| at the trigger, direction, envelope limit, consecutive still reports, VCs since the trigger. -/
  v0 : Nat
  dirOpen : Bool
  limit : Nat
  still : Nat
  stopT : Nat
  opened : Word
  closed : Word
  aborted : Word
  /-- The record of the cycle (R402): VCN of the unlocking, of `OPEN` and of the last entry to `CLOSING`; new reports of the close,
  peak |VEL|, every fourth report's travel and velocity. -/
  openVcn : Word
  openedVcn : Word
  closeVcn : Word
  reports : Nat
  peak : Nat
  samples : List (Nat × Int)
  /-- Marked `ISOLATED` by the count block (R243). -/
  isoMark : Bool
  /-- R243 has been applied, or the leaf's state was mirrored. -/
  started : Bool
  /-- An earlier item of this step moved the leaf to `STOPPING`, `TORQUE_OFF` or `FAULT` (R231). -/
  moved : Bool
  /-- `CLOSED_LOCKED` when this step began (R230). -/
  wasClosed : Bool
  /-- A count, CYC or the `ISOLATED` state changed in this VC (R242). -/
  changed : Bool
  deriving DecidableEq, Repr, Inhabited

/-- DSU's view of one door unit: the held report flags laid out as DSU_UREPu, whether its last due report was new, and
consecutive new reports whose SI differs from the line command (R218, R220, R230). -/
structure DUnit where
  rep : Word
  dueNew : Bool
  siRun : Nat
  /-- A fault action gives the unit STO at once, whatever its other leaf does (R229). -/
  stoAtOnce : Bool
  deriving DecidableEq, Repr, Inhabited

/-- One edge machine (R230, R239). -/
structure DEdge where
  st : EdgeSt
  ss : Bool
  restoring : Bool
  /-- A class L cause has arisen in `LOCAL_SAFE`: since the restoration was accepted, or in this step (R231); VCN of the acceptance. -/
  newCause : Bool
  restVcn : Word
  wdPend : Bool
  clk : Bool
  loopT : Bool
  tDoe : Bool
  tSto : Bool
  cmdOk : Bool
  pcount : Nat
  ses : Nat
  cause : Nat
  /-- Mask latched by OPEN; the leaves in it, until every one is `OPEN` (R224). -/
  mask : BitVec 16
  openSet : BitVec 32
  /-- VCN at `ENABLED` and at `IN_CYCLE` (R402). -/
  enabledVcn : Word
  cycleVcn : Word
  /-- VCs since the accepted close, while CLOSE_T runs. -/
  closeT : Option Nat
  /-- The edge command of this VC (DSU_ECMDe), and a class L code of another block that waits for the next step. -/
  ecmd : Word
  localReq : Option Nat
  /-- The plunger's present fault has been recorded. -/
  plunger : Bool
  /-- VCN of the last accepted TRAIN_DOORS. -/
  corrVcn : Word
  deriving DecidableEq, Repr, Inhabited

/-- What a step did that door commands wait for. -/
inductive DoorEvent where
  | accepted (edge : Nat)
  | refused (edge code : Nat)
  | opened (edge : Nat)
  | openTimeout (edge : Nat)
  | closed (edge : Nat)
  | closeTimeout (edge : Nat)
  | stopped (edge code : Nat)
  | restored (edge : Nat)
  | restoreRefused (edge : Nat)
  | leafAccepted (leaf : Nat)
  | leafRefused (leaf : Nat)
  deriving DecidableEq, Repr

/-- The door supervision unit beyond its registers. -/
structure Dsu where
  leaf : Tbl DLeaf
  unit : Tbl DUnit
  edge : Tbl DEdge
  /-- GO has been accepted in this VC; the step is done; load window open. -/
  go : Bool
  done : Bool
  loading : Bool
  /-- DSU_LCMD writes of this VC, in order. -/
  lcmds : List Word
  events : List DoorEvent
  deriving DecidableEq, Repr, Inhabited

/-! ### DBC (R248–R281) -/

/-- DBC states (DBC_STAT.STATE in this order). -/
inductive BusSt where
  | off | listen | master | backup | safeTx | silent | sleep
  deriving DecidableEq, Repr, Inhabited

/-- Status of a frame (DBC_TXSTAT fields in this order). -/
inductive TxSt where
  | none | pending | sent | cancelled | tooLate | notSealed | failed | lostArb | busBusy
  deriving DecidableEq, Repr, Inhabited

/-- The sending copy of a command buffer (R261): block, command bytes, ramp, marks and seal. The loading copy stands in its
registers. -/
structure CmdCopy where
  block : BitVec 64
  cmds : BitVec 128
  ramp : Nat
  ready : Bool
  hasSeal : Bool
  sealW : Word
  deriving DecidableEq, Repr, Inhabited

/-- The formats in which the module sends frames (R248): FD base format, classical base format. -/
inductive FrameFmt where
  | fbff | cbff
  deriving DecidableEq, Repr, Inhabited

/-- A frame on a bus (R248): format, bit rate switch, error state indicator, identifier and payload. -/
structure Frame where
  fmt : FrameFmt
  brs : Bool
  esi : Bool
  id : Nat
  bytes : List Byte
  deriving DecidableEq, Repr, Inhabited

/-- The module's own frames on a bus. -/
inductive FrameKind where
  | reference | order | command
  deriving DecidableEq, Repr, Inhabited

/-- One door bus channel beyond its registers. -/
structure Dbc where
  st : BusSt
  /-- ESI state: 0 error-active, 1 error-passive, 2 bus-off. -/
  err : Nat
  /-- VCs since the last valid reference, own or foreign; none before the first. -/
  sinceRef : Option Nat
  refOther : Bool
  bc : Nat
  /-- References with CYCLE in order since SYNCED was set, as far as a full matrix cycle. -/
  cycRun : Nat
  mcValid : Bool
  unack : Nat
  alone : Bool
  /-- Bus time offset from the VC timer, in ntu (R267, R269). -/
  tofs : Int
  txRef : TxSt
  txOrd : TxSt
  txCmd : TxSt
  /-- The own frame whose SOF has been sent and whose end has not come. -/
  fly : Option FrameKind
  sending : CmdCopy
  /-- A door command frame has been sent successfully in this VC; consecutive VCs as `MASTER` without one (R262). -/
  cmdSent : Bool
  noCmd : Nat
  /-- The channel was `MASTER` when this VC began. -/
  masterVc : Bool
  /-- VCN of the entry to `SAFE_TX`, and whether the VC after it has begun (R264). -/
  safeVcn : Word
  safeRun : Bool
  /-- SLEEP accepted; SLEEP_NEXT stands in the references of this matrix cycle (R277). -/
  sleepReq : Bool
  sleepNext : Bool
  /-- Wake frames still to send (R278). -/
  wakes : Nat
  /-- Frames put on the bus in this VC, oldest first. -/
  out : List Frame
  /-- Newest report of each unit in this BC as taken into the report buffer. -/
  buf : Tbl UnitRep
  deriving DecidableEq, Repr, Inhabited

/-! ### SNI and connections (R282–R305) -/

/-- A received copy: connection, UDP payload, completion before the snapshot tick in 4 µs units. -/
structure RxCopy where
  cnum : Nat
  bytes : List Byte
  arr : Nat
  deriving DecidableEq, Repr, Inhabited

/-- Counts of the A/B results on one port (R297). -/
structure AbCount where
  both : Nat
  lateOk : Nat
  lateExp : Nat
  miss : Nat
  deriving DecidableEq, Repr, Inhabited

/-- One connection as the runtime keeps it: its declared fields (R286), its sequence base with the telegram that set it, and its
results. -/
structure Conn where
  cid : Word
  rxTmax : Nat
  maxAge : Nat
  resyncT : Nat
  berth : Bool
  /-- BASE, with ALIVE, LEN and TCRC of the telegram that set it; VCN and port of that acceptance; a partner result is owed; a copy of the
  same SEQ has differed. -/
  base : Option Word
  baseAlive : Nat
  baseLen : Nat
  baseCrc : Word
  baseVcn : Word
  basePortB : Bool
  owed : Bool
  conflict : Bool
  suspended : Bool
  /-- Newest telegram accepted at step 6, and its VCN. -/
  content : List Byte
  contentVcn : Option Word
  /-- VCN of the last copy that passed step 2. -/
  heard : Option Word
  fresh : Bool
  aliveLost : Nat
  cntA : AbCount
  cntB : AbCount
  /-- Telegrams sent on the connection, modulo 2^16. -/
  txAlive : Nat
  deriving DecidableEq, Repr, Inhabited

/-- One network (R298): link, whether its state rules are in effect (R445), state, VCs of link down, VCs without a copy past step 2,
VCs of link up without MISS. -/
structure Net where
  link : Bool
  on : Bool
  lost : Bool
  down : Nat
  quiet : Nat
  good : Nat
  missed : Bool
  deriving DecidableEq, Repr, Inhabited

/-- The safety network interface beyond its registers. -/
structure Sni where
  stageA : List RxCopy
  stageB : List RxCopy
  snapA : List RxCopy
  snapB : List RxCopy
  ready : Bool
  txDone : Bool
  ntx : Nat
  /-- Bytes of the transmit slots, the VCN of each one's seal (R124), and the telegrams released in this VC: connection and bytes. -/
  tx : Tbl (List Byte)
  sealVcn : Tbl Word
  out : List RxCopy
  conn : Tbl Conn
  netA : Net
  netB : Net
  /-- 0x090A has been recorded for the present silence. -/
  silentNoted : Bool
  /-- The connection with which the next restrictive VC resumes (R305). -/
  resume : Nat
  deriving DecidableEq, Repr, Inhabited

/-! ### CMD (R309–R334) -/

/-- Tag states (R315). -/
inductive TagSt where
  | free | held | queued | active
  /-- One of the values 4–7, which only a load can bring. -/
  | invalid (n : Nat)
  deriving DecidableEq, Repr, Inhabited

/-- One operation tag: state, stored HSEQ, host, last command's opcode, last status and session, the stored terminal reply, the last
non-terminal reply and the statuses of those posted. -/
structure Tag where
  st : TagSt
  hseq : Option Word
  host : Nat
  opc : Nat
  status : Nat
  ses : Nat
  stored : Option (List Byte)
  lastNt : Option (List Byte)
  posted : List Nat
  /-- VCN of application, SES and HVCN of the packet, VCN of the last post, parameter bytes 0–3, fault code of the last reply, creation number of its session. -/
  applied : Word
  pktSes : Nat
  hvcn : Word
  postVcn : Word
  params : Word
  fault : Nat
  creation : Word
  /-- The operation is a replay after a switch-over (1) or a cold start (2); 0 otherwise. A terminal reply decided before the replay has
  posted REPLAYED is held back (R418). -/
  replay : Nat
  heldBack : Option (List Byte)
  deriving DecidableEq, Repr, Inhabited

/-- A consumed packet. -/
structure Pkt where
  host : Nat
  tag : Nat
  opc : Nat
  ses : Nat
  hseq : Word
  hvcn : Word
  params : List Byte
  deriving DecidableEq, Repr, Inhabited

/-- A reply in an out queue. -/
structure OutReply where
  noncons : Bool
  bytes : List Byte
  deriving DecidableEq, Repr, Inhabited

/-- The command front end beyond its registers. -/
structure Cmd where
  tag : Tbl Tag
  queue : List Pkt
  handed : Nat
  loading : Bool
  creditOk : Bool
  /-- Credit counts of CMD_CREDIT. -/
  nFree : Nat
  nFlight : Nat
  nHeld : Nat
  out : Tbl (List OutReply)
  outSel : Nat
  /-- Tags whose journal entries are due in P4 (R314). -/
  dirty : List Nat
  /-- CMD_RBUF. -/
  rbuf : Tbl Byte
  deriving DecidableEq, Repr, Inhabited

/-! ### The runtime: sessions, operators' marks, door operations (R151–R165, R176, R222, R326, R333) -/

inductive SesKind where
  | route | point | door
  deriving DecidableEq, Repr, Inhabited

/-- Session states, in the order of R324. -/
inductive SesSt where
  | requested | checking | locking | setting | proving | set_ | occupied | releasing | released | cancelled
  deriving DecidableEq, Repr, Inhabited

/-- How a session in `RELEASING` gives its tokens up: at once, at the signal's stop, or with a timer in VC (R159, R160). -/
inductive RelMode where
  | now | atStop | timed (t : Nat)
  deriving DecidableEq, Repr, Inhabited

/-- A live session; `used` is false for an ID that is free. -/
structure Session where
  used : Bool
  kind : SesKind
  st : SesSt
  creation : Word
  /-- Route number, point element, or edge. -/
  obj : Nat
  /-- Target of a point session: 1 normal, 2 reverse. -/
  target : Nat
  /-- The tag of the command that created it, whether that command has its terminal reply; the tag of the command that ends it. -/
  tag : Nat
  replied : Bool
  endTag : Option Nat
  /-- VCN of creation, of the acquire, of the first entry to `SETTING`, of the entry to `PROVING` (door). -/
  born : Word
  acqVcn : Word
  setVcn : Option Word
  provVcn : Word
  /-- The fault code of its end. -/
  fault : Nat
  cleared : Bool
  provCnt : Nat
  apprLocked : Bool
  /-- Points commanded by this session and the VCN of the first command (R163). -/
  firstCmd : List (Nat × Word)
  /-- Tracks proven occupied since the session entered `OCCUPIED`, steps released, DEST's run of proven occupied VCs, and DEST
  released (R157). -/
  occSeen : List Nat
  relSteps : Nat
  destRun : Nat
  relMode : RelMode
  /-- The end is a cancel rather than a timed release; VCN of the cancel. -/
  isCancel : Bool
  endVcn : Word
  /-- A borrow of this session has been refused. -/
  lendRefused : Bool
  /-- The edge's restoration is complete, so the door session ends (R222). -/
  restored : Bool
  deriving DecidableEq, Repr, Inhabited

/-- An entry of the standing list (R333). -/
structure Stand where
  block : Bool
  fstop : Bool
  host : Nat
  deriving DecidableEq, Repr, Inhabited

/-- A signal whose route bits are withheld, and its run of SSTOP (R165). -/
structure Withheld where
  sig : Nat
  run : Nat
  deriving DecidableEq, Repr, Inhabited

/-- An edge command that is due in this VC: edge, command as DSU_ECMDe codes it, session, host command's tag (R508). -/
structure DoorDue where
  edge : Nat
  cmd : Nat
  ses : Nat
  tag : Option Nat
  deriving DecidableEq, Repr, Inhabited

/-- A door command that waits for its end: tag, opcode-like kind (2 OPEN, 3 CLOSE, 4 WITHDRAW, 5 RESTORE, 9 LEAF_ISOLATE,
10 LEAF_RESTORE), edge or leaf, and whether DSU has accepted it. -/
structure DoorPend where
  tag : Nat
  kind : Nat
  obj : Nat
  accepted : Bool
  deriving DecidableEq, Repr, Inhabited

/-- Host berth data (R326). -/
structure TrainBerth where
  valid : Bool
  still : Bool
  offset : Nat
  vcn : Word
  host : Nat
  live : Bool
  deriving DecidableEq, Repr, Inhabited

/-- The runtime's work of P4 in its order (R51, R67, R181, R383, R402, R418). -/
inductive BgWork where
  | flags | ledger | replay | heartbeats | mailboxes | boot | records | journal
  deriving DecidableEq, Repr, Inhabited

/-- The runtime's own data. -/
structure Rt where
  /-- Background work not yet done, oldest first; what 950 µs leaves is carried into the next P4 (R67). -/
  bg : List BgWork
  ses : Tbl Session
  created : Word
  standing : Tbl Stand
  withheld : List Withheld
  /-- Signals with a route PBIT set in the newest content, and in the content before. -/
  pbits : List Nat
  due : List DoorDue
  /-- Edges whose ECMD END is due in the next VC. -/
  endDue : List Nat
  pend : List DoorPend
  berth : Tbl TrainBerth
  /-- START_T and RECLAIM_T in 100 VC (RUNTIME record). -/
  startT : Nat
  reclaimT : Nat
  /-- The start blocks have been changed by START_TIMED (R181). -/
  startTimed : Bool
  /-- The engine has been launched and its results are to be sequenced in this VC. -/
  sequenced : Bool
  /-- The standing list or the count block changed in this VC. -/
  standDirty : Bool
  /-- The BOOT record of this start is due in P4 (R402). -/
  bootDue : Bool
  /-- The code of the configuration check that has failed in this VC, at whose end the module goes to `MAINT` (R456). -/
  checkFail : Option Nat
  /-- A lending message, or a command other than a TRAIN_BERTH equal to the one before, has been applied in this VC (R429). -/
  ext : Bool
  /-- The words of BLOCKs, edge blocks and unit commands that this VC's content has formed, for its shadow record (R429). -/
  formed : List Word
  deriving DecidableEq, Repr, Inhabited

/-! ### FIO (R338–R362) -/

/-- The field inputs and outputs beyond their registers. -/
structure Fio where
  /-- Filtered outputs of paths A of FI00–FI95 and B of FI00–FI63 (R341). -/
  filtA : BitVec 96
  filtB : BitVec 64
  /-- Consecutive VC starts with the paths of an input unequal, and with them equal while its bit is set (R342). -/
  differ : Tbl Nat
  agree : Tbl Nat
  disc : BitVec 64
  /-- Undeclared inputs energised (R343). -/
  undeclared : BitVec 96
  /-- Feed states as R345, and the contact supplies that are limited: 2k the lower
and 2k + 1 the upper block's on X3k (R496). -/
  feed : Tbl Nat
  contact : BitVec 8
  /-- ON bits and group requests in force, and those held for the next VC start (R350). -/
  on : BitVec 48
  grp : BitVec 12
  nextOn : BitVec 48
  nextGrp : BitVec 12
  /-- On-commands taken at the VC start that wait for their 20 µs. -/
  dueOn : BitVec 48
  /-- Commits in this VC; the last one was valid. -/
  commits : Nat
  committed : Bool
  /-- VC in `ACTIVE` since the last VC with a valid commit, and whether the VC that runs is one (R351). -/
  idle : Nat
  activeVc : Bool
  silent : Bool
  /-- Groups held open by a feed, groups held open by an output fault, the code that opened each, and groups whose restore takes
  effect at the next VC start. -/
  feedOpen : BitVec 12
  faultOpen : BitVec 12
  openCode : Tbl Nat
  restore : BitVec 12
  /-- Outputs in their test pulse. -/
  pulse : BitVec 48
  /-- Snapshot taken in this VC. -/
  ready : Bool
  deriving DecidableEq, Repr, Inhabited

/-! ### CVU and MBX (R363–R387) -/

/-- One check-value unit beyond its configuration registers. -/
structure Cvu where
  open_ : Bool
  done : Bool
  matched : Bool
  short : Bool
  failed : Bool
  /-- CRC register, and the data bytes withheld in CHECK mode, oldest first. -/
  crc : BitVec 64
  held : List Byte
  count : Word
  result : BitVec 64
  check : BitVec 64
  append : BitVec 64
  deriving DecidableEq, Repr, Inhabited

/-- Sender status of a channel (MBX_CSTAT.SSTAT in this order). -/
inductive MbxSt where
  | empty | posted | taken | acked | lostRxReset
  deriving DecidableEq, Repr, Inhabited

/-- One mailbox channel. -/
structure Mbx where
  tx : Tbl Word
  rx : Tbl Word
  dbell : Word
  st : MbxSt
  full : Bool
  torn : Bool
  /-- A word of the present message has been read. -/
  partRead : Bool
  sepoch : Nat
  mepoch : Nat
  len : Nat
  ackTaken : Bool
  ackDone : Bool
  rcode : Nat
  lost : Nat
  coll : Nat
  /-- The interrupts that the channel's last event sent to the CP and the SP, by the bits of MBX_CIRQ (R376). -/
  irq : BitVec 5
  deriving DecidableEq, Repr, Inhabited

/-! ### The mirror (R425, R426) -/

/-- What the segments of a mirror carry. -/
structure MirrorBody where
  ledger : Tbl Word
  lend : Lend
  ses : Tbl Session
  created : Word
  withheld : List Withheld
  pend : List DoorPend
  sesRegs : Tbl Word
  pds : Pds
  pdsRegs : Tbl Word
  dsu : Dsu
  dsuRegs : Tbl Word
  journal : List (Nat × List Byte)
  conn : Tbl Conn
  /-- Whether networks A and B are `LOST` to the sender. -/
  lostA : Bool
  lostB : Bool
  berth : Tbl TrainBerth
  standing : Tbl Stand
  deriving DecidableEq, Repr, Inhabited

/-- A segment of a pair-link frame (R425): ID and words. -/
structure Seg where
  id : Nat
  words : List Word
  deriving DecidableEq, Repr, Inhabited

/-- A frame of the pair link (R425): KIND 1 MIRROR, 2 RESPONSE, 3 BULK. `body` is what the runtime's areas of a mirror say: their layout
in the segments' words is the runtime's own, which the spec does not give (DESIGN CHOICE, log entry 148). -/
structure PairFrame where
  kind : Nat
  slot : Nat
  member : Nat
  safe : Bool
  ready : Bool
  handover : Bool
  takeover : Bool
  ext : Bool
  invalid : Bool
  epoch : Nat
  vcn : Word
  ackVcn : Word
  swapVcn : Word
  crdPrev : Word
  srec : List Word
  segs : List Seg
  body : MirrorBody
  crc : Word
  deriving DecidableEq, Repr, Inhabited

/-! ### PCL (R422–R443) -/

/-- A replay that is due in P4 (R418): none, after a switch-over, after a cold start. -/
inductive ReplayDue where
  | none | switched | cold
  deriving DecidableEq, Repr, Inhabited

/-- A cascade frame (R440). -/
structure CascFrame where
  slot : Nat
  member : Nat
  state : Nat
  ready : Bool
  takeover : Bool
  handover : Bool
  safe : Bool
  epoch : Nat
  vcn : Word
  seen : List Nat
  configId : Word
  msgs : List LendMsg
  crc : Word
  deriving DecidableEq, Repr, Inhabited

/-- Pair and cascade link beyond its registers. -/
structure Pcl where
  /-- MCTRL.GO and PCL_CTX have been taken in this VC. -/
  sent : Bool
  ctxSent : Bool
  /-- VCs since the last valid pair-link frame and since the peer's last valid cascade frame. -/
  linkAge : Nat
  oxfenAge : Nat
  linkNoted : Bool
  /-- Mirrors taken in consecutive VCs, the VCN of the last one, whether one was taken in this VC. -/
  run : Nat
  ackVcn : Word
  takenNow : Bool
  /-- The journal needs its bulk resend, and cells received of it. -/
  bulk : Bool
  bulkCells : List Nat
  /-- The own census checksum of the last VC, and consecutive VCs in which it equalled CRD_PREV. -/
  lastSum : Word
  sumRun : Nat
  /-- VCs for which SHADOW_LIM still counts as reached, from 1,000 down (R428). -/
  shadowHold : Nat
  /-- READY as last reported, and the VCN of that response. -/
  ready : Bool
  respVcn : Option Word
  /-- A swap is asked for; the VCN of its last try. -/
  swapWanted : Bool
  swapTried : Word
  /-- The peer has confirmed a hand-over. -/
  confirmed : Bool
  /-- The hand-over VC of this member as the old `ACTIVE`. -/
  handing : Bool
  /-- The peer has reported `SAFE` or a state other than `ACTIVE` in this VC (R433). -/
  peerBad : Bool
  /-- VCs without a mirror taken since the last one taken; READY of the last response before them (DEDUCED, log entry 43). -/
  gap : Nat
  readyHeld : Bool
  /-- VCN of the switch-over trigger. -/
  trigger : Option Word
  /-- A replay is due in the next P4. -/
  replay : ReplayDue
  /-- EDGE_AT_TAKEOVER is due at the next DSU step. -/
  edgesDue : Bool
  /-- Operating milliseconds at the last change of roles; VC starts taken in `JOIN`. -/
  roleMs : Nat
  joinRun : Nat
  /-- VCs for which a peer that cannot be this pair's stands seen, and whether it has been recorded (R423). -/
  mismatch : Nat
  mismatchNoted : Bool
  /-- VCs with a cascade phase error beyond 10 µs. -/
  phaseRun : Nat
  /-- The timing master's slot and member; none seen yet. -/
  master : Option Nat
  /-- Slots with an `ACTIVE` member, by the frames of this VC and of the VC before. -/
  activeNow : BitVec 8
  activeLast : BitVec 8
  /-- Lending messages delivered for the next P1, by ascending sender slot. -/
  inbox : List LendMsg
  /-- Epochs that cascade frames have brought, plus 1, for the next P1 (R189), and the highest epoch of this slot that frames have
  reported in `JOIN` (R424). -/
  epochNew : Tbl Nat
  seenOwn : Nat
  /-- Cascade indexes whose frame has been taken in this VC, and the last frame taken of each. -/
  crxNow : BitVec 8
  crx : Tbl CascFrame
  /-- The frames sent in this VC: cascade frames, the mirror, the response. -/
  cascOut : List CascFrame
  mirrorOut : Option PairFrame
  respOut : Option PairFrame
  /-- The markers sent at this VC start: on the Oxfen link, on the pair link (R439). -/
  markOut : Bool
  pairMarkOut : Bool
  deriving DecidableEq, Repr, Inhabited

/-! ### SUI and the service port (R444–R478) -/

/-- What a boot selector copy holds (R450): `activeMs` is none while ACTIVE_MS reads all ones. -/
structure Sel where
  seq : Word
  slot : Nat
  st : Nat
  boots : Nat
  group : Nat
  bundle : Word
  trialMs : Nat
  activeMs : Option Nat
  deriving DecidableEq, Repr, Inhabited

/-- A part as a manifest names it (R461): TYPE, LENGTH, SHA-384 of the plaintext. -/
structure Part where
  ty : Nat
  len : Nat
  sha : List Byte
  deriving DecidableEq, Repr, Inhabited

/-- A manifest (R461): its bytes, and what they spell. -/
structure Manifest where
  raw : List Byte
  group : Nat
  keyCk : Bool
  keyIndex : Nat
  bundle : Word
  version : Nat
  hwMask : BitVec 16
  /-- RANGE: the least and the greatest accepted version of SP, CP, TRIAD, DATA. -/
  minV : List Nat
  maxV : List Nat
  pairIf : Nat
  cascIf : Nat
  jnlFormat : Nat
  configId : Word
  nonce : List Byte
  eph : List Byte
  signer : List Byte
  parts : List Part
  deriving DecidableEq, Repr, Inhabited

/-- The transfer record (R467): STATE 0 none, 1 `PREPARING`, 2 `RECEIVING`, 3 `VERIFIED`, 4 `ACTIVATED`. -/
structure Xfer where
  st : Nat
  target : Nat
  group : Nat
  bundle : Word
  next : Nat
  total : Nat
  digest : List Byte
  deriving DecidableEq, Repr, Inhabited

/-- A Sorlia session: open, authenticated, challenge outstanding, operating milliseconds of its last request. -/
structure Sorlia where
  open_ : Bool
  authed : Bool
  challenge : Option (List Byte)
  last : Nat
  deriving DecidableEq, Repr, Inhabited

/-- What a Sorlia request frame carries beside its body (R464): the session it comes on, OP and FSEQ. -/
structure SorliaHead where
  session : Nat
  op : Nat
  fseq : Nat
  deriving DecidableEq, Repr, Inhabited

/-- An answer frame (R464): the head of its request, STATUS and the body. -/
structure SorliaAnswer where
  head : SorliaHead
  status : Nat
  body : List Byte
  deriving DecidableEq, Repr, Inhabited

/-- The body of AUTHENTICATE (R464): the maintainer's public key and its signature. -/
structure AuthBody where
  key : List Byte
  sig : List Byte
  deriving DecidableEq, Repr, Inhabited

/-- What KEY_ENROL asks for (R459): the revocation of a CK entry, or the enrolment of a public key. -/
inductive KeyRequest where
  | revoke (k : Nat)
  | enrol (key : List Byte)
  deriving DecidableEq, Repr, Inhabited

/-- The storage and update unit and the service port. -/
structure Sui where
  /-- The firmware NOR (R448), 65 MiB, by byte offset; each byte stands complemented, so an unlisted one is erased and reads 0xFF. -/
  nor : Tbl Byte
  /-- The slot running. -/
  running : Nat
  /-- The operation in progress (SUI_OP.OP; 0 none), and the manifest that the SP has staged. -/
  busy : Nat
  staged : Option (List Byte)
  failed : Bool
  recovery : Bool
  /-- The session that holds the update lock. -/
  lock : Option Nat
  xfer : Xfer
  /-- The head of the Sorlia request being served, that of the one a long operation serves, and the last answer. -/
  req : SorliaHead
  workReq : SorliaHead
  answer : SorliaAnswer
  sessions : Tbl Sorlia
  /-- The tags of the UPDATE_CONFIRM operations that wait for the selector write, and the selector write in progress: the copy it writes is
  erased from its start on. -/
  confirmTags : List Nat
  writing : Option Sel
  revertPending : Bool
  /-- One-time-programmable memory (R458): serial number, device identity key and encryption key, digests VK0–VK3 and CK0–CK3 with what is
  programmed and what is revoked or unusable, the references of the 41 self-test signatures. -/
  serial : List Byte
  idKey : Nat
  encKey : Nat
  vk : Tbl (List Byte)
  ck : Tbl (List Byte)
  vkProg : BitVec 4
  vkRev : BitVec 4
  ckProg : BitVec 4
  ckRev : BitVec 4
  testRefs : List (BitVec 64)
  /-- Operating milliseconds at the last complete re-verification and refresh; progress of one that runs: slot and next 64 KiB block, at 512
  the manifests, and the verdict so far; slot and next block of the refresh. -/
  verifyMs : Nat
  refreshMs : Nat
  verifying : Option (Nat × Nat × Bool)
  refreshing : Option (Nat × Nat)
  board : Nat
  /-- Self-test failure recorded in the state flags (R447): step and signature index. -/
  testFail : Option (Nat × Nat)
  deriving DecidableEq, Repr, Inhabited

/-! ### OBS and the configuration in use -/

/-- What one region's OBS has counted (R484, R486): the 48 fixed and the 8 programmable counters, the segment registers of the last P1 and
their highest, and the overflow bits: fixed 0–47, programmable 48–55. -/
structure RegionObs where
  fix : List Nat
  prg : List Nat
  segl : List Word
  segh : List Word
  ovf : BitVec 56
  deriving DecidableEq, Repr, Inhabited

/-- A link image of one region's OBS (R488): what is frozen at a VC start. -/
structure ObsImage where
  region : Nat
  vcn : Word
  fix : List Nat
  prg : List Nat
  /-- The eight selections, the 32 segment registers, the tag record, OBS_OVF0 and OBS_OVF1, in ascending offset. -/
  words : List Word
  deriving DecidableEq, Repr, Inhabited

/-- The observation blocks beyond their registers: each region's counts, the P1 segment, tagging, the link. -/
structure Obs where
  regions : List RegionObs
  /-- Programmable counters that hold counts of a class T event, and those whose overflow bit such a count has set (R480). -/
  prgT : BitVec 8
  ovfT : BitVec 8
  seg : Nat
  tagValid : Bool
  tagRead : Bool
  /-- The tag generator's state, and the retired instructions from the last tag to the next one (R481, R487). -/
  tagGen : Word
  tagLeft : Nat
  linkSent : Bool
  /-- Segments opened in the P1 of this VC (R486). -/
  segs : BitVec 16
  /-- The images of the newest VC start, one of each region's OBS, and the last ones that the SP has received and serves. -/
  images : List ObsImage
  served : List ObsImage
  deriving DecidableEq, Repr, Inhabited

/-- A module of the cascade (R457, KIND 5). -/
structure Module where
  slot : Nat
  member : Nat
  paired : Bool
  ipA : Word
  ipB : Word
  deriving DecidableEq, Repr, Inhabited

/-- The configuration in use (R456, R457): the image as loaded, what the runtime keeps of it, the CONFIG_IDs of the DATA manifest
and of the Mantle table. -/
structure Conf where
  image : List Byte
  configId : Word
  slot : Nat
  member : Nat
  modules : List Module
  x1 : Word
  x1Prefix : Nat
  prefixA : Nat
  prefixB : Nat
  dataId : Word
  deriving DecidableEq, Repr, Inhabited


end Sys2Proof.Machine
end

