-- ==== Sys2Proof/Syntax.lean ====
section
/-!
DEFINITION. The commands of the module: one constructor per row of the table of operations and events, with what the command
brings from outside the module as its operands.
-/
namespace Sys2Proof

/-- What one region's core brings to a signature capture (R79, R80): its words GP0–GP31, PC, status, CC0–CC15, its stack pointer,
and the stores that it has made in this VC beside those that came as commands. -/
structure CoreCapture where
  core : List Word
  sp : Nat
  stores : List Store
  deriving DecidableEq, Repr, Inhabited

/-- The blocks with a self-check of their own (R23, R179, R215, R245): the channel or unit number is a separate operand. -/
inductive Block where
  | crd | pds | dsu | dbc | sni | fio | cvu | mbx | evr | jnl | pcl | sui | cmd
  deriving DecidableEq, Repr, Inhabited

/-- The commands. -/
inductive Instr where

  /-- LOGIC_SUPPLY_VALID (R30): The logic supply rises through its valid threshold, and the regions are released from reset into KINDLING. -/
  | logicSupplyValid
  /-- LOGIC_SUPPLY_POWER_DOWN (R30): The logic supply falls below its power-down level and the module goes to OFF. -/
  | logicSupplyPowerDown
  /-- LOGIC_SUPPLY_OUT_OF_RANGE (R46): The logic supply stays below 17.0 V or above 33.0 V for 1 VC, and the module enters SAFE. -/
  | logicSupplyOutOfRange (high : Bool)
  /-- REF_CLOCK_LOST (R22): The 25 MHz reference is absent or out of tolerance for 20 us, and the module enters SAFE with cause 0x0103. -/
  | refClockLost
  /-- SELFTEST_COMPLETE (R446): The KINDLING self-test ends; on a pass the boot chain starts, on a fail the module is held in reset. -/
  | selftestComplete (sigs : List (Nat × BitVec 64)) (compared : Bool) (index : Nat)
  /-- BOOT_COMPLETE (R452): The boot chain ends: the parts are verified and loaded, and the runtime starts in CONFIG_CHECK, or the module boots the other slot. -/
  | bootComplete (selRead othRead : Bool)
  /-- CONFIG_CHECK_COMPLETE (R456): The configuration checks end; the module goes to JOIN on success or to MAINT with the code of the failing check. -/
  | configCheckComplete
  /-- RESET_BUTTON_RELEASE (R33): The front button is released after a press of 0.1 s to 10 s, and the module resets. -/
  | resetButtonRelease (heldMs : Nat)
  /-- RESET_BUTTON_FAULT (R33): The button is held longer than 10 s, fails closed or its contacts disagree, and the module is held in reset. -/
  | resetButtonFault
  /-- RESET_BUTTON_FAULT_CLEARED (R33): Both contacts read released and in agreement for 1 s, and the module leaves the held reset through KINDLING. -/
  | resetButtonFaultCleared
  /-- SORLIA_RESTART_REQUEST (R31): A Sorlia restart request resets the module in SAFE or MAINT, and is refused in any other state. -/
  | sorliaRestartRequest
  /-- SORLIA_MAINTENANCE_REQUEST (R31): A Sorlia maintenance request takes a BANKED module to MAINT, sets the maintenance-start flag in SAFE, CONFIG_CHECK or JOIN, and is refused in ACTIVE. -/
  | sorliaMaintenanceRequest
  /-- SYS_SAFE_REQ (R47): A voted write of key 0xC0A1 to SYS_SAFE_REQ enters SAFE with cause 0x0106; any other value is recorded and ignored. -/
  | sysSafeReq (w : Word)
  /-- PROCESSOR_HEARTBEAT_TIMEOUT (R27): The CP or SP doorbell heartbeat is missing for 20 VC, and SYS resets that processor alone. -/
  | processorHeartbeatTimeout (sp : Bool)
  /-- PROCESSOR_RELOAD_DONE (R455): A CP or SP reset by SYS finishes reloading its image and resumes, or after a failed retry is held in reset. -/
  | processorReloadDone (sp ok : Bool)
  /-- FIREWALL_VIOLATION (R25): A CP or SP access outside its shared windows is blocked, reads 0 and is recorded. -/
  | firewallViolation (sp : Bool) (addr : Nat)
  /-- UNMAPPED_ACCESS (R29): A triad access outside the address map is voted, reads 0, is ignored on write and is recorded. -/
  | unmappedAccess (write : Bool) (addr : Nat)
  /-- SLOT_CODE_CHANGE (R494): The backplane slot code changes or breaks and differs from the configured slot, and the module enters SAFE with 0x0105. -/
  | slotCodeChange (code : Nat)
  /-- BLOCK_SELF_CHECK_FAIL (R23): The duplicated control logic of a periphery block disagrees, and the block reports its self-check code. -/
  | blockSelfCheckFail (block : Block) (n : Nat)
  /-- REGISTER_WRITE (R7): A write to a register without a row of its own acts by its access code, and lock and width violations are recorded. -/
  | registerWrite (at_ : BusAddr) (width : Nat) (w : Word)
  /-- VC_START (R51): At the VC start tick VCN increments and FIO, DBC, SNI and PDS freeze their snapshots. -/
  | vcStart (reading : VcReading)
  /-- EVALUATE_START (R51): At 50 us the snapshots must be ready, or P0_OVERRUN follows, and P1 evaluation begins. -/
  | evaluateStart (ready : Bool)
  /-- AGREE_START (R51): At 350 us the permissive vector and outgoing content are frozen and EVAL_DONE is checked. -/
  | agreeStart
  /-- MANTLE_VECTOR_CHECK (R112): At 352 us Mantle forms its vector, checks VEC_OK and consistency, and counts discrepancies. -/
  | mantleVectorCheck (received : Bool)
  /-- MANTLE_STATUS_READ (R40): At 416 us the triad reads Mantle's status, vector and echo and reacts to MSAFE, TRIP or mismatches. -/
  | mantleStatusRead (readable : Bool) (echo : BitVec 64)
  /-- COMMIT_START (R51): At 450 us agreement is formed, grants take effect and P3 commit begins. -/
  | commitStart (sealsDone : Bool)
  /-- BACKGROUND_START (R51): At 550 us the output set is frozen, COMMIT_DONE is checked and P4 background work begins. -/
  | backgroundStart (copyDiff : Bool)
  /-- CLOSE_START (R51): At 950 us BG_DONE is checked and P5 close begins. -/
  | closeStart
  /-- CREDIT_RECOUNT (R316): At 985 us CMD recounts the tag states against CMD_CREDIT and the shares. -/
  | creditRecount
  /-- SIGNATURE_COMPARE (R82): At 990 us the VAU compares the captured signatures and sets a minority or enters SAFE. -/
  | signatureCompare (results : CloseResults)
  /-- VC_END (R51): At 1000 us the close work must be complete, and a split or rejoin takes place. -/
  | vcEnd (heartbeat : Bool)
  /-- PHASE_MARK (R65): The runtime writes a phase mark to SYS_PHASE_DONE; a mark outside its phase is ignored and recorded. -/
  | phaseMark (w : Word) (tick : Nat)
  /-- VCN_LOAD (R54): PCL loads VCN once in JOIN; any other load is refused and recorded. -/
  | vcnLoad (byPcl : Bool) (vcn : Word)
  /-- VC_TIMER_FAULT (R55): The two VC counters disagree or VCN fails to increment, and the module enters SAFE. -/
  | vcTimerFault
  /-- VOTED_TRANSACTION (R76): The voter decides on the copies of an outbound transaction, issues the majority or enters SAFE. -/
  | votedTransaction (w0 w1 w2 : List QWrite) (spread : Nat) (checkerA checkerB : Bool)
  /-- ALIGN_WINDOW_CLOSE (R72): Six core cycles after the first copy the voter decides without the missing copies. -/
  | alignWindowClose (w0 w1 w2 : List QWrite) (spread : Nat)
  /-- ALIGN_QUEUE_ENTRY_LEAVES (R69): An entry leaves a full alignment queue and the stalled core continues. -/
  | alignQueueEntryLeaves (region : Nat)
  /-- VAU_SIG_CAPTURE (R81): A write of CAPTURE freezes SIGW and computes SIGA. -/
  | vauSigCapture (w : Word) (c0 c1 c2 : Option CoreCapture)
  /-- MEMORY_UNCORRECTABLE (R83): The core or the scrubber finds an uncorrectable memory error, and the region becomes minority pending. -/
  | memoryUncorrectable (region : Nat)
  /-- REGION_OUT_OF_TOLERANCE (R95): A region monitor is beyond its limit for 30 us, and the region becomes pending or the module enters SAFE. -/
  | regionOutOfTolerance (s0 s1 s2 : RegionSample) (tick : Nat)
  /-- VAU_SPLIT_REQ (R87): The runtime requests the split of a due region, which is accepted or refused. -/
  | vauSplitReq (w : Word)
  /-- SELFTEST_DUE (R86): A region's self-test age reaches 480 minutes. -/
  | selftestDue (region : Nat)
  /-- SELFTEST_OVERDUE (R89): A region is still due 60 minutes after falling due, and OVERDUE is recorded again every 60 minutes. -/
  | selftestOverdue (region : Nat)
  /-- REJOIN_SELFTEST_DONE (R90): The self-test of the split or fenced region ends, and the copy step follows or the region stays out. -/
  | rejoinSelftestDone (passed : Bool)
  /-- DEBUG_ATTACH (R100): A debugger attaches to a region; DEBUG is set and the module enters SAFE, goes to MAINT or records it. -/
  | debugAttach (region : Nat)
  /-- MANTLE_INPUT_FILTER_CHANGE (R105): A Mantle input filter reaches 10 equal samples and changes its value. -/
  | mantleInputFilterChange (input : Nat) (value : Bool)
  /-- MANTLE_LISTENER_FRAME (R106): A Mantle door-bus listener decodes a declared unit's report frame and checks its CRC. -/
  | mantleListenerFrame (bus id : Nat) (fd : Bool) (bytes : List Byte)
  /-- MNT_TVEC_SET (R111): The runtime writes half of the triad vector to Mantle, or the all-restrictive vector on SAFE entry. -/
  | mntTvecSet (high : Bool) (w : Word) (codingOk : Bool)
  /-- MNT_HEARTBEAT (R119): The runtime writes the heartbeat word in P5. -/
  | mntHeartbeat (w : Word)
  /-- MANTLE_TABLE_LOAD (R128): SUI writes the parameter table into Mantle's load port; a table loaded after WAIT is refused. -/
  | mantleTableLoad (bytes : List Byte)
  /-- MANTLE_TABLE_VERIFIED (R128): Mantle completes the hash, signature and range checks of its table. -/
  | mantleTableVerified (key : List Byte)
  /-- MANTLE_SELF_CHECK_FAIL (R120): Mantle's halves disagree or a listener self-check fails, and Mantle enters MSAFE. -/
  | mantleSelfCheckFail (listener : Bool)
  /-- ITE_LAUNCH (R146): A write of GO copies the tokens and starts evaluation of the live sessions. -/
  | iteLaunch (w : Word)
  /-- ITE_DONE (R146): The engine completes the evaluation, writes the results and digest, and sets DONE. -/
  | iteDone
  /-- ITE_OVERTIME (R147): DONE is not set 1,200 clocks after GO, and the module enters SAFE. -/
  | iteOvertime
  /-- ITE_LOCK (R140): A write of GD_LOCK makes geographic data RAM read-only until reset. -/
  | iteLock (w : Word)
  /-- GD_RAM_WRITE (R140): A write to locked geographic data RAM is blocked, and the module enters SAFE. -/
  | gdRamWrite (addr : Nat) (w : Word)
  /-- ROUTE_REQUEST (R154): A host command requests a route and creates a route session or is refused. -/
  | routeRequest (host tag ses : Nat) (hseq hvcn : Word) (route : Nat)
  /-- ROUTE_CANCEL (R159): A host command cancels a route or point session according to its state. -/
  | routeCancel (host tag ses : Nat) (hseq hvcn : Word) (object : Nat)
  /-- ROUTE_RELEASE_TIMED (R160): A host command puts every token of a route session into timed release. -/
  | routeReleaseTimed (host tag ses : Nat) (hseq hvcn : Word) (route : Nat)
  /-- POINT_MOVE (R162): A host command creates a point session to move a point. -/
  | pointMove (host tag ses : Nat) (hseq hvcn : Word) (elem target : Nat)
  /-- ROUTE_WAIT_TIMEOUT (R154): WAIT_T elapses for a CHECKING route session, and the request is refused. -/
  | routeWaitTimeout (ses : Nat)
  /-- LEND_TIMEOUT (R154): LEND_T elapses in LOCKING; the session frees its tokens and ends TIMED_OUT. -/
  | lendTimeout (ses : Nat)
  /-- SET_TIMEOUT (R154): SET_T elapses before the first clearance, and the route session is cancelled. -/
  | setTimeout (ses : Nat)
  /-- THROW_TIMEOUT (R162): THROW_T elapses without detection, and the point command is withdrawn. -/
  | throwTimeout (ses : Nat)
  /-- SIGNAL_STOP_TIMEOUT (R159): A cancelled route's signal shows no SSTOP within 1000 VC, and the approach-locked outcome applies. -/
  | signalStopTimeout (ses : Nat)
  /-- CRD_ACQUIRE (R170): The ledger atomically takes every listed owned FREE token to HELD, or takes none. -/
  | crdAcquire (holder count : Nat)
  /-- CRD_RELEASE (R170): The ledger frees a HELD owned token of the subject holder. -/
  | crdRelease (elem : Nat)
  /-- CRD_TIMED (R170): The ledger puts a held token into RELEASING with a timer. -/
  | crdTimed (elem : Nat)
  /-- CRD_TRANSFER (R170): The ledger moves a HELD token to a new holder. -/
  | crdTransfer (elem holder : Nat)
  /-- CRD_BLOCK (R170): The ledger blocks a FREE owned token for a host connection. -/
  | crdBlock (elem holder : Nat)
  /-- CRD_UNBLOCK (R170): The ledger frees an operator-BLOCKED token. -/
  | crdUnblock (elem : Nat)
  /-- CRD_LEND (R170): The ledger lends a FREE owned token to a borrower slot. -/
  | crdLend (elem holder : Nat)
  /-- CRD_UNLEND (R170): The ledger frees a LENT token returned by its borrower. -/
  | crdUnlend (elem : Nat)
  /-- CRD_RECLAIM (R170): The ledger moves a LENT token into RELEASING with holder 0. -/
  | crdReclaim (elem : Nat)
  /-- CRD_TAKE (R170): The ledger takes a FREE foreign token to HELD_REMOTE. -/
  | crdTake (elem holder : Nat)
  /-- CRD_GIVEBACK (R170): The ledger frees a foreign token that is HELD_REMOTE or due. -/
  | crdGiveback (elem : Nat)
  /-- CRD_START_TIMED (R170): The ledger moves a start-blocked token into RELEASING with a timer. -/
  | crdStartTimed (elem : Nat)
  /-- CRD_LOAD_BEGIN (R170): The ledger opens CRD_TOKENi for loading in P4 of JOIN or BANKED. -/
  | crdLoadBegin
  /-- CRD_LOAD_END (R170): The ledger closes loading and recomputes the running counts and sum. -/
  | crdLoadEnd
  /-- CRD_OP_INVALID (R170): A CRD_OP with opcode 0x0 or 0xF is refused with BAD_ARG. -/
  | crdOpInvalid (opc : Nat)
  /-- CRD_HELD_OP_RESUME (R172): A CRD_OP write held behind an operation or the token copy is performed once that ends. -/
  | crdHeldOpResume
  /-- CRD_CENSUS_GO (R178): The runtime starts the census of the token table. -/
  | crdCensusGo (w : Word)
  /-- CENSUS_COMPLETE (R178): The census ends its checks and checksum; a failure enters SAFE. -/
  | censusComplete
  /-- TOKEN_TIMER_EXPIRE (R174): A RELEASING token's timer reaches 0; an owned token becomes FREE and a foreign one becomes due. -/
  | tokenTimerExpire (elem : Nat)
  /-- CRD_FREEZE (R175): A write freezes or unfreezes the tokens of edge elements. -/
  | crdFreeze (w : Word)
  /-- CRD_ATTR_LOCK (R192): A write locks CRD_CONF and the position attributes until reset. -/
  | crdAttrLock (w : Word)
  /-- ELEMENT_BLOCK (R176): A host command blocks an owned element or enters the block in the standing list. -/
  | elementBlock (host tag ses : Nat) (hseq hvcn : Word) (elem : Nat)
  /-- ELEMENT_UNBLOCK (R176): A host command unblocks an element or removes a pending block. -/
  | elementUnblock (host tag ses : Nat) (hseq hvcn : Word) (elem : Nat)
  /-- LEND_REQ (R184): The owner applies a REQ and lends, re-grants or refuses the token. -/
  | lendReq (m : Machine.LendMsg)
  /-- LEND_GRANT (R184): The borrower applies a GRANT, takes the token or returns it if its session has moved on. -/
  | lendGrant (m : Machine.LendMsg)
  /-- LEND_REFUSE (R184): The borrower applies a REFUSE and refuses the session. -/
  | lendRefuse (m : Machine.LendMsg)
  /-- LEND_TAKEN (R184): The owner applies a TAKEN and confirms the lend entry. -/
  | lendTaken (m : Machine.LendMsg)
  /-- LEND_RETURN (R184): The owner applies a RETURN, unlends or reclaims the token, and acknowledges. -/
  | lendReturn (m : Machine.LendMsg)
  /-- LEND_RETURN_ACK (R184): The borrower applies a RETURN_ACK and removes its RETURN entry. -/
  | lendReturnAck (m : Machine.LendMsg)
  /-- LEND_AUDIT (R187): The borrower answers an AUDIT with TAKEN, nothing, or an orphan RETURN. -/
  | lendAudit (m : Machine.LendMsg)
  /-- LEND_CLAIM (R188): The restarting owner sets a claimed token LENT to the claimant. -/
  | lendClaim (m : Machine.LendMsg)
  /-- LEND_CLAIM_END (R188): A member's CLAIM_END completes its set of claims. -/
  | lendClaimEnd (m : Machine.LendMsg)
  /-- LEND_CLAIM_QUERY (R188): A member answers a CLAIM_QUERY with its claims and CLAIM_END. -/
  | lendClaimQuery (m : Machine.LendMsg)
  /-- LEND_MESSAGE_REPEAT (R186): An unanswered REQ, GRANT or RETURN is sent again every 4 VC. -/
  | lendMessageRepeat
  /-- AUDIT_DUE (R187): An owner sends AUDIT for each LENT token at least once every 1024 VC. -/
  | auditDue
  /-- CLAIM_QUERY_REPEAT (R188): An incomplete set of claims is queried again every 100 VC. -/
  | claimQueryRepeat
  /-- CLAIMS_COMPLETE (R181): Claims are complete from every member, and the remaining start blocks are put into timed release. -/
  | claimsComplete
  /-- PDS_TRACK (R197): A write sets or clears the tracked leaves; clearing idles the leaf's slots. -/
  | pdsTrack (m : Nat) (w : Word)
  /-- PDS_SLOTC (R203): A write arms or disarms a leaf slot, judged against the newest report. -/
  | pdsSlotc (slot : Nat) (w : Word)
  /-- PDS_BSLOTC (R203): A write arms or disarms a berth slot. -/
  | pdsBslotc (slot : Nat) (w : Word)
  /-- PDS_BIN (R210): The runtime writes an edge's berth source value for latching at the next VC start. -/
  | pdsBin (edge : Nat) (w : Word)
  /-- PDS_CONF_LOCK (R217): A write locks the PDS configuration registers until reset. -/
  | pdsConfLock (w : Word)
  /-- LEAF_LOST (R198): A tracked leaf misses more than COAST_MAX due reports, goes LOST and its edge enters LOCAL_SAFE. -/
  | leafLost (leaf : Nat)
  /-- DSU_STEP (R244): The runtime writes GO to step every leaf and edge machine. -/
  | dsuStep
  /-- DSU_STEP_DONE (R244): The DSU step completes and sets DONE. -/
  | dsuStepDone
  /-- DSU_STEP_TIMEOUT (R244): DONE is not set 2,400 clocks after GO, and the module enters SAFE. -/
  | dsuStepTimeout
  /-- ECMD_ENABLE (R230): The edge command ENABLE gives the door-open enable of a SECURE edge. -/
  | ecmdEnable (edge ses : Nat)
  /-- ECMD_OPEN (R230): The edge command OPEN latches the mask and starts the door cycle. -/
  | ecmdOpen (edge : Nat)
  /-- ECMD_CLOSE (R230): The edge command CLOSE takes the edge to CLOSING. -/
  | ecmdClose (edge : Nat)
  /-- ECMD_WITHDRAW (R230): The edge command WITHDRAW removes the enable or sets WD_PEND. -/
  | ecmdWithdraw (edge : Nat)
  /-- ECMD_RESTORE (R239): The edge command RESTORE accepts a restoration of a LOCAL_SAFE edge. -/
  | ecmdRestore (edge : Nat)
  /-- ECMD_SAFE_STOP (R234): The edge command SAFE_STOP starts an edge safe stop with ramps. -/
  | ecmdSafeStop (edge code : Nat)
  /-- ECMD_LOCAL (R230): The edge command LOCAL puts the edge into LOCAL_SAFE with another block's code. -/
  | ecmdLocal (edge code : Nat)
  /-- ECMD_END (R222): The edge command END ends the door session's hold on the edge. -/
  | ecmdEnd (edge : Nat)
  /-- LCMD_ISOLATE (R240): The leaf command ISOLATE isolates a closed and locked leaf. -/
  | lcmdIsolate (leaf : Nat)
  /-- LCMD_RESTORE (R240): The leaf command RESTORE restores an isolated, torque-off or faulted leaf. -/
  | lcmdRestore (leaf : Nat)
  /-- DSU_LOAD_BEGIN (R242): A write opens the DSU count load window. -/
  | dsuLoadBegin
  /-- DSU_LOAD_END (R241): A write closes the load window and checks the counts. -/
  | dsuLoadEnd
  /-- DSU_CONF_LOCK (R247): A write locks the DSU configuration registers until reset. -/
  | dsuConfLock (w : Word)
  /-- LOCK_TIMEOUT (R228): LK_T elapses without unlock or lock, and the leaf fault action applies. -/
  | lockTimeout (leaf : Nat)
  /-- OPEN_TIMEOUT (R228): OPEN_T elapses without the leaf reaching OPEN, and the leaf faults. -/
  | openTimeout (leaf : Nat)
  /-- CLOSE_TIMEOUT (R224): CLOSE_T elapses and DOOR_CLOSE ends TIMED_OUT with the edge CLOSING. -/
  | closeTimeout (edge : Nat)
  /-- SS_TIMEOUT (R236): T_SS_MAX elapses during a ramp and is treated as a violation. -/
  | ssTimeout (leaf : Nat)
  /-- CORR_EXPIRY (R225): 5,000 VC after the last TRAIN_DOORS the correspondence becomes not valid. -/
  | corrExpiry (edge : Nat)
  /-- ENABLE_GRANT_TIMEOUT (R222): 10 VC in PROVING without DA withdraw the enable and cancel the door session. -/
  | enableGrantTimeout (edge : Nat)
  /-- DOOR_WAIT_TIMEOUT (R222): DWAIT_T elapses for a CHECKING door session, and it is refused. -/
  | doorWaitTimeout (edge : Nat)
  /-- RESTORATION_RELEASE (R239): In VC r + 1 the restoration releases the edge to CLOSING or is abandoned. -/
  | restorationRelease (edge : Nat)
  /-- DOOR_ENABLE (R222): A host command creates a door session for an edge. -/
  | doorEnable (host tag ses : Nat) (hseq hvcn : Word) (edge : Nat)
  /-- DOOR_OPEN (R224): A host command opens the doors of an enabled edge. -/
  | doorOpen (host tag ses : Nat) (hseq hvcn : Word) (edge : Nat)
  /-- DOOR_CLOSE (R224): A host command closes the doors of an edge in cycle. -/
  | doorClose (host tag ses : Nat) (hseq hvcn : Word) (edge : Nat)
  /-- DOOR_CLOSE_RESTORE (R239): A host command requests the restoration of a LOCAL_SAFE edge. -/
  | doorCloseRestore (host tag ses : Nat) (hseq hvcn : Word) (edge : Nat)
  /-- DOOR_WITHDRAW_ENABLE (R222): A host command withdraws the door-open enable of a session. -/
  | doorWithdrawEnable (host tag ses : Nat) (hseq hvcn : Word) (edge : Nat)
  /-- LEAF_ISOLATE (R240): A host command isolates a leaf. -/
  | leafIsolate (host tag ses : Nat) (hseq hvcn : Word) (leaf : Nat)
  /-- LEAF_RESTORE (R240): A host command restores an isolated or faulted leaf. -/
  | leafRestore (host tag ses : Nat) (hseq hvcn : Word) (leaf : Nat)
  /-- TRAIN_DOORS (R225): A host command sets the correspondence mask of an edge for 5,000 VC. -/
  | trainDoors (host tag ses : Nat) (hseq hvcn : Word) (edge mask : Nat)
  /-- TRAIN_BERTH (R326): A host command supplies the berth source of an edge for TB_HOLD VC. -/
  | trainBerth (host tag ses : Nat) (hseq hvcn : Word) (edge flags offset : Nat)
  /-- TRAIN_BERTH_EXPIRY (R326): TB_HOLD elapses and the host berth source lapses. -/
  | trainBerthExpiry (edge : Nat)
  /-- REFERENCE_SEND (R268): At the first VC of a BC the DBC attempts its reference message. -/
  | referenceSend (bus : Nat) (busy : Bool)
  /-- REFERENCE_RX (R268): A DBC observes a valid reference and synchronises, falls silent, records or enters SAFE. -/
  | referenceRx (bus ofs id : Nat) (bytes : List Byte)
  /-- ORDER_FRAME_SEND (R261): At 300 us the DBC sends the order frame from a vital-ready sending copy. -/
  | orderFrameSend (bus : Nat)
  /-- DOOR_COMMAND_FRAME_SEND (R261): At 400 us the DBC sends the door command frame from a sending copy sealed in the previous VC. -/
  | doorCommandFrameSend (bus : Nat)
  /-- FRAME_TX_END (R262): A transmitted frame ends in success, error or lost arbitration and is not repeated. -/
  | frameTxEnd (bus : Nat) (e : FrameEnd)
  /-- REPORT_RX (R265): The DBC takes a door-unit report frame into its report buffer. -/
  | reportRx (bus unit sof : Nat) (bytes : List Byte)
  /-- FOREIGN_FRAME_RX (R266): A frame that is not a valid report or expected frame is discarded, counted and recorded. -/
  | foreignFrameRx (bus id sof : Nat) (fd : Bool)
  /-- DBC_ERROR_PASSIVE (R274): The controller becomes error-passive. -/
  | dbcErrorPassive (bus : Nat)
  /-- DBC_BUS_OFF (R274): The controller goes bus-off, and the edge is placed in LOCAL_SAFE. -/
  | dbcBusOff (bus : Nat)
  /-- BUS_OFF_RECOVERY (R274): After 128 occurrences of 11 recessive bits the DBC resumes in its state. -/
  | busOffRecovery (bus : Nat)
  /-- DBC_CANCEL (R263): A write of CANCEL withdraws this VC's order and door command frames. -/
  | dbcCancel (bus : Nat)
  /-- DBC_SLEEP (R277): A write of SLEEP requests sleep of a bus, which is accepted or refused. -/
  | dbcSleep (bus : Nat)
  /-- SLEEP_ENTER (R277): At the end of the matrix cycle with SLEEP_NEXT the DBC enters SLEEP. -/
  | sleepEnter (bus : Nat)
  /-- DBC_WAKE (R278): A write of WAKE sends the wake frame and leaves SLEEP. -/
  | dbcWake (bus : Nat)
  /-- WAKE_FRAME_REPEAT (R278): The wake frame is sent again 1 VC apart, three times in all. -/
  | wakeFrameRepeat (bus : Nat)
  /-- WAKE_DETECT (R278): A sleeping DBC sees the wake pattern or wake frame and wakes. -/
  | wakeDetect (bus : Nat) (pattern : Bool) (id dlc : Nat) (data : Byte)
  /-- DBC_CREADY (R261): A write marks the loading copy vital-ready for sealing. -/
  | dbcCready (bus : Nat) (w : Word)
  /-- DBC_LOADING_COPY_WRITE (R261): A write to the loading copy clears its seal mark and requests a reseal. -/
  | dbcLoadingCopyWrite (bus index : Nat) (w : Word)
  /-- DBC_LOCK (R280): A write locks the DBC configuration registers until reset. -/
  | dbcLock (bus : Nat) (w : Word)
  /-- DATAGRAM_RX (R292): SNI takes a received datagram from a declared source into staging or discards it. -/
  | datagramRx (portB plain : Bool) (srcIp : Word) (srcPort : Nat) (dstIp : Word) (dstPort arr : Nat) (bytes : List Byte)
  /-- AB_WINDOW_EXPIRY (R297): AB_WIN VC pass without the partner copy, and MISS is counted. -/
  | abWindowExpiry (cnum : Nat)
  /-- SEQ_BASE_DROP (R295): RESYNC_T VC without a copy passing TCRC drop the connection's sequence base. -/
  | seqBaseDrop (cnum : Nat)
  /-- CONNECTION_STALE (R300): RX_TMAX VC without an accepted telegram make the connection not fresh. -/
  | connectionStale (cnum : Nat)
  /-- PHY_LINK_CHANGE (R282): A network port's PHY reports link up or down. -/
  | phyLinkChange (portB up : Bool)
  /-- NETWORK_STATE_START (R445): The network state rules take effect at first link up in JOIN or 3.0 s after the reset. -/
  | networkStateStart
  /-- NETWORK_LOST (R298): A network is link-down for 10 VC or silent for NET_T while the other delivers, and becomes LOST. -/
  | networkLost (portB : Bool)
  /-- NETWORK_RESTORED (R298): A LOST network has 1,000 VC of link up without MISS and becomes UP. -/
  | networkRestored (portB : Bool)
  /-- NETS_SILENT (R299): Neither network delivers a copy for NET_T VC. -/
  | netsSilent
  /-- NETS_SILENT_LIMIT (R299): Both networks stay silent for SILENT_T VC, and the module enters SAFE. -/
  | netsSilentLimit
  /-- SNI_TXC_READY (R302): The runtime marks a transmit slot vital-ready in P1. -/
  | sniTxcReady (slot cnum : Nat) (bytes : List Byte)
  /-- SNI_LOCK (R287): A write locks the SNI configuration registers until reset. -/
  | sniLock (w : Word)
  /-- CMD_FEED (R313): The runtime feeds an accepted HOST_DOWN copy to CMD for parsing. -/
  | cmdFeed (portB : Bool) (copy host : Nat)
  /-- CMD_POP (R314): The runtime takes the head packet and makes its tag ACTIVE. -/
  | cmdPop (w : Word)
  /-- CMD_RPLY (R317): The runtime posts a reply from CMD_RBUF; a terminal reply returns the credit. -/
  | cmdRply (w : Word)
  /-- CMD_OUTSEL (R328): The runtime selects a host's out queue. -/
  | cmdOutsel (host : Nat)
  /-- CMD_OUTPOP (R328): The runtime removes the head reply of the selected out queue. -/
  | cmdOutpop (w : Word)
  /-- CMD_LOAD_BEGIN (R331): A write opens the CMD load window. -/
  | cmdLoadBegin
  /-- CMD_LOAD_END (R331): A write closes the load window and recounts the credits. -/
  | cmdLoadEnd
  /-- CMD_LOCK (R335): A write locks the CMD configuration registers until reset. -/
  | cmdLock (w : Word)
  /-- PING (R323): A host command returns the module state, VCN and tag map. -/
  | ping (host tag ses : Nat) (hseq hvcn : Word)
  /-- SIGNAL_FORCE_STOP (R164): A host command sets or clears the force-stop mark of a signal. -/
  | signalForceStop (host tag ses : Nat) (hseq hvcn : Word) (elem setTo : Nat)
  /-- STATUS_QUERY (R324): A host command returns module, edge, session, element or connection status. -/
  | statusQuery (host tag ses : Nat) (hseq hvcn : Word) (scope index : Nat)
  /-- JOURNAL_QUERY (R323): A host command returns the journal state of a tag of its share. -/
  | journalQuery (host tag ses : Nat) (hseq hvcn : Word) (ofTag : Nat)
  /-- COUNT_QUERY (R325): A host command returns leaf, ledger, credit or record counts. -/
  | countQuery (host tag ses : Nat) (hseq hvcn : Word) (kind index : Nat)
  /-- UPDATE_CONFIRM (R327): A host command confirms the bundle on trial. -/
  | updateConfirm (host tag ses : Nat) (hseq hvcn : Word) (bundle : Word)
  /-- INPUT_FILTER_CHANGE (R341): An input path's counter reaches N or 0 and its filtered output changes. -/
  | inputFilterChange (pathB : Bool) (input : Nat) (value : Bool)
  /-- INPUT_DISCREPANCY (R342): The two paths of an input differ at DISC_T consecutive VC starts. -/
  | inputDiscrepancy (input : Nat)
  /-- FEED_STATE_CHANGE (R345): A feed enters LOW, OFF, MISSING or HIGH, opening its groups where needed. -/
  | feedStateChange (feed st : Nat)
  /-- FEED_RECOVERY (R346): A feed stays within range for its recovery time and returns to OK. -/
  | feedRecovery (feed : Nat)
  /-- CONTACT_SUPPLY_LIMIT (R496): A contact supply limited for 2 ms marks its input block invalid. -/
  | contactSupplyLimit (supply : Nat)
  /-- OUTPUT_COMMIT (R350): The write of FIO_OCMD_CODE commits the output and group commands, or enters SAFE on a bad code. -/
  | outputCommit (w0 w1 code : Word)
  /-- OUTPUT_ON_DELAY (R350): 20 us after the VC start the pending on-commands take effect. -/
  | outputOnDelay
  /-- SILENT_STATE (R351): Three VCs without a valid commit apply the latched silent state. -/
  | silentState
  /-- TEST_PULSE (R353): An output with test pulses is pulsed off from 600 us in its VC. -/
  | testPulse (off : Bool)
  /-- PULSE_MISSING (R355): The readback does not fall during a pulse; the group disconnect opens and classification starts. -/
  | pulseMissing (output : Nat)
  /-- OFF_READS_HIGH (R355): A settled-off output reads high for 20 samples; the disconnect opens and classification starts. -/
  | offReadsHigh (output : Nat)
  /-- OUTPUT_LOW (R355): A settled-on output reads low for 200 samples and is latched off. -/
  | outputLow (output : Nat)
  /-- UNDECLARED_OUTPUT_ENERGISED (R355): An undeclared output reads high for 20 samples and is recorded. -/
  | undeclaredOutputEnergised (output : Nat)
  /-- CLASSIFICATION_RESULT (R356): A faulted output is classified STUCK_ON, CROSSTALK or EXTERNAL. -/
  | classificationResult (output result partner : Nat)
  /-- FIO_GRESTORE (R358): A keyed write ends the feed-caused local safe state of the masked groups. -/
  | fioGrestore (w : Word)
  /-- FIO_LOCK (R360): A write locks the FIO configuration registers until reset. -/
  | fioLock (w : Word)
  /-- CVU_START (R369): A START opens a new stream and feeds the fold values. -/
  | cvuStart (unit : Nat)
  /-- CVU_FINISH (R369): A FINISH completes the CRC and performs the check or append. -/
  | cvuFinish (unit : Nat)
  /-- CVU_ABORT (R369): An ABORT discards the open stream. -/
  | cvuAbort (unit : Nat)
  /-- CVU_CTRL_INVALID (R369): A CVU_CTRL write with no bit or several bits set is ignored and recorded. -/
  | cvuCtrlInvalid (unit : Nat)
  /-- CVU_DATA8 (R366): A write feeds one data byte. -/
  | cvuData8 (unit : Nat) (w : Word)
  /-- CVU_DATA16 (R366): A write feeds two data bytes. -/
  | cvuData16 (unit : Nat) (w : Word)
  /-- CVU_DATA32 (R366): A write feeds four data bytes. -/
  | cvuData32 (unit : Nat) (w : Word)
  /-- CVU_CONF (R370): A write sets the unit's configuration, aborting an open stream, or is refused. -/
  | cvuConf (unit : Nat) (w : Word)
  /-- CVU_PARAM_WRITE (R370): A write to the polynomial, initial value, final XOR or fold values takes effect and aborts an open stream. -/
  | cvuParamWrite (unit param : Nat) (w : Word)
  /-- MBX_DBELL_POST (R376): The sender writes a doorbell value. -/
  | mbxDbellPost (who chan : Nat) (value : Word)
  /-- MBX_DBELL_TAKE (R376): The receiver reads and clears the doorbell. -/
  | mbxDbellTake (who chan : Nat)
  /-- MBX_SEND (R376): The sender posts LEN words from TXBUF, replacing an unread message on collision. -/
  | mbxSend (who chan len : Nat) (staged : List Word)
  /-- MBX_TAKE (R376): The receiver's read of the last word takes the message. -/
  | mbxTake (who chan : Nat)
  /-- MBX_RCODE_WRITE (R377): The receiver writes the return code of a taken long message. -/
  | mbxRcodeWrite (who chan rcode : Nat)
  /-- TIME_CHECKPOINT (R389): Every 1,000 ms EVR writes a time checkpoint. -/
  | timeCheckpoint (ms : Nat)
  /-- RING_SCAN_DONE (R400): EVR completes the start scan of the ring and resumes allocation. -/
  | ringScanDone
  /-- EVR_LOG (R395): The runtime writes a low-level record of CODE and ARG. -/
  | evrLog (w : Word)
  /-- RECORD_REQUEST (R397): The fault channel, Mantle or the intake requests a low-level record. -/
  | recordRequest (src code : Nat) (arg : Word)
  /-- RECORD_CLOSE (R399): REP_WIN of the newest record runs out; it is closed and staged as LOWCOPY. -/
  | recordClose
  /-- EVR_NPOST (R403): The runtime posts a NAND record into staging, or it is dropped. -/
  | evrNpost (w : Word)
  /-- NAND_PAGE_PROGRAM (R404): The SP programs a page when it is full or the oldest record is 100 ms old. -/
  | nandPageProgram (ok : Bool)
  /-- NAND_CONFIRM (R404): The SP confirms the highest NSEQ programmed, and EVR frees staging. -/
  | nandConfirm (nseq : Word)
  /-- NAND_START_REPORT (R405): At start the SP reports the highest NSEQ on NAND, and a gap is staged as LOST. -/
  | nandStartReport (highest : Word)
  /-- CORRELATION_DUE (R406): Every CORR_T a CORRELATION record is posted for each fresh host connection. -/
  | correlationDue
  /-- JNL_WRITE (R409): JNL writes a cell copy with the commit mark last and reads it back. -/
  | jnlWrite (cell copy : Nat) (readbackOk : Bool)
  /-- JNL_READ (R421): JNL reads a cell copy into JNL_EBUF. -/
  | jnlRead (cell copy : Nat)
  /-- EVR_LOCK (R420): A write locks EVR_CONF until reset. -/
  | evrLock (w : Word)
  /-- PCL_MCTRL_GO (R425): The runtime starts the mirror frame or the response frame. -/
  | pclMctrlGo (w : Word) (differ : List Nat)
  /-- MIRROR_RX (R427): The BANKED member takes and loads a mirror frame. -/
  | mirrorRx (m : Machine.PairFrame)
  /-- RESPONSE_RX (R428): The ACTIVE member receives the response and its acknowledgement and readiness. -/
  | responseRx (r : Machine.PairFrame)
  /-- BULK_RX (R427): The BANKED member takes resent journal cells from BULK frames. -/
  | bulkRx (f : Machine.PairFrame)
  /-- MIRROR_MISSED (R427): No mirror is taken by 900 us, so the banked state falls one VC behind. -/
  | mirrorMissed
  /-- PCL_SWAP (R430): The runtime requests a planned swap. -/
  | pclSwap (w : Word) (peerOk : Bool)
  /-- SWAP_DUE (R430): SWAP_T hours after the last role change, a swap is requested. -/
  | swapDue (peerOk : Bool)
  /-- SWAP_RETRY (R430): A waiting swap is retried every 1,000 VC. -/
  | swapRetry (peerOk : Bool)
  /-- HANDOVER_VC (R431): At the hand-over VC the BANKED member becomes ACTIVE and the old one stops forming content. -/
  | handoverVc
  /-- SWAP_CONFIRM_CHECK (R431): At 950 us of the hand-over VC the swap is confirmed or abandoned. -/
  | swapConfirmCheck
  /-- SWITCHOVER_TRIGGER (R433): The BANKED member recognises a peer failure and takes over or enters SAFE. -/
  | switchoverTrigger
  /-- TAKEOVER_ACTIVE (R434): Two VCs after the trigger the member becomes ACTIVE and drives the field. -/
  | takeoverActive
  /-- JOIN_TIMEOUT (R423): JOIN_T elapses without an ACTIVE peer, and the module cold-starts as ACTIVE. -/
  | joinTimeout
  /-- TIMING_MARKER_RX (R439): A module receives the timing master's or peer's marker and trims its VC. -/
  | timingMarkerRx (peer : Bool) (frm : Nat) (phase : Int)
  /-- PCL_CTX (R440): The runtime sends the cascade frame with its lending messages. -/
  | pclCtx (w : Word)
  /-- CASCADE_FRAME_RX (R441): A module takes a cascade frame, updates the epochs and delivers its messages. -/
  | cascadeFrameRx (f : Machine.CascFrame)
  /-- PCL_EPOCH (R424): The runtime sets the slot epoch in JOIN. -/
  | pclEpoch (w : Word)
  /-- PCL_LOCK (R443): A write locks the PCL configuration registers until reset. -/
  | pclLock (w : Word)
  /-- SORLIA_CHALLENGE (R464): A maintainer requests a 32-byte challenge. -/
  | sorliaChallenge (head : Machine.SorliaHead)
  /-- SORLIA_AUTHENTICATE (R464): The signed challenge authenticates the session, or it is closed. -/
  | sorliaAuthenticate (head : Machine.SorliaHead) (key : Nat) (body : Machine.AuthBody)
  /-- SORLIA_LOCK (R465): An authenticated session takes the update lock, or receives BUSY. -/
  | sorliaLock (head : Machine.SorliaHead)
  /-- SORLIA_PREPARE (R467): A session submits a manifest to prepare the target slot. -/
  | sorliaPrepare (head : Machine.SorliaHead) (manifest : List Byte)
  /-- SORLIA_BLOCK (R465): A session submits the next encrypted block. -/
  | sorliaBlock (head : Machine.SorliaHead) (block : Nat) (data : List Byte) (readbackOk : Bool)
  /-- SORLIA_VERIFY (R465): A session requests verification of the received bundle. -/
  | sorliaVerify (head : Machine.SorliaHead) (readOk programOk : Bool)
  /-- SORLIA_ACTIVATE (R465): A session requests activation of the committed target slot. -/
  | sorliaActivate (head : Machine.SorliaHead)
  /-- SORLIA_RELEASE (R465): A session releases the update lock. -/
  | sorliaRelease (head : Machine.SorliaHead)
  /-- SORLIA_ATTEST (R460): A session requests a signed attestation report for a nonce. -/
  | sorliaAttest (head : Machine.SorliaHead) (nonce : List Byte)
  /-- SORLIA_KEY_ENROL (R459): A session enrols or revokes a configuration signing key in MAINT. -/
  | sorliaKeyEnrol (head : Machine.SorliaHead) (request : Machine.KeyRequest) (signer : Option Nat) (programOk : Bool)
  /-- SORLIA_JOURNAL_CLEAR (R465): A session in MAINT makes every journal copy invalid. -/
  | sorliaJournalClear (head : Machine.SorliaHead)
  /-- SORLIA_SESSION_END (R465): A Sorlia session ends and releases any update lock it holds. -/
  | sorliaSessionEnd (session : Nat)
  /-- UPDATE_LOCK_TIMEOUT (R465): 600 s without a request release the update lock. -/
  | updateLockTimeout
  /-- SUI_PREPARE (R467): SUI checks the manifest, then erases the target slot and copies the other groups, or resumes. -/
  | suiPrepare (key : Nat)
  /-- SUI_BLOCK (R467): SUI decrypts, checks, programs and reads back a block. -/
  | suiBlock (key block : Nat) (data : List Byte) (readbackOk : Bool)
  /-- SUI_VERIFY (R467): SUI hashes and verifies the target slot and commits its header. -/
  | suiVerify (key : Nat) (readOk programOk : Bool)
  /-- SUI_ACTIVATE (R467): SUI writes the selector to TRIAL and restarts the module. -/
  | suiActivate (key : Nat)
  /-- SUI_CONFIRM (R470): SUI writes the selector CONFIRMED for the bundle on trial. -/
  | suiConfirm (key : Nat)
  /-- SUI_REVERT (R471): SUI writes the selector REVERTED to the previous slot. -/
  | suiRevert (key : Nat)
  /-- SUI_ATTEST (R460): SUI forms and signs the attestation report. -/
  | suiAttest (key : Nat) (nonce : List Byte)
  /-- SUI_REVERIFY_STEP (R474): SUI hashes 64 KiB of a slot for the retention re-verification. -/
  | suiReverifyStep (key : Nat) (readOk : Bool)
  /-- SUI_REFRESH_STEP (R475): SUI refreshes one NOR block through the spare block. -/
  | suiRefreshStep (key done : Nat)
  /-- SUI_ENROL (R459): SUI programs a key entry in its own and Mantle's memory and reads both back. -/
  | suiEnrol (key : Nat) (request : Machine.KeyRequest) (signer : Option Nat) (programOk : Bool)
  /-- SUI_RELEASE (R465): SUI releases the update lock. -/
  | suiRelease (key : Nat)
  /-- SUI_OP_COMPLETE (R467): A long SUI operation such as an erase or copy completes and its result is set. -/
  | suiOpComplete (ok : Bool)
  /-- SELECTOR_WRITE_DONE (R470): The selector write completes, and the confirm posts COMPLETED. -/
  | selectorWriteDone
  /-- TRIAL_DEADLINE (R471): 24 h pass on trial without confirmation, and the trial is reverted. -/
  | trialDeadline
  /-- REVERIFY_DUE (R474): Every 720 h the background re-verification of both slots starts. -/
  | reverifyDue
  /-- REFRESH_DUE (R475): Every 35,064 h the NOR refresh of both slots starts. -/
  | refreshDue
  /-- OBS_PSEL (R484): A write selects, enables or clears a programmable counter. -/
  | obsPsel (k : Nat) (w : Word)
  /-- OBS_MARK (R486): A write in P1 opens a segment of P1 counting. -/
  | obsMark (w : Word)
  /-- OBS_TAGCTL (R487): A write enables instruction tagging and sets its interval exponent. -/
  | obsTagctl (w : Word)
  /-- OBS_TAGSEED (R487): A write seeds the tag generator. -/
  | obsTagseed (w : Word)
  /-- INSTRUCTION_TAG (R487): The tag interval runs out, and OBS records the tag of the retiring instruction. -/
  | instructionTag (pc : Word) (slotClass issueSlot fetchToIssue issueToRetire stall : Nat)
  /-- MANTLE_VC_TIMING (R121): Mantle's own oscillator counts past 20,200 ticks without a VC start strobe, and Mantle enters MSAFE with cause 0x0304. -/
  | mantleVcTiming
  /-- MANTLE_SUPPLY_RESET (R103): Mantle's own supply supervisor resets Mantle, withdrawing all 28 agreement lines, and Mantle restarts in WAIT. -/
  | mantleSupplyReset
  /-- SORLIA_SWAP_REQUEST (R430): A Sorlia swap request accepted by either member of a pair makes the ACTIVE member request a planned swap. -/
  | sorliaSwapRequest (peerOk : Bool)
  /-- MEMORY_CORRECTED (R83): The core or the scrubber finds a single-bit error, corrects it, writes back the corrected word and counts it in VAU_ECC_CORR. -/
  | memoryCorrected (region : Nat)
  /-- COUNTER_WRAP (R484): An OBS counter wraps from 2^64 - 1 to 0 and sets its bit in OBS_OVF0 or OBS_OVF1. -/
  | counterWrap (counter : Nat)
  /-- CONTACT_SUPPLY_RECOVERY (R496): A contact supply that was limited leaves its limit for the recovery time, and its input block becomes valid again. -/
  | contactSupplyRecovery (supply : Nat)
  /-- LED_AMBER_END (R505): 100 ms after the release of the regions, the all-amber LED display ends and the LEDs show their states. -/
  | ledAmberEnd
  /-- REGISTER_READ (R7): A read of a register with read behaviour of its own: a read-clear, the latch of a snapshot pair, a held read, or a width violation that is recorded. -/
  | registerRead (at_ : BusAddr) (width : Nat)
  deriving DecidableEq, Repr

end Sys2Proof
end

