-- ==== Sys2Proof/Config.lean ====
section
/-!
DEFINITION. What the model leaves uninterpreted: free values, for results the spec leaves open.
-/
namespace Sys2Proof.Config

/-- A free value (DESIGN CHOICE, log entry 4): nothing can be proved of it. The argument is State.freeCtr as the step reads it. -/
opaque freeValue : Nat → Word

/-- The next state of the tag generator, a law that the spec does not give (DESIGN CHOICE, log entry 47). -/
opaque tagNext : Word → Word

/-- The interval that the tag generator's state gives under an exponent, a law of which the spec gives the mean alone (DESIGN CHOICE, log
entry 47). -/
opaque tagInterval : Word → Nat → Nat

/-- A free list of bytes of a given length, for content the spec leaves open (DESIGN CHOICE, log entry 4). -/
opaque freeByte : Nat → Nat → Byte

/-- CRC-32C over the session records (R429), whose layout in vital SRAM the spec leaves to the runtime (DESIGN CHOICE, log entry 44). -/
opaque sessionCrc : Tbl Machine.Session → Word

end Sys2Proof.Config
end

