-- ==== Sys2Proof/Machine/Bits.lean ====
section
/-!
DEFINITION. Bit fields, byte order and the CRCs of the module.
-/
namespace Sys2Proof

/-- Bits [hi:lo] of a word as a number. -/
def field (w : Word) (hi lo : Nat) : Nat := (w.toNat >>> lo) % 2 ^ (hi - lo + 1)

/-- A number as the bits [hi:lo] of a word whose other bits are 0. -/
def mkField (hi lo v : Nat) : Word := word ((v % 2 ^ (hi - lo + 1)) <<< lo)

/-- A word with its bits [hi:lo] replaced. -/
def putField (w : Word) (hi lo v : Nat) : Word :=
  (w &&& ~~~(mkField hi lo (2 ^ (hi - lo + 1) - 1))) ||| mkField hi lo v

/-- Bit `i` of a bit vector. -/
def bitAt {n : Nat} (w : BitVec n) (i : Nat) : Bool := w.getLsbD i

/-- A bit vector with bit `i` set or cleared. -/
def setBit {n : Nat} (w : BitVec n) (i : Nat) (b : Bool) : BitVec n :=
  if b then w ||| (1#n <<< i) else w &&& ~~~(1#n <<< i)

/-- The bit vector whose bit `i` is `f i`. -/
def bitsOf (n : Nat) (f : Nat → Bool) : BitVec n := (List.range n).foldl (fun w i => setBit w i (f i)) 0#n

/-- The number of ones of the low `n` bits. -/
def ones {n : Nat} (w : BitVec n) : Nat := ((List.range n).filter fun i => w.getLsbD i).length

/-- Two's complement reading of the low `n` bits of a number. -/
def signed (n v : Nat) : Int := if v % 2 ^ n < 2 ^ (n - 1) then (v % 2 ^ n : Nat) else ((v % 2 ^ n : Nat) : Int) - (2 ^ n : Nat)

/-- Two's complement code of an integer in `n` bits. -/
def unsigned (n : Nat) (i : Int) : Nat := (i % ((2 ^ n : Nat) : Int)).toNat

/-- Quotient rounded to nearest, halves away from 0. -/
def roundDiv (a : Int) (d : Nat) : Int :=
  if a < 0 then -((2 * (-a) + (d : Int)) / (2 * (d : Int))) else (2 * a + (d : Int)) / (2 * (d : Int))

/-- The VCN `a` is later than `b` (R10). -/
def later (a b : Word) : Bool := decide (1 ≤ (a - b).toNat ∧ (a - b).toNat ≤ 2 ^ 31 - 1)

/-- VCs from `b` to `a`, modulo 2^32. -/
def since (a b : Word) : Nat := (a - b).toNat

/-- A word saturated one up. -/
def satInc (w : Word) : Word := if w = 0xFFFFFFFF#32 then w else w + 1

/-- The four bytes of a word, least significant first (R6). -/
def le4 (w : Word) : List Byte := [byte w.toNat, byte (w.toNat >>> 8), byte (w.toNat >>> 16), byte (w.toNat >>> 24)]

/-- Eight bytes, least significant first. -/
def le8 (n : Nat) : List Byte := le4 (word n) ++ le4 (word (n / 2 ^ 32))

/-- Two bytes, least significant first. -/
def le2 (n : Nat) : List Byte := [byte n, byte (n >>> 8)]

/-- Four bytes, most significant first. -/
def be4 (w : Word) : List Byte := (le4 w).reverse

/-- The number that bytes spell, least significant first. -/
def ofLe : List Byte → Nat
  | [] => 0
  | b :: bs => b.toNat + 256 * ofLe bs

/-- The number that bytes spell, most significant first. -/
def ofBe (bs : List Byte) : Nat := ofLe bs.reverse

/-- The words of bytes, four by four, least significant first. -/
def wordsOfBytes : List Byte → List Word
  | a :: b :: c :: d :: t => word (ofLe [a, b, c, d]) :: wordsOfBytes t
  | [] => []
  | r => [word (ofLe r)]

/-- One bit of a reflected CRC. -/
def crcBitR (poly : Word) (c : Word) : Word := if c.getLsbD 0 then (c >>> 1) ^^^ poly else c >>> 1

/-- One byte of CRC-32C, reflected, polynomial 0x1EDC_6F41 (0x82F6_3B78 reflected). -/
def crc32cByte (c : Word) (b : Byte) : Word :=
  (List.range 8).foldl (fun c _ => crcBitR 0x82F63B78#32 c) (c ^^^ b.setWidth 32)

/-- CRC-32C with the parameters of the safety telegram code, without identity fold. -/
def crc32c (bs : List Byte) : Word := ~~~(bs.foldl crc32cByte 0xFFFFFFFF#32)

/-- A finished CRC-32C taken on over further bytes; that of no bytes is 0. -/
def crc32cMore (c : Word) (bs : List Byte) : Word := ~~~(bs.foldl crc32cByte (~~~c))

/-- CRC-32C over 32-bit words, each as four little-endian bytes. -/
def crc32cWords (ws : List Word) : Word :=
  ~~~(ws.foldl (fun c w => (le4 w).foldl crc32cByte c) 0xFFFFFFFF#32)

/-- One byte of an unreflected CRC of `n` bits. -/
def crcByteM (n : Nat) (poly : BitVec n) (c : BitVec n) (b : Byte) : BitVec n :=
  (List.range 8).foldl (fun c _ => if c.getLsbD (n - 1) then (c <<< 1) ^^^ poly else c <<< 1)
    (c ^^^ (b.setWidth n <<< (n - 8)))

/-- The Mantle seal's CRC: 32 bits, polynomial 0x741B_8CD7, initial value and final XOR all ones, no reflection (R122). -/
def crcSeal (bs : List Byte) : Word := ~~~(bs.foldl (crcByteM 32 0x741B8CD7#32) 0xFFFFFFFF#32)

/-- The safety-layer CRC of the door bus: 24 bits, polynomial 0x5D_6DCB, initial value all ones, no reflection. -/
def crcScrc (bs : List Byte) : BitVec 24 := bs.foldl (crcByteM 24 0x5D6DCB#24) 0xFFFFFF#24

end Sys2Proof
end

