-- ==== Sys2Proof/Machine/Regs.lean ====
section
/-!
DEFINITION. The register map: the address of every register the spec names, and one table of access, writable bits and
reset value (R6, R7; the register maps R47, R68, R102, R130, R167, R192, R217, R247, R281, R308, R337, R362, R374, R387,
R420, R421, R443, R478, R491). A numbered register has the address of its number 0; a door-bus channel, CVU unit or mailbox
channel register has the address in channel 0.
-/
namespace Sys2Proof.Machine.Reg

/-- SYS_STATE (R47): module state, triad mode, role. -/
abbrev SYS_STATE : Nat := 0x40100200
/-- SYS_SAFE_CAUSE (R47): code of the first class S fault. -/
abbrev SYS_SAFE_CAUSE : Nat := 0x40100204
/-- SYS_SAFE_VCN (R47): VCN at entry to `SAFE`. -/
abbrev SYS_SAFE_VCN : Nat := 0x40100208
/-- SYS_LOCAL_SAFE (R47): edges and groups in local safe state. -/
abbrev SYS_LOCAL_SAFE : Nat := 0x4010020C
/-- SYS_SAFE_REQ (R47): runtime request for `SAFE`. -/
abbrev SYS_SAFE_REQ : Nat := 0x40100210
/-- SYS_RESET_CAUSE (R47): cause of the last reset. -/
abbrev SYS_RESET_CAUSE : Nat := 0x40100214
/-- SYS_VCN (R68): vital cycle number. -/
abbrev SYS_VCN : Nat := 0x40100000
/-- SYS_VC_POS (R68): phase and tick within the VC. -/
abbrev SYS_VC_POS : Nat := 0x40100004
/-- SYS_VC_TRIM (R68): trim applied to the last VC (R56). -/
abbrev SYS_VC_TRIM : Nat := 0x40100008
/-- SYS_PHASE_DONE (R68): runtime phase marks; cleared by hardware at each VC start. -/
abbrev SYS_PHASE_DONE : Nat := 0x4010000C
/-- SYS_OVERRUN (R68): overrun flags. -/
abbrev SYS_OVERRUN : Nat := 0x40100010
/-- SYS_BG_LAG (R68): consecutive P4 overruns. -/
abbrev SYS_BG_LAG : Nat := 0x40100014
/-- SYS_BC_POS (R68): position in BC and matrix cycle. -/
abbrev SYS_BC_POS : Nat := 0x40100018
/-- SYS_PHASE_HWM0 (R68): highest P0 ready tick since last read. -/
abbrev SYS_PHASE_HWM0 : Nat := 0x40100020
/-- SYS_PHASE_HWM1 (R68): highest EVAL_DONE tick. -/
abbrev SYS_PHASE_HWM1 : Nat := 0x40100024
/-- SYS_PHASE_HWM2 (R68): highest agreement tick. -/
abbrev SYS_PHASE_HWM2 : Nat := 0x40100028
/-- SYS_PHASE_HWM3 (R68): highest COMMIT_DONE tick. -/
abbrev SYS_PHASE_HWM3 : Nat := 0x4010002C
/-- SYS_PHASE_HWM4 (R68): highest BG_DONE tick. -/
abbrev SYS_PHASE_HWM4 : Nat := 0x40100030
/-- SYS_PHASE_HWM5 (R68): highest CLOSE_DONE tick. -/
abbrev SYS_PHASE_HWM5 : Nat := 0x40100034
/-- VAU_STAT (R102): live regions, pending regions, mode, debug. -/
abbrev VAU_STAT : Nat := 0x40000000
/-- VAU_EVENT (R102): class N and D event flags. -/
abbrev VAU_EVENT : Nat := 0x40000004
/-- VAU_MIN_INFO (R102): region and code of the last minority. -/
abbrev VAU_MIN_INFO : Nat := 0x40000008
/-- VAU_MIN_VCN (R102): VCN of the last minority. -/
abbrev VAU_MIN_VCN : Nat := 0x4000000C
/-- VAU_MIN_ADDR (R102): address of the last outvoted transaction. -/
abbrev VAU_MIN_ADDR : Nat := 0x40000010
/-- VAU_ALIGN_HWM (R102): highest copy spread since last read. -/
abbrev VAU_ALIGN_HWM : Nat := 0x40000014
/-- VAU_INJ_STAT (R102): result of the last injected-mismatch test. -/
abbrev VAU_INJ_STAT : Nat := 0x40000018
/-- VAU_INJ_COUNT (R102): passed tests, wrapping. -/
abbrev VAU_INJ_COUNT : Nat := 0x4000001C
/-- VAU_SIG_CAPTURE (R102): signature capture. -/
abbrev VAU_SIG_CAPTURE : Nat := 0x40000020
/-- VAU_SIG_STACK (R102): stack base for the stack window. -/
abbrev VAU_SIG_STACK : Nat := 0x40000024
/-- VAU_SIG_STAT (R102): result of the last signature comparison. -/
abbrev VAU_SIG_STAT : Nat := 0x40000028
/-- VAU_SIGA (R102): captured SIGA of region 0–2. -/
abbrev VAU_SIGA : Nat := 0x40000030
/-- VAU_SIGW (R102): captured SIGW of region 0–2. -/
abbrev VAU_SIGW : Nat := 0x40000040
/-- VAU_SPLIT_REQ (R102): split request. -/
abbrev VAU_SPLIT_REQ : Nat := 0x40000050
/-- VAU_SPLIT_STAT (R102): progress of the rejoin sequence. -/
abbrev VAU_SPLIT_STAT : Nat := 0x40000054
/-- VAU_FENCE_CNT (R102): fences per region in last 24 h; held regions. -/
abbrev VAU_FENCE_CNT : Nat := 0x40000058
/-- VAU_ST_DUE (R102): self-test due and overdue. -/
abbrev VAU_ST_DUE : Nat := 0x4000005C
/-- VAU_ST_RESULT (R102): last self-test result per region. -/
abbrev VAU_ST_RESULT : Nat := 0x40000060
/-- VAU_ST_AGE0 (R102): minutes since last test, region 0. -/
abbrev VAU_ST_AGE0 : Nat := 0x40000064
/-- VAU_ST_AGE1 (R102): minutes since last test, region 1. -/
abbrev VAU_ST_AGE1 : Nat := 0x40000068
/-- VAU_ST_AGE2 (R102): minutes since last test, region 2. -/
abbrev VAU_ST_AGE2 : Nat := 0x4000006C
/-- VAU_ECC_CORR (R102): corrected single-bit errors, region 0–2. -/
abbrev VAU_ECC_CORR : Nat := 0x40000070
/-- VAU_RM_STAT (R102): region monitor out-of-tolerance bits. -/
abbrev VAU_RM_STAT : Nat := 0x40000400
/-- VAU_RM_SUPPLY (R102): core supply of region 0–2. -/
abbrev VAU_RM_SUPPLY : Nat := 0x40000404
/-- VAU_RM_TEMP (R102): temperature of region 0–2. -/
abbrev VAU_RM_TEMP : Nat := 0x40000410
/-- VAU_RM_PHASE (R102): phase deviation of region 0–2. -/
abbrev VAU_RM_PHASE : Nat := 0x4000041C
/-- MNT_STAT (R130): Mantle state and validity. -/
abbrev MNT_STAT : Nat := 0x40010000
/-- MNT_CAUSE (R130): cause of `MSAFE`. -/
abbrev MNT_CAUSE : Nat := 0x40010004
/-- MNT_VEC_LO (R130): Mantle vector [31:0]. -/
abbrev MNT_VEC_LO : Nat := 0x40010008
/-- MNT_VEC_HI (R130): Mantle vector [63:32]. -/
abbrev MNT_VEC_HI : Nat := 0x4001000C
/-- MNT_TVEC_LO (R130): echo of triad vector [31:0]. -/
abbrev MNT_TVEC_LO : Nat := 0x40010010
/-- MNT_TVEC_HI (R130): echo of triad vector [63:32]. -/
abbrev MNT_TVEC_HI : Nat := 0x40010014
/-- MNT_AGREE (R130): agreement lines as they stand. -/
abbrev MNT_AGREE : Nat := 0x40010018
/-- MNT_INPUTS (R130): Mantle's filtered FI64–FI95. -/
abbrev MNT_INPUTS : Nat := 0x4001001C
/-- MNT_DISC (R130): discrepancy counters of edge 0–7. -/
abbrev MNT_DISC : Nat := 0x40010020
/-- MNT_SEAL_STAT (R130): seals of the last P2. -/
abbrev MNT_SEAL_STAT : Nat := 0x40010040
/-- MNT_SEAL_RCNT (R130): masked seals since reset, saturating. -/
abbrev MNT_SEAL_RCNT : Nat := 0x40010044
/-- MNT_HB (R130): last valid heartbeat and misses. -/
abbrev MNT_HB : Nat := 0x40010048
/-- MNT_VC_MEAS (R130): last VC length on Mantle's oscillator. -/
abbrev MNT_VC_MEAS : Nat := 0x4001004C
/-- MNT_PARAM_ID (R130): CONFIG_ID of the loaded table. -/
abbrev MNT_PARAM_ID : Nat := 0x40010050
/-- MNT_PARAM_SEQ (R130): TABLE_SEQ of the loaded table. -/
abbrev MNT_PARAM_SEQ : Nat := 0x40010054
/-- MNT_TVEC_SET_LO (R130): triad vector [31:0], P1 only. -/
abbrev MNT_TVEC_SET_LO : Nat := 0x40010200
/-- MNT_TVEC_SET_HI (R130): triad vector [63:32], P1 only. -/
abbrev MNT_TVEC_SET_HI : Nat := 0x40010204
/-- MNT_HEARTBEAT (R130): heartbeat word, P5 only. -/
abbrev MNT_HEARTBEAT : Nat := 0x40010208
/-- ITE_STAT (R167): done, busy, lock, sessions evaluated. -/
abbrev ITE_STAT : Nat := 0x40020000
/-- ITE_LAUNCH (R167): start evaluation. -/
abbrev ITE_LAUNCH : Nat := 0x40020004
/-- ITE_EVENT (R167): event flags. -/
abbrev ITE_EVENT : Nat := 0x40020008
/-- ITE_LOCK (R167): geographic data write lock. -/
abbrev ITE_LOCK : Nat := 0x4002000C
/-- ITE_DIGEST (R167): result digest (R150). -/
abbrev ITE_DIGEST : Nat := 0x40020010
/-- ITE_CLOCKS (R167): evaluation length. -/
abbrev ITE_CLOCKS : Nat := 0x40020014
/-- ITE_INPUT (R167): input image. -/
abbrev ITE_INPUT : Nat := 0x40020020
/-- ITE_OCFRESH (R167): object controller freshness image. -/
abbrev ITE_OCFRESH : Nat := 0x40020030
/-- ITE_SES (R167): session descriptor n at 0x1000 + 4n. -/
abbrev ITE_SES : Nat := 0x40021004
/-- ITE_RES (R167): session result n at 0x2000 + 4n. -/
abbrev ITE_RES : Nat := 0x40022004
/-- ITE_ESTATE (R167): element states, two per register, at 0x4000 + 4m. -/
abbrev ITE_ESTATE : Nat := 0x40024000
/-- CRD_STAT (R192): loading, lock, census, busy, operation count, due tokens. -/
abbrev CRD_STAT : Nat := 0x40030000
/-- CRD_OP (R192): operation. -/
abbrev CRD_OP : Nat := 0x40030004
/-- CRD_OPA (R192): operand: subject holder and timer. -/
abbrev CRD_OPA : Nat := 0x40030008
/-- CRD_RESULT (R192): result of the last operation. -/
abbrev CRD_RESULT : Nat := 0x4003000C
/-- CRD_EVENT (R192): event flags. -/
abbrev CRD_EVENT : Nat := 0x40030010
/-- CRD_CENSUS_GO (R192): start census. -/
abbrev CRD_CENSUS_GO : Nat := 0x40030014
/-- CRD_CENSUS (R192): census result. -/
abbrev CRD_CENSUS : Nat := 0x40030018
/-- CRD_CHECKSUM (R192): token-set checksum (R178). -/
abbrev CRD_CHECKSUM : Nat := 0x4003001C
/-- CRD_TSUM (R192): running sum (R177). -/
abbrev CRD_TSUM : Nat := 0x40030020
/-- CRD_CNT_FH (R192): running counts `FREE`, `HELD`. -/
abbrev CRD_CNT_FH : Nat := 0x40030024
/-- CRD_CNT_RB (R192): running counts `RELEASING`, `BLOCKED`. -/
abbrev CRD_CNT_RB : Nat := 0x40030028
/-- CRD_CNT_LR (R192): running counts `LENT`, `HELD_REMOTE`. -/
abbrev CRD_CNT_LR : Nat := 0x4003002C
/-- CRD_FREEZE (R192): frozen edge tokens. -/
abbrev CRD_FREEZE : Nat := 0x40030030
/-- CRD_CONF (R192): own slot. -/
abbrev CRD_CONF : Nat := 0x40030034
/-- CRD_ATTR_LOCK (R192): lock of CRD_CONF and attributes. -/
abbrev CRD_ATTR_LOCK : Nat := 0x40030038
/-- CRD_ATTR (R192): position kinds, 16 elements each, at 0x0100 + 4m. -/
abbrev CRD_ATTR : Nat := 0x40030100
/-- CRD_LIST (R192): ACQUIRE list, two elements each, at 0x0200 + 4m. -/
abbrev CRD_LIST : Nat := 0x40030200
/-- CRD_TOKEN (R192): token entry of element i at 0x1000 + 4i. -/
abbrev CRD_TOKEN : Nat := 0x40031000
/-- PDS_STAT (R217): ready, lock, leaf counts. -/
abbrev PDS_STAT : Nat := 0x40040000
/-- PDS_EVENT (R217): event flags. -/
abbrev PDS_EVENT : Nat := 0x40040004
/-- PDS_CONF (R217): JUMP_TOL, COAST_MAX. -/
abbrev PDS_CONF : Nat := 0x40040008
/-- PDS_CONF_LOCK (R217): configuration lock. -/
abbrev PDS_CONF_LOCK : Nat := 0x4004000C
/-- PDS_DIGEST (R217): slot-state digest (R214). -/
abbrev PDS_DIGEST : Nat := 0x40040010
/-- PDS_DECL (R217): declared leaves. -/
abbrev PDS_DECL : Nat := 0x40040040
/-- PDS_TRACK (R217): tracked leaves. -/
abbrev PDS_TRACK : Nat := 0x40040060
/-- PDS_ECONF (R217): berth source and windows of edge e. -/
abbrev PDS_ECONF : Nat := 0x40040080
/-- PDS_ELIM (R217): TRV_MAX and ZS_TIME of edge e. -/
abbrev PDS_ELIM : Nat := 0x400400A0
/-- PDS_EIN (R217): berth and zero-speed inputs of edge e. -/
abbrev PDS_EIN : Nat := 0x400400C0
/-- PDS_BIN (R217): berth source value of edge e (R210). -/
abbrev PDS_BIN : Nat := 0x400400E0
/-- PDS_BSTAT (R217): berth state of edge e. -/
abbrev PDS_BSTAT : Nat := 0x40040100
/-- PDS_FIRED (R217): leaf slots with NEW set. -/
abbrev PDS_FIRED : Nat := 0x40040140
/-- PDS_BFIRED (R217): berth slots with NEW set. -/
abbrev PDS_BFIRED : Nat := 0x40040180
/-- PDS_POS (R217): latched position of leaf i at 0x1000 + 4i. -/
abbrev PDS_POS : Nat := 0x40041000
/-- PDS_VEL (R217): newest report of leaf i at 0x1400 + 4i. -/
abbrev PDS_VEL : Nat := 0x40041400
/-- PDS_SLOTC (R217): leaf slot configuration at 0x2000 + 4i. -/
abbrev PDS_SLOTC : Nat := 0x40042000
/-- PDS_SLOTA (R217): leaf slot argument. -/
abbrev PDS_SLOTA : Nat := 0x40042800
/-- PDS_SLOTR (R217): leaf slot result. -/
abbrev PDS_SLOTR : Nat := 0x40043000
/-- PDS_SLOTT (R217): leaf slot time. -/
abbrev PDS_SLOTT : Nat := 0x40043800
/-- PDS_BSLOTC (R217): berth slot configuration at 0x4000 + 4j. -/
abbrev PDS_BSLOTC : Nat := 0x40044000
/-- PDS_BSLOTA (R217): berth slot argument. -/
abbrev PDS_BSLOTA : Nat := 0x40044080
/-- PDS_BSLOTR (R217): berth slot result. -/
abbrev PDS_BSLOTR : Nat := 0x40044100
/-- PDS_BSLOTT (R217): berth slot time. -/
abbrev PDS_BSLOTT : Nat := 0x40044180
/-- DSU_STAT (R247): done, busy, lock, loading, summary. -/
abbrev DSU_STAT : Nat := 0x40050000
/-- DSU_STEP (R247): start step. -/
abbrev DSU_STEP : Nat := 0x40050004
/-- DSU_EVENT (R247): class N event flags. -/
abbrev DSU_EVENT : Nat := 0x40050008
/-- DSU_CONF_LOCK (R247): configuration lock. -/
abbrev DSU_CONF_LOCK : Nat := 0x4005000C
/-- DSU_DIGEST (R247): state digest (R245). -/
abbrev DSU_DIGEST : Nat := 0x40050010
/-- DSU_COUNT_CHECK (R247): conservation result. -/
abbrev DSU_COUNT_CHECK : Nat := 0x40050014
/-- DSU_LOAD (R247): load window. -/
abbrev DSU_LOAD : Nat := 0x40050018
/-- DSU_LCMD (R247): leaf command. -/
abbrev DSU_LCMD : Nat := 0x4005001C
/-- DSU_ECONF (R247): units, proving, obstacles, wait. -/
abbrev DSU_ECONF : Nat := 0x40050040
/-- DSU_EIN (R247): inputs, correspondence mode. -/
abbrev DSU_EIN : Nat := 0x40050060
/-- DSU_ETRV (R247): open and reopen travel. -/
abbrev DSU_ETRV : Nat := 0x40050080
/-- DSU_ECHK (R247): closing speed check. -/
abbrev DSU_ECHK : Nat := 0x400500A0
/-- DSU_ESSA (R247): envelope and ramp deceleration. -/
abbrev DSU_ESSA : Nat := 0x400500C0
/-- DSU_ESSB (R247): tolerances. -/
abbrev DSU_ESSB : Nat := 0x400500E0
/-- DSU_ESSC (R247): safe stop time, creep speed. -/
abbrev DSU_ESSC : Nat := 0x40050100
/-- DSU_ETIM (R247): timers, closed travel. -/
abbrev DSU_ETIM : Nat := 0x40050120
/-- DSU_EVIEW (R247): runtime edge view (R219). -/
abbrev DSU_EVIEW : Nat := 0x40050140
/-- DSU_ECMD (R247): edge command. -/
abbrev DSU_ECMD : Nat := 0x40050160
/-- DSU_CORR (R247): correspondence mask. -/
abbrev DSU_CORR : Nat := 0x40050180
/-- DSU_ESTATE (R247): edge state. -/
abbrev DSU_ESTATE : Nat := 0x400501A0
/-- DSU_ECAUSE (R247): edge cause. -/
abbrev DSU_ECAUSE : Nat := 0x400501C0
/-- DSU_EBLK (R247): permissive block of edge e: [31:0] at 0x01E0 + 8e, [63:32] at +4. -/
abbrev DSU_EBLK : Nat := 0x400501E0
/-- DSU_UCMD (R247): unit command bytes. -/
abbrev DSU_UCMD : Nat := 0x40050220
/-- DSU_UREP (R247): report flags of unit ID u at 0x1000 + 4u. -/
abbrev DSU_UREP : Nat := 0x40051000
/-- DSU_LEAF (R247): leaf i state at 0x1400 + 4i. -/
abbrev DSU_LEAF : Nat := 0x40051400
/-- DSU_LSS (R247): leaf i safe stop values. -/
abbrev DSU_LSS : Nat := 0x40051800
/-- DSU_CNTO (R247): OPENED of leaf i. -/
abbrev DSU_CNTO : Nat := 0x40052000
/-- DSU_CNTC (R247): CLOSED of leaf i. -/
abbrev DSU_CNTC : Nat := 0x40052400
/-- DSU_CNTA (R247): ABORTED of leaf i. -/
abbrev DSU_CNTA : Nat := 0x40052800
/-- DBC_STAT (R281): state, synchronisation, error state, reports taken. -/
abbrev DBC_STAT : Nat := 0x40060000
/-- DBC_EVENT (R281): event flags. -/
abbrev DBC_EVENT : Nat := 0x40060004
/-- DBC_CTRL (R281): sleep, wake, cancel. -/
abbrev DBC_CTRL : Nat := 0x40060008
/-- DBC_CONF (R281): data rate, wake mode. -/
abbrev DBC_CONF : Nat := 0x4006000C
/-- DBC_LOCK (R281): configuration lock. -/
abbrev DBC_LOCK : Nat := 0x40060010
/-- DBC_NBT (R281): nominal bit timing. -/
abbrev DBC_NBT : Nat := 0x40060014
/-- DBC_DBT (R281): data bit timing. -/
abbrev DBC_DBT : Nat := 0x40060018
/-- DBC_TDC (R281): transmitter delay compensation. -/
abbrev DBC_TDC : Nat := 0x4006001C
/-- DBC_ERR (R281): error counters. -/
abbrev DBC_ERR : Nat := 0x40060020
/-- DBC_REF (R281): reference counts. -/
abbrev DBC_REF : Nat := 0x40060024
/-- DBC_TIME (R281): bus time at the VC start. -/
abbrev DBC_TIME : Nat := 0x40060028
/-- DBC_TOFS (R281): bus time offset from the VC timer. -/
abbrev DBC_TOFS : Nat := 0x4006002C
/-- DBC_TXSTAT (R281): status of this VC's frames. -/
abbrev DBC_TXSTAT : Nat := 0x40060030
/-- DBC_WAKE (R281): wake frame. -/
abbrev DBC_WAKE : Nat := 0x40060034
/-- DBC_FOREIGN (R281): discarded frame counts. -/
abbrev DBC_FOREIGN : Nat := 0x40060038
/-- DBC_UWIN (R281): window of unit u at 0x040 + 4u. -/
abbrev DBC_UWIN : Nat := 0x40060040
/-- DBC_UCNT (R281): counters of unit u. -/
abbrev DBC_UCNT : Nat := 0x40060080
/-- DBC_CBLK_LO (R281): loading copy, block [31:0]. -/
abbrev DBC_CBLK_LO : Nat := 0x40060100
/-- DBC_CBLK_HI (R281): loading copy, block [63:32]. -/
abbrev DBC_CBLK_HI : Nat := 0x40060104
/-- DBC_CORD (R281): loading copy, command bytes. -/
abbrev DBC_CORD : Nat := 0x40060108
/-- DBC_CRAMP (R281): loading copy, A_CMD. -/
abbrev DBC_CRAMP : Nat := 0x40060118
/-- DBC_CREADY (R281): vital-ready and seal mark. -/
abbrev DBC_CREADY : Nat := 0x4006011C
/-- DBC_CSEAL (R281): seal of the loading copy. -/
abbrev DBC_CSEAL : Nat := 0x40060120
/-- DBC_CSEAL_VCN (R281): VCN of that seal. -/
abbrev DBC_CSEAL_VCN : Nat := 0x40060124
/-- DBC_RTRV (R281): report snapshot of unit u at 0x200 + 16u, +4, +8, +12. -/
abbrev DBC_RTRV : Nat := 0x40060200
/-- DBC_RVEL (R281): report snapshot of unit u at 0x200 + 16u, +4, +8, +12. -/
abbrev DBC_RVEL : Nat := 0x40060204
/-- DBC_RFLG (R281): report snapshot of unit u at 0x200 + 16u, +4, +8, +12. -/
abbrev DBC_RFLG : Nat := 0x40060208
/-- DBC_RSMP (R281): report snapshot of unit u at 0x200 + 16u, +4, +8, +12. -/
abbrev DBC_RSMP : Nat := 0x4006020C
/-- SNI_STAT (R308): ready, lock, links, counts. -/
abbrev SNI_STAT : Nat := 0x40070000
/-- SNI_EVENT (R308): event flags. -/
abbrev SNI_EVENT : Nat := 0x40070004
/-- SNI_CONF (R308): UDP port, connections, AB_WIN. -/
abbrev SNI_CONF : Nat := 0x40070008
/-- SNI_LOCK (R308): configuration lock. -/
abbrev SNI_LOCK : Nat := 0x4007000C
/-- SNI_IPA (R308): own IPv4 address on A. -/
abbrev SNI_IPA : Nat := 0x40070010
/-- SNI_IPB (R308): own IPv4 address on B. -/
abbrev SNI_IPB : Nat := 0x40070014
/-- SNI_NETT (R308): SILENT_T, NET_T. -/
abbrev SNI_NETT : Nat := 0x40070018
/-- SNI_SCODEA (R308): snapshot code, port A (R293). -/
abbrev SNI_SCODEA : Nat := 0x4007001C
/-- SNI_SCODEB (R308): snapshot code, port B. -/
abbrev SNI_SCODEB : Nat := 0x40070020
/-- SNI_RXTOTA (R308): copies snapshotted on A, wrapping. -/
abbrev SNI_RXTOTA : Nat := 0x40070024
/-- SNI_RXTOTB (R308): copies snapshotted on B, wrapping. -/
abbrev SNI_RXTOTB : Nat := 0x40070028
/-- SNI_DROP (R308): discarded datagrams per port. -/
abbrev SNI_DROP : Nat := 0x4007002C
/-- SNI_TXTOT (R308): telegrams released, wrapping. -/
abbrev SNI_TXTOT : Nat := 0x40070030
/-- SNI_TXC (R308): transmit slot m control at 0x0100 + 4m. -/
abbrev SNI_TXC : Nat := 0x40070100
/-- SNI_RXDA (R308): port A snapshot descriptor k. -/
abbrev SNI_RXDA : Nat := 0x40070200
/-- SNI_RXDB (R308): port B snapshot descriptor k. -/
abbrev SNI_RXDB : Nat := 0x40070300
/-- SNI_CIPA (R308): connection n at 0x0400 + 16n, +4, +8, +12. -/
abbrev SNI_CIPA : Nat := 0x40070400
/-- SNI_CIPB (R308): connection n at 0x0400 + 16n, +4, +8, +12. -/
abbrev SNI_CIPB : Nat := 0x40070404
/-- SNI_CPORT (R308): connection n at 0x0400 + 16n, +4, +8, +12. -/
abbrev SNI_CPORT : Nat := 0x40070408
/-- SNI_CCONF (R308): connection n at 0x0400 + 16n, +4, +8, +12. -/
abbrev SNI_CCONF : Nat := 0x4007040C
/-- SNI_TXBUF (R308): transmit slot m at 0x1000 + 320m. -/
abbrev SNI_TXBUF : Nat := 0x40071000
/-- SNI_RXBUFA (R308): port A copy k at 0x6000 + 320k. -/
abbrev SNI_RXBUFA : Nat := 0x40076000
/-- SNI_RXBUFB (R308): port B copy k at 0xB000 + 320k. -/
abbrev SNI_RXBUFB : Nat := 0x4007B000
/-- CMD_STAT (R337): lock, loading, check, queue. -/
abbrev CMD_STAT : Nat := 0x40110000
/-- CMD_EVENT (R337): event flags. -/
abbrev CMD_EVENT : Nat := 0x40110004
/-- CMD_CONF (R337): CMD_AGE, TB_AGE, TB_HOLD. -/
abbrev CMD_CONF : Nat := 0x40110008
/-- CMD_LOCK (R337): configuration lock. -/
abbrev CMD_LOCK : Nat := 0x4011000C
/-- CMD_CREDIT (R337): credit counts. -/
abbrev CMD_CREDIT : Nat := 0x40110010
/-- CMD_FEED (R337): feed an accepted HOST_DOWN copy. -/
abbrev CMD_FEED : Nat := 0x40110014
/-- CMD_HEAD (R337): head of the hand-over queue. -/
abbrev CMD_HEAD : Nat := 0x40110018
/-- CMD_POP (R337): take the head packet. -/
abbrev CMD_POP : Nat := 0x4011001C
/-- CMD_RPLY (R337): post the reply in CMD_RBUF. -/
abbrev CMD_RPLY : Nat := 0x40110020
/-- CMD_RSTAT (R337): result of the last post. -/
abbrev CMD_RSTAT : Nat := 0x40110024
/-- CMD_OUTSEL (R337): select a host's out queue. -/
abbrev CMD_OUTSEL : Nat := 0x40110028
/-- CMD_OUTHEAD (R337): head of the selected out queue. -/
abbrev CMD_OUTHEAD : Nat := 0x4011002C
/-- CMD_OUTPOP (R337): remove the head reply. -/
abbrev CMD_OUTPOP : Nat := 0x40110030
/-- CMD_LOAD (R337): load window. -/
abbrev CMD_LOAD : Nat := 0x40110034
/-- CMD_HSEQV (R337): HSEQ_LAST valid per host. -/
abbrev CMD_HSEQV : Nat := 0x40110038
/-- CMD_HOST (R337): share and rights of host n. -/
abbrev CMD_HOST : Nat := 0x40110040
/-- CMD_HSEQ (R337): HSEQ_LAST of host n. -/
abbrev CMD_HSEQ : Nat := 0x40110060
/-- CMD_PKT (R337): head packet, byte 0 at 0x0100. -/
abbrev CMD_PKT : Nat := 0x40110100
/-- CMD_RBUF (R337): reply to post, byte 0 at 0x0200. -/
abbrev CMD_RBUF : Nat := 0x40110200
/-- CMD_OBUF (R337): head reply of the selected queue. -/
abbrev CMD_OBUF : Nat := 0x40110300
/-- CMD_TAG (R337): state of tag t at 0x0400 + 4t. -/
abbrev CMD_TAG : Nat := 0x40110400
/-- CMD_TSEQ (R337): stored HSEQ of tag t. -/
abbrev CMD_TSEQ : Nat := 0x40110800
/-- FIO_STAT (R362): ready, lock, silent, commit. -/
abbrev FIO_STAT : Nat := 0x40080000
/-- FIO_EVENT (R362): class N event flags. -/
abbrev FIO_EVENT : Nat := 0x40080004
/-- FIO_CONF (R362): DISC_T. -/
abbrev FIO_CONF : Nat := 0x40080008
/-- FIO_LOCK (R362): configuration lock. -/
abbrev FIO_LOCK : Nat := 0x4008000C
/-- FIO_OCMD0 (R362): commands FQ00–FQ31. -/
abbrev FIO_OCMD0 : Nat := 0x40080010
/-- FIO_OCMD1 (R362): commands FQ32–FQ47; group requests. -/
abbrev FIO_OCMD1 : Nat := 0x40080014
/-- FIO_OCMD_CODE (R362): code; commit (R350). -/
abbrev FIO_OCMD_CODE : Nat := 0x40080018
/-- FIO_GRESTORE (R362): group restore (R358). -/
abbrev FIO_GRESTORE : Nat := 0x4008001C
/-- FIO_SCODE (R362): snapshot code (R344). -/
abbrev FIO_SCODE : Nat := 0x40080020
/-- FIO_IN (R362): input values. -/
abbrev FIO_IN : Nat := 0x40080024
/-- FIO_INV (R362): invalid inputs. -/
abbrev FIO_INV : Nat := 0x40080030
/-- FIO_IDISC (R362): discrepant inputs, FI00–FI63. -/
abbrev FIO_IDISC : Nat := 0x4008003C
/-- FIO_RB (R362): readbacks. -/
abbrev FIO_RB : Nat := 0x40080044
/-- FIO_FEED (R362): feed states. -/
abbrev FIO_FEED : Nat := 0x4008004C
/-- FIO_GSTAT (R362): group states. -/
abbrev FIO_GSTAT : Nat := 0x40080050
/-- FIO_IUND (R362): undeclared inputs energised. -/
abbrev FIO_IUND : Nat := 0x40080054
/-- FIO_FEEDV (R362): feed voltage. -/
abbrev FIO_FEEDV : Nat := 0x40080060
/-- FIO_IRAWA (R362): live path A comparators. -/
abbrev FIO_IRAWA : Nat := 0x40080078
/-- FIO_IRAWB (R362): live path B comparators, FI00–FI63. -/
abbrev FIO_IRAWB : Nat := 0x40080084
/-- FIO_OCONF (R362): output n at 0x0100 + 4n. -/
abbrev FIO_OCONF : Nat := 0x40080100
/-- FIO_GCONF (R362): group g at 0x01C0 + 4g. -/
abbrev FIO_GCONF : Nat := 0x400801C0
/-- FIO_ICONF (R362): input i at 0x0200 + 4i. -/
abbrev FIO_ICONF : Nat := 0x40080200
/-- FIO_OFLT (R362): output fault n at 0x0400 + 4n. -/
abbrev FIO_OFLT : Nat := 0x40080400
/-- CVU_STAT (R374): stream state and verdict. -/
abbrev CVU_STAT : Nat := 0x40090000
/-- CVU_CTRL (R374): START, FINISH, ABORT. -/
abbrev CVU_CTRL : Nat := 0x40090004
/-- CVU_CONF (R374): mode, reflection, fold, width. -/
abbrev CVU_CONF : Nat := 0x40090008
/-- CVU_EVENT (R374): event flags. -/
abbrev CVU_EVENT : Nat := 0x4009000C
/-- CVU_POLY_LO (R374): polynomial [31:0], [63:32]. -/
abbrev CVU_POLY_LO : Nat := 0x40090010
/-- CVU_POLY_HI (R374): polynomial [31:0], [63:32]. -/
abbrev CVU_POLY_HI : Nat := 0x40090014
/-- CVU_INIT_LO (R374): initial value. -/
abbrev CVU_INIT_LO : Nat := 0x40090018
/-- CVU_INIT_HI (R374): initial value. -/
abbrev CVU_INIT_HI : Nat := 0x4009001C
/-- CVU_XOR_LO (R374): final XOR. -/
abbrev CVU_XOR_LO : Nat := 0x40090020
/-- CVU_XOR_HI (R374): final XOR. -/
abbrev CVU_XOR_HI : Nat := 0x40090024
/-- CVU_FSEQ (R374): address or sequence fold value. -/
abbrev CVU_FSEQ : Nat := 0x40090028
/-- CVU_FALIVE (R374): alive fold value, [15:0]; [31:16] reserved. -/
abbrev CVU_FALIVE : Nat := 0x4009002C
/-- CVU_DATA8 (R374): feed one byte. -/
abbrev CVU_DATA8 : Nat := 0x40090030
/-- CVU_DATA16 (R374): feed two bytes. -/
abbrev CVU_DATA16 : Nat := 0x40090034
/-- CVU_DATA32 (R374): feed four bytes. -/
abbrev CVU_DATA32 : Nat := 0x40090038
/-- CVU_RESULT_LO (R374): result. -/
abbrev CVU_RESULT_LO : Nat := 0x40090040
/-- CVU_RESULT_HI (R374): result. -/
abbrev CVU_RESULT_HI : Nat := 0x40090044
/-- CVU_CHECK_LO (R374): stripped received check. -/
abbrev CVU_CHECK_LO : Nat := 0x40090048
/-- CVU_CHECK_HI (R374): stripped received check. -/
abbrev CVU_CHECK_HI : Nat := 0x4009004C
/-- CVU_APPEND_LO (R374): check bytes to append. -/
abbrev CVU_APPEND_LO : Nat := 0x40090050
/-- CVU_APPEND_HI (R374): check bytes to append. -/
abbrev CVU_APPEND_HI : Nat := 0x40090054
/-- CVU_COUNT (R374): data bytes fed since START, saturating. -/
abbrev CVU_COUNT : Nat := 0x40090058
/-- MBX_STAT (R387): FULL of every channel; failure. -/
abbrev MBX_STAT : Nat := 0x400A0000
/-- MBX_EVENT (R387): block event flags. -/
abbrev MBX_EVENT : Nat := 0x400A0004
/-- MBX_CSTAT (R387): sender status, full, epochs, length. -/
abbrev MBX_CSTAT : Nat := 0x400A1000
/-- MBX_CEVENT (R387): collision, lost, torn. -/
abbrev MBX_CEVENT : Nat := 0x400A1004
/-- MBX_SEND (R387): post; short and long. -/
abbrev MBX_SEND : Nat := 0x400A1008
/-- MBX_ACK (R387): TAKEN, DONE, RCODE; long only. -/
abbrev MBX_ACK : Nat := 0x400A100C
/-- MBX_CCNT (R387): lost and collision counters. -/
abbrev MBX_CCNT : Nat := 0x400A1010
/-- MBX_CIRQ (R387): interrupt enables. -/
abbrev MBX_CIRQ : Nat := 0x400A1014
/-- MBX_DBELL (R387): doorbell value. -/
abbrev MBX_DBELL : Nat := 0x400A1018
/-- MBX_TXBUF (R387): staged words 0–63. -/
abbrev MBX_TXBUF : Nat := 0x400A1100
/-- MBX_RXBUF (R387): posted words 0–63. -/
abbrev MBX_RXBUF : Nat := 0x400A1200
/-- EVR_STAT (R420): scan, lock, failure, staging fill. -/
abbrev EVR_STAT : Nat := 0x400B0000
/-- EVR_EVENT (R420): event flags. -/
abbrev EVR_EVENT : Nat := 0x400B0004
/-- EVR_CONF (R420): REP_WIN, CORR_T. -/
abbrev EVR_CONF : Nat := 0x400B0008
/-- EVR_LOCK (R420): configuration lock. -/
abbrev EVR_LOCK : Nat := 0x400B000C
/-- EVR_TAG_LO (R420): time tag [31:0]; snapshot pair (R8). -/
abbrev EVR_TAG_LO : Nat := 0x400B0010
/-- EVR_TAG_HI (R420): time tag [63:32]. -/
abbrev EVR_TAG_HI : Nat := 0x400B0014
/-- EVR_RSEQ (R420): next RSEQ. -/
abbrev EVR_RSEQ : Nat := 0x400B0018
/-- EVR_NSEQ (R420): next NSEQ. -/
abbrev EVR_NSEQ : Nat := 0x400B001C
/-- EVR_LOGA (R420): CODE of the runtime record. -/
abbrev EVR_LOGA : Nat := 0x400B0020
/-- EVR_LOGB (R420): ARG of the runtime record. -/
abbrev EVR_LOGB : Nat := 0x400B0024
/-- EVR_LOG (R420): write the runtime record. -/
abbrev EVR_LOG : Nat := 0x400B0028
/-- EVR_LOGSTAT (R420): result of the last runtime record. -/
abbrev EVR_LOGSTAT : Nat := 0x400B002C
/-- EVR_LOGSEQ (R420): RSEQ that took the last runtime record. -/
abbrev EVR_LOGSEQ : Nat := 0x400B0030
/-- EVR_LDROP (R420): dropped low-level requests. -/
abbrev EVR_LDROP : Nat := 0x400B0034
/-- EVR_NPOST (R420): post a NAND record. -/
abbrev EVR_NPOST : Nat := 0x400B0038
/-- EVR_NSTAT (R420): result of the last post. -/
abbrev EVR_NSTAT : Nat := 0x400B003C
/-- EVR_NDROP (R420): dropped NAND records. -/
abbrev EVR_NDROP : Nat := 0x400B0040
/-- EVR_SCAN (R420): start scan result. -/
abbrev EVR_SCAN : Nat := 0x400B0044
/-- EVR_COPIED (R420): copied mark (R399). -/
abbrev EVR_COPIED : Nat := 0x400B0048
/-- EVR_NWIN (R420): NAND record body, byte 0 at 0x0100. -/
abbrev EVR_NWIN : Nat := 0x400B0100
/-- JNL_STAT (R421): busy, failure, writes in this VC. -/
abbrev JNL_STAT : Nat := 0x400C0000
/-- JNL_EVENT (R421): event flags. -/
abbrev JNL_EVENT : Nat := 0x400C0004
/-- JNL_OP (R421): cell write or read. -/
abbrev JNL_OP : Nat := 0x400C0008
/-- JNL_RESULT (R421): result of the last operation. -/
abbrev JNL_RESULT : Nat := 0x400C000C
/-- JNL_WCOUNT (R421): cell writes since reset, wrapping. -/
abbrev JNL_WCOUNT : Nat := 0x400C0010
/-- JNL_EBUF (R421): cell image, byte 0 at 0x0100. -/
abbrev JNL_EBUF : Nat := 0x400C0100
/-- PCL_STAT (R443): links, readiness, peer, role flags. -/
abbrev PCL_STAT : Nat := 0x400D0000
/-- PCL_EVENT (R443): class N event flags. -/
abbrev PCL_EVENT : Nat := 0x400D0004
/-- PCL_CONF (R443): pairing, cascade, limits. -/
abbrev PCL_CONF : Nat := 0x400D0008
/-- PCL_LOCK (R443): configuration lock. -/
abbrev PCL_LOCK : Nat := 0x400D000C
/-- PCL_PAIR_ID (R443): PAIR_ID (R425). -/
abbrev PCL_PAIR_ID : Nat := 0x400D0010
/-- PCL_CASC_ID (R443): CASC_ID (R440). -/
abbrev PCL_CASC_ID : Nat := 0x400D0014
/-- PCL_SWAP (R443): swap request. -/
abbrev PCL_SWAP : Nat := 0x400D0018
/-- PCL_SWAP_VCN (R443): hand-over VC s; 0 = none. -/
abbrev PCL_SWAP_VCN : Nat := 0x400D001C
/-- PCL_MCTRL (R443): send mirror or response. -/
abbrev PCL_MCTRL : Nat := 0x400D0020
/-- PCL_MRX (R443): last mirror or response received. -/
abbrev PCL_MRX : Nat := 0x400D0024
/-- PCL_MACK (R443): VCN acknowledged by the peer. -/
abbrev PCL_MACK : Nat := 0x400D0028
/-- PCL_SHADOW (R443): shadow comparison. -/
abbrev PCL_SHADOW : Nat := 0x400D002C
/-- PCL_PHASE (R443): pair and cascade phase. -/
abbrev PCL_PHASE : Nat := 0x400D0030
/-- PCL_CMEMB (R443): cascade members. -/
abbrev PCL_CMEMB : Nat := 0x400D0034
/-- PCL_SEEN0 (R443): epochs seen, slots 0–3, 4–7. -/
abbrev PCL_SEEN0 : Nat := 0x400D0038
/-- PCL_SEEN1 (R443): epochs seen, slots 0–3, 4–7. -/
abbrev PCL_SEEN1 : Nat := 0x400D003C
/-- PCL_EPOCH (R443): own slot epoch. -/
abbrev PCL_EPOCH : Nat := 0x400D0040
/-- PCL_CTX (R443): send the cascade frame. -/
abbrev PCL_CTX : Nat := 0x400D0044
/-- PCL_CRXSTAT (R443): cascade frames taken. -/
abbrev PCL_CRXSTAT : Nat := 0x400D0048
/-- PCL_MLADR (R443): mirror list entry n at 0x0100 + 8n, +4. -/
abbrev PCL_MLADR : Nat := 0x400D0100
/-- PCL_MLLEN (R443): mirror list entry n at 0x0100 + 8n, +4. -/
abbrev PCL_MLLEN : Nat := 0x400D0104
/-- PCL_CTXBUF (R443): outgoing lending messages. -/
abbrev PCL_CTXBUF : Nat := 0x400D1000
/-- PCL_CRXBUF (R443): frame of cascade index q at 0x2000 + 0x500q. -/
abbrev PCL_CRXBUF : Nat := 0x400D2000
/-- SUI_STAT (R478): busy, lock, recovery, failure. -/
abbrev SUI_STAT : Nat := 0x400E0000
/-- SUI_EVENT (R478): event flags. -/
abbrev SUI_EVENT : Nat := 0x400E0004
/-- SUI_BOOT (R478): running slot and selector, loaded in `BOOT`. -/
abbrev SUI_BOOT : Nat := 0x400E0008
/-- SUI_SELSEQ (R478): SEQ of the newest selector copy. -/
abbrev SUI_SELSEQ : Nat := 0x400E000C
/-- SUI_BUNDLE (R478): running BUNDLE_ID of SP, CP, TRIAD, DATA. -/
abbrev SUI_BUNDLE : Nat := 0x400E0010
/-- SUI_UPD (R478): transfer state. -/
abbrev SUI_UPD : Nat := 0x400E0020
/-- SUI_UPDBLK (R478): blocks. -/
abbrev SUI_UPDBLK : Nat := 0x400E0024
/-- SUI_OP (R478): operation. -/
abbrev SUI_OP : Nat := 0x400E0028
/-- SUI_RESULT (R478): result of the last operation. -/
abbrev SUI_RESULT : Nat := 0x400E002C
/-- SUI_TRIAL (R478): trial deadline. -/
abbrev SUI_TRIAL : Nat := 0x400E0030
/-- SUI_RETAIN (R478): re-verification and refresh ages. -/
abbrev SUI_RETAIN : Nat := 0x400E0034
/-- SUI_KEYS (R478): key table state. -/
abbrev SUI_KEYS : Nat := 0x400E0038
/-- OBS_STAT (R491): link, tagging, current segment. -/
abbrev OBS_STAT : Nat := 0x400F0000
/-- OBS_EVENT (R491): event flags. -/
abbrev OBS_EVENT : Nat := 0x400F0004
/-- OBS_MARK (R491): open a P1 segment. -/
abbrev OBS_MARK : Nat := 0x400F0008
/-- OBS_TAGCTL (R491): tagging. -/
abbrev OBS_TAGCTL : Nat := 0x400F000C
/-- OBS_TAGSEED (R491): generator seed. -/
abbrev OBS_TAGSEED : Nat := 0x400F0010
/-- OBS_OVF0 (R491): wraps of fixed counters 0–31. -/
abbrev OBS_OVF0 : Nat := 0x400F0014
/-- OBS_OVF1 (R491): wraps of fixed 32–47 and programmable 0–7. -/
abbrev OBS_OVF1 : Nat := 0x400F0018
/-- OBS_FIX_LO (R491): fixed counter n at 0x0100 + 8n, +4. -/
abbrev OBS_FIX_LO : Nat := 0x400F0100
/-- OBS_FIX_HI (R491): fixed counter n at 0x0100 + 8n, +4. -/
abbrev OBS_FIX_HI : Nat := 0x400F0104
/-- OBS_PCNT_LO (R491): programmable counter k at 0x0280 + 8k, +4. -/
abbrev OBS_PCNT_LO : Nat := 0x400F0280
/-- OBS_PCNT_HI (R491): programmable counter k at 0x0280 + 8k, +4. -/
abbrev OBS_PCNT_HI : Nat := 0x400F0284
/-- OBS_PSEL (R491): selection k. -/
abbrev OBS_PSEL : Nat := 0x400F02C0
/-- OBS_SEGL (R491): segment cycles, last P1. -/
abbrev OBS_SEGL : Nat := 0x400F0300
/-- OBS_SEGH (R491): segment cycles, highest since reset. -/
abbrev OBS_SEGH : Nat := 0x400F0340
/-- OBS_TAGREC (R491): last tag record. -/
abbrev OBS_TAGREC : Nat := 0x400F0380

end Sys2Proof.Machine.Reg

namespace Sys2Proof.Machine

/-- The access codes of R7, with the conditional forms the register maps use. -/
inductive Acc where
  | ro | rw | lock | w1c | w1s | wo | rc | loading | join | dbell
  deriving DecidableEq, Repr

/-- One row of the register map: `count` registers from `lo` on, `stride` bytes apart. -/
structure RegRow where
  lo : Nat
  count : Nat
  stride : Nat
  acc : Acc
  mask : Nat
  reset : Nat
  deriving DecidableEq, Repr

/-- The register rows of SYS. -/
def sysRows : List RegRow :=
  [ ⟨Reg.SYS_STATE, 1, 4, .ro, 0xFEF, 0xF01⟩,
    ⟨Reg.SYS_SAFE_CAUSE, 1, 4, .ro, 0x1FFFF, 0x0⟩,
    ⟨Reg.SYS_SAFE_VCN, 1, 4, .ro, 0xFFFFFFFF, 0x0⟩,
    ⟨Reg.SYS_LOCAL_SAFE, 1, 4, .ro, 0xFFFFF, 0x0⟩,
    ⟨Reg.SYS_SAFE_REQ, 1, 4, .wo, 0xFFFF, 0x0⟩,
    ⟨Reg.SYS_RESET_CAUSE, 1, 4, .ro, 0x1F, 0x0⟩,
    ⟨Reg.SYS_VCN, 1, 4, .ro, 0xFFFFFFFF, 0x0⟩,
    ⟨Reg.SYS_VC_POS, 1, 4, .ro, 0x77FFF, 0x0⟩,
    ⟨Reg.SYS_VC_TRIM, 1, 4, .ro, 0xF, 0x0⟩,
    ⟨Reg.SYS_PHASE_DONE, 1, 4, .w1s, 0xF, 0x0⟩,
    ⟨Reg.SYS_OVERRUN, 1, 4, .w1c, 0x7F, 0x0⟩,
    ⟨Reg.SYS_BG_LAG, 1, 4, .ro, 0xF, 0x0⟩,
    ⟨Reg.SYS_BC_POS, 1, 4, .ro, 0x17, 0x0⟩,
    ⟨Reg.SYS_PHASE_HWM0, 1, 4, .rc, 0x7FFF, 0x0⟩,
    ⟨Reg.SYS_PHASE_HWM1, 1, 4, .rc, 0x7FFF, 0x0⟩,
    ⟨Reg.SYS_PHASE_HWM2, 1, 4, .rc, 0x7FFF, 0x0⟩,
    ⟨Reg.SYS_PHASE_HWM3, 1, 4, .rc, 0x7FFF, 0x0⟩,
    ⟨Reg.SYS_PHASE_HWM4, 1, 4, .rc, 0x7FFF, 0x0⟩,
    ⟨Reg.SYS_PHASE_HWM5, 1, 4, .rc, 0x7FFF, 0x0⟩ ]

/-- The register rows of VAU. -/
def vauRows : List RegRow :=
  [ ⟨Reg.VAU_STAT, 1, 4, .ro, 0x80000737, 0x7⟩,
    ⟨Reg.VAU_EVENT, 1, 4, .w1c, 0x7FF, 0x0⟩,
    ⟨Reg.VAU_MIN_INFO, 1, 4, .ro, 0x3FF, 0x300⟩,
    ⟨Reg.VAU_MIN_VCN, 1, 4, .ro, 0xFFFFFFFF, 0x0⟩,
    ⟨Reg.VAU_MIN_ADDR, 1, 4, .ro, 0xFFFFFFFF, 0x0⟩,
    ⟨Reg.VAU_ALIGN_HWM, 1, 4, .rc, 0xF, 0x0⟩,
    ⟨Reg.VAU_INJ_STAT, 1, 4, .ro, 0x8000007F, 0x0⟩,
    ⟨Reg.VAU_INJ_COUNT, 1, 4, .ro, 0xFFFFFFFF, 0x0⟩,
    ⟨Reg.VAU_SIG_CAPTURE, 1, 4, .wo, 0x1, 0x0⟩,
    ⟨Reg.VAU_SIG_STACK, 1, 4, .rw, 0x3FFFFC, 0x0⟩,
    ⟨Reg.VAU_SIG_STAT, 1, 4, .ro, 0x70107, 0x0⟩,
    ⟨Reg.VAU_SIGA, 3, 4, .ro, 0xFFFFFFFF, 0x0⟩,
    ⟨Reg.VAU_SIGW, 3, 4, .ro, 0xFFFFFFFF, 0x0⟩,
    ⟨Reg.VAU_SPLIT_REQ, 1, 4, .wo, 0xFFFF0003, 0x0⟩,
    ⟨Reg.VAU_SPLIT_STAT, 1, 4, .ro, 0x3F0713, 0x3⟩,
    ⟨Reg.VAU_FENCE_CNT, 1, 4, .ro, 0x70777, 0x0⟩,
    ⟨Reg.VAU_ST_DUE, 1, 4, .ro, 0x77, 0x0⟩,
    ⟨Reg.VAU_ST_RESULT, 1, 4, .ro, 0x3F, 0x0⟩,
    ⟨Reg.VAU_ST_AGE0, 1, 4, .ro, 0xFFFFFFFF, 0x140⟩,
    ⟨Reg.VAU_ST_AGE1, 1, 4, .ro, 0xFFFFFFFF, 0xA0⟩,
    ⟨Reg.VAU_ST_AGE2, 1, 4, .ro, 0xFFFFFFFF, 0x0⟩,
    ⟨Reg.VAU_ECC_CORR, 3, 4, .ro, 0xFFFFFFFF, 0x0⟩,
    ⟨Reg.VAU_RM_STAT, 1, 4, .ro, 0x7777, 0x0⟩,
    ⟨Reg.VAU_RM_SUPPLY, 3, 4, .ro, 0xFFFF, 0x0⟩,
    ⟨Reg.VAU_RM_TEMP, 3, 4, .ro, 0xFFFF, 0x0⟩,
    ⟨Reg.VAU_RM_PHASE, 3, 4, .ro, 0xFFFF, 0x0⟩ ]

/-- The register rows of MNT. -/
def mntRows : List RegRow :=
  [ ⟨Reg.MNT_STAT, 1, 4, .ro, 0x800000F7, 0x0⟩,
    ⟨Reg.MNT_CAUSE, 1, 4, .ro, 0xFFFF, 0x0⟩,
    ⟨Reg.MNT_VEC_LO, 1, 4, .ro, 0xFFFFFFFF, 0x0⟩,
    ⟨Reg.MNT_VEC_HI, 1, 4, .ro, 0xFFFFFFFF, 0x0⟩,
    ⟨Reg.MNT_TVEC_LO, 1, 4, .ro, 0xFFFFFFFF, 0x0⟩,
    ⟨Reg.MNT_TVEC_HI, 1, 4, .ro, 0xFFFFFFFF, 0x0⟩,
    ⟨Reg.MNT_AGREE, 1, 4, .ro, 0xFFFFFFF, 0x0⟩,
    ⟨Reg.MNT_INPUTS, 1, 4, .ro, 0xFFFFFFFF, 0x0⟩,
    ⟨Reg.MNT_DISC, 8, 4, .ro, 0x1FFFFFF, 0x0⟩,
    ⟨Reg.MNT_SEAL_STAT, 1, 4, .ro, 0x7FFF7F, 0x0⟩,
    ⟨Reg.MNT_SEAL_RCNT, 1, 4, .ro, 0xFFFFFFFF, 0x0⟩,
    ⟨Reg.MNT_HB, 1, 4, .ro, 0xFFFFFFFF, 0x0⟩,
    ⟨Reg.MNT_VC_MEAS, 1, 4, .ro, 0x7FFF, 0x0⟩,
    ⟨Reg.MNT_PARAM_ID, 1, 4, .ro, 0xFFFFFFFF, 0x0⟩,
    ⟨Reg.MNT_PARAM_SEQ, 1, 4, .ro, 0xFFFFFFFF, 0x0⟩,
    ⟨Reg.MNT_TVEC_SET_LO, 1, 4, .wo, 0xFFFFFFFF, 0x0⟩,
    ⟨Reg.MNT_TVEC_SET_HI, 1, 4, .wo, 0xFFFFFFFF, 0x0⟩,
    ⟨Reg.MNT_HEARTBEAT, 1, 4, .wo, 0xFFFFFFFF, 0x0⟩ ]

/-- The register rows of ITE. -/
def iteRows : List RegRow :=
  [ ⟨Reg.ITE_STAT, 1, 4, .ro, 0xFF07, 0x0⟩,
    ⟨Reg.ITE_LAUNCH, 1, 4, .wo, 0x1, 0x0⟩,
    ⟨Reg.ITE_EVENT, 1, 4, .w1c, 0x1F, 0x0⟩,
    ⟨Reg.ITE_LOCK, 1, 4, .w1s, 0x1, 0x0⟩,
    ⟨Reg.ITE_DIGEST, 1, 4, .ro, 0xFFFFFFFF, 0x0⟩,
    ⟨Reg.ITE_CLOCKS, 1, 4, .ro, 0xFFFFFFFF, 0x0⟩,
    ⟨Reg.ITE_INPUT, 3, 4, .rw, 0xFFFFFFFF, 0x0⟩,
    ⟨Reg.ITE_OCFRESH, 4, 4, .rw, 0xFFFFFFFF, 0x0⟩,
    ⟨Reg.ITE_SES, 255, 4, .rw, 0xFF07FFFF, 0x0⟩,
    ⟨Reg.ITE_RES, 255, 4, .ro, 0x873F3F3F, 0x0⟩,
    ⟨Reg.ITE_ESTATE, 512, 4, .rw, 0xFFFFFFFF, 0x0⟩ ]

/-- The register rows of CRD. -/
def crdRows : List RegRow :=
  [ ⟨Reg.CRD_STAT, 1, 4, .ro, 0xF0FF07FF, 0x0⟩,
    ⟨Reg.CRD_OP, 1, 4, .wo, 0xF3FFFF7F, 0x0⟩,
    ⟨Reg.CRD_OPA, 1, 4, .rw, 0xFF0FFFFF, 0x0⟩,
    ⟨Reg.CRD_RESULT, 1, 4, .ro, 0x8F3F03FF, 0x0⟩,
    ⟨Reg.CRD_EVENT, 1, 4, .w1c, 0x7, 0x0⟩,
    ⟨Reg.CRD_CENSUS_GO, 1, 4, .wo, 0x1, 0x0⟩,
    ⟨Reg.CRD_CENSUS, 1, 4, .ro, 0xC3FF0007, 0x0⟩,
    ⟨Reg.CRD_CHECKSUM, 1, 4, .ro, 0xFFFFFFFF, 0x0⟩,
    ⟨Reg.CRD_TSUM, 1, 4, .ro, 0xFFFFFFFF, 0x0⟩,
    ⟨Reg.CRD_CNT_FH, 1, 4, .ro, 0x7FF07FF, 0x400⟩,
    ⟨Reg.CRD_CNT_RB, 1, 4, .ro, 0x7FF07FF, 0x0⟩,
    ⟨Reg.CRD_CNT_LR, 1, 4, .ro, 0x7FF07FF, 0x0⟩,
    ⟨Reg.CRD_FREEZE, 1, 4, .rw, 0xFF, 0x0⟩,
    ⟨Reg.CRD_CONF, 1, 4, .lock, 0x7, 0x0⟩,
    ⟨Reg.CRD_ATTR_LOCK, 1, 4, .w1s, 0x1, 0x0⟩,
    ⟨Reg.CRD_ATTR, 64, 4, .lock, 0xFFFFFFFF, 0x0⟩,
    ⟨Reg.CRD_LIST, 32, 4, .rw, 0x3FF03FF, 0x0⟩,
    ⟨Reg.CRD_TOKEN, 1024, 4, .loading, 0xFFFFFFFF, 0x0⟩ ]

/-- The register rows of PDS. -/
def pdsRows : List RegRow :=
  [ ⟨Reg.PDS_STAT, 1, 4, .ro, 0xC1FF01FF, 0x0⟩,
    ⟨Reg.PDS_EVENT, 1, 4, .w1c, 0x1FF, 0x0⟩,
    ⟨Reg.PDS_CONF, 1, 4, .lock, 0x3FF, 0x21E⟩,
    ⟨Reg.PDS_CONF_LOCK, 1, 4, .w1s, 0x1, 0x0⟩,
    ⟨Reg.PDS_DIGEST, 1, 4, .ro, 0xFFFFFFFF, 0x0⟩,
    ⟨Reg.PDS_DECL, 8, 4, .lock, 0xFFFFFFFF, 0x0⟩,
    ⟨Reg.PDS_TRACK, 8, 4, .rw, 0xFFFFFFFF, 0x0⟩,
    ⟨Reg.PDS_ECONF, 8, 4, .lock, 0xFFFFFFFF, 0x1E01⟩,
    ⟨Reg.PDS_ELIM, 8, 4, .lock, 0xFFFF1FFF, 0xFFFF01F4⟩,
    ⟨Reg.PDS_EIN, 8, 4, .lock, 0x7F7F, 0x0⟩,
    ⟨Reg.PDS_BIN, 8, 4, .rw, 0xFFFF0003, 0x0⟩,
    ⟨Reg.PDS_BSTAT, 8, 4, .ro, 0xFFFFFFFF, 0x0⟩,
    ⟨Reg.PDS_FIRED, 16, 4, .ro, 0xFFFFFFFF, 0x0⟩,
    ⟨Reg.PDS_BFIRED, 1, 4, .ro, 0xFFFFFFFF, 0x0⟩,
    ⟨Reg.PDS_POS, 256, 4, .ro, 0x3FFFFF, 0x0⟩,
    ⟨Reg.PDS_VEL, 256, 4, .ro, 0xFFFFFFFF, 0x0⟩,
    ⟨Reg.PDS_SLOTC, 512, 4, .rw, 0xFCFFFFFF, 0x0⟩,
    ⟨Reg.PDS_SLOTA, 512, 4, .rw, 0xFFFF, 0x0⟩,
    ⟨Reg.PDS_SLOTR, 512, 4, .ro, 0xFF01FFFF, 0x0⟩,
    ⟨Reg.PDS_SLOTT, 512, 4, .ro, 0xFFFFFFFF, 0x0⟩,
    ⟨Reg.PDS_BSLOTC, 32, 4, .rw, 0xFCFFFFFF, 0x0⟩,
    ⟨Reg.PDS_BSLOTA, 32, 4, .rw, 0xFFFF, 0x0⟩,
    ⟨Reg.PDS_BSLOTR, 32, 4, .ro, 0xFF01FFFF, 0x0⟩,
    ⟨Reg.PDS_BSLOTT, 32, 4, .ro, 0xFFFFFFFF, 0x0⟩ ]

/-- The register rows of DSU. -/
def dsuRows : List RegRow :=
  [ ⟨Reg.DSU_STAT, 1, 4, .ro, 0xF1FFFFFF, 0x0⟩,
    ⟨Reg.DSU_STEP, 1, 4, .wo, 0x1, 0x0⟩,
    ⟨Reg.DSU_EVENT, 1, 4, .w1c, 0x1FFF, 0x0⟩,
    ⟨Reg.DSU_CONF_LOCK, 1, 4, .w1s, 0x1, 0x0⟩,
    ⟨Reg.DSU_DIGEST, 1, 4, .ro, 0xFFFFFFFF, 0x0⟩,
    ⟨Reg.DSU_COUNT_CHECK, 1, 4, .ro, 0xC00000FF, 0x0⟩,
    ⟨Reg.DSU_LOAD, 1, 4, .wo, 0x3, 0x0⟩,
    ⟨Reg.DSU_LCMD, 1, 4, .wo, 0xF00000FF, 0x0⟩,
    ⟨Reg.DSU_ECONF, 8, 4, .lock, 0xFFFFFFFF, 0x34780000⟩,
    ⟨Reg.DSU_EIN, 8, 4, .lock, 0xF87F7F7F, 0x0⟩,
    ⟨Reg.DSU_ETRV, 8, 4, .lock, 0xFFFFFFFF, 0x23280BB8⟩,
    ⟨Reg.DSU_ECHK, 8, 4, .lock, 0xFFFFFFFF, 0x3E80300⟩,
    ⟨Reg.DSU_ESSA, 8, 4, .lock, 0xFFFFFFFF, 0x3E805DC⟩,
    ⟨Reg.DSU_ESSB, 8, 4, .lock, 0xFFFFFF0F, 0x801A1402⟩,
    ⟨Reg.DSU_ESSC, 8, 4, .lock, 0xFFFFFFFF, 0x3200100⟩,
    ⟨Reg.DSU_ETIM, 8, 4, .lock, 0xFFFFFFFF, 0x323C6405⟩,
    ⟨Reg.DSU_EVIEW, 8, 4, .rw, 0xFF, 0x0⟩,
    ⟨Reg.DSU_ECMD, 8, 4, .wo, 0xF0FFFFFF, 0x0⟩,
    ⟨Reg.DSU_CORR, 8, 4, .rw, 0x8000FFFF, 0x0⟩,
    ⟨Reg.DSU_ESTATE, 8, 4, .ro, 0xFFFFFF00, 0x0⟩,
    ⟨Reg.DSU_ECAUSE, 8, 4, .ro, 0xFFFF, 0x0⟩,
    ⟨Reg.DSU_EBLK, 16, 4, .ro, 0xFFFFFFFF, 0x0⟩,
    ⟨Reg.DSU_UCMD, 32, 4, .ro, 0xFFFFFFFF, 0x0⟩,
    ⟨Reg.DSU_UREP, 128, 4, .ro, 0x1BFC, 0x0⟩,
    ⟨Reg.DSU_LEAF, 256, 4, .ro, 0xFFF0FFFF, 0x0⟩,
    ⟨Reg.DSU_LSS, 256, 4, .ro, 0xFFFFFFFF, 0x0⟩,
    ⟨Reg.DSU_CNTO, 256, 4, .loading, 0xFFFFFFFF, 0x0⟩,
    ⟨Reg.DSU_CNTC, 256, 4, .loading, 0xFFFFFFFF, 0x0⟩,
    ⟨Reg.DSU_CNTA, 256, 4, .loading, 0xFFFFFFFF, 0x0⟩ ]

/-- The register rows of DBC. -/
def dbcRows : List RegRow :=
  [ ⟨Reg.DBC_STAT, 1, 4, .ro, 0xFF87FFFF, 0x0⟩,
    ⟨Reg.DBC_EVENT, 1, 4, .w1c, 0xFFFF, 0x0⟩,
    ⟨Reg.DBC_CTRL, 1, 4, .w1s, 0x7, 0x0⟩,
    ⟨Reg.DBC_CONF, 1, 4, .lock, 0x31000000, 0x0⟩,
    ⟨Reg.DBC_LOCK, 1, 4, .w1s, 0x1, 0x0⟩,
    ⟨Reg.DBC_NBT, 1, 4, .lock, 0xFFFFFF00, 0x3F101000⟩,
    ⟨Reg.DBC_DBT, 1, 4, .lock, 0xFFFFFF00, 0xC030300⟩,
    ⟨Reg.DBC_TDC, 1, 4, .lock, 0x7F007F, 0xD⟩,
    ⟨Reg.DBC_ERR, 1, 4, .ro, 0xFFFF8FFF, 0x0⟩,
    ⟨Reg.DBC_REF, 1, 4, .ro, 0xFFFF007F, 0x0⟩,
    ⟨Reg.DBC_TIME, 1, 4, .ro, 0xFFFFFFFF, 0x0⟩,
    ⟨Reg.DBC_TOFS, 1, 4, .ro, 0xFFFFFFFF, 0x0⟩,
    ⟨Reg.DBC_TXSTAT, 1, 4, .ro, 0xFFF, 0x0⟩,
    ⟨Reg.DBC_WAKE, 1, 4, .lock, 0xFFFF07FF, 0x7F0⟩,
    ⟨Reg.DBC_FOREIGN, 1, 4, .ro, 0xFFFFFFFF, 0x0⟩,
    ⟨Reg.DBC_UWIN, 16, 4, .lock, 0xC3FFFFFF, 0x0⟩,
    ⟨Reg.DBC_UCNT, 16, 4, .ro, 0xFFFFFFFF, 0x0⟩,
    ⟨Reg.DBC_CBLK_LO, 1, 4, .rw, 0xFFFFFFFF, 0x0⟩,
    ⟨Reg.DBC_CBLK_HI, 1, 4, .rw, 0xFFFFFFFF, 0x0⟩,
    ⟨Reg.DBC_CORD, 4, 4, .rw, 0xFFFFFFFF, 0x0⟩,
    ⟨Reg.DBC_CRAMP, 1, 4, .rw, 0xFFFF, 0x0⟩,
    ⟨Reg.DBC_CREADY, 1, 4, .w1s, 0x3, 0x0⟩,
    ⟨Reg.DBC_CSEAL, 1, 4, .ro, 0xFFFFFFFF, 0x0⟩,
    ⟨Reg.DBC_CSEAL_VCN, 1, 4, .ro, 0xFFFFFFFF, 0x0⟩,
    ⟨Reg.DBC_RTRV, 16, 16, .ro, 0xFFFFFFFF, 0x0⟩,
    ⟨Reg.DBC_RVEL, 16, 16, .ro, 0xFFFFFFFF, 0x0⟩,
    ⟨Reg.DBC_RFLG, 16, 16, .ro, 0x80FFFFFF, 0x0⟩,
    ⟨Reg.DBC_RSMP, 16, 16, .ro, 0xFFFF03FF, 0x0⟩ ]

/-- The register rows of SNI. -/
def sniRows : List RegRow :=
  [ ⟨Reg.SNI_STAT, 1, 4, .ro, 0xEC7F7F7F, 0x0⟩,
    ⟨Reg.SNI_EVENT, 1, 4, .w1c, 0x1F, 0x0⟩,
    ⟨Reg.SNI_CONF, 1, 4, .lock, 0xFFFFFFF0, 0x78DC0020⟩,
    ⟨Reg.SNI_LOCK, 1, 4, .w1s, 0x1, 0x0⟩,
    ⟨Reg.SNI_IPA, 1, 4, .lock, 0xFFFFFFFF, 0x0⟩,
    ⟨Reg.SNI_IPB, 1, 4, .lock, 0xFFFFFFFF, 0x0⟩,
    ⟨Reg.SNI_NETT, 1, 4, .lock, 0xFFFFFFFF, 0x7D00064⟩,
    ⟨Reg.SNI_SCODEA, 1, 4, .ro, 0xFFFFFFFF, 0x0⟩,
    ⟨Reg.SNI_SCODEB, 1, 4, .ro, 0xFFFFFFFF, 0x0⟩,
    ⟨Reg.SNI_RXTOTA, 1, 4, .ro, 0xFFFFFFFF, 0x0⟩,
    ⟨Reg.SNI_RXTOTB, 1, 4, .ro, 0xFFFFFFFF, 0x0⟩,
    ⟨Reg.SNI_DROP, 1, 4, .ro, 0xFFFFFFFF, 0x0⟩,
    ⟨Reg.SNI_TXTOT, 1, 4, .ro, 0xFFFFFFFF, 0x0⟩,
    ⟨Reg.SNI_TXC, 64, 4, .rw, 0x81FFFF00, 0x0⟩,
    ⟨Reg.SNI_RXDA, 64, 4, .ro, 0x81FFFFFF, 0x0⟩,
    ⟨Reg.SNI_RXDB, 64, 4, .ro, 0x81FFFFFF, 0x0⟩,
    ⟨Reg.SNI_CIPA, 136, 16, .lock, 0xFFFFFFFF, 0x0⟩,
    ⟨Reg.SNI_CIPB, 136, 16, .lock, 0xFFFFFFFF, 0x0⟩,
    ⟨Reg.SNI_CPORT, 136, 16, .lock, 0xFFFF, 0x0⟩,
    ⟨Reg.SNI_CCONF, 136, 16, .lock, 0xFFC0FF00, 0x0⟩,
    ⟨Reg.SNI_TXBUF, 5120, 4, .rw, 0xFFFFFFFF, 0x0⟩,
    ⟨Reg.SNI_RXBUFA, 5120, 4, .ro, 0xFFFFFFFF, 0x0⟩,
    ⟨Reg.SNI_RXBUFB, 5120, 4, .ro, 0xFFFFFFFF, 0x0⟩ ]

/-- The register rows of CMD. -/
def cmdRows : List RegRow :=
  [ ⟨Reg.CMD_STAT, 1, 4, .ro, 0xE0FF01FF, 0x0⟩,
    ⟨Reg.CMD_EVENT, 1, 4, .w1c, 0x1FFF, 0x0⟩,
    ⟨Reg.CMD_CONF, 1, 4, .lock, 0x3FF00FF, 0x640043⟩,
    ⟨Reg.CMD_LOCK, 1, 4, .w1s, 0x1, 0x0⟩,
    ⟨Reg.CMD_CREDIT, 1, 4, .ro, 0x3FFFFFFF, 0x100⟩,
    ⟨Reg.CMD_FEED, 1, 4, .wo, 0x13F07, 0x0⟩,
    ⟨Reg.CMD_HEAD, 1, 4, .ro, 0x87FFFFFF, 0x0⟩,
    ⟨Reg.CMD_POP, 1, 4, .wo, 0x1, 0x0⟩,
    ⟨Reg.CMD_RPLY, 1, 4, .wo, 0x1, 0x0⟩,
    ⟨Reg.CMD_RSTAT, 1, 4, .ro, 0x8F0000FF, 0x0⟩,
    ⟨Reg.CMD_OUTSEL, 1, 4, .wo, 0x7, 0x0⟩,
    ⟨Reg.CMD_OUTHEAD, 1, 4, .ro, 0x81FF007F, 0x0⟩,
    ⟨Reg.CMD_OUTPOP, 1, 4, .wo, 0x1, 0x0⟩,
    ⟨Reg.CMD_LOAD, 1, 4, .wo, 0x3, 0x0⟩,
    ⟨Reg.CMD_HSEQV, 1, 4, .loading, 0xFF, 0x0⟩,
    ⟨Reg.CMD_HOST, 8, 4, .lock, 0xE001FFFF, 0x0⟩,
    ⟨Reg.CMD_HSEQ, 8, 4, .loading, 0xFFFFFFFF, 0x0⟩,
    ⟨Reg.CMD_PKT, 64, 4, .ro, 0xFFFFFFFF, 0x0⟩,
    ⟨Reg.CMD_RBUF, 64, 4, .rw, 0xFFFFFFFF, 0x0⟩,
    ⟨Reg.CMD_OBUF, 64, 4, .ro, 0xFFFFFFFF, 0x0⟩,
    ⟨Reg.CMD_TAG, 256, 4, .loading, 0xFFFFFFFF, 0x0⟩,
    ⟨Reg.CMD_TSEQ, 256, 4, .loading, 0xFFFFFFFF, 0x0⟩ ]

/-- The register rows of FIO. -/
def fioRows : List RegRow :=
  [ ⟨Reg.FIO_STAT, 1, 4, .ro, 0xF0000000, 0x0⟩,
    ⟨Reg.FIO_EVENT, 1, 4, .w1c, 0xFF, 0x0⟩,
    ⟨Reg.FIO_CONF, 1, 4, .lock, 0xFF, 0x14⟩,
    ⟨Reg.FIO_LOCK, 1, 4, .w1s, 0x1, 0x0⟩,
    ⟨Reg.FIO_OCMD0, 1, 4, .wo, 0xFFFFFFFF, 0x0⟩,
    ⟨Reg.FIO_OCMD1, 1, 4, .wo, 0xFFFFFFFF, 0x0⟩,
    ⟨Reg.FIO_OCMD_CODE, 1, 4, .wo, 0xFFFFFFFF, 0x0⟩,
    ⟨Reg.FIO_GRESTORE, 1, 4, .wo, 0xFFFF0FFF, 0x0⟩,
    ⟨Reg.FIO_SCODE, 1, 4, .ro, 0xFFFFFFFF, 0x0⟩,
    ⟨Reg.FIO_IN, 3, 4, .ro, 0xFFFFFFFF, 0x0⟩,
    ⟨Reg.FIO_INV, 3, 4, .ro, 0xFFFFFFFF, 0x0⟩,
    ⟨Reg.FIO_IDISC, 2, 4, .ro, 0xFFFFFFFF, 0x0⟩,
    ⟨Reg.FIO_RB, 2, 4, .ro, 0xFFFFFFFF, 0x0⟩,
    ⟨Reg.FIO_FEED, 1, 4, .ro, 0x3FFFF, 0x0⟩,
    ⟨Reg.FIO_GSTAT, 1, 4, .ro, 0xFFF0FFF, 0x0⟩,
    ⟨Reg.FIO_IUND, 3, 4, .ro, 0xFFFFFFFF, 0x0⟩,
    ⟨Reg.FIO_FEEDV, 6, 4, .ro, 0xFFFF, 0x0⟩,
    ⟨Reg.FIO_IRAWA, 3, 4, .ro, 0xFFFFFFFF, 0x0⟩,
    ⟨Reg.FIO_IRAWB, 2, 4, .ro, 0xFFFFFFFF, 0x0⟩,
    ⟨Reg.FIO_OCONF, 48, 4, .lock, 0xF7E00000, 0x0⟩,
    ⟨Reg.FIO_GCONF, 12, 4, .lock, 0x80000007, 0x0⟩,
    ⟨Reg.FIO_ICONF, 96, 4, .lock, 0xC00000FF, 0x14⟩,
    ⟨Reg.FIO_OFLT, 48, 4, .ro, 0xFF3FFFFF, 0x3F0000⟩ ]

/-- The register rows of CVU. -/
def cvuRows : List RegRow :=
  [ ⟨Reg.CVU_STAT, 1, 4, .ro, 0xFC000000, 0x0⟩,
    ⟨Reg.CVU_CTRL, 1, 4, .w1s, 0x7, 0x0⟩,
    ⟨Reg.CVU_CONF, 1, 4, .rw, 0xFFF0007F, 0x18000020⟩,
    ⟨Reg.CVU_EVENT, 1, 4, .w1c, 0x1F, 0x0⟩,
    ⟨Reg.CVU_POLY_LO, 1, 4, .rw, 0xFFFFFFFF, 0x1EDC6F41⟩,
    ⟨Reg.CVU_POLY_HI, 1, 4, .rw, 0xFFFFFFFF, 0x0⟩,
    ⟨Reg.CVU_INIT_LO, 1, 4, .rw, 0xFFFFFFFF, 0xFFFFFFFF⟩,
    ⟨Reg.CVU_INIT_HI, 1, 4, .rw, 0xFFFFFFFF, 0x0⟩,
    ⟨Reg.CVU_XOR_LO, 1, 4, .rw, 0xFFFFFFFF, 0xFFFFFFFF⟩,
    ⟨Reg.CVU_XOR_HI, 1, 4, .rw, 0xFFFFFFFF, 0x0⟩,
    ⟨Reg.CVU_FSEQ, 1, 4, .rw, 0xFFFFFFFF, 0x0⟩,
    ⟨Reg.CVU_FALIVE, 1, 4, .rw, 0xFFFF, 0x0⟩,
    ⟨Reg.CVU_DATA8, 1, 4, .wo, 0xFFFFFFFF, 0x0⟩,
    ⟨Reg.CVU_DATA16, 1, 4, .wo, 0xFFFFFFFF, 0x0⟩,
    ⟨Reg.CVU_DATA32, 1, 4, .wo, 0xFFFFFFFF, 0x0⟩,
    ⟨Reg.CVU_RESULT_LO, 1, 4, .ro, 0xFFFFFFFF, 0x0⟩,
    ⟨Reg.CVU_RESULT_HI, 1, 4, .ro, 0xFFFFFFFF, 0x0⟩,
    ⟨Reg.CVU_CHECK_LO, 1, 4, .ro, 0xFFFFFFFF, 0x0⟩,
    ⟨Reg.CVU_CHECK_HI, 1, 4, .ro, 0xFFFFFFFF, 0x0⟩,
    ⟨Reg.CVU_APPEND_LO, 1, 4, .ro, 0xFFFFFFFF, 0x0⟩,
    ⟨Reg.CVU_APPEND_HI, 1, 4, .ro, 0xFFFFFFFF, 0x0⟩,
    ⟨Reg.CVU_COUNT, 1, 4, .ro, 0xFFFFFFFF, 0x0⟩ ]

/-- The register rows of MBX. -/
def mbxRows : List RegRow :=
  [ ⟨Reg.MBX_STAT, 1, 4, .ro, 0x8000FFFF, 0x0⟩,
    ⟨Reg.MBX_EVENT, 1, 4, .w1c, 0x3, 0x0⟩,
    ⟨Reg.MBX_CSTAT, 1, 4, .ro, 0xF8FFFF7F, 0x0⟩,
    ⟨Reg.MBX_CEVENT, 1, 4, .w1c, 0x7, 0x0⟩,
    ⟨Reg.MBX_SEND, 1, 4, .wo, 0x7F, 0x0⟩,
    ⟨Reg.MBX_ACK, 1, 4, .rw, 0xFFFF, 0x0⟩,
    ⟨Reg.MBX_CCNT, 1, 4, .ro, 0xFFFFFFFF, 0x0⟩,
    ⟨Reg.MBX_CIRQ, 1, 4, .rw, 0x1F, 0x0⟩,
    ⟨Reg.MBX_DBELL, 1, 4, .dbell, 0xFFFFFFFF, 0x0⟩,
    ⟨Reg.MBX_TXBUF, 64, 4, .wo, 0xFFFFFFFF, 0x0⟩,
    ⟨Reg.MBX_RXBUF, 64, 4, .ro, 0xFFFFFFFF, 0x0⟩ ]

/-- The register rows of EVR. -/
def evrRows : List RegRow :=
  [ ⟨Reg.EVR_STAT, 1, 4, .ro, 0xE00001FF, 0x0⟩,
    ⟨Reg.EVR_EVENT, 1, 4, .w1c, 0xFF, 0x0⟩,
    ⟨Reg.EVR_CONF, 1, 4, .lock, 0xFFFFFF00, 0x3E83C00⟩,
    ⟨Reg.EVR_LOCK, 1, 4, .w1s, 0x1, 0x0⟩,
    ⟨Reg.EVR_TAG_LO, 1, 4, .ro, 0xFFFFFFFF, 0x0⟩,
    ⟨Reg.EVR_TAG_HI, 1, 4, .ro, 0xFFFFFFFF, 0x0⟩,
    ⟨Reg.EVR_RSEQ, 1, 4, .ro, 0xFFFFFFFF, 0x0⟩,
    ⟨Reg.EVR_NSEQ, 1, 4, .ro, 0xFFFFFFFF, 0x0⟩,
    ⟨Reg.EVR_LOGA, 1, 4, .wo, 0xFFFFFFFF, 0x0⟩,
    ⟨Reg.EVR_LOGB, 1, 4, .wo, 0xFFFFFFFF, 0x0⟩,
    ⟨Reg.EVR_LOG, 1, 4, .wo, 0x1, 0x0⟩,
    ⟨Reg.EVR_LOGSTAT, 1, 4, .ro, 0xF0000000, 0x0⟩,
    ⟨Reg.EVR_LOGSEQ, 1, 4, .ro, 0xFFFFFFFF, 0x0⟩,
    ⟨Reg.EVR_LDROP, 1, 4, .ro, 0xFFFFFFFF, 0x0⟩,
    ⟨Reg.EVR_NPOST, 1, 4, .wo, 0xFF000FFF, 0x0⟩,
    ⟨Reg.EVR_NSTAT, 1, 4, .ro, 0xF0000000, 0x0⟩,
    ⟨Reg.EVR_NDROP, 1, 4, .ro, 0xFFFFFFFF, 0x0⟩,
    ⟨Reg.EVR_SCAN, 1, 4, .ro, 0x8001FFFF, 0x0⟩,
    ⟨Reg.EVR_COPIED, 1, 4, .ro, 0xFFFFFFFF, 0x0⟩,
    ⟨Reg.EVR_NWIN, 512, 4, .rw, 0xFFFFFFFF, 0x0⟩ ]

/-- The register rows of JNL. -/
def jnlRows : List RegRow :=
  [ ⟨Reg.JNL_STAT, 1, 4, .ro, 0xC00000FF, 0x0⟩,
    ⟨Reg.JNL_EVENT, 1, 4, .w1c, 0xF, 0x0⟩,
    ⟨Reg.JNL_OP, 1, 4, .wo, 0xF0001FFF, 0x0⟩,
    ⟨Reg.JNL_RESULT, 1, 4, .ro, 0xF0001FFF, 0x0⟩,
    ⟨Reg.JNL_WCOUNT, 1, 4, .ro, 0xFFFFFFFF, 0x0⟩,
    ⟨Reg.JNL_EBUF, 32, 4, .rw, 0xFFFFFFFF, 0x0⟩ ]

/-- The register rows of PCL. -/
def pclRows : List RegRow :=
  [ ⟨Reg.PCL_STAT, 1, 4, .ro, 0xFEF00000, 0xF00000⟩,
    ⟨Reg.PCL_EVENT, 1, 4, .w1c, 0x7FF, 0x0⟩,
    ⟨Reg.PCL_CONF, 1, 4, .lock, 0xFFFFFFFF, 0x81832⟩,
    ⟨Reg.PCL_LOCK, 1, 4, .w1s, 0x1, 0x0⟩,
    ⟨Reg.PCL_PAIR_ID, 1, 4, .lock, 0xFFFFFFFF, 0x0⟩,
    ⟨Reg.PCL_CASC_ID, 1, 4, .lock, 0xFFFFFFFF, 0x0⟩,
    ⟨Reg.PCL_SWAP, 1, 4, .wo, 0xFFFF0001, 0x0⟩,
    ⟨Reg.PCL_SWAP_VCN, 1, 4, .ro, 0xFFFFFFFF, 0x0⟩,
    ⟨Reg.PCL_MCTRL, 1, 4, .wo, 0x3, 0x0⟩,
    ⟨Reg.PCL_MRX, 1, 4, .ro, 0xC0FFFFFF, 0x0⟩,
    ⟨Reg.PCL_MACK, 1, 4, .ro, 0xFFFFFFFF, 0x0⟩,
    ⟨Reg.PCL_SHADOW, 1, 4, .ro, 0xFF0000FF, 0x0⟩,
    ⟨Reg.PCL_PHASE, 1, 4, .ro, 0xFFFFFFFF, 0x0⟩,
    ⟨Reg.PCL_CMEMB, 1, 4, .ro, 0xFFFF, 0x0⟩,
    ⟨Reg.PCL_SEEN0, 1, 4, .ro, 0xFFFFFFFF, 0x0⟩,
    ⟨Reg.PCL_SEEN1, 1, 4, .ro, 0xFFFFFFFF, 0x0⟩,
    ⟨Reg.PCL_EPOCH, 1, 4, .join, 0xFF, 0x0⟩,
    ⟨Reg.PCL_CTX, 1, 4, .wo, 0x7F, 0x0⟩,
    ⟨Reg.PCL_CRXSTAT, 1, 4, .ro, 0xFF, 0x0⟩,
    ⟨Reg.PCL_MLADR, 16, 8, .rw, 0x3FFFFF, 0x0⟩,
    ⟨Reg.PCL_MLLEN, 16, 8, .rw, 0xFF00FFFF, 0x0⟩,
    ⟨Reg.PCL_CTXBUF, 256, 4, .rw, 0xFFFFFFFF, 0x0⟩,
    ⟨Reg.PCL_CRXBUF, 2560, 4, .ro, 0xFFFFFFFF, 0x0⟩ ]

/-- The register rows of SUI. -/
def suiRows : List RegRow :=
  [ ⟨Reg.SUI_STAT, 1, 4, .ro, 0xFF000000, 0x0⟩,
    ⟨Reg.SUI_EVENT, 1, 4, .w1c, 0xFF, 0x0⟩,
    ⟨Reg.SUI_BOOT, 1, 4, .ro, 0x7000F33, 0x0⟩,
    ⟨Reg.SUI_SELSEQ, 1, 4, .ro, 0xFFFFFFFF, 0x0⟩,
    ⟨Reg.SUI_BUNDLE, 4, 4, .ro, 0xFFFFFFFF, 0x0⟩,
    ⟨Reg.SUI_UPD, 1, 4, .ro, 0xFF000000, 0x0⟩,
    ⟨Reg.SUI_UPDBLK, 1, 4, .ro, 0xFFFFFFFF, 0x0⟩,
    ⟨Reg.SUI_OP, 1, 4, .wo, 0xFFFFFFFF, 0x0⟩,
    ⟨Reg.SUI_RESULT, 1, 4, .ro, 0x80FFFFFF, 0x0⟩,
    ⟨Reg.SUI_TRIAL, 1, 4, .ro, 0xC00007FF, 0x0⟩,
    ⟨Reg.SUI_RETAIN, 1, 4, .ro, 0xFFFFFFFF, 0x0⟩,
    ⟨Reg.SUI_KEYS, 1, 4, .ro, 0xFFFF, 0x0⟩ ]

/-- The register rows of OBS. -/
def obsRows : List RegRow :=
  [ ⟨Reg.OBS_STAT, 1, 4, .ro, 0xC000000F, 0x0⟩,
    ⟨Reg.OBS_EVENT, 1, 4, .w1c, 0x3, 0x0⟩,
    ⟨Reg.OBS_MARK, 1, 4, .wo, 0xF, 0x0⟩,
    ⟨Reg.OBS_TAGCTL, 1, 4, .rw, 0x1F01, 0xA00⟩,
    ⟨Reg.OBS_TAGSEED, 1, 4, .rw, 0xFFFFFFFF, 0x1⟩,
    ⟨Reg.OBS_OVF0, 1, 4, .w1c, 0xFFFFFFFF, 0x0⟩,
    ⟨Reg.OBS_OVF1, 1, 4, .w1c, 0xFFFFFF, 0x0⟩,
    ⟨Reg.OBS_FIX_LO, 48, 8, .ro, 0xFFFFFFFF, 0x0⟩,
    ⟨Reg.OBS_FIX_HI, 48, 8, .ro, 0xFFFFFFFF, 0x0⟩,
    ⟨Reg.OBS_PCNT_LO, 8, 8, .ro, 0xFFFFFFFF, 0x0⟩,
    ⟨Reg.OBS_PCNT_HI, 8, 8, .ro, 0xFFFFFFFF, 0x0⟩,
    ⟨Reg.OBS_PSEL, 8, 4, .rw, 0x8000007F, 0x0⟩,
    ⟨Reg.OBS_SEGL, 16, 4, .ro, 0x3FFFF, 0x0⟩,
    ⟨Reg.OBS_SEGH, 16, 4, .ro, 0x3FFFF, 0x0⟩,
    ⟨Reg.OBS_TAGREC, 8, 4, .ro, 0xFFFFFFFF, 0x0⟩ ]

end Sys2Proof.Machine
end

