-- ==== Sys2Proof/Machine/FaultCodes.lean ====
section
/-!
DEFINITION. The fault codes, each with its one reaction class (R14, R15) and, where a field map names one, the event bit that
its raising sets.
-/
namespace Sys2Proof.Machine

/-- The reaction classes of R15: note, degrade, local safe state, module safe. -/
inductive Cls where
  | N | D | L | S
  deriving DecidableEq, Repr, Inhabited

/-- One fault code: its class and its event bit (register and bit number; none where no field map names one). -/
structure FaultRow where
  code : Nat
  cls : Cls
  event : Option (Nat × Nat)
  deriving DecidableEq, Repr

/-- The codes of source 0x01, SYS, vital cycle (R46, R66). -/
def faults01 : List FaultRow :=
  [ ⟨0x0101, .S, none⟩,  -- LOGIC_SUPPLY_LOW
    ⟨0x0102, .S, none⟩,  -- LOGIC_SUPPLY_HIGH
    ⟨0x0103, .S, none⟩,  -- REF_CLOCK_LOST
    ⟨0x0104, .N, none⟩,  -- RESET_BUTTON_FAULT
    ⟨0x0105, .S, none⟩,  -- SLOT_MISMATCH
    ⟨0x0106, .S, none⟩,  -- SAFE_REQUESTED
    ⟨0x0107, .N, none⟩,  -- UNMAPPED_ACCESS
    ⟨0x0108, .N, none⟩,  -- STATE_REQUEST_REFUSED
    ⟨0x0109, .N, none⟩,  -- FIREWALL
    ⟨0x010A, .N, none⟩,  -- CP_RESTARTED
    ⟨0x010B, .N, none⟩,  -- SP_RESTARTED
    ⟨0x0121, .S, none⟩,  -- P0_OVERRUN
    ⟨0x0122, .S, none⟩,  -- P1_OVERRUN
    ⟨0x0123, .S, none⟩,  -- P2_OVERRUN
    ⟨0x0124, .S, none⟩,  -- P3_OVERRUN
    ⟨0x0125, .N, none⟩,  -- P4_OVERRUN
    ⟨0x0126, .S, none⟩,  -- P4_LAG
    ⟨0x0127, .S, none⟩,  -- P5_OVERRUN
    ⟨0x0128, .S, none⟩,  -- VC_TIMER_FAULT
    ⟨0x0129, .N, none⟩,  -- PHASE_MARK_MISPLACED
    ⟨0x012A, .N, none⟩ ]  -- VCN_LOAD_REFUSED

/-- The codes of source 0x02, TRI and VAU (R101). -/
def faults02 : List FaultRow :=
  [ ⟨0x0201, .D, some (Reg.VAU_EVENT, 0)⟩,  -- VOTE_MINORITY
    ⟨0x0202, .S, none⟩,  -- VOTE_NO_MAJORITY
    ⟨0x0203, .S, none⟩,  -- VOTE_2OO2_MISMATCH
    ⟨0x0204, .D, some (Reg.VAU_EVENT, 1)⟩,  -- ALIGN_TIMEOUT
    ⟨0x0205, .D, some (Reg.VAU_EVENT, 2)⟩,  -- SIG_MINORITY
    ⟨0x0206, .S, none⟩,  -- SIG_NO_MAJORITY
    ⟨0x0207, .S, none⟩,  -- SIG_2OO2_MISMATCH
    ⟨0x0208, .S, none⟩,  -- QUEUE_PARITY
    ⟨0x0209, .S, none⟩,  -- DUAL_RAIL
    ⟨0x020A, .S, none⟩,  -- INJECT_FAIL
    ⟨0x020B, .D, some (Reg.VAU_EVENT, 3)⟩,  -- REGION_SUPPLY
    ⟨0x020C, .D, some (Reg.VAU_EVENT, 3)⟩,  -- REGION_TEMP
    ⟨0x020D, .D, some (Reg.VAU_EVENT, 3)⟩,  -- REGION_PHASE
    ⟨0x020E, .S, none⟩,  -- REGION_MONITOR_MULTI
    ⟨0x020F, .D, some (Reg.VAU_EVENT, 3)⟩,  -- REGION_ABSOLUTE
    ⟨0x0210, .D, some (Reg.VAU_EVENT, 4)⟩,  -- SELFTEST_FAIL
    ⟨0x0211, .D, some (Reg.VAU_EVENT, 5)⟩,  -- VERIFY_FAIL
    ⟨0x0212, .N, some (Reg.VAU_EVENT, 6)⟩,  -- FENCE_LIMIT
    ⟨0x0213, .N, some (Reg.VAU_EVENT, 7)⟩,  -- SPLIT_REFUSED
    ⟨0x0214, .N, some (Reg.VAU_EVENT, 8)⟩,  -- SELFTEST_OVERDUE
    ⟨0x0215, .S, none⟩,  -- DEBUG_ATTACHED
    ⟨0x0216, .N, none⟩,  -- DEBUG_IN_MAINT
    ⟨0x0217, .N, some (Reg.VAU_EVENT, 10)⟩,  -- VAU_ACCESS
    ⟨0x021A, .D, some (Reg.VAU_EVENT, 9)⟩,  -- MEM_UNCORRECTABLE
    ⟨0x021B, .S, none⟩ ]  -- COPY_SOURCE_MISMATCH

/-- The codes of source 0x03, Mantle (R129). -/
def faults03 : List FaultRow :=
  [ ⟨0x0301, .N, none⟩,  -- HEARTBEAT_MISSED
    ⟨0x0302, .S, none⟩,  -- HEARTBEAT_LOST
    ⟨0x0303, .S, none⟩,  -- VECTOR_DUAL_RAIL
    ⟨0x0304, .S, none⟩,  -- VC_TIMING
    ⟨0x0305, .N, none⟩,  -- VECTOR_ABSENT
    ⟨0x0306, .S, none⟩,  -- VECTOR_LOST
    ⟨0x0307, .N, none⟩,  -- WINDOW_ACCESS
    ⟨0x0308, .S, none⟩,  -- SELF_CHECK
    ⟨0x0309, .S, none⟩,  -- PARAM_INVALID
    ⟨0x030A, .S, none⟩,  -- LISTENER_FAULT
    ⟨0x030C, .S, none⟩,  -- TRIAD_SAFE
    ⟨0x030D, .S, none⟩,  -- MANTLE_SILENT
    ⟨0x030E, .S, none⟩,  -- ECHO_MISMATCH
    ⟨0x0311, .L, none⟩,  -- DISC_LOOP
    ⟨0x0312, .L, none⟩,  -- DISC_BERTH
    ⟨0x0313, .L, none⟩,  -- DISC_ZSPD
    ⟨0x0315, .S, none⟩,  -- TRIAD_INCONSISTENT
    ⟨0x0316, .N, none⟩ ]  -- SEAL_RESTRICTED

/-- The codes of source 0x04, ITE and routes (R166). -/
def faults04 : List FaultRow :=
  [ ⟨0x0401, .S, none⟩,  -- GD_HEADER
    ⟨0x0402, .S, none⟩,  -- GD_IDENTITY
    ⟨0x0403, .S, none⟩,  -- GD_ELEMENT
    ⟨0x0404, .S, none⟩,  -- GD_ROUTE
    ⟨0x0405, .S, none⟩,  -- GD_CONDITION
    ⟨0x0406, .S, none⟩,  -- GD_LOCK_LIST
    ⟨0x0407, .S, none⟩,  -- GD_MANTLE_CLASS
    ⟨0x0408, .S, some (Reg.ITE_EVENT, 4)⟩,  -- GD_WRITE
    ⟨0x0409, .S, some (Reg.ITE_EVENT, 1)⟩,  -- ITE_OVERTIME
    ⟨0x040A, .S, some (Reg.ITE_EVENT, 2)⟩,  -- ITE_DESCRIPTOR
    ⟨0x040B, .N, some (Reg.ITE_EVENT, 0)⟩,  -- ITE_ACCESS
    ⟨0x040C, .S, some (Reg.ITE_EVENT, 3)⟩,  -- ITE_BUSY_WRITE
    ⟨0x0410, .N, none⟩,  -- ROUTE_UNDEFINED
    ⟨0x0411, .N, none⟩,  -- ROUTE_ACTIVE
    ⟨0x0412, .N, none⟩,  -- SESSION_POOL_FULL
    ⟨0x0413, .N, none⟩,  -- CONDITION_REFUSED
    ⟨0x0414, .N, none⟩,  -- TOKEN_REFUSED
    ⟨0x0415, .N, none⟩,  -- LEND_TIMEOUT
    ⟨0x0416, .N, none⟩,  -- SET_TIMEOUT
    ⟨0x0417, .N, none⟩,  -- THROW_TIMEOUT
    ⟨0x0418, .N, none⟩,  -- SIGNAL_STOP_UNPROVEN
    ⟨0x0419, .N, none⟩,  -- RELEASE_REFUSED
    ⟨0x041A, .N, none⟩,  -- SIGNAL_UNCOMMANDED_PROCEED
    ⟨0x041B, .N, none⟩,  -- DETECTION_LOST
    ⟨0x041C, .N, none⟩,  -- TIMED_RELEASE_STARTED
    ⟨0x041D, .N, none⟩,  -- POINT_MOVE_CANCELLED
    ⟨0x041E, .N, none⟩ ]  -- ROUTE_REQUEST_CANCELLED

/-- The codes of source 0x05, CRD and lending (R191). -/
def faults05 : List FaultRow :=
  [ ⟨0x0501, .S, none⟩,  -- CENSUS_COUNT
    ⟨0x0502, .S, none⟩,  -- CENSUS_SUM
    ⟨0x0503, .S, none⟩,  -- CENSUS_STRUCTURE
    ⟨0x0504, .S, none⟩,  -- CENSUS_MISSING
    ⟨0x0505, .N, some (Reg.CRD_EVENT, 0)⟩,  -- OP_PRECONDITION
    ⟨0x0506, .N, some (Reg.CRD_EVENT, 1)⟩,  -- OP_PHASE
    ⟨0x0507, .N, some (Reg.CRD_EVENT, 2)⟩,  -- CRD_ACCESS
    ⟨0x0508, .S, none⟩,  -- SELF_CHECK
    ⟨0x0510, .N, none⟩,  -- LEND_RECLAIMED
    ⟨0x0511, .N, none⟩,  -- LEND_ORPHAN
    ⟨0x0512, .N, none⟩,  -- MIRROR_MISMATCH
    ⟨0x0513, .N, none⟩,  -- LEND_PROTOCOL
    ⟨0x0514, .N, none⟩,  -- LEND_STALE_EPOCH
    ⟨0x0515, .N, none⟩,  -- BLOCK_REFUSED_LOCKED
    ⟨0x0516, .N, none⟩,  -- BLOCK_NOT_OWNED
    ⟨0x0517, .N, none⟩ ]  -- UNBLOCK_REFUSED

/-- The codes of source 0x06, PDS (R216). -/
def faults06 : List FaultRow :=
  [ ⟨0x0601, .N, some (Reg.PDS_EVENT, 0)⟩,  -- REPORT_MISSING
    ⟨0x0602, .L, some (Reg.PDS_EVENT, 1)⟩,  -- LEAF_LOST
    ⟨0x0603, .N, some (Reg.PDS_EVENT, 2)⟩,  -- REPORT_JUMP
    ⟨0x0604, .L, some (Reg.PDS_EVENT, 3)⟩,  -- JUMP_REPEATED
    ⟨0x0605, .N, some (Reg.PDS_EVENT, 4)⟩,  -- BERTH_STALE
    ⟨0x0606, .N, some (Reg.PDS_EVENT, 5)⟩,  -- BERTH_JUMP
    ⟨0x0607, .N, some (Reg.PDS_EVENT, 6)⟩,  -- SLOT_REFUSED
    ⟨0x0608, .N, some (Reg.PDS_EVENT, 7)⟩,  -- PDS_ACCESS
    ⟨0x0609, .D, none⟩,  -- SELF_CHECK
    ⟨0x060A, .N, some (Reg.PDS_EVENT, 8)⟩,  -- REPORT_RANGE
    ⟨0x060B, .S, none⟩ ]  -- CONFIG_INVALID

/-- The codes of source 0x07, DSU (R246). -/
def faults07 : List FaultRow :=
  [ ⟨0x0701, .L, none⟩,  -- PLUNGER
    ⟨0x0702, .L, none⟩,  -- SS_ENVELOPE
    ⟨0x0703, .L, none⟩,  -- SS_TIMEOUT
    ⟨0x0704, .L, none⟩,  -- MOTION_IN_CYCLE
    ⟨0x0705, .L, none⟩,  -- ENABLE_LOST_IN_CYCLE
    ⟨0x0706, .N, some (Reg.DSU_EVENT, 0)⟩,  -- CLOSE_SPEED
    ⟨0x0707, .N, some (Reg.DSU_EVENT, 1)⟩,  -- LEAF_FAULT
    ⟨0x0708, .N, some (Reg.DSU_EVENT, 2)⟩,  -- LOCK_LOST
    ⟨0x0709, .N, some (Reg.DSU_EVENT, 3)⟩,  -- LOCK_TIMEOUT
    ⟨0x070A, .N, some (Reg.DSU_EVENT, 4)⟩,  -- OPEN_TIMEOUT
    ⟨0x070B, .N, some (Reg.DSU_EVENT, 5)⟩,  -- CLOSE_TIMEOUT
    ⟨0x070C, .N, some (Reg.DSU_EVENT, 6)⟩,  -- OBSTACLE_LIMIT
    ⟨0x070D, .N, some (Reg.DSU_EVENT, 7)⟩,  -- OBSTACLE_REOPEN
    ⟨0x070E, .L, none⟩,  -- CREEP_SPEED
    ⟨0x070F, .L, none⟩,  -- STO_INPUT_MISMATCH
    ⟨0x0710, .S, none⟩,  -- COUNT_CONSERVATION
    ⟨0x0711, .N, some (Reg.DSU_EVENT, 8)⟩,  -- DSU_ACCESS
    ⟨0x0712, .D, none⟩,  -- SELF_CHECK
    ⟨0x0713, .S, none⟩,  -- STEP_FAULT
    ⟨0x0714, .N, some (Reg.DSU_EVENT, 9)⟩,  -- CMD_REFUSED
    ⟨0x0715, .N, some (Reg.DSU_EVENT, 10)⟩,  -- RESTORE_REFUSED
    ⟨0x0716, .N, some (Reg.DSU_EVENT, 11)⟩,  -- CORR_STALE
    ⟨0x0717, .L, none⟩,  -- START_NOT_CLOSED
    ⟨0x0718, .N, some (Reg.DSU_EVENT, 12)⟩,  -- ENABLE_NOT_GRANTED
    ⟨0x0719, .S, none⟩,  -- CONFIG_INVALID
    ⟨0x071A, .N, none⟩ ]  -- ENABLE_WITHDRAWN

/-- The codes of source 0x08, DBC (R279). -/
def faults08 : List FaultRow :=
  [ ⟨0x0801, .N, some (Reg.DBC_EVENT, 0)⟩,  -- REF_FAILED
    ⟨0x0802, .N, some (Reg.DBC_EVENT, 1)⟩,  -- ALONE
    ⟨0x0803, .N, some (Reg.DBC_EVENT, 2)⟩,  -- ERROR_PASSIVE
    ⟨0x0804, .L, some (Reg.DBC_EVENT, 13)⟩,  -- BUS_OFF
    ⟨0x0805, .N, some (Reg.DBC_EVENT, 3)⟩,  -- NOT_SEALED
    ⟨0x0806, .N, some (Reg.DBC_EVENT, 4)⟩,  -- TX_FAILED
    ⟨0x0807, .L, some (Reg.DBC_EVENT, 14)⟩,  -- TX_REPEATED
    ⟨0x0808, .N, some (Reg.DBC_EVENT, 5)⟩,  -- UNIT_IDENTITY
    ⟨0x0809, .N, some (Reg.DBC_EVENT, 6)⟩,  -- UNDECLARED_FRAME
    ⟨0x080A, .N, some (Reg.DBC_EVENT, 7)⟩,  -- WINDOW_VIOLATION
    ⟨0x080B, .S, none⟩,  -- MASTER_CONFLICT
    ⟨0x080C, .N, some (Reg.DBC_EVENT, 8)⟩,  -- REPORT_CODE
    ⟨0x080D, .N, some (Reg.DBC_EVENT, 9)⟩,  -- SLEEP_REFUSED
    ⟨0x080E, .S, none⟩,  -- CONFIG_INVALID
    ⟨0x080F, .N, some (Reg.DBC_EVENT, 10)⟩,  -- DBC_ACCESS
    ⟨0x0810, .L, some (Reg.DBC_EVENT, 15)⟩,  -- SELF_CHECK
    ⟨0x0811, .N, some (Reg.DBC_EVENT, 11)⟩,  -- WOKEN
    ⟨0x0812, .N, some (Reg.DBC_EVENT, 12)⟩ ]  -- REF_OVERTAKEN

/-- The codes of source 0x09, SNI (R307). -/
def faults09 : List FaultRow :=
  [ ⟨0x0901, .N, some (Reg.SNI_EVENT, 0)⟩,  -- UNDECLARED_SOURCE
    ⟨0x0902, .N, none⟩,  -- MALFORMED
    ⟨0x0903, .N, none⟩,  -- TCRC_FAIL
    ⟨0x0904, .N, none⟩,  -- SEQ_STALE
    ⟨0x0905, .N, none⟩,  -- COPY_CONFLICT
    ⟨0x0906, .N, none⟩,  -- ECHO_AGE
    ⟨0x0907, .D, none⟩,  -- NET_A_LOST
    ⟨0x0908, .D, none⟩,  -- NET_B_LOST
    ⟨0x0909, .S, none⟩,  -- NET_BOTH_LOST
    ⟨0x090A, .N, none⟩,  -- NETS_SILENT
    ⟨0x090B, .S, none⟩,  -- NETS_SILENT_LIMIT
    ⟨0x090C, .N, some (Reg.SNI_EVENT, 1)⟩,  -- TX_NOT_RELEASED
    ⟨0x090D, .N, none⟩,  -- CONN_STALE
    ⟨0x090E, .N, some (Reg.SNI_EVENT, 2)⟩,  -- RX_OVERFLOW
    ⟨0x090F, .S, none⟩,  -- CONFIG_INVALID
    ⟨0x0910, .N, some (Reg.SNI_EVENT, 3)⟩,  -- SNI_ACCESS
    ⟨0x0911, .S, some (Reg.SNI_EVENT, 4)⟩,  -- SELF_CHECK
    ⟨0x0912, .N, none⟩,  -- NET_RESTORED
    ⟨0x0913, .N, none⟩,  -- ALIVE_REPEAT
    ⟨0x0914, .S, none⟩ ]  -- SNAPSHOT_CODE

/-- The codes of source 0x0A, FIO (R361). -/
def faults0A : List FaultRow :=
  [ ⟨0x0A01, .N, some (Reg.FIO_EVENT, 0)⟩,  -- FEED_LOW
    ⟨0x0A02, .L, none⟩,  -- FEED_OFF
    ⟨0x0A03, .L, none⟩,  -- FEED_MISSING
    ⟨0x0A04, .L, none⟩,  -- FEED_HIGH
    ⟨0x0A05, .N, some (Reg.FIO_EVENT, 1)⟩,  -- INPUT_DISCREPANCY
    ⟨0x0A06, .N, some (Reg.FIO_EVENT, 2)⟩,  -- INPUT_UNDECLARED
    ⟨0x0A07, .L, none⟩,  -- OUTPUT_LOW
    ⟨0x0A08, .L, none⟩,  -- OUTPUT_STUCK_ON
    ⟨0x0A09, .L, none⟩,  -- EXT_ENERGISED_EDGE
    ⟨0x0A0A, .S, none⟩,  -- EXT_ENERGISED
    ⟨0x0A0B, .L, none⟩,  -- CROSSTALK
    ⟨0x0A0C, .L, none⟩,  -- PULSE_MISSING
    ⟨0x0A0D, .L, none⟩,  -- OFF_READS_HIGH
    ⟨0x0A0E, .N, some (Reg.FIO_EVENT, 3)⟩,  -- UNDECLARED_OUTPUT_ENERGISED
    ⟨0x0A0F, .S, none⟩,  -- COMMAND_CODE
    ⟨0x0A10, .S, none⟩,  -- SILENT_STATE
    ⟨0x0A11, .N, some (Reg.FIO_EVENT, 4)⟩,  -- CMD_INCONSISTENT
    ⟨0x0A12, .N, some (Reg.FIO_EVENT, 5)⟩,  -- GROUP_REFUSED
    ⟨0x0A13, .S, none⟩,  -- SNAPSHOT_CODE
    ⟨0x0A14, .S, none⟩,  -- SELF_CHECK
    ⟨0x0A15, .S, none⟩,  -- CONFIG_INVALID
    ⟨0x0A16, .N, some (Reg.FIO_EVENT, 6)⟩,  -- FIO_ACCESS
    ⟨0x0A17, .N, some (Reg.FIO_EVENT, 7)⟩ ]  -- RESTORE_REFUSED

/-- The codes of source 0x0B, CVU (R373). -/
def faults0B : List FaultRow :=
  [ ⟨0x0B01, .N, some (Reg.CVU_EVENT, 0)⟩,  -- CONF_REFUSED
    ⟨0x0B02, .N, some (Reg.CVU_EVENT, 1)⟩,  -- STREAM_ABORTED
    ⟨0x0B03, .N, some (Reg.CVU_EVENT, 2)⟩,  -- SEQUENCE
    ⟨0x0B04, .N, some (Reg.CVU_EVENT, 3)⟩,  -- CVU_ACCESS
    ⟨0x0B05, .N, some (Reg.CVU_EVENT, 4)⟩,  -- SELF_CHECK
    ⟨0x0B06, .N, none⟩ ]  -- PAIR_MISMATCH

/-- The codes of source 0x0C, MBX (R386). -/
def faults0C : List FaultRow :=
  [ ⟨0x0C01, .N, some (Reg.MBX_EVENT, 0)⟩,  -- MBX_ACCESS
    ⟨0x0C02, .N, some (Reg.MBX_CEVENT, 0)⟩,  -- COLLISION
    ⟨0x0C03, .N, some (Reg.MBX_CEVENT, 1)⟩,  -- LOST_RX_RESET
    ⟨0x0C04, .N, some (Reg.MBX_EVENT, 1)⟩,  -- ACK_REFUSED
    ⟨0x0C05, .S, none⟩ ]  -- SELF_CHECK

/-- The codes of source 0x0D, EVR and JNL (R419). -/
def faults0D : List FaultRow :=
  [ ⟨0x0D01, .N, some (Reg.EVR_EVENT, 1)⟩,  -- LOG_DROPPED
    ⟨0x0D02, .N, some (Reg.EVR_EVENT, 2)⟩,  -- INTAKE_OVERFLOW
    ⟨0x0D03, .N, some (Reg.EVR_EVENT, 3)⟩,  -- NAND_STAGE_FULL
    ⟨0x0D04, .N, some (Reg.EVR_EVENT, 4)⟩,  -- NAND_GAP
    ⟨0x0D05, .N, some (Reg.EVR_EVENT, 0)⟩,  -- RING_DAMAGED
    ⟨0x0D06, .N, none⟩,  -- TIMEBASE_REBUILT
    ⟨0x0D07, .N, none⟩,  -- TIME_SATURATED
    ⟨0x0D08, .N, some (Reg.JNL_EVENT, 1)⟩,  -- CELL_DAMAGED
    ⟨0x0D09, .N, some (Reg.JNL_EVENT, 2)⟩,  -- JOURNAL_IDENTITY
    ⟨0x0D0A, .N, some (Reg.EVR_EVENT, 5)⟩,  -- EVR_ACCESS
    ⟨0x0D0B, .N, some (Reg.JNL_EVENT, 0)⟩,  -- JNL_ACCESS
    ⟨0x0D0C, .S, none⟩,  -- SELF_CHECK
    ⟨0x0D0D, .S, none⟩,  -- JOURNAL_WRITE_FAIL
    ⟨0x0D0E, .N, some (Reg.EVR_EVENT, 6)⟩,  -- REPEAT_DAMAGED
    ⟨0x0D0F, .N, some (Reg.EVR_EVENT, 7)⟩,  -- NAND_FAULT
    ⟨0x0D10, .N, some (Reg.JNL_EVENT, 3)⟩ ]  -- COUNT_CELL_INVALID

/-- The codes of source 0x0E, PCL (R442). -/
def faults0E : List FaultRow :=
  [ ⟨0x0E01, .N, some (Reg.PCL_EVENT, 0)⟩,  -- PAIR_LINK_LOST
    ⟨0x0E02, .N, some (Reg.PCL_EVENT, 1)⟩,  -- PEER_LOST
    ⟨0x0E03, .N, some (Reg.PCL_EVENT, 2)⟩,  -- PEER_SAFE
    ⟨0x0E04, .N, some (Reg.PCL_EVENT, 3)⟩,  -- TAKEOVER
    ⟨0x0E05, .S, none⟩,  -- TAKEOVER_NOT_READY
    ⟨0x0E06, .N, some (Reg.PCL_EVENT, 4)⟩,  -- MIRROR_MISSED
    ⟨0x0E07, .N, some (Reg.PCL_EVENT, 5)⟩,  -- SHADOW_LIMIT
    ⟨0x0E08, .N, some (Reg.PCL_EVENT, 6)⟩,  -- SWAP_ABANDONED
    ⟨0x0E09, .N, some (Reg.PCL_EVENT, 6)⟩,  -- SWAP_DONE
    ⟨0x0E0A, .N, some (Reg.PCL_EVENT, 7)⟩,  -- PEER_MISMATCH
    ⟨0x0E0B, .N, some (Reg.PCL_EVENT, 8)⟩,  -- CASCADE_UNDECLARED
    ⟨0x0E0C, .N, some (Reg.PCL_EVENT, 8)⟩,  -- CASCADE_FRAME
    ⟨0x0E0D, .N, some (Reg.PCL_EVENT, 8)⟩,  -- CASCADE_PHASE
    ⟨0x0E0E, .N, some (Reg.PCL_EVENT, 8)⟩,  -- TIMING_MASTER_CHANGED
    ⟨0x0E0F, .L, none⟩,  -- EDGE_AT_TAKEOVER
    ⟨0x0E10, .S, none⟩,  -- DOUBLE_ACTIVE
    ⟨0x0E11, .N, some (Reg.PCL_EVENT, 9)⟩,  -- PCL_ACCESS
    ⟨0x0E12, .S, none⟩,  -- SELF_CHECK
    ⟨0x0E13, .S, none⟩,  -- CONFIG_INVALID
    ⟨0x0E14, .N, some (Reg.PCL_EVENT, 10)⟩ ]  -- MIRROR_VOTE

/-- The codes of source 0x0F, SUI (R477). -/
def faults0F : List FaultRow :=
  [ ⟨0x0F01, .N, none⟩,  -- SELFTEST_FAILED
    ⟨0x0F02, .N, none⟩,  -- SELECTOR_REBUILT
    ⟨0x0F03, .N, none⟩,  -- SLOT_INVALID
    ⟨0x0F04, .S, none⟩,  -- NO_VALID_SLOT
    ⟨0x0F05, .N, none⟩,  -- TRIAL_REVERTED
    ⟨0x0F06, .N, some (Reg.SUI_EVENT, 0)⟩,  -- UPDATE_BUSY
    ⟨0x0F07, .N, some (Reg.SUI_EVENT, 1)⟩,  -- BUNDLE_REFUSED
    ⟨0x0F08, .N, some (Reg.SUI_EVENT, 2)⟩,  -- BLOCK_AUTH
    ⟨0x0F09, .N, none⟩,  -- DOWNLOAD_RESUMED
    ⟨0x0F0A, .N, none⟩,  -- UPDATE_ACTIVATED
    ⟨0x0F0B, .N, none⟩,  -- UPDATE_CONFIRMED
    ⟨0x0F0C, .N, some (Reg.SUI_EVENT, 3)⟩,  -- SLOT_REVERIFY_FAIL
    ⟨0x0F0D, .N, none⟩,  -- REFRESH_COMPLETED_AT_BOOT
    ⟨0x0F0E, .S, none⟩,  -- CONFIG_IMAGE
    ⟨0x0F0F, .N, some (Reg.SUI_EVENT, 4)⟩,  -- SUI_ACCESS
    ⟨0x0F10, .N, none⟩,  -- SELF_CHECK
    ⟨0x0F11, .N, some (Reg.SUI_EVENT, 5)⟩,  -- KEY_ENROL_FAIL
    ⟨0x0F12, .N, some (Reg.SUI_EVENT, 6)⟩,  -- SESSION_AUTH
    ⟨0x0F13, .N, some (Reg.SUI_EVENT, 7)⟩ ]  -- PROCESSOR_RELOAD

/-- The codes of source 0x10, CMD (R336). -/
def faults10 : List FaultRow :=
  [ ⟨0x1001, .N, some (Reg.CMD_EVENT, 0)⟩,  -- PACKET_FRAMING
    ⟨0x1002, .N, some (Reg.CMD_EVENT, 1)⟩,  -- UNKNOWN_OPCODE
    ⟨0x1003, .N, some (Reg.CMD_EVENT, 2)⟩,  -- PACKET_MALFORMED
    ⟨0x1004, .N, some (Reg.CMD_EVENT, 3)⟩,  -- HSEQ_STALE
    ⟨0x1005, .N, some (Reg.CMD_EVENT, 4)⟩,  -- NO_CREDIT
    ⟨0x1006, .N, some (Reg.CMD_EVENT, 5)⟩,  -- DUPLICATE
    ⟨0x1007, .N, some (Reg.CMD_EVENT, 6)⟩,  -- COMMAND_AGE
    ⟨0x1008, .S, none⟩,  -- CREDIT_CONSERVATION
    ⟨0x1009, .N, some (Reg.CMD_EVENT, 7)⟩,  -- REPLY_DROPPED
    ⟨0x100A, .S, none⟩,  -- TAG_SEQUENCE
    ⟨0x100B, .N, some (Reg.CMD_EVENT, 8)⟩,  -- REPLAY_ABORTED
    ⟨0x100C, .N, some (Reg.CMD_EVENT, 9)⟩,  -- CMD_ACCESS
    ⟨0x100D, .S, none⟩,  -- SELF_CHECK
    ⟨0x100E, .S, none⟩,  -- CONFIG_INVALID
    ⟨0x100F, .N, some (Reg.CMD_EVENT, 10)⟩,  -- RIGHT_REFUSED
    ⟨0x1011, .N, some (Reg.CMD_EVENT, 11)⟩,  -- PARAM_RANGE
    ⟨0x1012, .N, some (Reg.CMD_EVENT, 12)⟩ ]  -- SESSION_MISMATCH

/-- The codes of source 0x11, OBS (R490). -/
def faults11 : List FaultRow :=
  [ ⟨0x1101, .N, some (Reg.OBS_EVENT, 0)⟩,  -- OBS_ACCESS
    ⟨0x1102, .N, some (Reg.OBS_EVENT, 1)⟩ ]  -- MARK_REFUSED

/-- The codes of one source, by its high byte (R14). -/
def faultsOf (src : Nat) : List FaultRow :=
  match src with
  | 0x01 => faults01
  | 0x02 => faults02
  | 0x03 => faults03
  | 0x04 => faults04
  | 0x05 => faults05
  | 0x06 => faults06
  | 0x07 => faults07
  | 0x08 => faults08
  | 0x09 => faults09
  | 0x0A => faults0A
  | 0x0B => faults0B
  | 0x0C => faults0C
  | 0x0D => faults0D
  | 0x0E => faults0E
  | 0x0F => faults0F
  | 0x10 => faults10
  | 0x11 => faults11
  | _ => []

/-- The row of a code. -/
def faultRow (code : Nat) : Option FaultRow := (faultsOf (code / 256)).find? fun r => r.code == code

/-- The reaction class of a code (R15); a code that no chapter assigns is a note. -/
def faultClass (code : Nat) : Cls := match faultRow code with
  | some r => r.cls
  | none => .N

end Sys2Proof.Machine
end

