-- ==== Sys2Proof/Machine/State.lean ====
section
/-!
DEFINITION. The state of the module as plain data; the reasons a step can stop; and the state right after reset.
Software-visible registers whose bits have no other home stand in one table keyed by their address; a register that
only shows a machine's state is computed from that machine (Machine/RegisterView.lean).
-/
namespace Sys2Proof.Machine

/-- Why a step stops with a fault. No command of this model faults on data the spec gives an effect; the one constructor is
kept for a command the spec gives no effect at all. Raised by no meaning at present; safe. -/
inductive Fault where
  | noEffectGiven
  deriving DecidableEq, Repr

/-- Why a command is refused. -/
inductive Refusal where
  /-- A command this model gives no meaning. Raised by exec's arms alone; safe: nothing can be proved of a run through it. -/
  | notModelled (mnemonic : String)
  deriving DecidableEq, Repr


/-! ### The whole module -/

/-- The state of the module. -/
structure State where
  sys : Sys
  vau : Vau
  mnt : Mnt
  ite : Ite
  crd : Crd
  lend : Lend
  pds : Pds
  dsu : Dsu
  /-- Door bus channels 0–7. -/
  dbc : Tbl Dbc
  sni : Sni
  cmd : Cmd
  rt : Rt
  fio : Fio
  /-- Check-value units 0–7. -/
  cvu : Tbl Cvu
  /-- Mailbox channels 0–15. -/
  mbx : Tbl Mbx
  pcl : Pcl
  sui : Sui
  obs : Obs
  conf : Conf
  evr : Evr
  jnl : Jnl
  /-- Registers with no other home, by address. -/
  regs : Tbl Word
  /-- High words latched for 64-bit counters (R8), by the address of the low word. -/
  hi : Tbl Word
  /-- MRAM, 4 MiB; an unlisted byte reads 0. -/
  mram : Tbl Byte
  /-- Geographic data RAM, 2 MiB, by byte offset from 0x3000_0000; an unlisted byte reads 0. -/
  gd : Tbl Byte
  /-- Vital SRAM, 4 MiB, by byte offset from 0x1000_0000; an unlisted byte reads 0. -/
  sram : Tbl Byte
  /-- The commands that wait, first in first out. -/
  pending : List Instr
  /-- The model's own counter of free values taken. -/
  freeCtr : Nat
  deriving DecidableEq, Repr, Inhabited


/-! ### Reset -/

/-- An OBS that has counted nothing. -/
def RegionObs.zero : RegionObs :=
  { fix := List.replicate 48 0, prg := List.replicate 8 0, segl := List.replicate 16 0, segh := List.replicate 16 0, ovf := 0 }

/-- The words of `n` registers from `a` on, `step` bytes apart, that reset to `v`. -/
def resetWords (a n step : Nat) (v : Word) : Tbl Word := (List.range n).map fun i => (a + step * i, v)

/-- Registers of the register table whose reset value is not 0, in ascending address (the reset columns of the register maps). -/
def resetRegs : Tbl Word :=
  [(Reg.VAU_STAT, 0x7#32), (Reg.VAU_MIN_INFO, 0x300#32), (Reg.VAU_SPLIT_STAT, 0x3#32), (Reg.VAU_ST_AGE0, 0x140#32), (Reg.VAU_ST_AGE1, 0xA0#32), (Reg.PDS_CONF, 0x21E#32)]
    ++ resetWords Reg.PDS_ECONF 8 4 0x1E01#32 ++ resetWords Reg.PDS_ELIM 8 4 0xFFFF01F4#32
    ++ resetWords Reg.DSU_ECONF 8 4 0x34780000#32 ++ resetWords Reg.DSU_ETRV 8 4 0x23280BB8#32 ++ resetWords Reg.DSU_ECHK 8 4 0x3E80300#32
    ++ resetWords Reg.DSU_ESSA 8 4 0x3E805DC#32 ++ resetWords Reg.DSU_ESSB 8 4 0x801A1402#32 ++ resetWords Reg.DSU_ESSC 8 4 0x3200100#32
    ++ resetWords Reg.DSU_ETIM 8 4 0x323C6405#32
    ++ (List.range 8).flatMap (fun b => [(Reg.DBC_NBT + 0x1000 * b, 0x3F101000#32), (Reg.DBC_DBT + 0x1000 * b, 0xC030300#32),
      (Reg.DBC_TDC + 0x1000 * b, 0xD#32), (Reg.DBC_WAKE + 0x1000 * b, 0x7F0#32)])
    ++ [(Reg.SNI_CONF, 0x78DC0020#32), (Reg.SNI_NETT, 0x7D00064#32), (Reg.FIO_CONF, 0x14#32)]
    ++ resetWords Reg.FIO_ICONF 96 4 0x14#32 ++ resetWords Reg.FIO_OFLT 48 4 0x3F0000#32
    ++ (List.range 8).flatMap (fun n => [(Reg.CVU_CONF + 0x100 * n, 0x18000020#32), (Reg.CVU_POLY_LO + 0x100 * n, 0x1EDC6F41#32),
      (Reg.CVU_INIT_LO + 0x100 * n, 0xFFFFFFFF#32), (Reg.CVU_XOR_LO + 0x100 * n, 0xFFFFFFFF#32)])
    ++ [(Reg.EVR_CONF, 0x3E83C00#32), (Reg.PCL_STAT, 0xF00000#32), (Reg.PCL_CONF, 0x81832#32), (Reg.OBS_TAGCTL, 0xA00#32),
      (Reg.OBS_TAGSEED, 0x1#32), (Reg.SYS_RESET_CAUSE, 0x1#32), (Reg.CMD_CONF, 0x640043#32)]

/-- A processor that the boot chain has not released (R444, R452). -/
def Proc.held : Proc := { miss := 0, reset := true, dead := true, tries := 0 }

/-- The module right after a power cycle: the regions have just been released into `KINDLING` (R30, R444), every register at its reset
value, every memory empty, every counter and queue empty, the 1,024 tokens and 256 tags free (R179, R315), START_T and RECLAIM_T at
their defaults (R181, R189). Fields the spec gives no reset value hold their type's first value or 0 (DESIGN CHOICE, log entry 1). -/
def State.reset : State :=
  { (default : State) with
    sys := { (default : Sys) with state := .kindling, ledAmber := true, cp := Proc.held, sp := Proc.held }
    vau := { (default : Vau) with now := [(Reg.VAU_MIN_INFO, 0x300#32), (Reg.VAU_ST_AGE0, 0x140#32), (Reg.VAU_ST_AGE1, 0xA0#32)] }
    crd := { (default : Crd) with nFree := 1024 }
    cmd := { (default : Cmd) with nFree := 256 }
    rt := { (default : Rt) with startT := 1200, reclaimT := 1200 }
    sui := { (default : Sui) with
      vkProg := 0xF#4, vk := (List.range 4).map fun i => (i, List.replicate 48 0#8), serial := List.replicate 16 0#8
      testRefs := List.replicate 41 0#64 }
    obs := { (default : Obs) with regions := List.replicate 3 RegionObs.zero, tagGen := 1 }
    pcl := { (default : Pcl) with linkAge := 255, oxfenAge := 255 }
    regs := resetRegs }

end Sys2Proof.Machine
end

