-- ==== Sys2Proof/Machine/Ops.lean ====
section
/-!
DEFINITION. The named operations over registers and memories, and the recorder's shared operations: every fault of every block
is recorded through `note`.
-/
namespace Sys2Proof.Machine

/-! ### Registers and memories -/

/-- The register table's word at an address. -/
def State.reg (s : State) (a : Nat) : Word := Tbl.get s.regs a

/-- Writes the register table at an address. -/
def State.setReg (s : State) (a : Nat) (w : Word) : State := { s with regs := Tbl.set s.regs a w }

/-- Bits [hi:lo] of a register. -/
def State.regF (s : State) (a hi lo : Nat) : Nat := field (s.reg a) hi lo

/-- Replaces bits [hi:lo] of a register. -/
def State.setRegF (s : State) (a hi lo v : Nat) : State := s.setReg a (putField (s.reg a) hi lo v)

/-- One bit of a register. -/
def State.regB (s : State) (a i : Nat) : Bool := bitAt (s.reg a) i

/-- Sets or clears one bit of a register. -/
def State.setRegB (s : State) (a i : Nat) (b : Bool) : State := s.setReg a (setBit (s.reg a) i b)

/-- Bytes of MRAM. -/
def State.mramGet (s : State) (off n : Nat) : List Byte := Tbl.getList s.mram off n

/-- Writes bytes of MRAM at an offset below 4 MiB; what lies beyond is dropped. -/
def State.mramPut (s : State) (off : Nat) (bs : List Byte) : State :=
  { s with mram := Tbl.setList s.mram off (bs.take (0x400000 - off)) }

/-- A 32-bit little-endian word of geographic data RAM, by byte offset. -/
def State.gdWord (s : State) (off : Nat) : Word := word (ofLe (Tbl.getList s.gd off 4))

/-- A free value taken from the counter, and the state with the counter advanced (DESIGN CHOICE, log entry 4). -/
def State.takeFree (s : State) : Word × State := (Config.freeValue s.freeCtr, { s with freeCtr := s.freeCtr + 1 })

/-- The module is in one of the states in which the runtime works on the railway. -/
def State.live (s : State) : Bool :=
  match s.sys.state with
  | .join | .banked | .active => true
  | _ => false

/-- The runtime runs. -/
def State.runtime (s : State) : Bool :=
  match s.sys.state with
  | .configCheck | .join | .banked | .active | .safe | .maint => true
  | _ => false

/-! ### The time tag and MRAM slots (R388–R391) -/

/-- The 64-bit time tag of R9. -/
def Evr.tag (e : Evr) : Nat := (e.cyc % 2 ^ 22) * 2 ^ 42 + e.ms % 2 ^ 42

/-- The eight bytes of the time tag, little-endian. -/
def Evr.tagBytes (e : Evr) : List Byte := le4 (word e.tag) ++ le4 (word (e.tag / 2 ^ 32))

/-- Writes a dual-word slot (R391): slot A or B of the pair at `base`. -/
def putDual (base : Nat) (slotB : Bool) (w : Word) (s : State) : State :=
  s.mramPut (base + 8 * bit slotB) (le4 w ++ le4 (~~~w))

/-- Writes the time checkpoint to the next of slots A and B (R389). -/
def timeCheckpoint (s : State) : State :=
  let t := s.evr.tagBytes
  let s := s.mramPut (16 * bit s.evr.ckTime) (t ++ le4 (crc32c t) ++ le4 0xA5C3#32)
  { s with evr := { s.evr with ckTime := !s.evr.ckTime, ckMs := s.evr.ms } }

/-! ### NAND staging (R401–R405) -/

/-- Bytes in the staging ring. -/
def Evr.fill (e : Evr) : Nat := e.staged.foldl (fun n r => n + r.bytes.length) 0

/-- The bytes of a NAND record (R401). -/
def nandBytes (ty : Nat) (nseq : Word) (e : Evr) (vcn : Word) (body : List Byte) : List Byte :=
  let h := le2 (body.length + 24) ++ [byte ty, byte 1] ++ le4 nseq ++ e.tagBytes ++ le4 vcn ++ body
  h ++ le4 (crc32c h)

/-- The next NSEQ goes into the NSEQ checkpoint (R405). -/
def nseqCheckpoint (s : State) : State :=
  let s := putDual 0x20 s.evr.ckNseq s.evr.nseq s
  { s with evr := { s.evr with ckNseq := !s.evr.ckNseq } }

/-- Places a record that fits into the staging ring and writes the NSEQ checkpoint (R403, R405). -/
def stageFit (ty : Nat) (body : List Byte) (s : State) : State :=
  let r : NandRec := ⟨s.evr.nseq, nandBytes ty s.evr.nseq s.evr s.sys.vcn body⟩
  nseqCheckpoint { s with evr := { s.evr with staged := s.evr.staged ++ [r], nseq := s.evr.nseq + 1 } }

/-- Stages a LOST record before the next record that fits, for records dropped earlier (R403). -/
def stageLost (s : State) : State :=
  if s.evr.lostCnt = 0 then s
  else
    let body := le4 s.evr.lostFirst ++ le4 (word s.evr.lostCnt)
    stageFit 0 body { s with evr := { s.evr with lostCnt := 0 } }

/-- Posts a record (R403): the state, and whether it was staged. A record that does not fit is dropped and counted, and NSEQ counts it. -/
def stage (ty : Nat) (body : List Byte) (s : State) : State × Bool :=
  let need := body.length + 24 + (if s.evr.lostCnt = 0 then 0 else 32)
  if s.evr.fill + need ≤ 262144 then (stageFit ty body (stageLost s), true)
  else
    let e := s.evr
    let s := nseqCheckpoint { s with evr := { e with
      nseq := e.nseq + 1, lostCnt := e.lostCnt + 1, lostFirst := if e.lostCnt = 0 then e.nseq else e.lostFirst } }
    (s.setReg Reg.EVR_NDROP (satInc (s.reg Reg.EVR_NDROP)), false)

/-! ### Low-level records (R393–R399) -/

/-- The ARG word (R394). -/
def argWord (obj val : Nat) : Word := word ((obj % 16) * 2 ^ 28 + val % 2 ^ 28)

/-- Who records a code: the writers of R395, by the source of the code (DEDUCED, log entry 6). -/
def srcOf (code : Nat) : Nat :=
  match code / 256 with
  | 0x02 => 1
  | 0x03 => if code = 0x030D ∨ code = 0x030E ∨ code = 0x0311 ∨ code = 0x0312 ∨ code = 0x0313 then 0 else 2
  | 0x04 | 0x05 | 0x06 | 0x07 | 0x11 => 0
  | 0x09 => if code = 0x0901 ∨ code = 0x090C ∨ code = 0x090E ∨ code = 0x0910 ∨ code = 0x0911 then 3 else 0
  | 0x0D => if code = 0x0D08 ∨ code = 0x0D09 ∨ code = 0x0D10 then 0 else 4
  | _ => 3

/-- Sets the event bit of a code in the block's event register, at a channel's or unit's offset. -/
def setEvent (code off : Nat) (s : State) : State :=
  match faultRow code with
  | some r => match r.event with
    | some (a, i) => s.setRegB (a + off) i true
    | none => s
  | none => s

/-- The eight words of a low-level record (R393). -/
def lowWords (e : Evr) (r : LowReq) (vcn : Word) : List Word :=
  let mark := if r.src = 1 ∨ r.src = 2 then 0xA5 else 0x5A
  let w3 := word (r.code % 65536 + r.src * 2 ^ 16 + mark * 2 ^ 24)
  let head := [e.rseq, word e.tag, word (e.tag / 2 ^ 32), w3, vcn]
  head ++ [0xFFFF0000#32, r.arg, crc32cWords (head ++ [r.arg])]

/-- The MRAM offset of a ring slot. -/
def ringOff (slot : Nat) : Nat := 0x100000 + 32 * slot

/-- A request repeats the newest record (R398). -/
def repeats (r : LowReq) (s : State) : Bool :=
  match s.evr.newest with
  | none => false
  | some n => n.open_ && n.code == r.code && n.src == r.src && n.arg == r.arg && decide (n.rep < 0xFFFF)
      && decide (s.evr.ms - n.ms < s.regF Reg.EVR_CONF 31 16)

/-- Closes the newest record: stages its LOWCOPY and writes the copied mark (R399); also whether staging dropped it. -/
def evrClose (s : State) : State × Bool :=
  match s.evr.newest with
  | none => (s, true)
  | some n =>
    if n.open_ then
      let (s, ok) := stage 1 (s.mramGet (ringOff n.slot) 32) { s with evr := { s.evr with newest := some { n with open_ := false } } }
      let s := putDual 0x30 s.evr.ckCopied n.rseq s
      ({ s with evr := { s.evr with ckCopied := !s.evr.ckCopied } }.setReg Reg.EVR_COPIED n.rseq, ok)
    else (s, true)

/-- Gives a request its slot and writes the record (R397). -/
def evrAllocate (r : LowReq) (s : State) : State :=
  let e := s.evr
  let s := s.mramPut (ringOff e.slot) ((lowWords e r s.sys.vcn).flatMap le4)
  { s with evr := { s.evr with
      newest := some { rseq := e.rseq, slot := e.slot, code := r.code, src := r.src, arg := r.arg, ms := e.ms, rep := 0, open_ := true }
      rseq := e.rseq + 1
      slot := (e.slot + 1) % 98304 } }

/-- Counts a repeat in the newest record by rewriting its word 5 (R398). -/
def evrRepeat (s : State) : State :=
  match s.evr.newest with
  | none => s
  | some n =>
    let s := s.mramPut (ringOff n.slot + 20) (le2 (n.rep + 1) ++ le2 (0xFFFF - (n.rep + 1)))
    { s with evr := { s.evr with newest := some { n with rep := n.rep + 1 } } }

/-- Takes a request: a repeat, or a new record before which the newest one is closed. A LOWCOPY that staging drops raises
0x0D03, itself a request of EVR; the second of these is a repeat, so three rounds suffice. -/
def evrTake : Nat → LowReq → State → State
  | 0, _, s => s
  | k + 1, r, s =>
    if repeats r s then
      let s := evrRepeat s
      match s.evr.newest with
      | some n =>
        if n.rep = 0xFFFF then
          let (s, ok) := evrClose s
          if ok then s else evrTake k ⟨4, 0x0D03, 0#32⟩ (setEvent 0x0D03 0 s)
        else s
      | none => s
    else
      let (s, ok) := evrClose s
      let s := evrAllocate r s
      if ok then s else evrTake k ⟨4, 0x0D03, 0#32⟩ (setEvent 0x0D03 0 s)

/-- Counts a dropped request in EVR_LDROP and for its writer (R397, R400). -/
def evrDrop (src : Nat) (s : State) : State :=
  let s := if src = 0 then s.setRegF Reg.EVR_LDROP 15 0 (min 0xFFFF (s.regF Reg.EVR_LDROP 15 0 + 1))
    else s.setRegF Reg.EVR_LDROP 31 16 (min 0xFFFF (s.regF Reg.EVR_LDROP 31 16 + 1))
  { s with evr := { s.evr with drops := Tbl.set s.evr.drops src (Tbl.get s.evr.drops src + 1) } }

/-- Announces the drops of the writer whose request is taken next (R397). -/
def evrAnnounce (src : Nat) (s : State) : State :=
  let n := Tbl.get s.evr.drops src
  let code := if src = 0 then 0x0D01 else 0x0D02
  if n = 0 then s
  else evrTake 3 ⟨4, code, argWord 15 n⟩ (setEvent code 0 { s with evr := { s.evr with drops := Tbl.set s.evr.drops src 0 } })

/-- The places a writer has while the start scan runs (R400); EVR's own requests, which it makes itself, need none. -/
def holdPlaces (src : Nat) : Nat := if src = 1 ∨ src = 2 then 8 else 32

/-- A low-level request of any writer (R395–R400). -/
def evrRequest (r : LowReq) (s : State) : State :=
  if s.evr.scanDone then
    if r.src = 0 then
      if repeats r s then
        ((evrTake 3 r s).setReg Reg.EVR_LOGSTAT 0x90000000#32).setReg Reg.EVR_LOGSEQ (s.evr.rseq - 1)
      else if s.evr.rtThisVc < 64 then
        let s := evrAnnounce 0 s
        let t := evrTake 3 r s
        let t := { t with evr := { t.evr with rtThisVc := t.evr.rtThisVc + 1 } }
        (t.setReg Reg.EVR_LOGSTAT 0x80000000#32).setReg Reg.EVR_LOGSEQ s.evr.rseq
      else (evrDrop 0 s).setReg Reg.EVR_LOGSTAT 0xA0000000#32
    else evrTake 3 r (evrAnnounce r.src s)
  else if r.src = 4 ∨ (s.evr.held.filter fun h => h.src == r.src).length < holdPlaces r.src then
    { s with evr := { s.evr with held := s.evr.held ++ [r] } }
  else if r.src = 0 then (evrDrop 0 s).setReg Reg.EVR_LOGSTAT 0xA0000000#32
  else evrDrop r.src s

/-- A code of the per-region blocks ITE, CRD, PDS, DSU and OBS with an event flag (R395). -/
def blockFlag (code : Nat) : Bool :=
  (match code / 256 with
    | 0x04 | 0x05 | 0x06 | 0x07 | 0x11 => true
    | _ => false)
    && ((faultRow code).bind (·.event)).isSome

/-- A request that the runtime makes once it has read the block's event flag in P4; a flag that stands already brings no second one. -/
def evrFlag (r : LowReq) (s : State) : State :=
  if s.evr.flags.contains r then s else { s with evr := { s.evr with flags := s.evr.flags ++ [r] } }

/-- The runtime reads the event flags of the per-region blocks and records their codes (R395). -/
def readFlags (s : State) : State := s.evr.flags.foldl (fun s r => evrRequest r s) { s with evr := { s.evr with flags := [] } }

/-- Records a code with its ARG and sets its event bit in the block's (or channel's, or unit's) event register; the runtime records a code
of a per-region block in P4, while VCs run. -/
def noteAt (off code obj val : Nat) (s : State) : State :=
  let r : LowReq := ⟨srcOf code, code, argWord obj val⟩
  setEvent code off (if blockFlag code && s.sys.vcOn then evrFlag r s else evrRequest r s)

/-- Records a code of a block with one event register. -/
def note (code obj val : Nat) (s : State) : State := noteAt 0 code obj val s

/-- Records a code when a condition holds. -/
def noteIf (c : Bool) (code obj val : Nat) (s : State) : State := if c then note code obj val s else s

/-- Consecutive registers from `a` on take words. -/
def setRegs (a : Nat) (ws : List Word) (s : State) : State := (ws.zip (List.range ws.length)).foldl (fun s p => s.setReg (a + 4 * p.2) p.1) s

/-- Posts a NAND record of the runtime (R403): the body in EVR_NWIN, the result in EVR_NSTAT; a drop is counted and recorded with
0x0D03. -/
def postNand (ty : Nat) (body : List Byte) (s : State) : State :=
  let (s, ok) := stage ty body (setRegs Reg.EVR_NWIN (wordsOfBytes body) s)
  if ok then s.setReg Reg.EVR_NSTAT 0x80000000#32 else note 0x0D03 0 0 (s.setReg Reg.EVR_NSTAT 0xA0000000#32)

/-- A NAND record that the runtime forms in P1: it is posted in P4 (R403). -/
def recordLater (ty : Nat) (body : List Byte) (s : State) : State := { s with evr := { s.evr with posts := s.evr.posts ++ [(ty, body)] } }

end Sys2Proof.Machine
end

