-- ==== Sys2Proof/Machine/CvuOps.lean ====
section
/-!
DEFINITION. The check-value units: the CRC over bits, folds, stream modes (R365–R372).
-/
namespace Sys2Proof.Machine

/-- Unit `n`. -/
def State.unitC (s : State) (n : Nat) : Cvu := Tbl.get s.cvu n

/-- Replaces unit `n`. -/
def State.setUnitC (s : State) (n : Nat) (c : Cvu) : State := { s with cvu := Tbl.set s.cvu n c }

/-- A register of unit `n`. -/
def cvuReg (n a : Nat) (s : State) : Word := s.reg (a + 0x100 * n)

/-- CVU_CONF of unit `n`. -/
def cvuConf (n : Nat) (s : State) : Word := cvuReg n Reg.CVU_CONF s

/-- W. -/
def cvuW (n : Nat) (s : State) : Nat := field (cvuConf n s) 6 0

/-- The low W bits of a 64-bit value. -/
def lowBits (w : Nat) (v : BitVec 64) : BitVec 64 := v &&& BitVec.ofNat 64 (2 ^ w - 1)

/-- A register pair as one 64-bit value. -/
def cvuPair (n a : Nat) (s : State) : BitVec 64 := (cvuReg n a s).setWidth 64 ||| ((cvuReg n (a + 4) s).setWidth 64 <<< 32)

/-- Reflection over the low `n` bits. -/
def reflect (n : Nat) (v : BitVec 64) : BitVec 64 :=
  (List.range n).foldl (fun r i => setBit r (n - 1 - i) (bitAt v i)) 0#64

/-- One bit shifted into a CRC register of `w` bits. -/
def crcShift (w : Nat) (poly crc : BitVec 64) (b : Bool) : BitVec 64 :=
  let top := bitAt crc (w - 1) != b
  let c := lowBits w (crc <<< 1)
  if top then c ^^^ lowBits w poly else c

/-- One byte fed, most significant bit first, reflected before where REFIN is 1. -/
def crcFeed (w : Nat) (refin : Bool) (poly crc : BitVec 64) (b : Byte) : BitVec 64 :=
  (List.range 8).foldl (fun c i => crcShift w poly c (bitAt b (if refin then i else 7 - i))) crc

/-- One byte into the unit's CRC register. -/
def cvuFeed (n : Nat) (s : State) (crc : BitVec 64) (b : Byte) : BitVec 64 :=
  crcFeed (cvuW n s) (bitAt (cvuConf n s) 28) (cvuPair n Reg.CVU_POLY_LO s) crc b

/-- A fold value's bytes. -/
def foldBytes (be : Bool) (len : Nat) (w : Word) : List Byte :=
  let bs := (le4 w).take len
  if be then bs.reverse else bs

/-- The bytes folded at START (R367). -/
def cvuFold (n : Nat) (s : State) : List Byte :=
  let c := cvuConf n s
  let sq := foldBytes (bitAt c 23) (if bitAt c 22 then 4 else 2) (cvuReg n Reg.CVU_FSEQ s)
  let al := foldBytes (bitAt c 23) (if bitAt c 21 then 2 else 1) (cvuReg n Reg.CVU_FALIVE s)
  match field c 25 24 with
  | 0 => []
  | 1 => sq
  | 2 => al
  | _ => sq ++ al

/-- The length of the check in bytes. -/
def checkLen (n : Nat) (s : State) : Nat := (cvuW n s + 7) / 8

/-- A code of a unit. -/
def cvuNote (n code : Nat) (s : State) : State := noteAt (0x100 * n) code 13 n s

/-- A 64-bit free value, for a result the spec leaves open. -/
def free64 (s : State) : BitVec 64 × State :=
  let (a, s) := s.takeFree
  let (b, s) := s.takeFree
  (b ++ a, s)

/-- The stream is discarded (R369, R370). -/
def cvuDiscard (n : Nat) (s : State) : State :=
  cvuNote n 0x0B02 (s.setUnitC n { s.unitC n with open_ := false, done := false, held := [] })

/-- START (R369). The spec keeps RESULT, CHECK and APPEND until the next START and does not say what they read from then until
FINISH: free values. -/
def cvuStart (n : Nat) (s : State) : State :=
  let s := if (s.unitC n).open_ then cvuNote n 0x0B02 s else s
  let (r, s) := free64 s
  let (k, s) := free64 s
  let (a, s) := free64 s
  let init := lowBits (cvuW n s) (cvuPair n Reg.CVU_INIT_LO s)
  let crc := (cvuFold n s).foldl (cvuFeed n s) init
  s.setUnitC n { s.unitC n with
    open_ := true, done := false, matched := false, short := false, held := [], count := 0, crc := crc, result := r, check := k, append := a }

/-- One data byte (R368). -/
def cvuByte (n : Nat) (s : State) (b : Byte) : State :=
  let c := s.unitC n
  let c := { c with count := satInc c.count }
  if field (cvuConf n s) 31 30 = 2 then
    match c.held ++ [b] with
    | h :: t =>
      if checkLen n s ≤ t.length then s.setUnitC n { c with held := t, crc := cvuFeed n s c.crc h }
      else s.setUnitC n { c with held := h :: t }
    | [] => s
  else s.setUnitC n { c with crc := cvuFeed n s c.crc b }

/-- A data write (R366, R369): the bytes in the order of DBE. -/
def cvuData (n len : Nat) (w : Word) (s : State) : State :=
  if (s.unitC n).failed then s
  else if (s.unitC n).open_ then (foldBytes (bitAt (cvuConf n s) 26) len w).foldl (cvuByte n) s
  else cvuNote n 0x0B03 s

/-- A value of check bytes in transmission order, byte 0 in [7:0], as a 64-bit word. -/
def packBytes (bs : List Byte) : BitVec 64 := BitVec.ofNat 64 (ofLe bs)

/-- The check bytes of a result in the order of CHKBE. -/
def checkBytes (n : Nat) (s : State) (r : BitVec 64) : List Byte :=
  let bs := (List.range (checkLen n s)).map fun i => byte (r.toNat >>> (8 * i))
  if bitAt (cvuConf n s) 29 then bs.reverse else bs

/-- FALIVE incremented at FINISH (R367). -/
def cvuAlive (n : Nat) (s : State) : State :=
  let c := cvuConf n s
  let a := Reg.CVU_FALIVE + 0x100 * n
  let hi := if bitAt c 21 then 15 else 7
  if bitAt c 20 then s.setRegF a hi 0 (s.regF a hi 0 + 1) else s

/-- FINISH of an open stream (R365, R368). -/
def cvuFinish (n : Nat) (s : State) : State :=
  let c := s.unitC n
  let w := cvuW n s
  let r := if bitAt (cvuConf n s) 27 then reflect w c.crc else c.crc
  let r := r ^^^ lowBits w (cvuPair n Reg.CVU_XOR_LO s)
  let c := { c with result := r, done := true, open_ := false }
  let (c, s) : Cvu × State := match field (cvuConf n s) 31 30 with
    | 1 => ({ c with append := packBytes (checkBytes n s r) }, s)
    | 2 =>
      if c.held.length < checkLen n s then
        let (k, s) := free64 s
        ({ c with check := k, short := true, matched := false }, s)
      else
        let v := packBytes (if bitAt (cvuConf n s) 29 then c.held.reverse else c.held)
        ({ c with check := v, matched := v == r }, s)
    | _ => (c, s)
  cvuAlive n (s.setUnitC n { c with held := [] })

end Sys2Proof.Machine
end

