-- ==== Sys2Proof/Machine/CheckUnits.lean ====
section
/-!
DEFINITION. The commands of the check-value units. A unit whose self-check has failed ignores every write (R372).
-/
namespace Sys2Proof.Machine

/-- CVU_START (R369). -/
def execCvuStart (unit : Nat) (s : State) : Host.Outcome State Fault Refusal :=
  .next (if (s.unitC unit).failed then s else cvuStart unit s)

/-- CVU_FINISH (R369). -/
def execCvuFinish (unit : Nat) (s : State) : Host.Outcome State Fault Refusal :=
  let c := s.unitC unit
  .next (if c.failed then s else if c.open_ then cvuFinish unit s else cvuNote unit 0x0B03 s)

/-- CVU_ABORT (R369). -/
def execCvuAbort (unit : Nat) (s : State) : Host.Outcome State Fault Refusal :=
  let c := s.unitC unit
  .next (if c.failed then s else if c.open_ then cvuDiscard unit s else cvuNote unit 0x0B03 s)

/-- CVU_CTRL_INVALID (R369). -/
def execCvuCtrlInvalid (unit : Nat) (s : State) : Host.Outcome State Fault Refusal :=
  .next (if (s.unitC unit).failed then s else cvuNote unit 0x0B03 s)

/-- CVU_DATA8 (R366). -/
def execCvuData8 (unit : Nat) (w : Word) (s : State) : Host.Outcome State Fault Refusal := .next (cvuData unit 1 w s)

/-- CVU_DATA16 (R366). -/
def execCvuData16 (unit : Nat) (w : Word) (s : State) : Host.Outcome State Fault Refusal := .next (cvuData unit 2 w s)

/-- CVU_DATA32 (R366). -/
def execCvuData32 (unit : Nat) (w : Word) (s : State) : Host.Outcome State Fault Refusal := .next (cvuData unit 4 w s)

/-- CVU_CONF (R370). -/
def execCvuConf (unit : Nat) (w : Word) (s : State) : Host.Outcome State Fault Refusal :=
  let c := s.unitC unit
  if c.failed then .next s
  else if field w 6 0 = 0 ∨ 64 < field w 6 0 ∨ field w 31 30 = 3 then .next (cvuNote unit 0x0B01 s)
  else
    let s := if c.open_ then cvuDiscard unit s else s
    .next (s.setReg (Reg.CVU_CONF + 0x100 * unit) (w &&& 0xFFF0007F#32))

/-- CVU_PARAM_WRITE (R370): parameter 0–7 is POLY_LO, POLY_HI, INIT_LO, INIT_HI, XOR_LO, XOR_HI, FSEQ, FALIVE. -/
def execCvuParamWrite (unit param : Nat) (w : Word) (s : State) : Host.Outcome State Fault Refusal :=
  let c := s.unitC unit
  if c.failed then .next s
  else
    let s := if c.open_ then cvuDiscard unit s else s
    .next (s.setReg (Reg.CVU_POLY_LO + 0x100 * unit + 4 * param) (if param = 7 then w &&& 0xFFFF#32 else w))

end Sys2Proof.Machine
end

