-- ==== Sys2Proof/Machine/ObsOps.lean ====
section
/-!
DEFINITION. The observation blocks of the three regions: what counts an event, segments, tags, the link (R479–R488).
-/
namespace Sys2Proof.Machine

/-! ### Events (R479, R482) -/

/-- The selection register of a programmable counter. -/
def psel (s : State) (k : Nat) : Word := s.reg (Reg.OBS_PSEL + 4 * k)

/-- Region `k` is fenced or split out. -/
def obsOut (s : State) (k : Nat) : Bool := s.sys.fenced == some k || s.sys.split == some k

/-- The region whose OBS the cores' reads show: class A values are the same in every live one (R479). -/
def obsRef (s : State) : Nat := (([0, 1, 2].find? fun k => !obsOut s k)).getD 0

/-- The OBS of region `k`. -/
def State.obsOf (s : State) (k : Nat) : RegionObs := s.obs.regions.getD k RegionObs.zero

/-- The events whose occurrences the commands of this model are: 12–14, 22–25, 27–29, 31, 44–47, and the segments' cycles 56–71. -/
def obsCounted (i : Nat) : Bool := [12, 13, 14, 22, 23, 24, 25, 27, 28, 29, 31, 44, 45, 46, 47].contains i || decide (56 ≤ i)

/-- The events of class T (R482). -/
def obsClassT (i : Nat) : Bool :=
  [0, 4, 5, 15, 16, 20, 21, 22, 26, 46].contains i || decide (32 ≤ i ∧ i ≤ 43) || decide (48 ≤ i ∧ i ≤ 53) || decide (56 ≤ i)

/-- A counter after `n` more occurrences: it wraps from 2^64 − 1 to 0 (R484). -/
def countUp (v n : Nat) : Nat := (v + n) % 2 ^ 64

/-- A counter wraps with `n` more occurrences. -/
def wraps (v n : Nat) : Bool := decide (2 ^ 64 ≤ v + n)

/-- What programmable counter `j` counts of the occurrences of the events: those of the event it names, while it is enabled. -/
def prgInc (s : State) (inc : Nat → Nat) (j : Nat) : Nat := if bitAt (psel s j) 31 then inc (field (psel s j) 6 0) else 0

/-- One OBS counts `inc` of each event; a wrap sets the counter's overflow bit (R484). -/
def RegionObs.count (s : State) (inc : Nat → Nat) (o : RegionObs) : RegionObs :=
  { o with
    fix := (List.range 48).map fun i => countUp (o.fix.getD i 0) (inc i)
    prg := (List.range 8).map fun j => countUp (o.prg.getD j 0) (prgInc s inc j)
    ovf := o.ovf ||| bitsOf 56 fun b =>
      if b < 48 then wraps (o.fix.getD b 0) (inc b) else wraps (o.prg.getD (b - 48) 0) (prgInc s inc (b - 48)) }

/-- A wrap of a programmable counter that holds class T counts marks its overflow bit as theirs (R480). -/
def ovfTurn (s : State) (old new : List RegionObs) : BitVec 8 :=
  s.obs.ovfT ||| bitsOf 8 fun j =>
    bitAt s.obs.prgT j && (List.range 3).any fun k => bitAt (new.getD k RegionObs.zero).ovf (48 + j) && !bitAt (old.getD k RegionObs.zero).ovf (48 + j)

/-- Every region's OBS counts: region `k` counts `inc k i` occurrences of event `i`. -/
def obsAdd (inc : Nat → Nat → Nat) (s : State) : State :=
  let new := (List.range 3).map fun k => (s.obsOf k).count s (inc k)
  { s with obs := { s.obs with regions := new, ovfT := ovfTurn s s.obs.regions new } }

/-- Event `i` of class A occurs `n` times in every live region (R479). -/
def obsCount (i n : Nat) (s : State) : State := obsAdd (fun k e => if e = i ∧ !obsOut s k then n else 0) s

/-- Event `i` of class T occurs `n` times in region `k`. -/
def obsCountT (k i n : Nat) (s : State) : State := obsAdd (fun r e => if r = k ∧ e = i then n else 0) s

/-! ### What the model's commands do not count -/

/-- A free count of region `k`, event `i`; of a class A event one for every live region (R479; DESIGN CHOICE, log entry 47). -/
def freeCount (s : State) (k i : Nat) : Nat :=
  (Config.freeValue (s.freeCtr + i + (if obsClassT i || obsOut s k then 64 * (k + 1) else 0))).toNat

/-- The issue slots of region `k` by class, events 2–5, whose sum is even (R483). -/
def slotCount (s : State) (k i : Nat) : Nat :=
  let n (e : Nat) : Nat := freeCount s k e
  if i = 5 then n 5 + (n 2 + n 3 + n 4 + n 5) % 2 else n i

/-- What has passed of an event since the last look at the counters: slots and cycles keep 2 × CYCLES = their sum (R483), other events that
no command performs pass freely, and so does everything that a region which is out counts. -/
def passed (s : State) (k i : Nat) : Nat :=
  if i = 0 then (slotCount s k 2 + slotCount s k 3 + slotCount s k 4 + slotCount s k 5) / 2
  else if 2 ≤ i ∧ i ≤ 5 then slotCount s k i
  else if obsCounted i && !(obsOut s k && !obsClassT i) then 0
  else freeCount s k i

/-- The counters move on to the present. -/
def obsRun (s : State) : State := { obsAdd (passed s) s with freeCtr := s.freeCtr + 256 }

/-! ### Selections, segments, tags (R484–R487) -/

/-- A write of PSELk (R484): an event above 71 is ignored and recorded; the old event counts until the write. From the write on the counter
holds counts of the new event, beside those of the old one unless CLR clears them. -/
def pselWrite (k : Nat) (w : Word) (s : State) : State :=
  if 71 < field w 6 0 then note 0x1101 0 0 s
  else
    let s := (obsRun s).setReg (Reg.OBS_PSEL + 4 * k) (w &&& 0x8000007F#32)
    let s := if bitAt w 30 then { s with obs := { s.obs with regions := s.obs.regions.map fun o => { o with prg := o.prg.set k 0 } } } else s
    let t := (bitAt s.obs.prgT k && !bitAt w 30) || (bitAt w 31 && obsClassT (field w 6 0))
    { s with obs := { s.obs with prgT := setBit s.obs.prgT k t } }

/-- A write of OBS_OVF0 or OBS_OVF1: the bits written 1 are cleared in every region. -/
def ovfWrite (j : Nat) (w : Word) (s : State) : State :=
  let m : BitVec 56 := if j = 0 then w.setWidth 56 else (w &&& 0xFFFFFF#32).setWidth 56 <<< 32
  { s with obs := { s.obs with
    regions := s.obs.regions.map fun o => { o with ovf := o.ovf &&& ~~~m }, ovfT := s.obs.ovfT &&& ~~~(m >>> 48).setWidth 8 } }

/-- A write of OBS_MARK (R486): a segment 1–15 in P1. -/
def markWrite (w : Word) (s : State) : State :=
  if s.sys.phase = 1 ∧ 1 ≤ field w 3 0 then
    { s with obs := { s.obs with seg := field w 3 0, segs := setBit s.obs.segs (field w 3 0) true } }
  else note 0x1102 0 0 s

/-- An interval is drawn from the generator (R487). -/
def tagDraw (s : State) : State :=
  { s with obs := { s.obs with tagLeft := Config.tagInterval s.obs.tagGen (s.regF Reg.OBS_TAGCTL 12 8) } }

/-- A write of OBS_TAGCTL (R487): an exponent out of 4–20 is ignored and recorded; with EN set an interval is drawn. -/
def tagctlWrite (w : Word) (s : State) : State :=
  if field w 12 8 < 4 ∨ 20 < field w 12 8 then note 0x1101 0 0 s
  else
    let s := s.setReg Reg.OBS_TAGCTL ((s.reg Reg.OBS_TAGCTL &&& 0xFFFF0000#32) ||| (w &&& 0x1F01#32))
    if bitAt w 0 then tagDraw s else s

/-- A write of OBS_TAGSEED: the generator takes the seed at the write; 0 is read as 1. -/
def seedWrite (w : Word) (s : State) : State :=
  let seed := if w = 0 then 1 else w
  tagDraw ({ s with obs := { s.obs with tagGen := seed } }.setReg Reg.OBS_TAGSEED seed)

/-- The instruction at the end of the interval retires and is tagged (R487): its record; one that the link has not carried is replaced and
counted. The generator moves on and the next interval is drawn. -/
def tagRetire (pc : Word) (slotClass issueSlot fetchToIssue issueToRetire stall : Nat) (s : State) : State :=
  if !s.regB Reg.OBS_TAGCTL 0 then s
  else
    let lost := s.obs.tagValid && !s.obs.tagRead
    let s := if lost then s.setRegF Reg.OBS_TAGCTL 31 16 (min 0xFFFF (s.regF Reg.OBS_TAGCTL 31 16 + 1)) else s
    let s := (((s.setReg Reg.OBS_TAGREC pc).setReg (Reg.OBS_TAGREC + 4) (word (fetchToIssue % 65536 * 65536 + issueToRetire % 65536))).setReg
      (Reg.OBS_TAGREC + 8) (word (stall % 256 * 256 + issueSlot % 2 * 16 + slotClass % 4 * 4))).setReg (Reg.OBS_TAGREC + 12)
      (s.sys.vcn &&& 0xFFFF#32)
    obsCount 31 1 (tagDraw { s with obs := { s.obs with tagValid := true, tagRead := false, tagGen := Config.tagNext s.obs.tagGen } })

/-- The model's own counts stand for an event, so that its counters wrap where they count. -/
def obsOwn (i : Nat) : Bool := obsCounted i && !obsClassT i

/-- An OBS in which a counter has wrapped (R484): 0–47 fixed, 48–55 programmable. -/
def RegionObs.wrapped (n : Nat) (o : RegionObs) : RegionObs :=
  { o with fix := if n < 48 then o.fix.set n 0 else o.fix, prg := if n < 48 then o.prg else o.prg.set (n - 48) 0, ovf := setBit o.ovf n true }

/-- A counter wraps (R484): of a class A event in every live region, of a class T event in one of them, which the command does not name (a
free value: DESIGN CHOICE, log entry 47). A counter that the model counts itself has wrapped in its count, and a programmable one counts
only while it is enabled. -/
def counterWrap (n : Nat) (s : State) : State :=
  let e := if n < 48 then n else field (psel s (n - 48)) 6 0
  if 56 ≤ n || obsOwn e || (decide (48 ≤ n) && !bitAt (psel s (n - 48)) 31) then s
  else
    let (w, s) := s.takeFree
    let new := (List.range 3).map fun k =>
      if (if obsClassT e then k == w.toNat % 3 else !obsOut s k) then (s.obsOf k).wrapped n else s.obsOf k
    { s with obs := { s.obs with regions := new, ovfT := ovfTurn s s.obs.regions new } }

/-! ### The observation link (R488) -/

/-- Consecutive registers. -/
def obsRegs (s : State) (a n : Nat) : List Word := (List.range n).map fun j => s.reg (a + 4 * j)

/-- The link image of region `k`'s OBS at the VC start (R488). -/
def linkImage (s : State) (k : Nat) : ObsImage :=
  let o := s.obsOf k
  { region := k, vcn := s.sys.vcn, fix := o.fix, prg := o.prg
    words := obsRegs s Reg.OBS_PSEL 8 ++ o.segl ++ o.segh ++ obsRegs s Reg.OBS_TAGREC 8 ++ [o.ovf.setWidth 32, (o.ovf >>> 32).setWidth 32] }

/-- The 688 bytes of an image (R488): region, VCN, counters, words, zeros, and the CRC-32C at the end. The order of the parts is not the
spec's (DESIGN CHOICE, log entry 150). -/
def ObsImage.bytes (m : ObsImage) : List Byte :=
  let b := le4 (word m.region) ++ le4 m.vcn ++ (m.fix ++ m.prg).flatMap le8 ++ m.words.flatMap le4
  let b := b ++ List.replicate (684 - b.length) 0#8
  b ++ le4 (crc32c b)

/-- The link carries the images of this VC to the SP, which serves the last valid one of each region (R488): on a link that disturbs none,
every one is valid (DESIGN CHOICE, log entry 150). -/
def linkSend (s : State) : State :=
  { s with obs := { s.obs with linkSent := true, served := if s.sys.sp.reset then s.obs.served else s.obs.images } }

/-- The P1 boundary (R486): segment 0 is current until the first mark. -/
def segStart (s : State) : State := { s with obs := { s.obs with seg := 0, segs := 1 } }

/-- OBS at the VC start (R488): the counters stand as they are then, the images are frozen, the tag record is on the link. A region that was
out in the VC that ends has counted it (event 46). -/
def obsStart (s : State) : State :=
  let s := obsAdd (fun k i => if i = 46 ∧ obsOut s k then 1 else 0) (obsRun s)
  let im := [0, 1, 2].map (linkImage s)
  obsCount 47 1 { s with obs := { s.obs with images := im, tagRead := true, linkSent := false } }

/-- The cycles of segment `j` in region `k`: measured, a free 18-bit value (DESIGN CHOICE, log entry 47); none where the segment has not been
opened in this P1. -/
def segCycles (s : State) (k j : Nat) : Word := if bitAt s.obs.segs j then Config.freeValue (s.freeCtr + 16 * k + j) &&& 0x3FFFF#32 else 0

/-- SEGMENT_LATCH (R486): at 350 µs each region moves its counts into OBS_SEGL and raises OBS_SEGH; programmable counters have counted the
cycles as events 56–71. -/
def segmentLatch (s : State) : State :=
  let n := segCycles s
  let s := obsAdd (fun k i => if 56 ≤ i ∧ i < 72 then (n k (i - 56)).toNat else 0) s
  let new := (List.range 3).map fun k =>
    let o := s.obsOf k
    { o with segl := (List.range 16).map (n k), segh := (List.range 16).map fun j => maxWord (o.segh.getD j 0) (n k j) }
  { s with obs := { s.obs with regions := new }, freeCtr := s.freeCtr + 48 }
where
  /-- The greater of two words. -/
  maxWord (a b : Word) : Word := if a.toNat < b.toNat then b else a

/-- The rejoining region takes the class A counters of a live one, of the programmable ones those that hold no class T counts; its class T
counters restart from 0 (R481). -/
def obsRejoin (k : Nat) (s : State) : State :=
  let o := s.obsOf (obsRef s)
  let new : RegionObs := { RegionObs.zero with
    fix := (List.range 48).map fun i => if obsClassT i then 0 else o.fix.getD i 0
    prg := (List.range 8).map fun j => if bitAt s.obs.prgT j then 0 else o.prg.getD j 0
    ovf := bitsOf 56 fun b => bitAt o.ovf b && !(if b < 48 then obsClassT b else bitAt s.obs.ovfT (b - 48)) }
  { s with obs := { s.obs with regions := s.obs.regions.set k new } }

end Sys2Proof.Machine
end

