-- ==== Sys2Proof/Machine/Crypto.lean ====
section
/-!
DEFINITION. The standard functions that the spec names and does not spell out (R128, R458–R464): SHA-384 and its HMAC and HKDF, ECDSA
and key agreement on the curve P-384, AES-256 in Galois/Counter Mode. Numbers are read most significant byte first, as R461 says of
keys and signatures (PRESUMED, log entry 152).
-/
namespace Sys2Proof

/-- `n` bytes of a number, most significant first. -/
def beBytes (n v : Nat) : List Byte := ((List.range n).map fun i => byte (v >>> (8 * i))).reverse

/-- Applies `f` to `n`, which an evaluation finds first. -/
def seq {α : Type} (n : Nat) (f : Nat → α) : α := match n with
  | 0 => f 0
  | k + 1 => f (k + 1)

/-! ### SHA-384, HMAC, HKDF -/

/-- A 64-bit sum. -/
def add64 (a b : Nat) : Nat := (a + b) % 2 ^ 64

/-- A 64-bit rotation to the right. -/
def ror64 (x n : Nat) : Nat := (x >>> n) ||| ((x <<< (64 - n)) % 2 ^ 64)

/-- The round constants of SHA-384. -/
def shaK : List Nat :=
  [0x428A2F98D728AE22, 0x7137449123EF65CD, 0xB5C0FBCFEC4D3B2F, 0xE9B5DBA58189DBBC, 0x3956C25BF348B538,
    0x59F111F1B605D019, 0x923F82A4AF194F9B, 0xAB1C5ED5DA6D8118, 0xD807AA98A3030242, 0x12835B0145706FBE,
    0x243185BE4EE4B28C, 0x550C7DC3D5FFB4E2, 0x72BE5D74F27B896F, 0x80DEB1FE3B1696B1, 0x9BDC06A725C71235,
    0xC19BF174CF692694, 0xE49B69C19EF14AD2, 0xEFBE4786384F25E3, 0xFC19DC68B8CD5B5, 0x240CA1CC77AC9C65,
    0x2DE92C6F592B0275, 0x4A7484AA6EA6E483, 0x5CB0A9DCBD41FBD4, 0x76F988DA831153B5, 0x983E5152EE66DFAB,
    0xA831C66D2DB43210, 0xB00327C898FB213F, 0xBF597FC7BEEF0EE4, 0xC6E00BF33DA88FC2, 0xD5A79147930AA725,
    0x6CA6351E003826F, 0x142929670A0E6E70, 0x27B70A8546D22FFC, 0x2E1B21385C26C926, 0x4D2C6DFC5AC42AED,
    0x53380D139D95B3DF, 0x650A73548BAF63DE, 0x766A0ABB3C77B2A8, 0x81C2C92E47EDAEE6, 0x92722C851482353B]
  ++ [0xA2BFE8A14CF10364, 0xA81A664BBC423001, 0xC24B8B70D0F89791, 0xC76C51A30654BE30, 0xD192E819D6EF5218,
    0xD69906245565A910, 0xF40E35855771202A, 0x106AA07032BBD1B8, 0x19A4C116B8D2D0C8, 0x1E376C085141AB53,
    0x2748774CDF8EEB99, 0x34B0BCB5E19B48A8, 0x391C0CB3C5C95A63, 0x4ED8AA4AE3418ACB, 0x5B9CCA4F7763E373,
    0x682E6FF3D6B2B8A3, 0x748F82EE5DEFB2FC, 0x78A5636F43172F60, 0x84C87814A1F0AB72, 0x8CC702081A6439EC,
    0x90BEFFFA23631E28, 0xA4506CEBDE82BDE9, 0xBEF9A3F7B2C67915, 0xC67178F2E372532B, 0xCA273ECEEA26619C,
    0xD186B8C721C0C207, 0xEADA7DD6CDE0EB1E, 0xF57D4F7FEE6ED178, 0x6F067AA72176FBA, 0xA637DC5A2C898A6,
    0x113F9804BEF90DAE, 0x1B710B35131C471B, 0x28DB77F523047D84, 0x32CAAB7B40C72493, 0x3C9EBE0A15C9BEBC,
    0x431D67C49C100D4C, 0x4CC5D4BECB3E42B6, 0x597F299CFC657E2A, 0x5FCB6FAB3AD6FAEC, 0x6C44198C4A475817]

/-- The message schedule, newest word first, as a sliding window of 16 words; `n` rounds with their constants on the working words. -/
def shaRounds : List Nat → List Nat → List Nat → List Nat
  | k :: ks, [w0, w1, w2, w3, w4, w5, w6, w7, w8, w9, w10, w11, w12, w13, w14, w15], [a, b, c, d, e, f, g, h] =>
    let s1 := ror64 e 14 ^^^ ror64 e 18 ^^^ ror64 e 41
    let ch := (e &&& f) ^^^ ((2 ^ 64 - 1 - e) &&& g)
    let s0 := ror64 a 28 ^^^ ror64 a 34 ^^^ ror64 a 39
    let maj := (a &&& b) ^^^ (a &&& c) ^^^ (b &&& c)
    let z0 := ror64 w1 1 ^^^ ror64 w1 8 ^^^ (w1 >>> 7)
    let z1 := ror64 w14 19 ^^^ ror64 w14 61 ^^^ (w14 >>> 6)
    seq (add64 (h + s1) (ch + k + w0)) fun t => seq (add64 t (s0 + maj)) fun a' => seq (add64 d t) fun e' =>
      seq (add64 (w0 + z0) (w9 + z1)) fun w16 =>
        shaRounds ks [w1, w2, w3, w4, w5, w6, w7, w8, w9, w10, w11, w12, w13, w14, w15, w16] [a', a, b, c, e', e, f, g]
  | _, _, v => v

/-- The initial hash value of SHA-384. -/
def shaInit : List Nat :=
  [0xCBBB9D5DC1059ED8, 0x629A292A367CD507, 0x9159015A3070DD17, 0x152FECD8F70E5939, 0x67332667FFC00B31,
    0x8EB44A8768581511, 0xDB0C2E0D64F98FA7, 0x47B5481DBEFA4FA4]

/-- The 64-bit words of bytes. -/
def words64 : Nat → List Byte → List Nat
  | 0, _ => []
  | n + 1, bs => ofBe (bs.take 8) :: words64 n (bs.drop 8)

/-- The blocks of a padded message, one by one. -/
def shaBlocks : Nat → List Byte → List Nat → List Nat
  | 0, _, v => v
  | n + 1, bs, v => shaBlocks n (bs.drop 128) (List.zipWith add64 v (shaRounds shaK (words64 16 bs) v))

/-- SHA-384: 48 bytes. -/
def sha384 (bs : List Byte) : List Byte :=
  let n := (bs.length + 144) / 128
  let padded := bs ++ [0x80#8] ++ List.replicate (n * 128 - bs.length - 17) 0#8 ++ beBytes 16 (8 * bs.length)
  ((shaBlocks n padded shaInit).take 6).flatMap (beBytes 8)

/-- HMAC-SHA-384. -/
def hmac384 (key msg : List Byte) : List Byte :=
  let k := (if key.length ≤ 128 then key else sha384 key)
  let k := k ++ List.replicate (128 - k.length) 0#8
  sha384 (k.map (· ^^^ 0x5C#8) ++ sha384 (k.map (· ^^^ 0x36#8) ++ msg))

/-- The first block of HKDF-SHA-384 with empty info: 48 bytes. -/
def hkdf384 (salt ikm : List Byte) : List Byte := hmac384 (hmac384 salt ikm) [1#8]

/-! ### P-384 -/

/-- The field's prime. -/
def pP : Nat := 2 ^ 384 - 2 ^ 128 - 2 ^ 96 + 2 ^ 32 - 1

/-- The order of the base point. -/
def pN : Nat := 0xFFFFFFFFFFFFFFFFFFFFFFFFFFFFFFFFFFFFFFFFFFFFFFFFC7634D81F4372DDF581A0DB248B0A77AECEC196ACCC52973

/-- The curve's coefficient b; a is -3. -/
def pB : Nat := 0xB3312FA7E23EE7E4988E056BE3F82D19181D9C6EFE8141120314088F5013875AC656398D8A2ED19D2A85C8EDD3EC2AEF

/-- The base point. -/
def pG : Nat × Nat × Nat :=
  (0xAA87CA22BE8B05378EB1C71EF320AD746E1D3B628BA79B9859F741E082542A385502F25DBF55296C3A545E3872760AB7,
   0x3617DE4A96262C6F5D9E98BF9292DC29F8F41DBD289A147CE9DA3113B5F0B8C00A60B1CE1D7E819D7A431D7C90EA0E5F, 1)

/-- A power modulo `m`, by the bits of the exponent from bit `n - 1` down. -/
def powMod (m a e : Nat) : Nat → Nat → Nat
  | 0, r => r
  | n + 1, r => seq (if e.testBit n then r * r % m * a % m else r * r % m) fun r => powMod m a e n r

/-- The inverse modulo a prime. -/
def invMod (m a : Nat) : Nat := powMod m (a % m) (m - 2) 384 1

/-- The sum of two points in projective coordinates, by the complete formula; the neutral point is (0, 1, 0). -/
def pAdd (p q : Nat × Nat × Nat) : Nat × Nat × Nat :=
  let (x1, y1, z1) := p
  let (x2, y2, z2) := q
  let sub (a b : Nat) : Nat := (a + (pP - b % pP)) % pP
  seq (x1 * x2 % pP) fun t0 => seq (y1 * y2 % pP) fun t1 => seq (z1 * z2 % pP) fun t2 =>
  seq (sub ((x1 + y1) * (x2 + y2)) (t0 + t1)) fun t3 => seq (sub ((x1 + z1) * (x2 + z2)) (t0 + t2)) fun t4 =>
  seq (sub ((y1 + z1) * (y2 + z2)) (t1 + t2)) fun t5 =>
  seq (sub (3 * pB * t2) (3 * t4)) fun z => seq (sub t1 z) fun x => seq ((t1 + z) % pP) fun z' =>
  seq (sub (3 * t0) (3 * t2)) fun u => seq ((3 * pB * t4 + (pP - 3) * ((t0 + 3 * t2) % pP)) % pP) fun v =>
  seq (sub (t3 * x) (t5 * v)) fun x3 => seq ((x * z' + u * v) % pP) fun y3 => seq ((t5 * z' + t3 * u) % pP) fun z3 => (x3, y3, z3)

/-- The sum of the multiples `a` of `p` and `b` of `q`, by the bits from bit `n - 1` down. -/
def pMul2 (a b : Nat) (p q pq : Nat × Nat × Nat) : Nat → Nat × Nat × Nat → Nat × Nat × Nat
  | 0, r => r
  | n + 1, r =>
    let d := pAdd r r
    pMul2 a b p q pq n (match a.testBit n, b.testBit n with
      | false, false => d
      | true, false => pAdd d p
      | false, true => pAdd d q
      | true, true => pAdd d pq)

/-- A multiple of a point. -/
def pMul (k : Nat) (p : Nat × Nat × Nat) : Nat × Nat × Nat := pMul2 k 0 p p p 384 (0, 1, 0)

/-- The affine x coordinate. -/
def pX (p : Nat × Nat × Nat) : Nat := p.1 * invMod pP p.2.2 % pP

/-- The point of an uncompressed public key; none where the 97 bytes do not spell a point of the curve. -/
def pointOf (key : List Byte) : Option (Nat × Nat × Nat) :=
  let x := ofBe ((key.drop 1).take 48)
  let y := ofBe ((key.drop 49).take 48)
  if key.length = 97 ∧ key.head? = some 4#8 ∧ x < pP ∧ y < pP ∧ (y * y + 3 * x) % pP = (x * x * x + pB) % pP then some (x, y, 1) else none

/-- ECDSA on P-384: a signature r, s of 96 bytes over a digest verifies with a public key. -/
def ecdsaVerify (key digest sig : List Byte) : Bool :=
  let r := ofBe (sig.take 48)
  let t := ofBe (sig.drop 48)
  match pointOf key with
  | none => false
  | some q =>
    decide (sig.length = 96 ∧ 1 ≤ r ∧ r < pN ∧ 1 ≤ t ∧ t < pN) &&
      seq (invMod pN t) fun w =>
        let p := pMul2 (ofBe digest * w % pN) (r * w % pN) pG q (pAdd pG q) 384 (0, 1, 0)
        p.2.2 != 0 && pX p % pN == r

/-- The ECDSA signature of a digest with a private key and a one-time number. -/
def ecdsaSign (d k : Nat) (digest : List Byte) : List Byte :=
  let r := pX (pMul k pG) % pN
  beBytes 48 r ++ beBytes 48 (invMod pN k * (ofBe digest + r * d) % pN)

/-- The secret that a private key and a public key agree on: the x coordinate of their product. -/
def agree384 (d : Nat) (key : List Byte) : Option (List Byte) := (pointOf key).map fun q => beBytes 48 (pX (pMul d q))

/-! ### AES-256 in Galois/Counter Mode -/

/-- The substitution of AES, byte `x` at bits [8x+7:8x]. -/
def aesSbox (x : Nat) : Nat :=
  (0x16BB54B00F2D99416842E6BF0D89A18CDF2855CEE9871E9B948ED9691198F8E19E1DC186B95735610EF6034866B53E708A8BBD4B1F74DDE8C6B4A61C2E2578BA08AE7A65EAF4566CA94ED58D6D37C8E779E4959162ACD3C25C2406490A3A32E0DB0B5EDE14B8EE4688902A22DC4F816073195D643D7EA7C41744975FEC130CCDD2F3FF1021DAB6BCF5389D928F40A351A89F3C507F02F94585334D43FBAAEFD0CF584C4A39BECB6A5BB1FC20ED00D153842FE329B3D63B52A05A6E1B1A2C830975B227EBE28012079A059618C323C7041531D871F1E5A534CCF73F362693FDB7C072A49CAFA2D4ADF04759FA7DC982CA76ABD7FE2B670130C56F6BF27B777C63 >>> (8 * x)) % 256

/-- A byte doubled in the field of AES. -/
def aesDouble (x : Nat) : Nat := if x < 128 then 2 * x else (2 * x) ^^^ 0x11B

/-- A key word of the schedule with its four bytes substituted. -/
def aesSub (w : Nat) : Nat := (List.range 4).foldl (fun a i => a + aesSbox ((w >>> (8 * i)) % 256) * 256 ^ i) 0

/-- The key schedule of AES-256: the window of the last eight words goes on by `n` words from index `i`; all words, oldest first. -/
def aesExpand : Nat → Nat → List Nat → List Nat
  | 0, _, w => w
  | n + 1, i, w =>
    let p := w.getD 7 0
    let t := if i % 8 = 0 then aesSub ((p <<< 8) % 2 ^ 32 + p >>> 24) ^^^ ((2 ^ (i / 8 - 1)) <<< 24) else if i % 8 = 4 then aesSub p else p
    seq (w.headD 0 ^^^ t) fun x => w.headD 0 :: aesExpand n (i + 1) (w.drop 1 ++ [x])

/-- The 15 round keys, 16 bytes each. -/
def aesKeys (key : List Byte) : List (List Nat) :=
  let ws := aesExpand 52 8 ((List.range 8).map fun i => ofBe ((key.drop (4 * i)).take 4))
  (List.range 15).map fun r => ((ws.drop (4 * r)).take 4).flatMap fun w => (beBytes 4 w).map (·.toNat)

/-- Substitution and row shift of the 16 bytes of a state. -/
def aesShift (st : List Nat) : List Nat := (List.range 16).map fun i => aesSbox (st.getD ((i + 4 * (i % 4)) % 16) 0)

/-- The column mix. -/
def aesMix : List Nat → List Nat
  | a :: b :: c :: d :: t =>
    let m (x y z w : Nat) : Nat := aesDouble x ^^^ (aesDouble y ^^^ y) ^^^ z ^^^ w
    m a b c d :: m b c d a :: m c d a b :: m d a b c :: aesMix t
  | _ => []

/-- The rounds of AES with the round keys that remain. -/
def aesRounds : List (List Nat) → List Nat → List Nat
  | [], st => st
  | [k], st => List.zipWith (· ^^^ ·) (aesShift st) k
  | k :: ks, st => aesRounds ks (List.zipWith (· ^^^ ·) (aesMix (aesShift st)) k)

/-- AES-256 of one block with the expanded key. -/
def aesBlock (ks : List (List Nat)) (b : List Byte) : List Byte :=
  match ks with
  | [] => b
  | k :: ks => (aesRounds ks (List.zipWith (· ^^^ ·) (b.map (·.toNat)) k)).map byte

/-- The product in the field of Galois/Counter Mode, by the bits of `x` from bit `n - 1` down. -/
def gcmMul (x : Nat) : Nat → Nat → Nat → Nat
  | 0, _, z => z
  | n + 1, v, z =>
    seq (if x.testBit n then z ^^^ v else z) fun z =>
      seq (if v.testBit 0 then (v >>> 1) ^^^ (0xE1 <<< 120) else v >>> 1) fun v => gcmMul x n v z

/-- The hash of Galois/Counter Mode over `n` blocks, each filled up with zeros. -/
def ghash (h : Nat) : Nat → List Byte → Nat → Nat
  | 0, _, y => y
  | n + 1, bs, y => seq (gcmMul (y ^^^ ofBe (bs.take 16 ++ List.replicate (16 - bs.length) 0#8)) 128 h 0) fun y => ghash h n (bs.drop 16) y

/-- Counter mode over `n` blocks, with the counter value of the first one. -/
def gcmCounter (ks : List (List Nat)) (nonce : List Byte) : Nat → Nat → List Byte → List Byte
  | 0, _, _ => []
  | n + 1, c, bs => List.zipWith (· ^^^ ·) bs (aesBlock ks (nonce ++ beBytes 4 c)) ++ gcmCounter ks nonce n (c + 1) (bs.drop 16)

/-- The 16-byte tag of a ciphertext with its additional data. -/
def gcmTag (ks : List (List Nat)) (nonce aad text : List Byte) : List Byte :=
  let h := ofBe (aesBlock ks (List.replicate 16 0#8))
  let blocks (bs : List Byte) : Nat := (bs.length + 15) / 16
  let y := ghash h (blocks text) text (ghash h (blocks aad) aad 0)
  let y := gcmMul (y ^^^ (8 * aad.length * 2 ^ 64 + 8 * text.length)) 128 h 0
  List.zipWith (· ^^^ ·) (beBytes 16 y) (aesBlock ks (nonce ++ beBytes 4 1))

/-- AES-256-GCM with a 12-byte nonce: the plaintext of a ciphertext that ends with its tag; none where the tag is wrong. -/
def gcmOpen (key nonce aad data : List Byte) : Option (List Byte) :=
  let ks := aesKeys key
  let text := data.take (data.length - 16)
  if 16 ≤ data.length ∧ gcmTag ks nonce aad text = data.drop (data.length - 16) then
    some (gcmCounter ks nonce ((text.length + 15) / 16) 2 text)
  else none

end Sys2Proof
end

