-- ==== Sys2Proof/Machine/MantleOps.lean ====
section
/-!
DEFINITION. Mantle's shared operations: its parameter table, its rules, its lines, its vector, its counters and its states
(R103–R128).
-/
namespace Sys2Proof.Machine

/-! ### Parameter table (R126, R127) -/

/-- A byte of the table in the load port. -/
def mtB (m : Mnt) (off : Nat) : Nat := (Tbl.get m.tab off).toNat
/-- Two bytes of the table, most significant first. -/
def mtH (m : Mnt) (off : Nat) : Nat := 256 * mtB m off + mtB m (off + 1)
/-- Four bytes of the table, most significant first. -/
def mtW (m : Mnt) (off : Nat) : Nat := 65536 * mtH m off + mtH m (off + 2)

/-- USE of FI(64 + i). -/
def mUse (m : Mnt) (i : Nat) : Nat := mtB m (64 + i) / 16
/-- Edge of FI(64 + i). -/
def mEdge (m : Mnt) (i : Nat) : Nat := mtB m (64 + i) % 8
/-- Declared units of an edge. -/
def mUnits (m : Mnt) (e : Nat) : Nat := mtH m (96 + 8 * e)
/-- ZS_HOLD of an edge. -/
def mZsHold (m : Mnt) (e : Nat) : Nat := mtH m (98 + 8 * e)
/-- LOOP_LIM, BERTH_LIM, ZSPD_LIM of an edge. -/
def mLoopLim (m : Mnt) (e : Nat) : Nat := mtB m (100 + 8 * e)
def mBerthLim (m : Mnt) (e : Nat) : Nat := mtB m (101 + 8 * e)
def mZspdLim (m : Mnt) (e : Nat) : Nat := mtB m (102 + 8 * e)
/-- SEAL_ID of a door bus. -/
def mBusSeal (m : Mnt) (e : Nat) : Nat := mtW m (160 + 4 * e)
/-- Number of connection records. -/
def mNConn (m : Mnt) : Nat := mtH m 16
/-- The record of an object controller (kind 0) or host connection (kind 1). -/
def mConn (m : Mnt) (kind number : Nat) : Option Nat :=
  (List.range (min (mNConn m) 136)).find? fun j => mtB m (196 + 72 * j) == kind && mtB m (197 + 72 * j) == number
/-- SEAL_ID of a connection record. -/
def mConnSeal (m : Mnt) (j : Nat) : Nat := mtW m (192 + 72 * j)
/-- RULE byte of a bit of a connection record: class and ARG. -/
def mRule (m : Mnt) (j b : Nat) : Nat × Nat :=
  let r := mtB m (200 + 72 * j + b)
  (r / 16, r % 16)

/-- The inputs with a use at an edge. -/
def mInputs (m : Mnt) (use e : Nat) : List Nat := (List.range 32).filter fun i => mUse m i == use && mEdge m i == e

/-- A term over the inputs of a use; a term whose input is not assigned reads 1 (R108). -/
def mTerm (m : Mnt) (bits : BitVec 32) (use e : Nat) : Bool := (mInputs m use e).all fun i => bitAt bits i

/-- BERTH(e) on given inputs. -/
def mBerth (m : Mnt) (bits : BitVec 32) (e : Nat) : Bool := mTerm m bits 1 e
/-- ZSPD(e) on given inputs: energised without break for the last ZS_HOLD VC, counted in energised VC start strobes (DESIGN CHOICE, log
entry 105). -/
def mZspd (m : Mnt) (bits : BitVec 32) (e : Nat) : Bool :=
  (mInputs m 2 e).all fun i => bitAt bits i && decide (Tbl.get m.zsRun i ≥ mZsHold m e)
/-- ESTOP(e) on given inputs. -/
def mEstop (m : Mnt) (bits : BitVec 32) (e : Nat) : Bool := mTerm m bits 5 e
/-- LOOP_UNITS(e): every declared unit fresh with both leaves locked. -/
def mLoopUnits (m : Mnt) (e : Nat) : Bool :=
  (List.range 16).all fun u => !(mUnits m e).testBit u || bitAt m.locked (16 * e + u)
/-- LOOP(e) on given inputs. -/
def mLoop (m : Mnt) (bits : BitVec 32) (e : Nat) : Bool := mTerm m bits 3 e && mTerm m bits 4 e && mLoopUnits m e

/-! ### Rules (R108) -/

/-- M_OK. -/
def mOk (debug : Bool) (m : Mnt) : Bool := (m.st == .run || m.st == .hold) && !debug && m.vecOk
/-- TRIP(e). -/
def mTrip (m : Mnt) (e : Nat) : Bool := (Tbl.get m.disc e).trip
/-- G_AG(g). -/
def gAg (debug : Bool) (m : Mnt) (g : Nat) : Bool := mOk debug m && bitAt m.tvec g
/-- STO_AG(e) on given inputs. -/
def stoAg (debug : Bool) (m : Mnt) (bits : BitVec 32) (e : Nat) : Bool :=
  mOk debug m && !mTrip m e && bitAt m.tvec (12 + e) && mEstop m bits e
/-- DOE_AG(e) on given inputs. -/
def doeAg (debug : Bool) (m : Mnt) (bits : BitVec 32) (e : Nat) : Bool :=
  stoAg debug m bits e && bitAt m.tvec (20 + e) && mBerth m bits e && mZspd m bits e
/-- CLOSED_AG(e) on given inputs. -/
def closedAg (debug : Bool) (m : Mnt) (bits : BitVec 32) (e : Nat) : Bool :=
  mOk debug m && !mTrip m e && mLoop m bits e && !doeAg debug m bits e && !bitAt m.da e

/-- The grant of a class for a bit (R127), on the current inputs. -/
def classGrant (debug : Bool) (m : Mnt) (cls arg : Nat) : Bool :=
  match cls with
  | 1 => mOk debug m
  | 2 => closedAg debug m m.filt arg
  | 3 => doeAg debug m m.filt arg
  | 4 => stoAg debug m m.filt arg
  | 5 => gAg debug m arg
  | _ => false

/-! ### Lines (R109) -/

/-- Lines whose rule no longer holds are withdrawn. -/
def mWithdraw (debug : Bool) (m : Mnt) : Mnt :=
  { m with
    ga := bitsOf 12 fun g => bitAt m.ga g && gAg debug m g
    sa := bitsOf 8 fun e => bitAt m.sa e && stoAg debug m m.filt e
    da := bitsOf 8 fun e => bitAt m.da e && doeAg debug m m.filt e }

/-- The lines whose rules hold on the latched and on the current values (at 352 µs). -/
def mQualify (debug : Bool) (m : Mnt) : Mnt :=
  { m with
    gq := bitsOf 12 fun g => gAg debug m g
    sq := bitsOf 8 fun e => stoAg debug m m.latched e && stoAg debug m m.filt e
    dq := bitsOf 8 fun e => doeAg debug m m.latched e && doeAg debug m m.filt e }

/-- The grants of the 450 µs tick: in `RUN` alone, of lines that qualified at 352 µs and whose rule still holds. -/
def mGrant (debug : Bool) (m : Mnt) : Mnt :=
  if m.st = .run then
    mWithdraw debug { m with ga := m.ga ||| m.gq, sa := m.sa ||| m.sq, da := m.da ||| m.dq }
  else mWithdraw debug m

/-- Every line off. -/
def mAllOff (m : Mnt) : Mnt := { m with ga := 0, sa := 0, da := 0 }

/-- Mantle enters its safe state with a cause (R120); `MSAFE` is left by reset alone and keeps its first cause. -/
def mSafe (code : Nat) (s : State) : State :=
  if s.mnt.st = .msafe then s
  else { s with mnt := mAllOff { s.mnt with st := .msafe } }.setReg Reg.MNT_CAUSE (word code)

/-- Mantle records a code and enters its safe state. -/
def mFault (code : Nat) (s : State) : State := mSafe code (note code 0 0 s)

/-! ### Vector and counters (R110–R114) -/

/-- Mantle's vector of this VC. -/
def mVector (debug : Bool) (m : Mnt) : BitVec 64 :=
  let gr := if m.st = .run then m.gq else bitsOf 12 fun g => bitAt m.ga g && gAg debug m g
  let st := if m.st = .run then m.sq else bitsOf 8 fun e => bitAt m.sa e && stoAg debug m m.filt e
  let de := if m.st = .run then m.dq else bitsOf 8 fun e => bitAt m.da e && doeAg debug m m.filt e
  let part {n : Nat} (lo : Nat) (w : BitVec n) : BitVec 64 := w.setWidth 64 <<< lo
  part 0 gr ||| part 12 st ||| part 20 de
    ||| part 28 (bitsOf 8 fun e => mLoop m m.latched e)
    ||| part 36 (bitsOf 8 fun e => mBerth m m.latched e)
    ||| part 44 (bitsOf 8 fun e => mZspd m m.latched e)
    ||| part 52 (bitsOf 8 fun e => mTrip m e)
    ||| part 61 (BitVec.ofNat 1 (bit debug)) ||| part 62 (BitVec.ofNat 1 (bit (m.st == .hold)))
    ||| part 63 (BitVec.ofNat 1 (bit (m.st == .msafe)))

/-- One discrepancy counter's move (R114); it stops at 255, the end of its field in MNT_DISCe and the highest limit (DESIGN CHOICE, log
entry 144). -/
def discMove (differ : Bool) (n : Nat) : Nat := if differ then min 255 (n + 1) else n - 1

/-- The counting of one edge (R114) against the triad's view. Answers the moved counters. -/
def discCount (m : Mnt) (e : Nat) : MDisc :=
  let d := Tbl.get m.disc e
  let hasLoop := !(mInputs m 3 e).isEmpty || !(mInputs m 4 e).isEmpty || mUnits m e != 0
  let hasBerth := !(mInputs m 1 e).isEmpty
  let hasZspd := !(mInputs m 2 e).isEmpty
  let l := if hasLoop then discMove (mLoop m m.latched e != bitAt m.tvec (28 + e)) d.loop else 0
  let b := if hasBerth then discMove (mBerth m m.latched e != bitAt m.tvec (36 + e)) d.berth else 0
  let z := if hasZspd then discMove (mZspd m m.latched e != bitAt m.tvec (44 + e)) d.zspd else 0
  let atLim (has : Bool) (n lim : Nat) : Bool := has && decide (lim ≤ n) && decide (0 < n)
  { loop := l, berth := b, zspd := z
    trip := d.trip || atLim hasLoop l (mLoopLim m e) || atLim hasBerth b (mBerthLim m e) || atLim hasZspd z (mZspdLim m e) }

/-- Every edge's counting. -/
def discAll (m : Mnt) : Mnt :=
  { m with disc := (List.range 8).foldl (fun t e => Tbl.set t e (discCount m e)) m.disc }

/-- The code with which an edge trips: of its quantities at their limits, LOOP first, then BERTH, then ZSPD (DESIGN CHOICE, log entry
145). -/
def tripCode (m : Mnt) (e : Nat) : Nat :=
  let d := Tbl.get m.disc e
  if 0 < d.loop ∧ mLoopLim m e ≤ d.loop then 0x0311
  else if 0 < d.berth ∧ mBerthLim m e ≤ d.berth then 0x0312
  else 0x0313

/-- The part of the consistency check that needs only the triad's vector (R113). -/
def vectorConsistent (v : BitVec 64) : Bool :=
  (List.range 8).all fun e => !bitAt v (20 + e) || (bitAt v (12 + e) && bitAt v (36 + e) && bitAt v (44 + e))

/-- A class rule evaluated on the triad's own vector (R113): M_OK 1, TRIP 0, ESTOP 1, DA the DOE_AG of that vector. -/
def classOnTriad (v : BitVec 64) (cls arg : Nat) : Bool :=
  let sto := bitAt v (12 + arg)
  let doe := sto && bitAt v (20 + arg) && bitAt v (36 + arg) && bitAt v (44 + arg)
  match cls with
  | 1 => true
  | 2 => bitAt v (28 + arg) && !doe
  | 3 => doe
  | 4 => sto
  | 5 => bitAt v arg
  | _ => false

/-- TRIP(e) is cleared at 450 µs when the counters are 0 and EDGEX bit e is 1 (R115). -/
def tripClear (m : Mnt) : Mnt :=
  { m with disc := (List.range 8).foldl (fun t e =>
      let d := Tbl.get t e
      if d.trip ∧ d.loop = 0 ∧ d.berth = 0 ∧ d.zspd = 0 ∧ bitAt m.tvec (52 + e) then Tbl.set t e { d with trip := false } else t) m.disc }

/-! ### VC start strobe and heartbeat -/

/-- MANTLE_VC_STROBE (R105, R106, R121): inputs latched, runs of ZSPD counted, reports judged. -/
def mStrobe (m : Mnt) : Mnt :=
  let units := (m.units.map (·.1)).foldl (fun t u => Tbl.upd t u fun x => if x.seen then { x with age := min 3 (x.age + 1) } else x) m.units
  { m with
    latched := m.filt
    zsRun := (List.range 32).foldl (fun t i => Tbl.set t i (if bitAt m.filt i then min 5001 (Tbl.get t i + 1) else 0)) m.zsRun
    units := units
    locked := bitsOf 128 fun u =>
      let x := Tbl.get units u
      x.seen && decide (x.age ≤ 2) && x.lockL && x.lockR
    hbSince := m.hbSince + 1, tsetLo := false, tsetHi := false, tsetBad := false, outLo := false, outHi := false
    hbWrites := 0, maskNoted := false }

/-- The heartbeat word is well formed (R119): both complements, a known code. -/
def hbForm (w : Word) : Bool :=
  let c := field w 31 24
  field w 15 8 == 255 - c && field w 7 0 == 255 - field w 23 16 && (c == 0x96 || c == 0xA5 || c == 0x69)

/-- MANTLE_HEARTBEAT_CHECK at the 1000 µs tick (R119, R120): a heartbeat that has not reached Mantle is absent, whatever the reason (R22). -/
def heartbeatCheck (received : Bool) (s : State) : State :=
  let m := s.mnt
  let code := field m.hbWord 31 24
  let vb := field m.hbWord 23 16
  let form := received && m.hbWrites == 1 && hbForm m.hbWord
  let seqOk := decide (vb = (m.hbVcn + m.hbSince) % 256)
  let valid := form && (m.st == .wait || seqOk)
  let off (m : Mnt) : Mnt := mAllOff m
  if m.st = .msafe then s
  else if valid then
    let m' := { m with hbCode := code, hbVcn := vb, hbSince := 0, hbMiss := 0 }
    match m.st with
    | .wait =>
      if code = 0xA5 then { s with mnt := { m' with st := .idle, hbRun := 0 } }
      else if code = 0x96 then
        let run := if m.hbRun = 0 ∨ seqOk then m.hbRun + 1 else 1
        if run ≥ 16 ∧ m.tabOk then { s with mnt := { m' with st := .run, hbRun := run } }
        else { s with mnt := { m' with hbRun := run } }
      else { s with mnt := { m' with hbRun := 0 } }
    | st =>
      if code = 0x69 then mFault 0x030C { s with mnt := m' }
      else if code = 0xA5 then { s with mnt := off { m' with st := .idle } }
      else { s with mnt := { m' with st := if st = .msafe then .msafe else .run } }
  else
    match m.st with
    | .wait => { s with mnt := { m with hbRun := 0 } }
    | .run => note 0x0301 0 0 { s with mnt := { m with st := .hold, hbMiss := 1 } }
    | .hold => mFault 0x0302 { s with mnt := { m with hbMiss := 2 } }
    | .idle =>
      if m.hbMiss ≥ 1 then mFault 0x0302 { s with mnt := { m with hbMiss := 2 } }
      else note 0x0301 0 0 { s with mnt := { m with hbMiss := 1 } }
    | .msafe => s

/-! ### Seals (R122, R123) -/

/-- A seal: SEAL_ID, freshness, block masked with the grants. -/
def sealOf (sealId fresh : Word) (block : BitVec 64) : Word :=
  crcSeal (be4 sealId ++ be4 fresh ++ (List.range 8).map fun i => byte (block.toNat >>> (8 * i)))

/-- The grants of the door command block of an edge (R123). -/
def doorGrant (debug : Bool) (m : Mnt) (e : Nat) : BitVec 64 :=
  bitsOf 64 fun b => if b < 32 then doeAg debug m m.filt e else if b < 48 then stoAg debug m m.filt e else false

/-- The grants of a telegram's block by the classes of its connection record (R123); no record grants nothing. -/
def telGrant (debug : Bool) (m : Mnt) (conn : Option Nat) : BitVec 64 :=
  match conn with
  | none => 0
  | some j => bitsOf 64 fun b =>
    let (c, a) := mRule m j b
    classGrant debug m c a

/-- A register of channel `b`. -/
def busReg (r b : Nat) : Nat := r + 0x1000 * b

/-- The sending copy that the loading copy becomes at a VC start (R261). -/
def copyOf (s : State) (b : Nat) : CmdCopy :=
  let r (a : Nat) : Nat := (s.reg (busReg a b)).toNat
  { block := BitVec.ofNat 64 (r Reg.DBC_CBLK_LO + 2 ^ 32 * r Reg.DBC_CBLK_HI)
    cmds := BitVec.ofNat 128 (ofLe ((List.range 4).flatMap fun m => le4 (s.reg (busReg Reg.DBC_CORD b + 4 * m))))
    ramp := s.regF (busReg Reg.DBC_CRAMP b) 15 0
    ready := s.regB (busReg Reg.DBC_CREADY b) 0, hasSeal := s.regB (busReg Reg.DBC_CREADY b) 1
    sealW := s.reg (busReg Reg.DBC_CSEAL b) }

/-- Mantle seals a channel's loading copy with the present grants; FRESH is the alive counter of the VC in which it is sent. -/
def sealBus (b : Nat) (s : State) : State :=
  let c := copyOf s b
  let fresh := word ((s.sys.vcn.toNat + 1) % 256)
  let block := c.block &&& doorGrant s.vau.debug s.mnt b
  let s := (s.setReg (busReg Reg.DBC_CSEAL b) (sealOf (word (mBusSeal s.mnt b)) fresh block)).setReg (busReg Reg.DBC_CSEAL_VCN b) s.sys.vcn
  s.setRegB (busReg Reg.DBC_CREADY b) 1 true

/-- A door command block of which Mantle masks a bit. -/
def maskedBus (s : State) (e : Nat) : Bool := (copyOf s e).block &&& ~~~doorGrant s.vau.debug s.mnt e != 0

/-- Masked seals are counted, and recorded once per VC (R118, R130). -/
def countMasked (n : Nat) (s : State) : State :=
  if n = 0 then s
  else
    let noted := s.mnt.maskNoted
    noteIf (!noted) 0x0316 0 0
      { s with mnt := { s.mnt with sealCount := word (min 0xFFFFFFFF (s.mnt.sealCount.toNat + n)), maskNoted := true } }

/-- Mantle reseals a sealed loading copy with the present grants (R125). -/
def resealBus (b : Nat) (s : State) : State := countMasked (bit (maskedBus s b)) (sealBus b s)

/-- Mantle reseals every sealed door command buffer that is not yet locked when a line has been withdrawn (R125). -/
def resealAfter (before : Mnt) (s : State) : State :=
  let m := s.mnt
  if before.ga &&& ~~~m.ga = 0 ∧ before.sa &&& ~~~m.sa = 0 ∧ before.da &&& ~~~m.da = 0 then s
  else (List.range 8).foldl (fun s b => if s.regB (busReg Reg.DBC_CREADY b) 1 then resealBus b s else s) s

/-! ### The table's ranges -/

/-- The table's signature verifies with a key whose digest Mantle holds, programmed and not revoked (R126, R128). -/
def tableSigned (m : Mnt) (key : List Byte) : Bool :=
  let n := m.tabLen - 96
  ([0, 1, 2, 3].any fun k => bitAt m.ckProg k && !bitAt m.ckRev k && Tbl.get m.ck k == sha384 key)
    && ecdsaVerify key (sha384 (Tbl.getList m.tab 0 n)) (Tbl.getList m.tab n 96)

/-- Every range of the parameter table (R126–R128). -/
def tableOk (m : Mnt) (configId : Nat) : Bool :=
  let n := mNConn m
  let edgeRec (e : Nat) : Bool :=
    decide (1 ≤ mZsHold m e ∧ mZsHold m e ≤ 5000) && decide (2 ≤ mLoopLim m e) && decide (2 ≤ mBerthLim m e)
      && decide (2 ≤ mZspdLim m e) && mtB m (103 + 8 * e) == 0
  let ruleOk (b : Nat) : Bool :=
    let c := b / 16
    let a := b % 16
    match c with
    | 0 | 1 => a == 0
    | 2 | 3 | 4 => decide (a ≤ 7)
    | 5 => decide (a ≤ 11)
    | _ => false
  let connRec (j : Nat) : Bool :=
    let k := mtB m (196 + 72 * j)
    let x := mtB m (197 + 72 * j)
    (if k = 0 then decide (1 ≤ x ∧ x ≤ 128) else k == 1 && decide (x ≤ 7)) && mtH m (198 + 72 * j) == 0
      && (List.range 64).all fun b => ruleOk (mtB m (200 + 72 * j + b))
  mtW m 0 == 0x4D4E5450 && mtH m 4 == 1 && mtH m 6 == m.tabLen && m.tabLen == 192 + 72 * n + 96 && decide (n ≤ 136)
    && mtW m 8 == configId && (List.range 46).all (fun i => mtB m (18 + i) == 0)
    && (List.range 32).all (fun i => decide (mUse m i ≤ 5) && !(mtB m (64 + i)).testBit 3)
    && (List.range 8).all edgeRec && (List.range n).all connRec

end Sys2Proof.Machine
end

