-- ==== Sys2Proof/Machine/ReplyOps.lean ====
section
/-!
DEFINITION. Operation tags and status replies (R309–R312, R317, R328, R329).
-/
namespace Sys2Proof.Machine

/-- A tag's entry. -/
def State.tag (s : State) (t : Nat) : Tag := Tbl.get s.cmd.tag t

/-- Replaces a tag's entry. -/
def State.setTag (s : State) (t : Nat) (g : Tag) : State := { s with cmd := { s.cmd with tag := Tbl.set s.cmd.tag t g } }

/-- A byte of a list. -/
def byteAt (bs : List Byte) (i : Nat) : Nat := (bs[i]?.getD 0).toNat

/-- A little-endian half word of a list. -/
def halfAt (bs : List Byte) (i : Nat) : Nat := ofLe ((bs.drop i).take 2)

/-- A little-endian word of a list. -/
def wordAt (bs : List Byte) (i : Nat) : Word := word (ofLe ((bs.drop i).take 4))

/-! ### Replies (R310, R312, R328) -/

/-- Flags of a reply. -/
def replyFlags (terminal noncons rep : Bool) : Nat := 1 + 2 * bit terminal + 4 * bit noncons + 8 * bit rep

/-- A reply packet. -/
def mkReply (opc flags ses tag : Nat) (hseq vcn : Word) (status detail fault : Nat) (results : List Byte) : List Byte :=
  [1#8, byte opc] ++ le2 flags ++ [byte ses, byte tag] ++ le2 (4 + results.length) ++ le4 hseq ++ le4 vcn
    ++ [byte status, byte detail] ++ le2 fault ++ results

/-- A reply with other FLAGS. -/
def withFlags (flags : Nat) (r : List Byte) : List Byte := r.take 2 ++ le2 flags ++ r.drop 4

/-- Queues a reply of a host; a non-consuming one that finds its 64 places full is dropped and recorded (R328). A consuming one that
finds its 256 places full is not queued: it stays with its tag (DESIGN CHOICE, log entry 114). -/
def outPush (host : Nat) (noncons : Bool) (r : List Byte) (s : State) : State :=
  let q := Tbl.get s.cmd.out host
  let n := (q.filter (·.noncons == noncons)).length
  if noncons && decide (n ≥ 64) then note 0x1009 7 (byteAt r 5) s
  else if !noncons && decide (n ≥ 256) then s
  else { s with cmd := { s.cmd with out := Tbl.set s.cmd.out host (q ++ [⟨noncons, r⟩]) } }

/-- The reply that the runtime posts stands in CMD_RBUF (R317). -/
def writeRbuf (r : List Byte) (s : State) : State := { s with cmd := { s.cmd with rbuf := Tbl.setList s.cmd.rbuf 0 r } }

/-- The session of a tag's operation: that of its last reply, before the first the packet's (R310). -/
def Tag.opSes (g : Tag) : Nat := if g.posted.isEmpty && g.lastNt.isNone then g.pktSes else g.ses

/-- A status is terminal (R312). -/
def statusTerminal (st : Nat) : Bool := st == 1 || st == 2 || st == 4 || st == 5 || st == 8 || st == 9 || st == 0xB

/-- The COMMAND record at a terminal reply (R402); the queries, PING and TRAIN_BERTH have none. -/
def recordCommand (t : Nat) (g : Tag) (r : List Byte) (s : State) : State :=
  if [0x01, 0x38, 0x40, 0x41, 0x42].contains g.opc then s
  else recordLater 3 ([1#8, byte g.opc, 0#8, 0#8, byte g.pktSes, byte t, 4#8, 0#8] ++ le4 (g.hseq.getD 0) ++ le4 g.hvcn ++ le4 g.params
    ++ r.take 64) s

/-- The cell of a tag is written in P4 (R412). -/
def tagDirty (t : Nat) (s : State) : State :=
  { s with cmd := { s.cmd with dirty := if s.cmd.dirty.contains t then s.cmd.dirty else s.cmd.dirty ++ [t] } }

/-- The reply stands: it is queued, the tag takes its status, and a terminal reply ends the operation (R317). -/
def storeReply (r : List Byte) (s : State) : State :=
  let t := byteAt r 5
  let g := s.tag t
  let st := byteAt r 16
  let terminal := (byteAt r 2).testBit 1
  let s := outPush g.host false r (s.setReg Reg.CMD_RSTAT (word (2 ^ 31 + t)))
  let g := { g with
    status := st, ses := byteAt r 4, fault := halfAt r 18, postVcn := s.sys.vcn, creation := (Tbl.get s.rt.ses (byteAt r 4)).creation }
  let s := if terminal then
      let s := recordCommand t g r s
      let s := s.setTag t { g with st := .held, stored := some (r.take 64), lastNt := none, posted := [], replay := 0 }
      { s with cmd := { s.cmd with nFlight := s.cmd.nFlight - 1, nHeld := s.cmd.nHeld + 1 } }
    else s.setTag t { g with lastNt := some r, posted := g.posted ++ [st] }
  tagDirty t s

/-- `SAFE` ends every `ACTIVE` operation, in ascending tag (R329). -/
def abortAll (cause : Nat) (s : State) : State :=
  (List.range 256).foldl (fun s t =>
    let g := s.tag t
    if g.st = .active then
      let r := mkReply g.opc (replyFlags true false false) g.opSes t (g.hseq.getD 0) s.sys.vcn 9 0 cause []
      storeReply r (writeRbuf r s)
    else s) s

end Sys2Proof.Machine
end

