-- ==== Sys2Proof/Machine/Safe.lean ====
section
/-!
DEFINITION. The reactions to faults: the module safe state and the local safe states (R15–R17, R36–R43).
-/
namespace Sys2Proof.Machine

/-- Mantle takes the all-restrictive vector at once and withdraws every line (R111). -/
def safeMantle (m : Mnt) : Mnt :=
  { m with tvec := setBit 0#64 63 true, restricted := true, ga := 0, sa := 0, da := 0 }

/-! ### Door buses (R263, R264) -/

/-- A door bus channel. -/
def State.bus (s : State) (b : Nat) : Dbc := Tbl.get s.dbc b

/-- Replaces a door bus channel. -/
def State.setBus (s : State) (b : Nat) (d : Dbc) : State := { s with dbc := Tbl.set s.dbc b d }

/-- The cancel of R263 on one frame: one whose SOF has not been sent is withdrawn, one on the bus completes. -/
def cancelFrame (flying : Bool) (t : TxSt) : TxSt :=
  if t = .pending then (if flying then .tooLate else .cancelled) else t

/-- The cancel of a channel's order and door command frames (R263). -/
def Dbc.cancel (d : Dbc) : Dbc :=
  { d with txOrd := cancelFrame (d.fly == some .order) d.txOrd, txCmd := cancelFrame (d.fly == some .command) d.txCmd }

/-- DBCe cancels its order and door command frames. -/
def busCancel (b : Nat) (s : State) : State := s.setBus b (s.bus b).cancel

/-- A channel as the module enters `SAFE` (R264, R270); it is no master any more, so no reference carries SLEEP_NEXT (R277). -/
def Dbc.toSafe (vcn : Word) (d : Dbc) : Dbc :=
  match d.st with
  | .master | .backup | .listen => { d.cancel with st := .safeTx, safeVcn := vcn, safeRun := false, sleepReq := false, sleepNext := false }
  | _ => d

/-- A channel as the module enters `MAINT` (R270): its frames are cancelled, it leaves the line and transmits nothing more. -/
def Dbc.toOff (d : Dbc) : Dbc :=
  { d.cancel with st := .off, txRef := .none, fly := none, wakes := 0, sleepReq := false, sleepNext := false }

/-- Every output off and every disconnect open, as in every state other than `ACTIVE` (R350); in the silent state the ON bits that
it keeps stay (R351). -/
def fioOff (f : Fio) : Fio :=
  { f with grp := 0, nextGrp := 0, nextOn := 0, dueOn := 0, pulse := 0, on := if f.silent then f.on else 0 }

/-- READY of every transmit slot is cleared (R37). -/
def clearReady (s : State) : State :=
  (List.range 64).foldl (fun s m => if s.regB (Reg.SNI_TXC + 4 * m) 31 then s.setRegB (Reg.SNI_TXC + 4 * m) 31 false else s) s

/-- Every edge's door-open enable is withdrawn (R36). -/
def enablesOff (d : Dsu) : Dsu := { d with edge := (List.range 8).foldl (fun t e => Tbl.upd t e fun x => { x with tDoe := false }) d.edge }

/-- The latched content of `SAFE` (R36, R37, R125, R329): cause and VCN, Mantle's all-restrictive vector and its reseals, field outputs,
door enables, door buses, the replies of every operation, and from 350 µs on no telegram of this VC. -/
def enterSafe (code : Nat) (mantle : Bool) (s : State) : State :=
  let before := s.mnt
  let s : State := { s with
    sys := { s.sys with state := .safe, safeCycles := 3 }
    mnt := safeMantle s.mnt, fio := fioOff s.fio, dsu := enablesOff s.dsu
    dbc := (List.range 8).foldl (fun t b => Tbl.upd t b (Dbc.toSafe s.sys.vcn)) s.dbc }
  let s := resealAfter before s
  let s := abortAll code (if 2 ≤ s.sys.phase then clearReady s else s)
  (s.setReg Reg.SYS_SAFE_CAUSE (word (bit mantle * 2 ^ 16 + code % 65536))).setReg Reg.SYS_SAFE_VCN s.sys.vcn

/-- The module goes to `MAINT` with a cause (R30, R456); the door buses leave the line (R270). -/
def enterMaint (code : Nat) (mantle : Bool) (s : State) : State :=
  { s with
    sys := { s.sys with state := .maint }
    dbc := (List.range 8).foldl (fun t b => Tbl.upd t b Dbc.toOff) s.dbc
    : State }.setReg Reg.SYS_SAFE_CAUSE (word (bit mantle * 2 ^ 16 + code % 65536))

/-- The reaction of class S (R15, R16, R30): `SAFE` from `JOIN`, `BANKED` and `ACTIVE`; `MAINT` with the cause from
`CONFIG_CHECK`; elsewhere nothing but the record. The cause is latched, so a later fault never replaces it. -/
def safeOn (code : Nat) (mantle : Bool) (s : State) : State :=
  match s.sys.state with
  | .join | .banked | .active => enterSafe code mantle s
  | .configCheck => enterMaint code mantle s
  | _ => s

/-- A class S fault of a channel or unit with its own event register at an offset. -/
def raiseSAt (off code obj val : Nat) (s : State) : State := safeOn code false (noteAt off code obj val s)

/-- A class S fault: its record, then its reaction. -/
def raiseS (code obj val : Nat) (s : State) : State := raiseSAt 0 code obj val s

/-- Class S faults detected in the same clock: every one is recorded, the lowest is the cause (R16). -/
def raiseAll (codes : List Nat) (s : State) : State :=
  match codes.mergeSort (fun a b => decide (a ≤ b)) with
  | [] => s
  | c :: cs => safeOn c false ((c :: cs).foldl (fun s k => note k 0 0 s) s)

/-- An edge machine. -/
def State.edge (s : State) (e : Nat) : DEdge := Tbl.get s.dsu.edge e

/-- Replaces an edge machine. -/
def State.setEdge (s : State) (e : Nat) (d : DEdge) : State := { s with dsu := { s.dsu with edge := Tbl.set s.dsu.edge e d } }

/-- A class L cause of another block: the edge enters `LOCAL_SAFE` as the next DSU step's first item (R230, R231); the first of
several is the cause (R43). -/
def localSafeEdge (e code : Nat) (s : State) : State :=
  let d := s.edge e
  s.setEdge e { d with localReq := some (d.localReq.getD code) }

/-- A class L fault of an edge: its record, then its reaction. -/
def raiseEdge (e code obj val : Nat) (s : State) : State := localSafeEdge e code (note code obj val s)

end Sys2Proof.Machine
end

