-- ==== Sys2Proof/Machine/TravelOps.lean ====
section
/-!
DEFINITION. The travel clock's shared operations: intervals, the jump check, slots, latched positions and berth proving
(R193–R214).
-/
namespace Sys2Proof.Machine

/-- The difference of two sample instants in µs, from `a` to `b` (R194). -/
def instantDiff (vcnA : Word) (startA : Nat) (vcnB : Word) (startB : Nat) : Int :=
  1000 * ((since vcnB vcnA : Nat) : Int) + ((startB : Int) - (startA : Int))

/-- The instant `b` is later than `a` (R194). -/
def instantLater (vcnA : Word) (startA : Nat) (vcnB : Word) (startB : Nat) : Bool :=
  let d := instantDiff vcnA startA vcnB startB
  decide (1 ≤ d ∧ d ≤ 1000 * (2 ^ 31 - 1))

/-- Leaf `l` is declared. -/
def leafDeclared (s : State) (l : Nat) : Bool := s.regB (Reg.PDS_DECL + 4 * (l / 32)) (l % 32)

/-- Leaf `l` is tracked (R197). -/
def leafTracked (s : State) (l : Nat) : Bool := s.regB (Reg.PDS_TRACK + 4 * (l / 32)) (l % 32)

/-- A leaf's entry. -/
def State.leaf (s : State) (l : Nat) : PLeaf := Tbl.get s.pds.leaf l

/-- Replaces a leaf's entry. -/
def State.setLeaf (s : State) (l : Nat) (p : PLeaf) : State := { s with pds := { s.pds with leaf := Tbl.set s.pds.leaf l p } }

/-! ### Slots -/

/-- A slot's configuration (PDS_SLOTC, PDS_SLOTA), with positions as integers. -/
structure SlotConf where
  kind : Nat
  opening : Bool
  past : Bool
  rearm : Bool
  hyst : Nat
  pos : Int
  arg : Int
  argU : Nat
  deriving DecidableEq, Repr

/-- The configuration that two words spell; a berth slot's positions are signed. -/
def slotConf (berth : Bool) (c a : Word) : SlotConf :=
  let p := field c 15 0
  let q := field a 15 0
  { kind := field c 31 29, opening := bitAt c 28, past := bitAt c 27, rearm := bitAt c 26, hyst := field c 23 16
    pos := if berth then signed 16 p else (p : Int), arg := if berth then signed 16 q else (q : Int), argU := q }

/-- A slot's result word. -/
def slotRes (st verdict : Nat) (gap jump past new : Bool) (value : Int) : Word :=
  word (st * 2 ^ 29 + verdict * 2 ^ 27 + bit gap * 2 ^ 26 + bit jump * 2 ^ 25 + bit past * 2 ^ 24 + bit new * 2 ^ 16
    + unsigned 16 value)

/-- A slot's time word. -/
def slotTime (vcn : Word) (ofs : Int) : Word := word (vcn.toNat % 2 ^ 16 * 2 ^ 16 + unsigned 16 ofs)

/-- `t` lies on the approach side of `p` (R202). -/
def onApproach (opening : Bool) (p t : Int) : Bool := if opening then decide (t < p) else decide (t > p)

/-- One interval of a leaf: both reports, the offsets of their instants from the present VC start in µs, missing reports between,
jumped. -/
structure Interval where
  t0 : Int
  t1 : Int
  v0 : Int
  v1 : Int
  ofs0 : Int
  dt : Int
  miss : Nat
  jumped : Bool
  deriving DecidableEq, Repr

/-- The crossing velocity at `p` as an exact fraction (R205): numerator, positive denominator. -/
def crossVel (iv : Interval) (p : Int) : Int × Int :=
  let d := iv.t0 - iv.t1
  let n := iv.v0 * d + (iv.t0 - p) * (iv.v1 - iv.v0)
  if d < 0 then (-n, -d) else (n, d)

/-- The crossing velocity rounded away from 0 (R205). -/
def crossValue (iv : Interval) (p : Int) : Int :=
  let (n, d) := crossVel iv p
  if n < 0 then -((-n + d - 1) / d) else (n + d - 1) / d

/-- The offset of the crossing instant from the start of the present VC, in µs (R205; rounding: DESIGN CHOICE, log entry 10). -/
def crossOfs (iv : Interval) (p : Int) : Int :=
  let d := iv.t0 - iv.t1
  let n := (iv.t0 - p) * iv.dt
  let (n, d) := if d < 0 then (-n, -d) else (n, d)
  roundDiv (iv.ofs0 * d + n) d.toNat

/-- The verdict of a crossing by kind (R205): 1 pass, 2 fail, 0 none. -/
def verdict (kind argU : Nat) (vNum vDen : Int) (jumped : Bool) : Nat :=
  let a : Int := if vNum < 0 then -vNum else vNum
  let lim := (argU : Int) * vDen
  match kind with
  | 1 => 1
  | 2 => if a ≤ lim ∧ ¬ jumped then 1 else 2
  | 3 => if a ≥ lim ∧ ¬ jumped then 1 else 2
  | _ => 0

/-- A slot's decision on an interval (R205–R207): its new result and time words. -/
def slotStep (c : SlotConf) (vcn : Word) (iv : Interval) (r t : Word) : Word × Word :=
  let gap := decide (iv.miss > 0)
  let fireAt (p : Int) (st vd : Nat) : Word × Word :=
    (slotRes st vd gap iv.jumped false true (crossValue iv p), slotTime vcn (crossOfs iv p))
  match field r 31 29 with
  | 2 =>
    if onApproach c.opening c.pos iv.t0 && !onApproach c.opening c.pos iv.t1 then
      if c.kind = 4 then
        if !onApproach c.opening c.arg iv.t1 then fireAt c.arg 3 1 else fireAt c.pos 4 0
      else
        let (n, d) := crossVel iv c.pos
        fireAt c.pos 3 (verdict c.kind c.argU n d iv.jumped)
    else (r, t)
  | 4 =>
    if !onApproach c.opening c.arg iv.t1 then fireAt c.arg 3 1
    else if onApproach c.opening c.pos iv.t1 then
      (setBit (putField (putField r 31 29 1) 28 27 0) 16 true, t)
    else (r, t)
  | _ => (r, t)

/-- Priming on a report (R204). -/
def slotPrime (berth : Bool) (c : SlotConf) (t1 : Int) (r : Word) : Word :=
  let st := field r 31 29
  if st = 1 ∨ (st = 3 ∧ c.rearm) then
    let back := if c.opening then decide (t1 ≤ (if berth then c.pos - c.hyst else max (c.pos - c.hyst) 0))
      else decide (t1 ≥ (if berth then c.pos + c.hyst else min (c.pos + c.hyst) 65535))
    if back then putField r 31 29 2 else r
  else r

/-- An anchored slot on a new report (R207). -/
def slotAnchor (c : SlotConf) (t1 : Int) (r t : Word) : Word :=
  if field r 31 29 = 5 then
    let ref : Int := (field t 15 0 : Nat)
    let v := if c.opening then t1 - ref else ref - t1
    let v := max (-32768) (min 32767 v)
    setBit (putField r 15 0 (unsigned 16 v)) 16 true
  else r

/-- A slot whose source is lost while it is armed (R208). -/
def slotLose (c : SlotConf) (r : Word) : Word :=
  let st := field r 31 29
  if st = 1 ∨ st = 2 ∨ st = 4 ∨ st = 5 ∨ (st = 3 ∧ c.rearm) then setBit (putField r 31 29 6) 16 true else r

/-- The place of a slot's taken ARG. -/
def argKey (berth : Bool) (i : Nat) : Nat := if berth then 512 + i else i

/-- Applies a change to slot `i`'s result and time, given its configuration with ARG as its arming took it (R203). -/
def onSlot (cB rB tB : Nat) (berth : Bool) (f : SlotConf → Word → Word → Word × Word) (s : State) (i : Nat) : State :=
  let (r, t) := f (slotConf berth (s.reg (cB + 4 * i)) (Tbl.get s.pds.arg (argKey berth i))) (s.reg (rB + 4 * i)) (s.reg (tB + 4 * i))
  let s := if field r 31 29 = 3 ∧ s.regF (rB + 4 * i) 31 29 ≠ 3 then obsCount 28 1 s else s
  (s.setReg (rB + 4 * i) r).setReg (tB + 4 * i) t

/-- Applies a change to both slots of a leaf. -/
def onLeafSlots (l : Nat) (f : SlotConf → Word → Word → Word × Word) (s : State) : State :=
  [2 * l, 2 * l + 1].foldl (onSlot Reg.PDS_SLOTC Reg.PDS_SLOTR Reg.PDS_SLOTT false f) s

/-- Applies a change to the four berth slots of an edge. -/
def onBerthSlots (e : Nat) (f : SlotConf → Word → Word → Word × Word) (s : State) : State :=
  [4 * e, 4 * e + 1, 4 * e + 2, 4 * e + 3].foldl (onSlot Reg.PDS_BSLOTC Reg.PDS_BSLOTR Reg.PDS_BSLOTT true f) s

/-! ### Leaf reports -/

/-- The interval that a new report closes (R199). -/
def formInterval (s : State) (p : PLeaf) (trv : Nat) (vel : Int) (r : UnitRep) : Interval :=
  let dt := instantDiff p.vcn p.start r.vcn r.start
  let dTv : Int := 512000 * ((trv : Int) - (p.trv : Int)) - (p.vel + vel) * dt
  let tol : Int := (s.regF Reg.PDS_CONF 7 0 * (p.miss + 1) * 512000 : Nat)
  { t0 := p.trv, t1 := trv, v0 := p.vel, v1 := vel
    ofs0 := -instantDiff p.vcn p.start s.sys.vcn 0, dt := dt, miss := p.miss
    jumped := decide ((if dTv < 0 then -dTv else dTv) > tol) }

/-- A new report of one leaf is taken (R198–R200, R205–R208): its interval, slots and priming, the jump record, and the leaf's
newest position. -/
def leafTake (l trv : Nat) (vel : Int) (r : UnitRep) (s : State) : State :=
  let p := s.leaf l
  let hasIval := p.st == .valid || p.st == .coast
  let iv := formInterval s p trv vel r
  let jumped := hasIval && iv.jumped
  let n := p.ivals + bit hasIval
  let recent := (if jumped then [n] else []) ++ p.jumps.filter fun k => decide (k + 16 > n)
  let trip := jumped && leafTracked s l && decide (recent.length ≥ 3)
  let s := if hasIval then onLeafSlots l (fun c r t => slotStep c s.sys.vcn iv r t) s else s
  let s := onLeafSlots l (fun c r t => (slotPrime false c trv (slotAnchor c trv r t), t)) s
  let s := s.setLeaf l { p with
    st := .valid, miss := 0, trv := trv, vel := vel, vcn := r.vcn, start := r.start, isNew := true, jumped := jumped
    hasIval := hasIval, ivalMiss := p.miss, ivalJumped := jumped, ivals := n, jumps := if trip then [] else recent }
  let s := noteIf (jumped && leafTracked s l) 0x0603 3 l s
  if trip then raiseEdge (l / 32) 0x0604 3 l s else s

/-- A due report of a tracked leaf is missing (R196, R198, R208); consecutive ones are counted up to 3 in every tracking state (R217). -/
def leafMissing (l : Nat) (s : State) : State :=
  let p := s.leaf l
  if p.st = .valid ∨ p.st = .coast then
    let s := note 0x0601 3 l s
    if p.miss + 1 > s.regF Reg.PDS_CONF 9 8 then
      let s := s.setLeaf l { p with st := .lost, miss := min 3 (p.miss + 1) }
      let s := onLeafSlots l (fun c r t => (slotLose c r, t)) s
      raiseEdge (l / 32) 0x0602 3 l s
    else s.setLeaf l { p with st := .coast, miss := p.miss + 1 }
  else s.setLeaf l { p with miss := min 3 (p.miss + 1) }

/-- The travels of a report lie in range (R195). -/
def reportInRange (s : State) (u : Nat) (r : UnitRep) : Bool :=
  let trvMax := s.regF (Reg.PDS_ELIM + 4 * (u / 16)) 31 16
  !(leafTracked s (2 * u) && decide (r.trv0 > trvMax)) && !(leafTracked s (2 * u + 1) && decide (r.trv1 > trvMax))

/-- PDS takes a report of unit `u` as new (R195). -/
def reportTaken (s : State) (u : Nat) (r : UnitRep) : Bool :=
  r.seen && r.codeOk && (Tbl.get s.pds.lastTaken u).all (fun t => instantLater t.1 t.2 r.vcn r.start) && reportInRange s u r

/-- LEAF_REPORT_INTAKE for one unit (R195, R196). `due` says whether the unit's report is due at this VC start. -/
def unitIntake (u : Nat) (r : UnitRep) (due : Bool) (s : State) : State :=
  let l0 := 2 * u
  let l1 := 2 * u + 1
  let taken := reportTaken s u r
  let s := noteIf (r.seen && r.isNew && r.codeOk && !reportInRange s u r) 0x060A 4 u s
  if taken then
    let s : State := { s with pds := { s.pds with lastTaken := Tbl.set s.pds.lastTaken u (some (r.vcn, r.start)) } }
    let s := obsCount 27 1 (if leafDeclared s l0 then leafTake l0 r.trv0 r.vel0 r s else s)
    if leafDeclared s l1 then leafTake l1 r.trv1 r.vel1 r s else s
  else if due then
    let s := if leafDeclared s l0 && leafTracked s l0 then leafMissing l0 s else s
    if leafDeclared s l1 && leafTracked s l1 then leafMissing l1 s else s
  else s

/-- The latched position of a leaf at the present VC start (R201). -/
def latchedPos (p : PLeaf) (vcn : Word) : Nat :=
  match p.st with
  | .waiting => 0
  | .lost => p.trv
  | _ =>
    let x := roundDiv ((p.trv : Int) * 256000 + p.vel * instantDiff p.vcn p.start vcn 0) 256000
    (max 0 (min 65535 x)).toNat

/-- The latch of every declared leaf (R201). -/
def latchLeaves (s : State) : State :=
  (s.pds.leaf.map (·.1)).foldl (fun s l => s.setLeaf l { s.leaf l with pos := latchedPos (s.leaf l) s.sys.vcn }) s

/-- The NEW and JUMPED marks of the last VC are cleared at the VC start. -/
def clearNew (s : State) : State :=
  let s := (s.pds.leaf.map (·.1)).foldl (fun s l => s.setLeaf l { s.leaf l with isNew := false, jumped := false }) s
  let keys := (s.regs.map (·.1)).filter fun a =>
    (decide (Reg.PDS_SLOTR ≤ a) && decide (a < Reg.PDS_SLOTR + 2048)) || (decide (Reg.PDS_BSLOTR ≤ a) && decide (a < Reg.PDS_BSLOTR + 128))
  keys.foldl (fun s a => s.setRegB a 16 false) s

/-! ### Berth proving (R211, R213) -/

/-- A filtered input as the FIO snapshot of this VC shows it to the regions. -/
def snapInput (s : State) (i : Nat) : Bool := s.regB (Reg.FIO_IN + 4 * (i / 32)) (i % 32)

/-- BERTH_COMPUTE and the berth slots of one edge at the VC start. -/
def berthCompute (s : State) (e : Nat) : State :=
  let bin := s.reg (Reg.PDS_BIN + 4 * e)
  let conf := s.reg (Reg.PDS_ECONF + 4 * e)
  let ein := s.reg (Reg.PDS_EIN + 4 * e)
  let old := s.reg (Reg.PDS_BSTAT + 4 * e)
  let b := Tbl.get s.pds.berth e
  let fresh := bitAt bin 0
  let b1 := signed 16 (field bin 31 16)
  let dist := (b1 - b.bOfs).natAbs
  let jump := fresh && b.bValid && decide (dist > 4)
  let l := if fresh && b.bValid && !jump then b1 + (b1 - b.bOfs) else b1
  let berth := fresh && decide (l.natAbs ≤ field conf 15 8) && (!bitAt conf 17 || snapInput s (field ein 6 0))
  let z := field old 12 0
  let lref := if z = 0 then l else b.lref
  let still := fresh && bitAt bin 1 && !jump && decide ((l - lref).natAbs ≤ field conf 7 0)
    && (!bitAt conf 16 || snapInput s (field ein 14 8))
  let z' := if still then min (z + 1) 8191 else 0
  let zspd := decide (z' ≥ s.regF (Reg.PDS_ELIM + 4 * e) 12 0)
  let wasFresh := bitAt old 13
  let s := noteIf jump 0x0606 2 e s
  let s := noteIf (wasFresh && !fresh) 0x0605 2 e s
  let l0 := signed 16 (field old 31 16)
  let s := if fresh then
      let iv : Interval := { t0 := l0, t1 := l, v0 := 0, v1 := 0, ofs0 := 0, dt := 0, miss := 0, jumped := false }
      let s := if wasFresh then onBerthSlots e (fun c r t =>
          let (r', t') := slotStep c s.sys.vcn iv r t
          if r' = r ∧ t' = t then (r, t) else (putField r' 15 0 (unsigned 16 l), slotTime s.sys.vcn 0)) s
        else s
      onBerthSlots e (fun c r t => (slotPrime true c l r, t)) s
    else onBerthSlots e (fun c r t => (slotLose c r, t)) s
  let s := s.setReg (Reg.PDS_BSTAT + 4 * e) (word (unsigned 16 l * 2 ^ 16 + bit berth * 2 ^ 15 + bit zspd * 2 ^ 14
    + bit fresh * 2 ^ 13 + z'))
  let s := s.setReg (Reg.PDS_BIN + 4 * e) 0
  { s with pds := { s.pds with berth := Tbl.set s.pds.berth e { bValid := fresh, bOfs := b1, lref := lref, hasIval := wasFresh && fresh } } }

/-- The berth proof of an edge (R211). -/
def berthProof (s : State) (e : Nat) : Bool := s.regB (Reg.PDS_BSTAT + 4 * e) 15

/-- The zero-speed proof of an edge (R211). -/
def zspdProof (s : State) (e : Nat) : Bool := s.regB (Reg.PDS_BSTAT + 4 * e) 14

/-! ### Arming (R203) -/

/-- The write of a slot's configuration is refused (R203); the limits on POS 0 and 65,535 are those of a leaf's travel (DEDUCED, log
entry 113). -/
def slotRefused (berth : Bool) (c : SlotConf) (phaseOk tracked : Bool) : Bool :=
  !phaseOk || (!berth && !tracked) || c.kind == 6 || c.kind == 7
    || (berth && (c.kind == 2 || c.kind == 3 || c.kind == 5))
    || (!berth && ((!c.opening && c.pos == 65535) || (c.opening && c.pos == 0)))
    || (c.kind == 4 && (if c.opening then decide (c.arg ≤ c.pos) else decide (c.arg ≥ c.pos)))

/-- Arming a leaf slot that is not refused: its result and time words (R203). A WINDOW armed with PAST beyond ARG too completes at once,
as an interval that crosses POS and ARG together does (DESIGN CHOICE, log entry 112: R203 refers to R205, which names no such verdict). -/
def armLeaf (s : State) (p : PLeaf) (c : SlotConf) : Word × Word :=
  if c.kind = 0 then (0, 0)
  else if p.st = .waiting ∨ p.st = .lost then (slotRes 6 0 false false false false 0, 0)
  else if c.kind = 5 then (slotRes 5 0 false false false false 0, slotTime s.sys.vcn p.pos)
  else if onApproach c.opening c.pos p.trv then (slotRes 2 0 false false false false 0, 0)
  else if c.past then
    let gap := !p.hasIval || decide (p.ivalMiss > 0)
    let jmp := p.ivalJumped
    let ofs := -instantDiff p.vcn p.start s.sys.vcn 0
    if c.kind = 4 then
      if !onApproach c.opening c.arg p.trv then (slotRes 3 1 gap jmp true true p.vel, slotTime s.sys.vcn ofs)
      else (slotRes 4 0 gap jmp true true p.vel, slotTime s.sys.vcn ofs)
    else (slotRes 3 (verdict c.kind c.argU p.vel 1 jmp) gap jmp true true p.vel, slotTime s.sys.vcn ofs)
  else (slotRes 1 0 false false false false 0, 0)

/-- Arming a berth slot that is not refused (R203, R213); a WINDOW beyond ARG as for a leaf (log entry 112). -/
def armBerth (s : State) (e : Nat) (c : SlotConf) : Word × Word :=
  let st := s.reg (Reg.PDS_BSTAT + 4 * e)
  let l := signed 16 (field st 31 16)
  if c.kind = 0 then (0, 0)
  else if !bitAt st 13 then (slotRes 6 0 false false false false 0, 0)
  else if onApproach c.opening c.pos l then (slotRes 2 0 false false false false 0, 0)
  else if c.past then
    let gap := !(Tbl.get s.pds.berth e).hasIval
    if c.kind = 4 ∧ onApproach c.opening c.arg l then (slotRes 4 0 gap false true true l, slotTime s.sys.vcn 0)
    else (slotRes 3 1 gap false true true l, slotTime s.sys.vcn 0)
  else (slotRes 1 0 false false false false 0, 0)

/-- A write of PDS_SLOTC or PDS_BSLOTC (R203), given whether its phase is right. -/
def slotPut (phaseOk berth : Bool) (i : Nat) (w : Word) (s : State) : State :=
  let (cB, aB, rB, tB) := if berth then (Reg.PDS_BSLOTC, Reg.PDS_BSLOTA, Reg.PDS_BSLOTR, Reg.PDS_BSLOTT)
    else (Reg.PDS_SLOTC, Reg.PDS_SLOTA, Reg.PDS_SLOTR, Reg.PDS_SLOTT)
  let w := w &&& 0xFCFFFFFF#32
  let a := s.reg (aB + 4 * i)
  let c := slotConf berth w a
  if slotRefused berth c phaseOk (leafTracked s (i / 2)) then note 0x0607 (if berth then 2 else 3) (if berth then i / 4 else i / 2) s
  else
    let (r, t) := if berth then armBerth s (i / 4) c else armLeaf s (s.leaf (i / 2)) c
    let s := { s with pds := { s.pds with arg := Tbl.set s.pds.arg (argKey berth i) a } }
    let s := if field r 31 29 = 3 then obsCount 28 1 s else s
    ((s.setReg (cB + 4 * i) w).setReg (rB + 4 * i) r).setReg (tB + 4 * i) t

/-- A write of PDS_SLOTC or PDS_BSLOTC by the runtime (R203). -/
def slotWrite (berth : Bool) (i : Nat) (w : Word) (s : State) : State := slotPut (s.sys.phase == 1) berth i w s

/-- A write of PDS_TRACK (R197): an undeclared leaf stays untracked and is recorded; a leaf no longer tracked has its slots idle. -/
def trackWrite (m : Nat) (w : Word) (s : State) : State :=
  let decl := s.reg (Reg.PDS_DECL + 4 * m)
  let old := s.reg (Reg.PDS_TRACK + 4 * m)
  let bad := w &&& ~~~decl
  let s := if bad = 0 then s else ((List.range 32).filter fun i => bitAt bad i).foldl (fun s i => note 0x0607 3 (32 * m + i) s) s
  let new := w &&& decl
  let gone := (List.range 32).filter fun i => bitAt old i && !bitAt new i
  let s := gone.foldl (fun s i => onLeafSlots (32 * m + i) (fun _ r t => (putField r 31 29 0, t)) s) s
  s.setReg (Reg.PDS_TRACK + 4 * m) new

end Sys2Proof.Machine
end

