-- ==== Sys2Proof/Machine/DoorOps.lean ====
section
/-!
DEFINITION. Door supervision: the leaf and edge machines and the step that moves them (R218–R245).
-/
namespace Sys2Proof.Machine

/-! ### Parameters and access -/

/-- A leaf machine. -/
def State.dleaf (s : State) (l : Nat) : DLeaf := Tbl.get s.dsu.leaf l

/-- Replaces a leaf machine. -/
def State.setDleaf (s : State) (l : Nat) (d : DLeaf) : State := { s with dsu := { s.dsu with leaf := Tbl.set s.dsu.leaf l d } }

/-- DSU's view of a unit. -/
def State.dunit (s : State) (u : Nat) : DUnit := Tbl.get s.dsu.unit u

/-- A field of an edge's configuration register. -/
def eF (s : State) (a e hi lo : Nat) : Nat := s.regF (a + 4 * e) hi lo

/-- Unit `u` (0–15) of edge `e` is declared. -/
def unitDeclared (s : State) (e u : Nat) : Bool := s.regB (Reg.DSU_ECONF + 4 * e) u

/-- The declared units of an edge, as unit IDs. -/
def edgeUnits (s : State) (e : Nat) : List Nat := ((List.range 16).filter (unitDeclared s e)).map (16 * e + ·)

/-- The edge has a declared unit. -/
def edgeEquipped (s : State) (e : Nat) : Bool := eF s Reg.DSU_ECONF e 15 0 != 0

/-- The declared leaves of a declared unit. -/
def unitLeaves (s : State) (u : Nat) : List Nat := [2 * u, 2 * u + 1].filter (leafDeclared s)

/-- The declared leaves of an edge. -/
def edgeLeaves (s : State) (e : Nat) : List Nat := (edgeUnits s e).flatMap (unitLeaves s)

/-- Flags of leaf `l` in its unit's held report. -/
def flagLK (s : State) (l : Nat) : Bool := bitAt (s.dunit (l / 2)).rep (2 + l % 2)
def flagOB (s : State) (l : Nat) : Bool := bitAt (s.dunit (l / 2)).rep (4 + l % 2)
def flagLF (s : State) (l : Nat) : Bool := bitAt (s.dunit (l / 2)).rep (6 + l % 2)
def flagIS (s : State) (l : Nat) : Bool := bitAt (s.dunit (l / 2)).rep (8 + l % 2)
/-- NEW of the unit's report. -/
def flagNew (s : State) (u : Nat) : Bool := bitAt (s.dunit u).rep 12
/-- SI of the unit's report. -/
def flagSI (s : State) (u : Nat) : Bool := bitAt (s.dunit u).rep 11

/-- The runtime's edge view (R219). -/
def evB (s : State) (e b : Nat) : Bool := s.regB (Reg.DSU_EVIEW + 4 * e) b
def evKok (s : State) (e : Nat) : Bool := evB s e 6
def evTrip (s : State) (e : Nat) : Bool := evB s e 5
def evSA (s : State) (e : Nat) : Bool := evB s e 4
def evDA (s : State) (e : Nat) : Bool := evB s e 3
def evEstop (s : State) (e : Nat) : Bool := evB s e 2

/-- A leaf in `UNLOCKING` to `REOPENING`. -/
def LeafSt.moving : LeafSt → Bool
  | .unlocking | .opening | .open_ | .closing | .reopening => true
  | _ => false

/-- A leaf at rest in the proof: `CLOSED_LOCKED` or `ISOLATED`. -/
def LeafSt.atRest : LeafSt → Bool
  | .closedLocked | .isolated => true
  | _ => false

/-- Slot 2i or 2i + 1 has fired. -/
def slotFired (s : State) (i : Nat) : Bool := s.regF (Reg.PDS_SLOTR + 4 * i) 31 29 == 3

/-- The speed check of slot `i` has failed. -/
def slotFailed (s : State) (i : Nat) : Bool := slotFired s i && s.regF (Reg.PDS_SLOTR + 4 * i) 28 27 == 2

/-- Report guard: LK = 1 and TRV ≤ CLOSED_TRV. -/
def leafClosed (s : State) (l : Nat) : Bool := flagLK s l && decide ((s.leaf l).trv ≤ eF s Reg.DSU_ETIM (l / 32) 7 0)

/-! ### Intake at the VC start (R218) -/

/-- The held flags of a unit's report, laid out as DSU_UREPu. -/
def urepWord (r : UnitRep) : Word :=
  let f := r.flags.toNat
  word (4096 + r.ustat.toNat % 2 * 2048 + f / 64 % 4 * 256 + f / 16 % 4 * 64 + f / 4 % 4 * 16 + f % 4 * 4)

/-- The flags of unit `u` at a VC start: a report taken as new replaces them (R218); a due one that is missing is remembered. -/
def dsuIntake (u : Nat) (r : UnitRep) (taken due : Bool) (s : State) : State :=
  let d := s.dunit u
  let tSto := (s.edge (u / 16)).tSto
  let d := if taken then
      let w := urepWord r
      { d with rep := w, siRun := if bitAt w 11 != tSto then d.siRun + 1 else 0 }
    else { d with rep := setBit d.rep 12 false }
  let d := if due then { d with dueNew := taken } else d
  { s with dsu := { s.dsu with unit := Tbl.set s.dsu.unit u d } }

/-! ### Proofs (R220) -/

/-- LOOP_T(e). -/
def loopT (s : State) (e : Nat) : Bool :=
  evB s e 0 && evB s e 1 && (edgeUnits s e).all fun u =>
    (s.dunit u).dueNew && bitAt (s.dunit u).rep 2 && bitAt (s.dunit u).rep 3
      && (unitLeaves s u).all fun l => !leafTracked s l || (s.leaf l).st == .valid

/-- CLK(e). -/
def clkOf (s : State) (e : Nat) : Bool :=
  let d := s.edge e
  loopT s e && (d.st == .secure || d.st == .enabled) && !d.ss && (edgeLeaves s e).all fun l => (s.dleaf l).st.atRest

/-! ### Slots of a leaf (R227) -/

/-- A slot configuration word. -/
def slotWord (kind dir past rearm hyst pos : Nat) : Word :=
  word (kind * 2 ^ 29 + dir * 2 ^ 28 + past * 2 ^ 27 + rearm * 2 ^ 26 + hyst * 2 ^ 16 + pos % 2 ^ 16)

/-- DSU's own port to PDS: argument and configuration of a slot of a tracked leaf. -/
def dsuSlot (i : Nat) (w : Word) (arg : Nat) (s : State) : State :=
  if leafTracked s (i / 2) then slotPut true false i w (s.setReg (Reg.PDS_SLOTA + 4 * i) (word (arg % 2 ^ 16))) else s

/-- Arms the slots of leaf `l` on entry to a state (R227). -/
def armFor (l : Nat) (st : LeafSt) (creep dirOpen : Bool) (s : State) : State :=
  let e := l / 32
  let off := slotWord 0 0 0 0 0 0
  let closing := slotWord 1 0 1 0 0 (eF s Reg.DSU_ETIM e 7 0)
  match st with
  | .opening => dsuSlot (2 * l + 1) (slotWord 1 1 1 0 0 (eF s Reg.DSU_ETRV e 31 16)) 0 (dsuSlot (2 * l) off 0 s)
  | .closing =>
    let s := if creep then dsuSlot (2 * l) off 0 s
      else dsuSlot (2 * l) (slotWord 2 0 1 1 20 (eF s Reg.DSU_ECHK e 31 16)) (eF s Reg.DSU_ECHK e 15 0) s
    dsuSlot (2 * l + 1) closing 0 s
  | .reopening => dsuSlot (2 * l + 1) (slotWord 1 1 1 0 0 (eF s Reg.DSU_ETRV e 15 0)) 0 s
  | .stopping => dsuSlot (2 * l + 1) (slotWord 5 (bit dirOpen) 0 0 0 0x8000) 0 (dsuSlot (2 * l) off 0 s)
  | .closedLocked | .open_ | .torqueOff | .fault => dsuSlot (2 * l + 1) off 0 (dsuSlot (2 * l) off 0 s)
  | _ => s

/-- The cycle record on entry to a state (R402). -/
def logEntry (st : LeafSt) (vcn : Word) (d : DLeaf) : DLeaf :=
  match st with
  | .unlocking => { d with openVcn := vcn, openedVcn := 0, closeVcn := 0, reports := 0, peak := 0, samples := [] }
  | .open_ => { d with openedVcn := vcn }
  | .closing => { d with closeVcn := vcn, reports := 0, peak := 0, samples := [] }
  | _ => d

/-- A leaf enters a state: its timer restarts and its slots are armed. -/
def enterLeaf (l : Nat) (st : LeafSt) (s : State) : State :=
  let d := s.dleaf l
  let moved := d.moved || st == .stopping || st == .torqueOff || st == .fault
  let d := { d with st := st, timer := 0, lockT := 0, unitSs := false, limit := 0, moved := moved }
  armFor l st d.creep d.dirOpen (s.setDleaf l (logEntry st s.sys.vcn d))

/-- Changes a leaf machine. -/
def updLeaf (l : Nat) (f : DLeaf → DLeaf) (s : State) : State := s.setDleaf l (f (s.dleaf l))

/-- Changes an edge machine. -/
def updEdge (e : Nat) (f : DEdge → DEdge) (s : State) : State := s.setEdge e (f (s.edge e))

/-- Notes what door commands wait for. -/
def doorEvent (v : DoorEvent) (s : State) : State := { s with dsu := { s.dsu with events := s.dsu.events ++ [v] } }

/-- A new report of a closing leaf joins its cycle record. -/
def logReport (s : State) (l : Nat) : State :=
  let d := s.dleaf l
  let p := s.leaf l
  if d.st = .closing ∧ p.isNew then
    let n := d.reports + 1
    s.setDleaf l { d with
      reports := n, peak := max d.peak p.vel.natAbs
      samples := if n % 4 = 0 ∧ d.samples.length < 16 then d.samples ++ [(p.trv, p.vel)] else d.samples }
  else s

/-- The LEAF_CYCLE record of a leaf whose cycle ends in a state (R402). -/
def logCycle (l endState : Nat) (s : State) : State :=
  let d := s.dleaf l
  let r := s.reg (Reg.PDS_SLOTR + 4 * (2 * l))
  if d.cyc then
    let smp := d.samples.flatMap fun x => le2 x.1 ++ le2 (unsigned 16 x.2)
    recordLater 4 ([byte l, byte endState, byte d.reopens, byte (field r 28 27)] ++ le4 d.opened ++ le4 d.openVcn ++ le4 d.openedVcn
      ++ le4 d.closeVcn ++ le4 s.sys.vcn ++ le2 (field r 15 0) ++ le2 d.peak ++ le4 0
      ++ (smp ++ List.replicate 64 0#8).take 64) s
  else s

/-- ABORTED += CYC; CYC := 0. -/
def abortCount (d : DLeaf) : DLeaf :=
  { d with aborted := if d.cyc then satInc d.aborted else d.aborted, cyc := false, changed := true }

/-- A cycle of a leaf ends as aborted, in a state. -/
def abortCycle (l endState : Nat) (s : State) : State :=
  let s := logCycle l endState s
  s.setDleaf l (abortCount (s.dleaf l))

/-! ### Edge-local safe state (R41, R230) -/

/-- The edge enters `LOCAL_SAFE` with a cause. The cause refuses a restoration of the same step, and for an edge that is there already it
abandons one that has been accepted (R43, R231, R239). -/
def enterLocal (e code : Nat) (s : State) : State :=
  let d := s.edge e
  if d.st = .localSafe then s.setEdge e { d with newCause := true }
  else
    let s := s.setEdge e { d with
      st := .localSafe, ss := false, restoring := false, newCause := true, wdPend := false, clk := false, tDoe := false, tSto := false
      pcount := 0, cause := code, closeT := none, openSet := 0 }
    let s := (edgeLeaves s e).foldl (fun s l =>
      match (s.dleaf l).st with
      | .closedLocked | .isolated | .fault => s
      | _ => enterLeaf l .torqueOff s) s
    doorEvent (.stopped e code) (busCancel e (s.setRegB Reg.CRD_FREEZE e true))

/-- A class L cause that the DSU finds itself: its record, then the edge. -/
def localCause (e code obj val : Nat) (s : State) : State := enterLocal e code (note code obj val s)

/-! ### Item 1: entries to `LOCAL_SAFE` -/

/-- Sets a leaf's tracked bit (R197). -/
def setTracked (l : Nat) (b : Bool) (s : State) : State :=
  let m := l / 32
  trackWrite m (setBit (s.reg (Reg.PDS_TRACK + 4 * m)) (l % 32) b) s

/-- The start rule of a leaf (R243) at the first step after `JOIN`, on the report that is held of it; a leaf without one is not closed
(DEDUCED, log entry 76). An isolated leaf is untracked (R197, R240). -/
def startLeaf (s : State) (l : Nat) : State :=
  let d := s.dleaf l
  if s.sys.state = .join ∨ d.started then s
  else if leafClosed s l then
    let s := abortCycle l (if d.isoMark then 8 else 0) s
    let s := s.setDleaf l { s.dleaf l with started := true }
    if d.isoMark then setTracked l false (enterLeaf l .isolated s) else enterLeaf l .closedLocked s
  else
    localCause (l / 32) 0x0717 3 l (enterLeaf l .torqueOff (s.setDleaf l { d with started := true }))

/-- The plunger of an edge (0x0701): recorded when it is found released, and the edge's cause while it is. -/
def plunger (s : State) (e : Nat) : State :=
  if evEstop s e then updEdge e (fun d => { d with plunger := false }) s
  else if (s.edge e).plunger then s
  else localCause e 0x0701 2 e (updEdge e (fun d => { d with plunger := true }) s)

/-- The STO input of one unit (0x070F): three consecutive new reports that differ from the line command. -/
def stoInput (s : State) (u : Nat) : State :=
  let d := s.dunit u
  if d.siRun ≥ 3 then
    localCause (u / 16) 0x070F 4 u { s with dsu := { s.dsu with unit := Tbl.set s.dsu.unit u { d with siRun := 0 } } }
  else s

/-- Creep closing faster than CREEP_VMAX (0x070E). -/
def creepCheck (s : State) (l : Nat) : State :=
  let d := s.dleaf l
  let p := s.leaf l
  if d.st = .closing ∧ d.creep ∧ p.isNew ∧ p.vel.natAbs > eF s Reg.DSU_ESSC (l / 32) 15 0 then
    localCause (l / 32) 0x070E 3 l (enterLeaf l .torqueOff s)
  else s

/-- Item 1 of a step (R231) for one edge. -/
def stepLocal (s : State) (e : Nat) : State :=
  let s := (edgeLeaves s e).foldl startLeaf s
  let s := plunger s e
  let s := (edgeUnits s e).foldl stoInput s
  let s := (edgeLeaves s e).foldl creepCheck s
  let d := s.edge e
  let s := match d.localReq with
    | some c => enterLocal e c (s.setEdge e { d with localReq := none })
    | none => s
  let w := (s.edge e).ecmd
  if field w 31 28 = 7 then
    doorEvent (.accepted e) (updEdge e (fun d => { d with cmdOk := true }) (enterLocal e (field w 15 0) s))
  else s

/-! ### Item 2: envelopes and ramp ends (R235, R236) -/

/-- ⌊√n⌋ for n below 2^32, bit by bit. -/
def isqrt (n : Nat) : Nat :=
  ((List.range 16).reverse.map (2 ^ ·)).foldl (fun r b => if (r + b) * (r + b) ≤ n then r + b else r) 0

/-- The envelope at a report: whether it is violated, and LIMIT (R235). -/
def envelope (aEnv sLag vtol v0 : Nat) (sv vd : Int) (v : Nat) : Bool × Nat :=
  let sEff : Nat := (sv - (sLag : Int)).toNat
  let e : Int := ((v0 * v0 : Nat) : Int) - ((aEnv * sEff * 2 ^ 17 / 100000 : Nat) : Int)
  let r := isqrt e.toNat
  let bad := decide (sv < -(sLag : Int)) || decide (vd < -(vtol : Int)) || (decide (e ≤ 0) && decide (v > vtol))
    || (decide (e > 0) && decide (v > vtol + r))
  (bad, min 0xFFFF (r + vtol))

/-- A leaf's ramp is violated or has timed out: the unit's torque is removed and the edge goes `LOCAL_SAFE`. The code replaces
the cause of a safe stop in progress. -/
def rampFault (l code : Nat) (s : State) : State := localCause (l / 32) code 3 l (enterLeaf l .torqueOff s)

/-- Item 2 for one leaf. -/
def stepRamp (s : State) (l : Nat) : State :=
  let d := s.dleaf l
  let e := l / 32
  let p := s.leaf l
  if d.st ≠ .stopping ∨ d.moved then s
  else
    let d := { d with stopT := d.stopT + 1 }
    let vst := eF s Reg.DSU_ESSB e 23 16
    let v := p.vel.natAbs
    let (bad, lim) := envelope (eF s Reg.DSU_ESSA e 31 16) (eF s Reg.DSU_ESSB e 15 8) (eF s Reg.DSU_ESSB e 31 24) d.v0
      (signed 16 (s.regF (Reg.PDS_SLOTR + 4 * (2 * l + 1)) 15 0)) (if d.dirOpen then p.vel else -p.vel) v
    let d := if p.isNew then { d with limit := lim, still := if v ≤ vst then d.still + 1 else 0 } else d
    let s := s.setDleaf l d
    if p.isNew && bad then rampFault l 0x0702 s
    else if d.stopT ≥ eF s Reg.DSU_ESSC e 31 16 then rampFault l 0x0703 s
    else if p.isNew && decide (d.still ≥ eF s Reg.DSU_ESSB e 3 0) then enterLeaf l .torqueOff s
    else s

/-! ### Item 3: safe stops (R230, R234) -/

/-- A leaf enters `STOPPING` (R234). -/
def stopLeaf (unitLevel : Bool) (s : State) (l : Nat) : State :=
  let d := s.dleaf l
  let p := s.leaf l
  if d.st.moving && !d.moved then
    let dir := if p.vel > 0 then true else if p.vel < 0 then false else d.st != .closing
    let s := enterLeaf l .stopping (s.setDleaf l { d with v0 := p.vel.natAbs, dirOpen := dir, still := 0, stopT := 0 })
    updLeaf l (fun d => { d with unitSs := unitLevel }) s
  else s

/-- An edge safe stop with its code. -/
def edgeStop (e code : Nat) (s : State) : State :=
  let s := updEdge e (fun d => { d with ss := true, tDoe := false, cause := code }) (note code 2 e s)
  doorEvent (.stopped e code) ((edgeLeaves s e).foldl (stopLeaf false) s)

/-- The conditions under which an edge keeps its enable, beside DA (R223). -/
def doeGuard (s : State) (e : Nat) : Bool := berthProof s e && zspdProof s e && evKok s e

/-- Item 3 for one edge. -/
def stepStop (s : State) (e : Nat) : State :=
  let d := s.edge e
  let g := doeGuard s e
  match d.st with
  | .enabled => if g then s else s.setEdge e { d with tDoe := false, st := .secure }
  | .closing | .provingClosed => if g && evDA s e then s else s.setEdge e { d with tDoe := false }
  | .inCycle =>
    if d.ss then s
    else if !(berthProof s e && zspdProof s e) then edgeStop e 0x0704 s
    else if d.tDoe && (!evDA s e || !evKok s e) then edgeStop e 0x0705 s
    else if field d.ecmd 31 28 = 6 then
      doorEvent (.accepted e) (updEdge e (fun d => { d with cmdOk := true }) (edgeStop e 0x0705 s))
    else s
  | _ => s

/-! ### Item 4: leaf faults (R228, R229) -/

/-- The code of a leaf's fault in this step; none when it has none (R228). -/
def leafFault (s : State) (l : Nat) : Option Nat :=
  let d := s.dleaf l
  let e := l / 32
  let lkVc := 10 * eF s Reg.DSU_ETIM e 31 24
  if d.st = .isolated ∨ d.st = .torqueOff ∨ d.st = .fault then none
  else if flagLF s l ∨ flagIS s l then some 0x0707
  else if d.st = .closedLocked ∧ ¬ flagLK s l then some 0x0708
  else if (d.st = .unlocking ∧ flagLK s l ∧ d.timer ≥ lkVc) ∨ (d.st = .closing ∧ ¬ flagLK s l ∧ slotFired s (2 * l + 1) ∧ d.lockT ≥ lkVc) then
    some 0x0709
  else if (d.st = .unlocking ∨ d.st = .opening) ∧ d.openT ≥ 100 * eF s Reg.DSU_ETIM e 23 16 then some 0x070A
  else none

/-- Says whether a unit receives STO at once (R229). -/
def setStoAtOnce (u : Nat) (b : Bool) (s : State) : State :=
  { s with dsu := { s.dsu with unit := Tbl.set s.dsu.unit u { s.dunit u with stoAtOnce := b } } }

/-- The fault action on a leaf's unit (R229). -/
def faultAction (l : Nat) (s : State) : State :=
  let u := l / 2
  let ls := unitLeaves s u
  let vst := eF s Reg.DSU_ESSB (l / 32) 23 16
  let inRange := (s.dleaf l).st.moving
  if ls.any fun x => decide ((s.leaf x).vel.natAbs > vst) then
    let s := ls.foldl (stopLeaf true) s
    if inRange then s else enterLeaf l .fault s
  else
    let s := setStoAtOnce u true (enterLeaf l .fault s)
    ls.foldl (fun s x => if x ≠ l ∧ (s.dleaf x).st.moving then enterLeaf x .torqueOff s else s) s

/-- A leaf fault: its record and the fault action. -/
def leafFails (code l : Nat) (s : State) : State :=
  let s := if code = 0x070A then doorEvent (.openTimeout (l / 32)) s else s
  faultAction l (note code 3 l s)

/-- Item 4 for one leaf: a failed closing-speed check stops the unit; a leaf fault takes the fault action. -/
def stepFault (s : State) (l : Nat) : State :=
  let d := s.dleaf l
  if d.moved || !d.started then s
  else if d.st == .closing && !d.creep && leafTracked s l && slotFailed s (2 * l) then
    (unitLeaves s (l / 2)).foldl (stopLeaf true) (note 0x0706 3 l s)
  else if d.st == .isolated then noteIf (flagNew s (l / 2) && !flagIS s l) 0x0707 3 l s
  else match leafFault s l with
    | some c => leafFails c l s
    | none => s

/-! ### Items 5 and 6: commands (R230, R239, R240) -/

/-- Leaves of an edge go to `CLOSING` (R226). -/
def leavesToClosing (e : Nat) (s : State) : State :=
  (edgeLeaves s e).foldl (fun s l =>
    match (s.dleaf l).st with
    | .unlocking | .opening | .open_ => enterLeaf l .closing (updLeaf l (fun d => { d with reopens := 0, held := false, creep := false }) s)
    | _ => s) s

/-- CLOSE or WITHDRAW takes an edge from `IN_CYCLE` to `CLOSING`. -/
def edgeToClosing (e : Nat) (s : State) : State :=
  leavesToClosing e (updEdge e (fun d => { d with st := .closing, pcount := 0, closeT := some 0 }) s)

/-- CLOSE lifts the hold of leaves stopped on an obstacle (R226). -/
def liftHolds (e : Nat) (s : State) : State :=
  (edgeLeaves s e).foldl (fun s l =>
    let d := s.dleaf l
    if d.st = .closing ∧ d.held then s.setDleaf l { d with held := false, reopens := 0 } else s) s

/-- A leaf restore (R226): closed and locked at once, or creep closing. -/
def leafRestore (l : Nat) (s : State) : State :=
  let s := setStoAtOnce (l / 2) false (updLeaf l (fun d => { d with started := true }) s)
  if leafClosed s l then enterLeaf l .closedLocked (abortCycle l 0 s)
  else enterLeaf l .closing (updLeaf l (fun d => { d with creep := true, reopens := 0, held := false }) s)

/-- OPEN: the mask is latched and its closed leaves unlock (R225, R226); it is complete when every leaf in the mask is `OPEN` (R224), at
once where the mask has none. -/
def edgeOpen (e : Nat) (s : State) : State :=
  let mask := if eF s Reg.DSU_EIN e 28 27 = 1 then eF s Reg.DSU_CORR e 15 0 else eF s Reg.DSU_ECONF e 15 0
  let go := (edgeLeaves s e).filter fun l => mask.testBit (l % 32 / 2) && (s.dleaf l).st == .closedLocked
  let all := (edgeLeaves s e).filter fun l => mask.testBit (l % 32 / 2)
  let s := updEdge e (fun d => { d with st := .inCycle, cycleVcn := s.sys.vcn, mask := BitVec.ofNat 16 mask, openSet := bitsOf 32 fun i => all.contains (32 * e + i) }) s
  let s := if all.isEmpty then doorEvent (.opened e) s else s
  go.foldl (fun s l => enterLeaf l .unlocking
    (updLeaf l (fun d => { d with opened := satInc d.opened, cyc := true, openT := 0, changed := true }) s)) s

/-- No class L cause of the edge stands: no leaf is lost, the plunger circuit is healthy, none has come in this step and none waits for
it (R231, R239). -/
def noCauseStands (s : State) (e : Nat) : Bool :=
  evEstop s e && (s.edge e).localReq.isNone && !(s.edge e).newCause && (edgeLeaves s e).all fun l => !leafTracked s l || (s.leaf l).st == .valid

/-- No leaf of the edge has a latched velocity above V_STILL (R239). -/
def leavesStill (s : State) (e : Nat) : Bool :=
  (edgeLeaves s e).all fun l => decide ((s.leaf l).vel.natAbs ≤ eF s Reg.DSU_ESSB e 23 16)

/-- An edge command as the edge table takes it (R230): the state and, when it is refused, the code. -/
def edgeCommand (e : Nat) (s : State) : State × Option Nat :=
  let d := s.edge e
  let ok (s : State) : State × Option Nat := (s, none)
  let no (c : Nat) : State × Option Nat := (s, some c)
  match field d.ecmd 31 28 with
  | 1 =>
    if d.st = .secure ∧ doeGuard s e ∧ clkOf s e then
      ok (s.setEdge e { d with st := .enabled, tDoe := true, ses := field d.ecmd 23 16, enabledVcn := s.sys.vcn })
    else no 0x0714
  | 2 =>
    if d.st = .enabled ∧ evDA s e then
      if eF s Reg.DSU_EIN e 28 27 = 1 ∧ ¬ s.regB (Reg.DSU_CORR + 4 * e) 31 then no 0x0716 else ok (edgeOpen e s)
    else no 0x0714
  | 3 =>
    if d.st = .inCycle ∧ ¬ d.ss then ok (edgeToClosing e s)
    else if d.st = .closing then ok (liftHolds e (s.setEdge e { d with closeT := some 0 }))
    else no 0x0714
  | 4 => match d.st with
    | .secure => ok s
    | .enabled => ok (s.setEdge e { d with st := .secure, tDoe := false })
    | .inCycle => if d.ss then ok (s.setEdge e { d with wdPend := true }) else ok (edgeToClosing e (s.setEdge e { d with wdPend := true }))
    | .closing | .provingClosed => ok (s.setEdge e { d with wdPend := true })
    | .localSafe => no 0x0714
  | 5 =>
    if d.st = .localSafe ∧ ¬ d.restoring ∧ noCauseStands s e ∧ leavesStill s e then
      ok (s.setEdge e { d with restoring := true, newCause := false, restVcn := s.sys.vcn })
    else no 0x0715
  | 8 => ok (s.setEdge e { d with ses := 0 })
  | _ => no 0x0714

/-- The step "release" of a restoration in VC r + 1, or its abandonment (R239); a leaf that an earlier item has moved stays (R231). -/
def restorationRelease (e : Nat) (s : State) : State :=
  let d := s.edge e
  if d.newCause || evTrip s e || !evSA s e then
    doorEvent (.restoreRefused e) (note 0x0715 2 e (s.setEdge e { d with restoring := false, newCause := false }))
  else
    let s := s.setEdge e { d with st := .closing, pcount := 0, cause := 0, closeT := none, wdPend := false }
    ((edgeLeaves s e).filter fun l => !(s.dleaf l).moved).foldl (fun s l =>
      match (s.dleaf l).st with
      | .torqueOff | .fault => leafRestore l s
      | _ => s) s

/-- Item 5 for one edge: the release of a restoration that is due, then the edge command not yet taken. -/
def stepCommand (s : State) (e : Nat) : State :=
  let d := s.edge e
  let s := if d.st = .localSafe ∧ d.restoring ∧ later s.sys.vcn d.restVcn then restorationRelease e s else s
  let c := field (s.edge e).ecmd 31 28
  if c = 0 ∨ (s.edge e).cmdOk then s
  else match edgeCommand e s with
    | (s, none) => doorEvent (.accepted e) (updEdge e (fun d => { d with cmdOk := true }) s)
    | (s, some code) => doorEvent (.refused e code) (note code 2 e s)

/-- ISOLATE is allowed (R240). -/
def isolateOk (s : State) (l : Nat) : Bool :=
  let d := s.dleaf l
  (d.st == .closedLocked || d.st == .torqueOff || d.st == .fault) && leafClosed s l && !d.moved
    && match (s.edge (l / 32)).st with
      | .secure | .closing | .provingClosed | .localSafe => true
      | _ => false

/-- RESTORE is allowed (R240). -/
def restoreOk (s : State) (l : Nat) : Bool :=
  let d := s.dleaf l
  let est := (s.edge (l / 32)).st
  (est == .secure || est == .localSafe) && !d.moved &&
    ((d.st == .isolated && leafClosed s l && !flagIS s l) || d.st == .torqueOff || d.st == .fault)

/-- One DSU_LCMD write (R240). -/
def leafCommand (s : State) (w : Word) : State :=
  let l := field w 7 0
  let refuse (code : Nat) : State := doorEvent (.leafRefused l) (note code 3 l s)
  match field w 31 28 with
  | 1 =>
    if isolateOk s l then
      let s := enterLeaf l .isolated (abortCycle l 8 s)
      doorEvent (.leafAccepted l) (updLeaf l (fun d => { d with started := true }) (setTracked l false s))
    else refuse 0x0714
  | 2 =>
    if restoreOk s l then
      if (s.dleaf l).st = .isolated then
        doorEvent (.leafAccepted l) (enterLeaf l .closedLocked (updLeaf l (fun d => { d with changed := true }) (setTracked l true s)))
      else doorEvent (.leafAccepted l) (leafRestore l s)
    else refuse 0x0714
  | _ => refuse 0x0711

/-! ### Item 7: progress (R226, R230) -/

/-- A closing leaf's progress; the time without lock runs from the crossing of CLOSED_TRV on, an obstacle or none (R228). -/
def closingLeaf (l : Nat) (s : State) : State :=
  let d := s.dleaf l
  let e := l / 32
  let fired := slotFired s (2 * l + 1)
  let d := if fired && !flagLK s l then { d with lockT := d.lockT + 1 } else d
  let s := s.setDleaf l d
  if flagOB s l then
    if d.held then s
    else if (s.edge e).tDoe ∧ evDA s e ∧ d.reopens < eF s Reg.DSU_ECONF e 31 28 then
      enterLeaf l .reopening (updLeaf l (fun d => { d with reopens := d.reopens + 1 }) (note 0x070D 3 l s))
    else note 0x070C 3 l (s.setDleaf l { d with held := true })
  else if fired && flagLK s l then
    let s := logCycle l 0 s
    let d' := if d.cyc then
        if d.creep then { d with aborted := satInc d.aborted } else { d with closed := satInc d.closed }
      else d
    enterLeaf l .closedLocked (s.setDleaf l { d' with cyc := false, creep := false, held := false, changed := d.cyc || d.changed })
  else s

/-- Item 7 for one leaf. -/
def stepLeaf (s : State) (l : Nat) : State :=
  let d := s.dleaf l
  if d.moved then s
  else match d.st with
    | .unlocking => if flagLK s l then s else enterLeaf l .opening s
    | .opening => if slotFired s (2 * l + 1) then enterLeaf l .open_ s else s
    | .reopening => if slotFired s (2 * l + 1) then enterLeaf l .closing s else s
    | .closing => closingLeaf l s
    | _ => s

/-- PCOUNT has reached PROVE_N: back to `ENABLED`, or `SECURE` with what ends there (R230, R239) and the EDGE_CYCLE record (R402). -/
def provingDone (e : Nat) (s : State) : State :=
  let d := s.edge e
  if d.tDoe ∧ ¬ d.wdPend ∧ ¬ d.restoring then doorEvent (.closed e) (s.setEdge e { d with st := .enabled, closeT := none })
  else
    let s := recordLater 5 ([byte e, byte d.ses] ++ le2 d.mask.toNat ++ le4 d.enabledVcn ++ le4 d.cycleVcn ++ le4 s.sys.vcn ++ le2 d.cause
      ++ List.replicate 6 0#8) s
    let s := doorEvent (.closed e) (s.setEdge e { d with st := .secure, tDoe := false, wdPend := false, restoring := false, closeT := none })
    if d.restoring then doorEvent (.restored e) (s.setRegB Reg.CRD_FREEZE e false) else s

/-- The proving of an edge (R230). -/
def edgeProve (e : Nat) (lt : Bool) (s : State) : State :=
  let d := s.edge e
  let rest := (edgeLeaves s e).all fun l => (s.dleaf l).st.atRest
  let left := (edgeLeaves s e).any fun l => (s.dleaf l).wasClosed && (s.dleaf l).st != .closedLocked
  let s := match d.st with
    | .closing => if rest then s.setEdge e { d with st := .provingClosed, pcount := bit lt } else s
    | .provingClosed =>
      if ¬ rest ∨ left then s.setEdge e { d with st := .closing, pcount := 0 }
      else s.setEdge e { d with pcount := if lt then min 15 (d.pcount + 1) else 0 }
    | _ => s
  let d := s.edge e
  if d.st = .provingClosed ∧ d.pcount ≥ eF s Reg.DSU_ECONF e 27 24 then provingDone e s else s

/-- CLOSE_T of an accepted close, counted from the step that accepts it (0x070B). -/
def closeTimer (e : Nat) (s : State) : State :=
  let d := s.edge e
  match d.closeT with
  | none => s
  | some n =>
    if n ≥ 100 * eF s Reg.DSU_ETIM e 15 8 then
      doorEvent (.closeTimeout e) (note 0x070B 2 e (s.setEdge e { d with closeT := none }))
    else s.setEdge e { d with closeT := some (n + 1) }

/-- Item 7 for one edge. -/
def stepEdge (s : State) (e : Nat) : State :=
  let s := (edgeLeaves s e).foldl stepLeaf s
  let d := s.edge e
  let s := if d.st = .inCycle then
      if d.ss then
        if (edgeLeaves s e).any fun l => (s.dleaf l).st == .stopping then s else enterLocal e d.cause s
      else if d.openSet ≠ 0 ∧ (edgeLeaves s e).all (fun l => !bitAt d.openSet (l % 32) || (s.dleaf l).st == .open_) then
        doorEvent (.opened e) (s.setEdge e { d with openSet := 0 })
      else s
    else closeTimer e (edgeProve e (loopT s e) s)
  updEdge e (fun d => { d with tSto := d.st != .localSafe || d.restoring, loopT := loopT s e, clk := clkOf s e }) s

/-! ### The step (R244) -/

/-- Every declared leaf's conservation (R241): the first that fails. -/
def countFail (s : State) : Option Nat :=
  (s.dsu.leaf.find? fun p => p.2.opened != p.2.closed + p.2.aborted + (if p.2.cyc then 1#32 else 0#32)).map (·.1)

/-- The conservation check with its register, and `SAFE` when it fails. -/
def countCheck (s : State) : State :=
  match countFail s with
  | none => s.setReg Reg.DSU_COUNT_CHECK 0xC0000000#32
  | some l => raiseS 0x0710 3 l (s.setReg Reg.DSU_COUNT_CHECK (word (2 ^ 31 + l)))

/-- Timers of one leaf at the start of a step. -/
def tickLeaf (d : DLeaf) : DLeaf :=
  { d with timer := min 65535 (d.timer + 1), moved := false, wasClosed := d.st == .closedLocked
           openT := if d.st = .unlocking ∨ d.st = .opening then d.openT + 1 else d.openT }

/-- One step of every machine, in the order of R231. -/
def dsuStep (s : State) : State :=
  let es := (List.range 8).filter (edgeEquipped s)
  let ls := es.flatMap (edgeLeaves s)
  let s := { s with dsu := { s.dsu with events := [] } }
  let s := ls.foldl (fun s l => logReport (updLeaf l tickLeaf s) l) s
  let s := es.foldl (fun s e => updEdge e (fun d => { d with cmdOk := false, newCause := d.restoring && d.newCause }) s) s
  let s := es.foldl stepLocal s
  let s := ls.foldl stepRamp s
  let s := es.foldl stepStop s
  let s := ls.foldl stepFault s
  let s := es.foldl stepCommand s
  let s := s.dsu.lcmds.foldl leafCommand s
  let s := es.foldl stepEdge s
  let s := es.foldl (fun s e => updEdge e (fun d => { d with ecmd := 0 }) s) s
  countCheck { s with dsu := { s.dsu with lcmds := [] } }

/-! ### Content (R232) -/

/-- Unit `u` (ID) is under STO: its edge is `LOCAL_SAFE` and not restoring, or a leaf of it is `TORQUE_OFF` or `FAULT` and none
is `STOPPING`, unless a fault action gave it STO at once (R226, R229). -/
def underSto (s : State) (u : Nat) : Bool :=
  let d := s.edge (u / 16)
  if d.st = .localSafe then !d.restoring
  else
    let sts := (unitLeaves s u).map fun l => (s.dleaf l).st
    sts.any (fun t => t == .torqueOff || t == .fault) && (!sts.contains .stopping || (s.dunit u).stoAtOnce)

/-- The permissive block of an edge. -/
def edgeBlock (s : State) (e : Nat) : BitVec 64 :=
  let d := s.edge e
  bitsOf 64 fun b =>
    if b < 32 then
      d.tDoe && bitAt d.mask (b / 2) && unitDeclared s e (b / 2) && leafDeclared s (32 * e + b) && (s.dleaf (32 * e + b)).st.moving
    else if b < 48 then unitDeclared s e (b - 32) && d.tSto && d.st != .localSafe && !underSto s (16 * e + (b - 32))
    else false

/-- The command a leaf needs: 0 HOLD, 1 OPEN, 2 CLOSE, 3 REOPEN, 4 RAMP, 6 CREEP. -/
def leafCmd (d : DLeaf) : Nat :=
  match d.st with
  | .unlocking | .opening => 1
  | .closing => if d.held then 0 else if d.creep then 6 else 2
  | .reopening => 3
  | .stopping => 4
  | _ => 0

/-- The command byte of a unit (ID). -/
def unitCmd (s : State) (u : Nat) : Nat :=
  if !unitDeclared s (u / 16) (u % 16) then 0
  else if underSto s u then 0x53
  else
    let c (l : Nat) : Nat := if leafDeclared s l then leafCmd (s.dleaf l) else 0
    let c0 := c (2 * u)
    let c1 := c (2 * u + 1)
    match [4, 3, 6, 2, 1].find? fun k => c0 == k || c1 == k with
    | some k => 16 * k + (if c0 = k then 1 else 0) + (if c1 = k then 2 else 0)
    | none => 0

end Sys2Proof.Machine
end

