-- ==== Sys2Proof/Machine/LedgerOps.lean ====
section
/-!
DEFINITION. The Cord ledger's shared operations: token entries, running counts and sum, the ledger operations of R170, the
timers of R174 and the census of R178.
-/
namespace Sys2Proof.Machine

/-- STATE of a token entry (R168): 0 `FREE`, 1 `HELD`, 2 `RELEASING`, 3 `BLOCKED`, 4 `LENT`, 5 `HELD_REMOTE`. -/
def tokSt (w : Word) : Nat := field w 31 29

/-- TIMER of a token entry. -/
def tokTimer (w : Word) : Nat := field w 27 8

/-- HOLDER of a token entry. -/
def tokHolder (w : Word) : Nat := field w 7 0

/-- A token entry. -/
def mkTok (st timer holder : Nat) : Word := word (st % 8 * 2 ^ 29 + timer % 2 ^ 20 * 2 ^ 8 + holder % 256)

/-- The token entry of an element. -/
def State.tok (s : State) (i : Nat) : Word := Tbl.get s.crd.tok i

/-- The position kind of an element (R168), from CRD_ATTR: 0 undeclared, 1 owned, 2 foreign, 3 invalid. -/
def posKind (s : State) (i : Nat) : Nat := field (s.reg (Reg.CRD_ATTR + 4 * (i / 16))) (2 * (i % 16) + 1) (2 * (i % 16))

/-- OWN_SLOT as the ledger holds it. -/
def State.ownSlot (s : State) : Nat := s.regF Reg.CRD_CONF 2 0

/-- The element is a frozen edge element (R175). -/
def tokFrozen (s : State) (i : Nat) : Bool := decide (1016 ≤ i) && s.regB Reg.CRD_FREEZE (i - 1016)

/-- The term h of the running sum (R177). -/
def tokSum (i : Nat) (w : Word) : Word :=
  if tokSt w = 0 ∧ tokHolder w = 0 then 0
  else crc32c (le4 (word (i * 2 ^ 16 + tokSt w * 2 ^ 8 + tokHolder w)))

/-- Adds `d` to the running count of a state (R177). -/
def cntAdd (st : Nat) (d : Int) (c : Crd) : Crd :=
  let f (n : Nat) : Nat := ((n : Int) + d).toNat
  match st with
  | 0 => { c with nFree := f c.nFree }
  | 1 => { c with nHeld := f c.nHeld }
  | 2 => { c with nRel := f c.nRel }
  | 3 => { c with nBlk := f c.nBlk }
  | 4 => { c with nLent := f c.nLent }
  | 5 => { c with nRem := f c.nRem }
  | _ => c

/-- Changes a token entry with its running count and sum (R177). -/
def tokSet (i : Nat) (w : Word) (s : State) : State :=
  let old := s.tok i
  let c := cntAdd (tokSt w) 1 (cntAdd (tokSt old) (-1) s.crd)
  { s with crd := { c with tok := Tbl.set c.tok i w } }.setReg Reg.CRD_TSUM (s.reg Reg.CRD_TSUM - tokSum i old + tokSum i w)

/-- One word of a ledger operation: opcode, element, new holder, count; and its operand: subject, timer. -/
structure CrdOp where
  opc : Nat
  elem : Nat
  holder : Nat
  count : Nat
  subj : Nat
  timer : Nat
  deriving DecidableEq, Repr

/-- The operation that CRD_OP and CRD_OPA words spell. -/
def crdOpOf (op opa : Word) : CrdOp :=
  ⟨field op 31 28, field op 25 16, field op 15 8, field op 6 0, field opa 31 24, field opa 19 0⟩

/-- A result: status, list position, element (CRD_RESULT). -/
structure CrdRes where
  status : Nat
  pos : Nat
  elem : Nat
  deriving DecidableEq, Repr

/-- Entry `k` of the ACQUIRE list. -/
def listEntry (s : State) (k : Nat) : Nat :=
  let w := s.reg (Reg.CRD_LIST + 4 * (k / 2))
  if k % 2 = 0 then field w 9 0 else field w 25 16

/-- Why one element of an ACQUIRE breaks the precondition; 0 when it does not. -/
def acquireStatus (s : State) (x : Nat) : Nat :=
  if posKind s x = 0 then 6
  else if posKind s x ≠ 1 then 4
  else if tokFrozen s x then 7
  else if s.tok x ≠ 0#32 then 1
  else 0

/-- The first list position whose element repeats an earlier one. -/
def firstRepeat : List Nat → List Nat → Nat → Option (Nat × Nat)
  | _, [], _ => none
  | seen, x :: xs, k => if seen.contains x then some (k, x) else firstRepeat (x :: seen) xs (k + 1)

/-- The first list position whose token breaks the precondition (R173). -/
def firstBad (s : State) : List Nat → Nat → Option CrdRes
  | [], _ => none
  | x :: xs, k => if acquireStatus s x = 0 then firstBad s xs (k + 1) else some ⟨acquireStatus s x, k, x⟩

/-- ACQUIRE of a list of elements (R170, R173): every token or none. -/
def acquireList (xs : List Nat) (h : Nat) (s : State) : State × CrdRes :=
  if xs.length = 0 ∨ xs.length > 64 ∨ h = 0 ∨ h > 255 then (s, ⟨8, 0, 0⟩)
  else match firstRepeat [] xs 0 with
    | some (k, x) => (s, ⟨8, k, x⟩)
    | none => match firstBad s xs 0 with
      | some r => (s, r)
      | none => (xs.foldl (fun s x => tokSet x (mkTok 1 0 h) s) s, ⟨0, 0, 0⟩)

/-- What an operation other than ACQUIRE and the loads needs and does (R170): the position kind it needs (1 owned, 2 foreign, 0
any declared), the token states it finds, whether the holder must be the subject, and the new entry. -/
structure CrdRule where
  kind : Nat
  from_ : List Nat
  needSubj : Bool
  argOk : Bool
  extra : Bool
  to_ : Word
  deriving DecidableEq, Repr

/-- The rule of an opcode 0x2–0xC on an entry (R170). -/
def crdRule (s : State) (o : CrdOp) : Option CrdRule :=
  let tOk := decide (1 ≤ o.timer ∧ o.timer ≤ 600000)
  let sesOk := decide (1 ≤ o.holder)
  let w := s.tok o.elem
  match o.opc with
  | 0x2 => some ⟨1, [1], true, true, true, 0#32⟩
  | 0x3 => some ⟨0, [1, 5], true, tOk, true, mkTok 2 o.timer o.subj⟩
  | 0x4 => some ⟨1, [1], true, sesOk && o.holder != o.subj, true, mkTok 1 0 o.holder⟩
  | 0x5 => some ⟨1, [0], false, decide (o.holder ≤ 7), true, mkTok 3 0 o.holder⟩
  | 0x6 => some ⟨0, [3], false, true, decide (tokHolder w ≤ 7), 0#32⟩
  | 0x7 => some ⟨1, [0], false, decide (o.holder ≤ 7) && o.holder != s.ownSlot, true, mkTok 4 0 o.holder⟩
  | 0x8 => some ⟨0, [4], true, true, true, 0#32⟩
  | 0x9 => some ⟨0, [4], true, tOk, true, mkTok 2 o.timer 0⟩
  | 0xA => some ⟨2, [0], false, sesOk, true, mkTok 5 0 o.holder⟩
  | 0xB => some ⟨2, [5, 2], true, true, tokSt w != 2 || tokTimer w == 0, 0#32⟩
  | 0xC => some ⟨0, [3], false, tOk, tokHolder w == 0xF8, mkTok 2 o.timer 0⟩
  | _ => none

/-- The status of an operation under its rule; 0 when the precondition holds (DESIGN CHOICE, log entry 9 fixes the order of the checks). -/
def crdStatus (s : State) (o : CrdOp) (r : CrdRule) : Nat :=
  let w := s.tok o.elem
  if tokFrozen s o.elem then 7
  else if posKind s o.elem = 0 ∨ posKind s o.elem = 3 then 6
  else if r.kind = 1 ∧ posKind s o.elem ≠ 1 then 4
  else if r.kind = 2 ∧ posKind s o.elem ≠ 2 then 5
  else if ¬ r.argOk then 8
  else if tokSt w ∉ r.from_ then (if r.from_ = [0] then 1 else 3)
  else if r.needSubj ∧ tokHolder w ≠ o.subj then 2
  else if ¬ r.extra then (if o.opc = 0xB then 3 else 2)
  else 0

/-- Running counts and sum recomputed from the table (LOAD_END, R177). -/
def recount (s : State) : State :=
  let n (st : Nat) : Nat := ((List.range 1024).filter fun i => tokSt (s.tok i) == st).length
  let sum : Word := (List.range 1024).foldl (fun a i => a + tokSum i (s.tok i)) 0#32
  { s with crd := { s.crd with nFree := n 0, nHeld := n 1, nRel := n 2, nBlk := n 3, nLent := n 4, nRem := n 5 } }.setReg
    Reg.CRD_TSUM sum

/-- One ledger operation in its phase (R170). -/
def crdPerform (o : CrdOp) (s : State) : State × CrdRes :=
  match o.opc with
  | 0x1 => acquireList ((List.range o.count).map (listEntry s)) o.holder s
  | 0xD => ({ s with crd := { s.crd with loading := true, loadBegun := true } }, ⟨0, 0, 0⟩)
  | 0xE => if s.crd.loadBegun then (recount { s with crd := { s.crd with loading := false, loadBegun := false } }, ⟨0, 0, 0⟩) else (s, ⟨3, 0, 0⟩)
  | _ => match crdRule s o with
    | none => (s, ⟨8, 0, o.elem⟩)
    | some r =>
      let st := crdStatus s o r
      if st = 0 then (tokSet o.elem r.to_ s, ⟨0, 0, 0⟩) else (s, ⟨st, 0, o.elem⟩)

/-- The ledger accepts the operation now (R171). -/
def crdPhaseOk (opc : Nat) (s : State) : Bool :=
  if opc = 0xD then s.sys.phase == 4 && (s.sys.state == .join || s.sys.state == .banked)
  else if opc = 0xE then s.sys.phase == 4
  else s.sys.phase == 1 && (s.live || s.sys.state == .maint)

/-- A failed precondition of these opcodes is a normal outcome (R173). -/
def crdQuiet (opc : Nat) : Bool := opc == 1 || opc == 5 || opc == 7 || opc == 0xA

/-- One ledger operation with its result and its record (R170, R171, R173). -/
def crdDo (o : CrdOp) (s : State) : State × CrdRes :=
  let (s, r) :=
    if 1 ≤ o.opc ∧ o.opc ≤ 0xE ∧ ¬ crdPhaseOk o.opc s then (note 0x0506 5 o.elem s, (⟨9, 0, o.elem⟩ : CrdRes))
    else
      let (s, r) := crdPerform o s
      (noteIf (r.status != 0 && !crdQuiet o.opc) 0x0505 5 o.elem s, r)
  let s := obsCount 25 1 { s with crd := { s.crd with ops := min 255 (s.crd.ops + 1) } }
  (s.setReg Reg.CRD_RESULT (word (2 ^ 31 + r.status * 2 ^ 24 + r.pos % 64 * 2 ^ 16 + r.elem % 1024)), r)

/-- The runtime's write of CRD_OP (R172): held while the table engine copies the tokens. -/
def crdWrite (o : CrdOp) (s : State) : State :=
  if s.ite.copying then
    { s with crd := { s.crd with heldOps := s.crd.heldOps ++
      [(word (o.opc % 16 * 2 ^ 28 + o.elem % 1024 * 2 ^ 16 + o.holder % 256 * 2 ^ 8 + o.count % 128),
        word (o.subj % 256 * 2 ^ 24 + o.timer % 2 ^ 20))] } }
  else (crdDo o s).1

/-- The operands that CRD_OPA holds. -/
def State.opSubj (s : State) : Nat := s.regF Reg.CRD_OPA 31 24

/-- The timer that CRD_OPA holds. -/
def State.opTimer (s : State) : Nat := s.regF Reg.CRD_OPA 19 0

/-- The end of the token copy: the held operations are performed in the order written (R172). -/
def crdResume (s : State) : State :=
  let held := s.crd.heldOps
  let s := { s with ite := { s.ite with copying := false }, crd := { s.crd with heldOps := [] } }
  held.foldl (fun s p => (crdDo (crdOpOf p.1 p.2) s).1) s

/-- The runtime writes CRD_OPA (R170). -/
def writeOpa (subj timer : Nat) (s : State) : State := s.setReg Reg.CRD_OPA (word (subj % 256 * 2 ^ 24 + timer % 2 ^ 20))

/-- The runtime's own ledger operations: CRD_OPA, then CRD_OP (R170). -/
def crdRun (opc elem holder subj timer : Nat) (s : State) : State × Bool :=
  let (s, r) := crdDo ⟨opc, elem, holder, 0, subj, timer⟩ (writeOpa subj timer s)
  (s, r.status == 0)

/-- A load of the whole table (R180): LOAD_BEGIN, the writes of CRD_TOKEN0–CRD_TOKEN1023 and LOAD_END. -/
def loadTable (t : Tbl Word) (s : State) : State :=
  let (s, ok) := crdRun 0xD 0 0 0 0 s
  if ok then (crdRun 0xE 0 0 0 0 { s with crd := { s.crd with tok := t } }).1 else s

/-- A `RELEASING` token's timer is at 0: an owned token becomes `FREE`, a foreign one stays and is due (R174). -/
def tokExpired (i : Nat) (s : State) : State :=
  if posKind s i = 2 then tokSet i (mkTok 2 0 (tokHolder (s.tok i))) s else tokSet i 0#32 s

/-- The decrement of one token at the VC start (R174). -/
def tokTick (s : State) (i : Nat) : State :=
  let w := s.tok i
  if tokSt w = 2 ∧ ¬ tokFrozen s i ∧ tokTimer w > 0 then
    if tokTimer w = 1 then tokExpired i s else tokSet i (mkTok 2 (tokTimer w - 1) (tokHolder w)) s
  else s

/-- Every token's decrement (R174). Only listed tokens can be `RELEASING`. -/
def tokTicks (s : State) : State := (s.crd.tok.map (·.1)).foldl tokTick s

/-- The token is due (R174). -/
def tokDue (s : State) (i : Nat) : Bool := posKind s i == 2 && tokSt (s.tok i) == 2 && tokTimer (s.tok i) == 0

/-- Due foreign tokens. -/
def dueCount (s : State) : Nat := (s.crd.tok.filter fun p => tokDue s p.1).length

/-- The entry is lawful for its position (R169). -/
def tokLawful (s : State) (i : Nat) : Bool :=
  let w := s.tok i
  let h := tokHolder w
  let k := posKind s i
  !bitAt w 28 && k != 3 && (tokSt w == 2 || tokTimer w == 0) &&
  match tokSt w with
  | 0 => h == 0
  | 1 => k == 1 && h != 0
  | 2 => (k == 1 || (k == 2 && h != 0)) && decide (tokTimer w ≤ 600000)
  | 3 => k == 1 && (decide (h ≤ 7) || h == 0xF8)
  | 4 => k == 1 && decide (h ≤ 7) && h != s.ownSlot
  | 5 => k == 2 && h != 0
  | _ => false

/-- The census counts (R178). -/
def censusCountOk (s : State) : Bool :=
  let n (st : Nat) : Nat := ((List.range 1024).filter fun i => tokSt (s.tok i) == st).length
  let c := s.crd
  n 0 == c.nFree && n 1 == c.nHeld && n 2 == c.nRel && n 3 == c.nBlk && n 4 == c.nLent && n 5 == c.nRem
    && c.nFree + c.nHeld + c.nRel + c.nBlk + c.nLent + c.nRem == 1024

/-- The census sum (R178). -/
def censusSumOk (s : State) : Bool :=
  (List.range 1024).foldl (fun a i => a + tokSum i (s.tok i)) 0#32 == s.reg Reg.CRD_TSUM

/-- The first unlawful entry (R178). -/
def censusUnlawful (s : State) : Option Nat := (List.range 1024).find? fun i => !tokLawful s i

/-- The token-set checksum (R178). -/
def tokChecksum (s : State) : Word := crc32cWords ((List.range 1024).map s.tok)

/-- A token holds for a session: `HELD` or `HELD_REMOTE` with it as holder (R169). -/
def tokOwned (w : Word) (ses : Nat) : Bool := (tokSt w == 1 || tokSt w == 5) && tokHolder w == ses

/-- Elements whose token counts as the session's: `HELD`, `HELD_REMOTE` or `RELEASING` with it as holder. -/
def heldBy (s : State) (ses : Nat) : List Nat :=
  (s.crd.tok.filter fun p => (tokSt p.2 == 1 || tokSt p.2 == 5 || tokSt p.2 == 2) && tokHolder p.2 == ses).map (·.1)

end Sys2Proof.Machine
end

