-- ==== Sys2Proof/Machine/DoorBusOps.lean ====
section
/-!
DEFINITION. The door buses: channel states, frames, references, reports and the VC start (R252–R278).
-/
namespace Sys2Proof.Machine

/-- Changes a channel. -/
def updBus (b : Nat) (f : Dbc → Dbc) (s : State) : State := s.setBus b (f (s.bus b))

/-- Records a code of a channel. -/
def noteBus (b code : Nat) (s : State) : State := noteAt (0x1000 * b) code 13 b s

/-- A class L code of a channel: its edge goes `LOCAL_SAFE` by ECMD LOCAL (R279). -/
def busLocal (b code : Nat) (s : State) : State := localSafeEdge b code (noteBus b code s)

/-- Counts a discarded FBFF frame (DBC_FOREIGN.FD). -/
def countFd (b : Nat) (s : State) : State :=
  let a := busReg Reg.DBC_FOREIGN b
  s.setRegF a 31 16 (min 0xFFFF (s.regF a 31 16 + 1))

/-- Counts a discarded frame of another format (DBC_FOREIGN.OTHER). -/
def countOther (b : Nat) (s : State) : State :=
  let a := busReg Reg.DBC_FOREIGN b
  s.setRegF a 15 0 (min 0xFFFF (s.regF a 15 0 + 1))

/-- Counts one of a unit's events in DBC_UCNTu. -/
def countUnit (b u hi lo : Nat) (s : State) : State :=
  let a := busReg Reg.DBC_UCNT b + 4 * u
  s.setRegF a hi lo (min 255 (s.regF a hi lo + 1))

/-- DBC_UWINu fields. -/
def uwin (s : State) (b u : Nat) : Word := s.reg (busReg Reg.DBC_UWIN b + 4 * u)
def uwDecl (w : Word) : Bool := bitAt w 31
def uwHalf (w : Word) : Nat := field w 30 30
def uwStart (w : Word) : Nat := field w 25 16
def uwIdent (w : Word) : Nat := field w 15 0

/-- The channel runs at 8 Mbit/s. -/
def fast (s : State) (b : Nat) : Bool := s.regB (busReg Reg.DBC_CONF b) 24

/-- The channel has a declared unit. -/
def busEquipped (s : State) (b : Nat) : Bool := (List.range 16).any fun u => uwDecl (uwin s b u)

/-! ### The safety layer (R255, R256) -/

/-- A frame in FD base format with bit rate switch (R248); its error state indicator is set when it is sent. -/
def fdFrame (id : Nat) (bytes : List Byte) : Frame := ⟨.fbff, true, false, id, bytes⟩

/-- A payload closed by ALIVE and SCRC. -/
def safeFrame (b id alive : Nat) (body : List Byte) : Frame :=
  let fid := b * 2048 + id
  let c := crcScrc ([byte (fid >>> 8), byte fid, byte alive] ++ body)
  fdFrame id (body ++ [byte alive, byte (c.toNat >>> 16), byte (c.toNat >>> 8), byte c.toNat])

/-- The payload's SCRC is right for its bus and identifier. -/
def scrcOk (b id : Nat) (bs : List Byte) : Bool :=
  let n := bs.length
  decide (4 ≤ n) && (safeFrame b id ((bs.drop (n - 4)).headD 0).toNat (bs.take (n - 4))).bytes == bs

/-- The payload's ALIVE equals the VCN's low byte (R256). -/
def aliveOk (vcn : Word) (bs : List Byte) : Bool := (bs.drop (bs.length - 4)).headD 0 == byte vcn.toNat

/-! ### Frames of the module (R257–R259) -/

/-- The reference message (R257): GTIME is bus time at the SOF, which lies at bus time 0 of the VC, at 3 µs for a `BACKUP` (R268). -/
def refFrame (s : State) (b : Nat) : Frame :=
  let d := s.bus b
  let v := s.sys.vcn.toNat
  let mstat := bit (s.sys.state == .active) + 2 * bit (s.sys.state == .safe) + 4 * s.ownSlot + 32 * bit d.sleepNext
  let gt := word (1000 * v + (if d.st = .backup then 3 else 0))
  safeFrame b (if d.st = .master then 0x10 else 0x11) (v % 256) ([byte (v / 2 % 8), byte mstat] ++ le4 gt ++ le2 (v % 65536))

/-- FLAGS of the order and door command frames. -/
def frameFlags (s : State) : Byte := byte (bit (s.sys.state == .safe) + 2 * s.ownSlot)

/-- The order frame (R259); in `SAFE_TX` CMD is STO for every unit (R264). -/
def orderFrame (s : State) (b : Nat) : Frame :=
  let d := s.bus b
  let cmd (u : Nat) : Byte := if d.st = .safeTx then 0x53#8 else byte (d.sending.cmds.toNat >>> (8 * u))
  safeFrame b 0x30 s.sys.vcn.toNat ((List.range 16).map cmd ++ le2 d.sending.ramp ++ [frameFlags s, 0])

/-- The door command frame in the layout of DRATE (R258); in `SAFE_TX` the block is 0 with the restrictive seal (R264). -/
def commandFrame (s : State) (b : Nat) : Frame :=
  let d := s.bus b
  let safe := d.st == .safeTx
  let block := if safe then 0#64 else d.sending.block
  let alive := s.sys.vcn.toNat % 256
  let sl := if safe then sealOf (word (mBusSeal s.mnt b)) (word alive) 0#64 else d.sending.sealW
  let blk (i : Nat) : Byte := byte (block.toNat >>> (8 * i))
  let body := if fast s b then (List.range 6).map blk ++ [frameFlags s, 0] else [blk 0, blk 1, blk 4, frameFlags s]
  safeFrame b 0x20 alive (body ++ be4 sl)

/-- Puts an own frame on the bus, with the error state indicator of an error-passive channel (R248). -/
def send (k : FrameKind) (f : Frame) (b : Nat) (s : State) : State :=
  updBus b (fun d => { d with fly := some k, out := d.out ++ [{ f with esi := d.err == 1 }] }) s

/-! ### States (R270, R277, R278) -/

/-- The state a waking channel enters for the module state. -/
def wakeState (m : ModState) : BusSt :=
  match m with
  | .active => .master
  | .banked => .backup
  | _ => .listen

/-- The transitions of R270 that a change of the module state brings. -/
def Dbc.onModule (old new : ModState) (equipped : Bool) (vcn : Word) (d : Dbc) : Dbc :=
  match new with
  | .configCheck => if d.st = .off then { d with st := .listen } else d
  | .maint => if d.st = .off then { d with st := .listen } else d.toOff
  | .join => if !equipped && d.st == .listen then { d with st := .sleep } else d
  | .banked =>
    if d.st = .listen ∨ (d.st = .master ∧ old = .active) then { d with st := .backup } else d
  | .active => if d.st = .listen ∨ d.st = .backup then { d with st := .master, noCmd := 0, cmdSent := false } else d
  | .safe => d.toSafe vcn
  | _ => d

/-- Every channel follows the module's state. -/
def busesFollow (old new : ModState) (s : State) : State :=
  (List.range 8).foldl (fun s b => updBus b (Dbc.onModule old new (busEquipped s b) s.sys.vcn) s) s

/-- A sleeping channel wakes (R278); a bus without a declared unit stays asleep (R270). -/
def busWakes (b : Nat) (s : State) : State :=
  if (s.bus b).st = .sleep ∧ busEquipped s b then
    noteBus b 0x0811 (updBus b (fun d => { d with
      st := wakeState s.sys.state, wakes := 0, sleepReq := false, sleepNext := false, noCmd := 0 }) s)
  else s

/-- The channel may send a wake frame: not in `OFF`, and not in `LISTEN` and `SILENT`, which only listen (R248, R268). -/
def Dbc.mayWake (d : Dbc) : Bool := d.st != .off && d.st != .listen && d.st != .silent && d.err != 2

/-- The wake frame (R248, R278), in classical base format. -/
def wakeFrame (s : State) (b : Nat) : Frame :=
  ⟨.cbff, false, false, s.regF (busReg Reg.DBC_WAKE b) 10 0, [byte (s.regF (busReg Reg.DBC_WAKE b) 23 16)]⟩

/-- One wake frame is sent; after its third a sleeping channel wakes (DEDUCED, log entry 99). -/
def sendWake (b : Nat) (s : State) : State :=
  let d := s.bus b
  if d.mayWake && decide (0 < d.wakes) then
    let s := s.setBus b { d with wakes := d.wakes - 1, out := d.out ++ [wakeFrame s b] }
    if d.wakes = 1 then busWakes b s else s
  else s

/-- The sleep request is accepted (R277). -/
def sleepOk (s : State) (b : Nat) : Bool :=
  (s.sys.state == .active && (s.edge b).st == .localSafe) || s.sys.state == .maint || !busEquipped s b

/-- DBC_CTRL.SLEEP (R277). -/
def busSleep (b : Nat) (s : State) : State :=
  if sleepOk s b then updBus b (fun d => if d.st = .master then { d with sleepReq := true } else { d with sleepNext := true }) s
  else noteBus b 0x080D s

/-- The end of the matrix cycle whose references carried SLEEP_NEXT (R277). -/
def sleepEnd (b : Nat) (s : State) : State :=
  updBus b (fun d =>
    if d.sleepNext ∧ (d.st = .listen ∨ d.st = .master ∨ d.st = .backup) then
      { d with st := .sleep, wakes := 0, sleepReq := false, sleepNext := false, txRef := .none, txOrd := .none, txCmd := .none }
    else d) s

/-! ### Error counting (R274, R275; the counts of ISO 11898-1) -/

/-- Transmit and receive error counters of DBC_ERR. -/
def tec (s : State) (b : Nat) : Nat := s.regF (busReg Reg.DBC_ERR b) 23 15
def rec_ (s : State) (b : Nat) : Nat := s.regF (busReg Reg.DBC_ERR b) 31 24

/-- The channel becomes error-passive. -/
def errorPassive (b : Nat) (s : State) : State :=
  if (s.bus b).err = 0 then noteBus b 0x0803 (updBus b (fun d => { d with err := 1 }) s) else s

/-- The code of an own frame that ends in an error on the bus (R262, R274). -/
def brokenNote (b : Nat) (s : State) : State :=
  match (s.bus b).fly with
  | some .reference => noteBus b 0x0801 s
  | some _ => noteBus b 0x0806 s
  | none => s

/-- The channel goes bus-off, with TEC at 256: transmission stops, a frame on the bus ends in an error, the edge goes `LOCAL_SAFE` (R262,
R274). -/
def busOff (b : Nat) (s : State) : State :=
  if (s.bus b).err = 2 then s
  else
    let a := busReg Reg.DBC_ERR b
    let s := (brokenNote b s).setRegF a 23 15 256
    let s := updBus b (fun d => { d with
      err := 2, fly := none
      txRef := if d.txRef = .pending then .failed else d.txRef
      txOrd := if d.txOrd = .pending then .failed else d.txOrd
      txCmd := if d.txCmd = .pending then .failed else d.txCmd }) s
    busLocal b 0x0804 (s.setRegF a 7 0 (min 255 (s.regF a 7 0 + 1)))

/-- A transmission error: the last error code, TEC + 8, and what it passes; an acknowledge error in error-passive leaves TEC
unchanged. -/
def txError (b lec : Nat) (s : State) : State :=
  let a := busReg Reg.DBC_ERR b
  let n := if lec = 3 ∧ (s.bus b).err = 1 then tec s b else min 256 (tec s b + 8)
  let s := (s.setRegF a 11 8 lec).setRegF a 23 15 n
  if n ≥ 256 then busOff b s else if n ≥ 128 then errorPassive b s else s

/-- DBC_TDC.TDCV: the loop delay measured in a frame; above 50 tq it is a self-check failure of the channel (R250). -/
def loopDelay (b tdcv : Nat) (s : State) : State :=
  let s := s.setRegF (busReg Reg.DBC_TDC b) 22 16 tdcv
  if 50 < tdcv then busLocal b 0x0810 s else s

/-- Both counters below 128: back to error-active. -/
def errorActive (b : Nat) (s : State) : State :=
  if tec s b < 128 ∧ rec_ s b < 128 ∧ (s.bus b).err = 1 then updBus b (fun d => { d with err := 0 }) s else s

/-- A successful transmission: TEC − 1. -/
def txGood (b : Nat) (s : State) : State := errorActive b (s.setRegF (busReg Reg.DBC_ERR b) 23 15 (tec s b - 1))

/-- A successful reception: REC − 1; above 127 it becomes a value from 119 to 127, which of them is free (log entry 100). -/
def rxGood (b : Nat) (s : State) : State :=
  let a := busReg Reg.DBC_ERR b
  if rec_ s b = 0 then s
  else if 127 < rec_ s b then
    let (v, s) := s.takeFree
    errorActive b (s.setRegF a 31 24 (119 + v.toNat % 9))
  else errorActive b (s.setRegF a 31 24 (rec_ s b - 1))

/-- The controller reports error-passive: where TEC is not the reason, REC has reached 128 (log entry 100). -/
def passiveEvent (b : Nat) (s : State) : State :=
  let s := if tec s b < 128 then s.setRegF (busReg Reg.DBC_ERR b) 31 24 (max 128 (rec_ s b)) else s
  errorPassive b s

/-! ### The end of a frame (R262, R268, R275) -/

/-- DBC_REF.UNACK. -/
def setUnack (b n : Nat) (s : State) : State := (updBus b (fun d => { d with unack := n }) s).setRegF (busReg Reg.DBC_REF b) 6 0 n

/-- A `MASTER` counts one more unacknowledged reference; at 64 the channel is alone (R275). -/
def refUnacked (b : Nat) (s : State) : State :=
  let d := s.bus b
  let s := updBus b (fun d => { d with txRef := .failed }) s
  if d.st = .master then
    let s := setUnack b (min 127 (d.unack + 1)) s
    if d.unack + 1 ≥ 64 ∧ ¬ d.alone then noteBus b 0x0802 (updBus b (fun d => { d with alone := true }) s) else s
  else s

/-- A reference with a CYCLE counts toward a full matrix cycle: eight in order from 0 to 7 (R271, R281). -/
def Dbc.inOrder (cyc : Nat) (d : Dbc) : Dbc :=
  let run := if cyc = d.cycRun then d.cycRun + 1 else if cyc = 0 then 1 else 0
  { d with bc := cyc, sinceRef := some 0, cycRun := run % 8, mcValid := d.mcValid || run == 8 }

/-- The own reference has ended: 0 success, 1–6 the error as LEC names it, 7 lost arbitration. -/
def refEnd (b result : Nat) (s : State) : State :=
  if result = 0 then
    txGood b (setUnack b 0 (updBus b (fun d =>
      { d.inOrder (s.sys.vcn.toNat / 2 % 8) with txRef := .sent, alone := false, refOther := false }) s))
  else if result = 7 then updBus b (fun d => { d with txRef := .lostArb }) s
  else if result = 3 then txError b 3 (refUnacked b s)
  else txError b result (noteBus b 0x0801 (setUnack b 0 (updBus b (fun d => { d with txRef := .failed }) s)))

/-- Status of an order or door command frame at its end. -/
def frameEnd (result : Nat) (t : TxSt) : TxSt :=
  if result = 0 then (if t = .tooLate then .tooLate else .sent) else if result = 7 then .lostArb else .failed

/-- FRAME_TX_END (R250, R262): nothing is repeated; a frame that does not lose arbitration shows its loop delay. -/
def txEnd (b result tdcv : Nat) (s : State) : State :=
  match (s.bus b).fly with
  | none => s
  | some .reference => (if result = 7 then id else loopDelay b tdcv) (refEnd b result (updBus b (fun d => { d with fly := none }) s))
  | some k =>
    let s := if result = 7 then s else loopDelay b tdcv s
    let s := updBus b (fun d =>
      let d := { d with fly := none }
      if k = .order then { d with txOrd := frameEnd result d.txOrd }
      else { d with txCmd := frameEnd result d.txCmd, cmdSent := d.cmdSent || result == 0 }) s
    if result = 0 then txGood b s
    else
      let s := noteBus b 0x0806 s
      if result = 7 then s else txError b result s

/-! ### References received (R268) -/

/-- The channel synchronises to a valid reference. -/
def Dbc.sync (vcn : Word) (ofs : Nat) (bs : List Byte) (d : Dbc) : Dbc :=
  let at_ (i : Nat) : Nat := (bs[i]?.getD 0).toNat
  let gt := ofLe ((bs.drop 2).take 4)
  { d.inOrder (at_ 0 % 8) with
    refOther := true
    tofs := signed 32 (unsigned 32 ((1000 * vcn.toNat + ofs : Nat) - (gt : Int))) }

/-- The channel receives frames. -/
def Dbc.hears (d : Dbc) : Bool := d.st != .off && d.st != .sleep && d.err != 2

/-- A frame is a valid reference (R256, R257). -/
def validRef (vcn : Word) (b : Nat) (f : Frame) : Bool :=
  f.bytes.length == 12 && scrcOk b f.id f.bytes && aliveOk vcn f.bytes && (f.id == 0x10 || f.id == 0x11)

/-- REFERENCE_RX: a reference observed at an offset of the VC. One that fails its checks has been received well (R274) and is no valid
reference. -/
def refRx (b ofs : Nat) (f : Frame) (s : State) : State :=
  let d := s.bus b
  let bs := f.bytes
  if !d.hears then s
  else
  let s := rxGood b s
  if !validRef s.sys.vcn b f then s
  else
    let a := busReg Reg.DBC_REF b
    let s := s.setRegF a 31 16 (s.regF a 31 16 + 1)
    match d.st with
    | .master =>
      let s := updBus b (fun d => { d with refOther := true, sinceRef := some 0, bc := (bs[0]?.getD 0).toNat % 8 }) s
      if f.id = 0x10 then raiseSAt (0x1000 * b) 0x080B 13 b s else noteBus b 0x0812 s
    | .safeTx => updBus b (fun d => { (d.cancel).sync s.sys.vcn ofs bs with st := .silent }) s
    | _ =>
      let sleepNext := (bs[1]?.getD 0).getLsbD 5
      updBus b (fun d => { d.sync s.sys.vcn ofs bs with sleepNext := d.sleepNext || (sleepNext && d.st == .backup) }) s

/-! ### Reports and foreign frames (R265, R266) -/

/-- The VCN of the VC that holds a frame's SOF: one that starts so late that it ends in the next VC has come in P0 of that VC, whose
parity is not the window's (R52, R196; DEDUCED, log entry 101). -/
def sofVcn (s : State) (b u sof : Nat) : Word :=
  let late := s.sys.phase == 0 && decide (1000 ≤ sof + (if fast s b then 56 else 70))
  if late && s.sys.vcn.toNat % 2 != uwHalf (uwin s b u) then s.sys.vcn - 1 else s.sys.vcn

/-- The report a payload spells (R260), of the VC with VCN `v`. -/
def reportOf (s : State) (v : Word) (b u : Nat) (bs : List Byte) : UnitRep :=
  let h (i : Nat) : Nat := ofLe ((bs.drop i).take 2)
  { seen := true, isNew := true, codeOk := scrcOk b (0x100 + u) bs && aliveOk v bs
    trv0 := h 0, trv1 := h 2, vel0 := signed 16 (h 4), vel1 := signed 16 (h 6)
    flags := bs[8]?.getD 0, ustat := bs[9]?.getD 0, alive := bs[12]?.getD 0
    vcn := v, start := uwStart (uwin s b u) }

/-- The report's SOF lies in its span of its window (R265). -/
def inWindow (s : State) (b u sof : Nat) : Bool :=
  let w := uwin s b u
  (sofVcn s b u sof).toNat % 2 == uwHalf w && decide (uwStart w ≤ sof + 2) && decide (sof ≤ uwStart w + 10)

/-- REPORT_RX (R265, R266): the report is taken into the buffer, or discarded, counted and recorded. -/
def reportRx (b u sof : Nat) (bs : List Byte) (s : State) : State :=
  let w := uwin s b u
  if !(s.bus b).hears then s
  else
  let s := rxGood b s
  if !uwDecl w then noteBus b 0x0809 (countFd b s)
  else if ofLe ((bs.drop 10).take 2) ≠ uwIdent w then noteBus b 0x0808 (countUnit b u 23 16 (countFd b s))
  else if !inWindow s b u sof then noteBus b 0x080A (countUnit b u 31 24 (countFd b s))
  else
    let r := reportOf s (sofVcn s b u sof) b u bs
    let s := if r.codeOk then s else noteBus b 0x080C (countUnit b u 15 8 s)
    updBus b (fun d => { d with buf := Tbl.set d.buf u r }) s

/-- FOREIGN_FRAME_RX (R266): `fd` false is a frame of another format. References are treated under R268, and identifiers outside
0x010–0x3FF bear no code. A frame to which two rows apply bears the code of the first; what remains for the last is a declared unit's
report identifier outside its SOF span (DESIGN CHOICE, log entry 147). -/
def foreignRx (b id sof : Nat) (fd : Bool) (s : State) : State :=
  let d := s.bus b
  if !d.hears then s
  else
  let s := rxGood b s
  if !fd then countOther b s
  else if id = 0x20 ∨ id = 0x30 then
    if d.st = .master then noteBus b 0x0809 (countFd b s) else s
  else if 0x12 ≤ id ∧ id ≤ 0x3FF then
    let u := id - 0x100
    let undeclared := !(0x100 ≤ id && id ≤ 0x10F && uwDecl (uwin s b u))
    let s := countFd b s
    if undeclared then noteBus b 0x0809 s else if inWindow s b u sof then s else noteBus b 0x080A (countUnit b u 31 24 s)
  else s

/-! ### The VC start (R261, R264, R265, R269) -/

/-- Copies and frame states of a channel at the VC start. A `BACKUP` that has observed SLEEP_NEXT attempts no reference (R277). -/
def busTurn (b : Nat) (s : State) : State :=
  let d := s.bus b
  let v := s.sys.vcn
  let even := v.toNat % 2 == 0
  let copy := copyOf s b
  let normal := d.st == .master && copy.ready && !d.sleepNext
  let safe := d.st == .safeTx && (v == d.safeVcn + 1 || (even && d.safeRun))
  let due : TxSt := if normal || safe then .pending else .none
  let refDue := even && (d.st == .master || d.st == .safeTx || (d.st == .backup && !d.sleepNext))
  let s := s.setReg (busReg Reg.DBC_CREADY b) 0
  s.setBus b { d with
    masterVc := d.st == .master, safeRun := d.safeRun || (d.st == .safeTx && v == d.safeVcn + 1)
    sending := copy, out := [], fly := none, txOrd := due, txCmd := due
    txRef := if refDue then .pending else if even then .none else d.txRef
    sinceRef := d.sinceRef.map (· + 1)
    mcValid := d.mcValid && decide (d.sinceRef.getD 9 + 1 < 4)
    cycRun := if d.sinceRef.getD 9 + 1 < 4 then d.cycRun else 0
    tofs := if d.st = .master ∧ even then (if d.tofs > 0 then d.tofs - 1 else if d.tofs < 0 then d.tofs + 1 else 0) else d.tofs }

/-- The watch on door command frames over the VC that ends, one as `MASTER` (R262). -/
def cmdWatch (b : Nat) (s : State) : State :=
  let d := s.bus b
  if d.st = .master ∧ d.masterVc ∧ busEquipped s b then
    let n := if d.cmdSent then 0 else d.noCmd + 1
    let s := s.setBus b { d with cmdSent := false, noCmd := if n ≥ 3 then 0 else n }
    if n ≥ 3 then busLocal b 0x0807 s else s
  else s.setBus b { d with cmdSent := false, noCmd := 0 }

/-- Matrix-cycle boundary of a sleeping request (R277). -/
def sleepTurn (b : Nat) (s : State) : State :=
  if s.sys.vcn.toNat % 16 = 0 then
    if (s.bus b).sleepNext then sleepEnd b s
    else updBus b (fun d => if d.sleepReq then { d with sleepNext := true, sleepReq := false } else d) s
  else s

/-- A report of unit `u` falls due at this VC start: its window stood in the VC before. -/
def reportDue (s : State) (b u : Nat) : Bool :=
  let w := uwin s b u
  uwDecl w && uwHalf w != s.sys.vcn.toNat % 2

/-- The snapshot registers of one unit (R265). -/
def snapRegs (b u : Nat) (r : UnitRep) (s : State) : State :=
  let a (x : Nat) : Nat := busReg x b + 16 * u
  (((s.setReg (a Reg.DBC_RTRV) (word (r.trv1 * 65536 + r.trv0))).setReg (a Reg.DBC_RVEL)
    (word (unsigned 16 r.vel1 * 65536 + unsigned 16 r.vel0))).setReg (a Reg.DBC_RFLG)
    (word (2 ^ 31 + r.alive.toNat * 65536 + r.ustat.toNat * 256 + r.flags.toNat))).setReg (a Reg.DBC_RSMP)
    (word (r.vcn.toNat % 65536 * 65536 + r.start % 1024))

/-- One declared unit's snapshot, handed to PDS and DSU (R195, R218, R265). -/
def unitTurn (b : Nat) (s : State) (u : Nat) : State :=
  let r := Tbl.get (s.bus b).buf u
  let due := reportDue s b u
  let uid := 16 * b + u
  let s := if r.isNew then
      let s := s.setRegB (busReg Reg.DBC_STAT b) u true
      snapRegs b u r s
    else (s.setRegB (busReg Reg.DBC_STAT b) u false).setRegB (busReg Reg.DBC_RFLG b + 16 * u) 31 false
  let s := if due then
      (if r.isNew then s.setRegF (busReg Reg.DBC_UCNT b + 4 * u) 7 0 0 else countUnit b u 7 0 s)
    else s
  let taken := reportTaken s uid r
  let s := unitIntake uid r due s
  let s := dsuIntake uid r taken due s
  updBus b (fun d => { d with buf := Tbl.set d.buf u { r with isNew := false } }) s

/-- Reports of every declared unit at the VC start. -/
def reportsTurn (s : State) : State :=
  (List.range 8).foldl (fun s b => ((List.range 16).filter fun u => uwDecl (uwin s b u)).foldl (unitTurn b) s) s

/-- The bus side of a VC start. -/
def busesTurn (s : State) : State :=
  (List.range 8).foldl (fun s b => busTurn b (sleepTurn b (cmdWatch b s))) s

end Sys2Proof.Machine
end

