-- ==== Sys2Proof/Machine/FioOps.lean ====
section
/-!
DEFINITION. The field inputs and outputs: values, groups, snapshot, commits and output faults (R338–R362).
-/
namespace Sys2Proof.Machine

/-! ### Inputs (R339–R346) -/

/-- FIO_ICONFi.DECL. -/
def inDeclared (i : Nat) (s : State) : Bool := s.regB (Reg.FIO_ICONF + 4 * i) 31

/-- A feed that leaves its groups and its input block off (R345). -/
def feedBad (f : Nat) (s : State) : Bool := decide (2 ≤ Tbl.get s.fio.feed f)

/-- The input block of a contact supply (R496): X30–X33, lower and upper block. -/
def contactBlock (c : Nat) : Nat := [0, 1, 1, 2, 3, 4, 4, 5].getD c 6

/-- Input block `f` is invalid (R345, R496): with its feed, or while a contact supply of it is limited. -/
def blockInvalid (f : Nat) (s : State) : Bool := feedBad f s || (List.range 8).any fun c => bitAt s.fio.contact c && contactBlock c == f

/-- The input's filtered paths, before validity. -/
def inPaths (i : Nat) (s : State) : Bool := bitAt s.fio.filtA i && (decide (64 ≤ i) || bitAt s.fio.filtB i)

/-- The value of an input (R341). -/
def inValue (i : Nat) (s : State) : Bool := inDeclared i s && !blockInvalid (i / 16) s && inPaths i s

/-- The filtered paths of FI00–FI63 differ. -/
def inDiffers (i : Nat) (s : State) : Bool := decide (i < 64) && (bitAt s.fio.filtA i != bitAt s.fio.filtB i)

/-- DISC_T in VC. -/
def discT (s : State) : Nat := s.regF Reg.FIO_CONF 7 0

/-- A VC start's comparison of the paths of one input (R342): the counts, and the clearing of its bit. -/
def discStrobe (s : State) (i : Nat) : State :=
  let f := s.fio
  if inDiffers i s then
    { s with fio := { f with
        differ := Tbl.set f.differ i (min 255 (Tbl.get f.differ i + 1))
        agree := Tbl.set f.agree i 0 } }
  else
    let n := if bitAt f.disc i then Tbl.get f.agree i + 1 else 0
    let clear := decide (discT s ≤ n)
    { s with fio := { f with
        differ := Tbl.set f.differ i 0
        agree := Tbl.set f.agree i (if clear then 0 else n)
        disc := if clear then setBit f.disc i false else f.disc } }

/-! ### Outputs and groups (R347–R351) -/

/-- FIO_OCONFn. -/
def oConf (n : Nat) (s : State) : Word := s.reg (Reg.FIO_OCONF + 4 * n)

/-- USE of an output. -/
def oUse (n : Nat) (s : State) : Nat := field (oConf n s) 31 28

/-- EDGE of an output. -/
def oEdge (n : Nat) (s : State) : Nat := field (oConf n s) 26 24

/-- An output that is declared. -/
def oDeclared (n : Nat) (s : State) : Bool := oUse n s != 0

/-- The edge that an output serves (R356). -/
def oServes (n : Nat) (s : State) : Option Nat :=
  match oUse n s with
  | 2 | 3 => some (oEdge n s)
  | 1 | 4 => if bitAt (oConf n s) 23 then some (oEdge n s) else none
  | _ => none

/-- FIO_GCONFg. -/
def gConf (g : Nat) (s : State) : Word := s.reg (Reg.FIO_GCONF + 4 * g)

/-- The parallel set of an output (R349): its members, lowest first; the output alone where PAR joins it to none. -/
def parSet (n : Nat) (s : State) : List Nat :=
  let g := n / 4
  let lower := [4 * g, 4 * g + 1]
  let upper := [4 * g + 2, 4 * g + 3]
  match field (gConf g s) 2 0 with
  | 1 => if n % 4 < 2 then lower else [n]
  | 2 => if n % 4 < 2 then [n] else upper
  | 3 => if n % 4 < 2 then lower else upper
  | 4 => lower ++ upper
  | _ => [n]

/-- The lowest member of an output's set. -/
def parLow (n : Nat) (s : State) : Nat := (parSet n s).headD n

/-- Groups whose disconnect FIO holds open (R357). -/
def Fio.held (f : Fio) : BitVec 12 := f.feedOpen ||| f.faultOpen

/-- A group is closed (R348). -/
def groupClosed (g : Nat) (s : State) : Bool :=
  s.sys.state == .active && bitAt s.fio.grp g && bitAt s.mnt.ga g && !bitAt s.fio.held g

/-- The pin of an output is energised (R348), its own test pulse apart. -/
def pinOn (n : Nat) (s : State) : Bool :=
  s.sys.state == .active && bitAt s.fio.on n && groupClosed (n / 4) s &&
    match oUse n s with
    | 1 | 4 => true
    | 2 => bitAt s.mnt.sa (oEdge n s)
    | 3 => bitAt s.mnt.da (oEdge n s)
    | _ => false

/-- The expected state X of an output (R352). -/
def expected (n : Nat) (s : State) : Bool := pinOn n s && !bitAt s.fio.pulse n

/-- The mask of the outputs of groups. -/
def groupOutputs (gs : BitVec 12) : BitVec 48 := bitsOf 48 fun n => bitAt gs (n / 4)

/-- Opens the disconnects of groups and switches their outputs off, now and for the next VC start. -/
def openGroups (gs : BitVec 12) (f : Fio) : Fio :=
  let m := ~~~groupOutputs gs
  { f with
    on := f.on &&& m, nextOn := f.nextOn &&& m, dueOn := f.dueOn &&& m, pulse := f.pulse &&& m
    grp := f.grp &&& ~~~gs, nextGrp := f.nextGrp &&& ~~~gs }

/-- The agreement lines that the pin of an output needs are energised (R348). -/
def linesOn (n : Nat) (s : State) : Bool :=
  bitAt s.mnt.ga (n / 4) &&
    match oUse n s with
    | 2 => bitAt s.mnt.sa (oEdge n s)
    | 3 => bitAt s.mnt.da (oEdge n s)
    | _ => true

/-- What Mantle does not grant at a boundary stays off until the triad commits it again (R53). -/
def fioGate (s : State) : State :=
  let m := bitsOf 48 fun n => linesOn n s
  { s with fio := { s.fio with
      on := s.fio.on &&& m, nextOn := s.fio.nextOn &&& m, dueOn := s.fio.dueOn &&& m, pulse := s.fio.pulse &&& m
      grp := s.fio.grp &&& s.mnt.ga, nextGrp := s.fio.nextGrp &&& s.mnt.ga } }
/-- The group's disconnect opens for an output fault. -/
def openForFault (g code : Nat) (f : Fio) : Fio :=
  let f := openGroups (setBit 0#12 g true) f
  { f with faultOpen := setBit f.faultOpen g true, openCode := Tbl.set f.openCode g (if bitAt f.held g then Tbl.get f.openCode g else code) }

/-- A feed state that switches the feed's two groups off (R345). -/
def feedOff (f code : Nat) (x : Fio) : Fio :=
  let gs := setBit (setBit 0#12 (2 * f) true) (2 * f + 1) true
  let x := [2 * f, 2 * f + 1].foldl (fun x g =>
    if bitAt x.held g then x else { x with openCode := Tbl.set x.openCode g code }) x
  let x := openGroups gs x
  { x with feedOpen := x.feedOpen ||| gs, restore := x.restore &&& ~~~gs }

/-! ### Commit (R350) -/

/-- The code of a commit. -/
def commitCode (vcn w0 w1 : Word) : Word := crc32cWords [vcn, w0, w1]

/-- The requested bits that are taken: undeclared and unused bits as 0, groups held open refused, unequal sets off. -/
def takenOn (w0 w1 : Word) (s : State) : BitVec 48 :=
  let req : BitVec 48 := w0.setWidth 48 ||| ((w1.setWidth 48 &&& 0xFFFF#48) <<< 32)
  bitsOf 48 fun n => (parSet n s).all fun k => bitAt req k && oDeclared k s && !bitAt s.fio.held (k / 4)

/-- The group requests that are taken. -/
def takenGrp (w1 : Word) (s : State) : BitVec 12 :=
  bitsOf 12 fun g => bitAt w1 (16 + g) && bitAt (gConf g s) 31 && !bitAt s.fio.held g

/-- What a commit is recorded for (R349, R350). -/
def commitNotes (w0 w1 : Word) (s : State) : State :=
  let req : BitVec 48 := w0.setWidth 48 ||| ((w1.setWidth 48 &&& 0xFFFF#48) <<< 32)
  let s := (List.range 48).foldl (fun s n => noteIf (bitAt req n && !oDeclared n s) 0x0A11 10 n s) s
  let s := (List.range 12).foldl (fun s g => noteIf (bitAt w1 (16 + g) && !bitAt (gConf g s) 31) 0x0A11 11 g s) s
  let s := (List.range 48).foldl (fun s n =>
    noteIf (parLow n s == n && (parSet n s).any (bitAt req ·) && !(parSet n s).all (bitAt req ·)) 0x0A11 10 n s) s
  (List.range 12).foldl (fun s g =>
    noteIf (bitAt s.fio.held g && (bitAt w1 (16 + g) || (List.range 4).any fun k => bitAt req (4 * g + k))) 0x0A12 11 g s) s

/-- The runtime commands the STO pair of an edge on: T_STO, and no restoration that still waits for its release (R239). -/
def stoOn (d : DEdge) : Bool := d.tSto && d.st != .localSafe

/-- The words of a commit as the runtime forms them: the STO pair of an edge is commanded as T_STO(e), during a restoration from its
release on (R239), and off in a group that this VC's snapshot shows in its local safe state (R238, R350; DEDUCED, log entry 119); in a hand-over only what the commit before holds
too is commanded (R431). -/
def commitWords (w0 w1 : Word) (s : State) : Word × Word :=
  let on (n : Nat) (b : Bool) : Bool :=
    (if oUse n s = 2 then stoOn (Tbl.get s.dsu.edge (oEdge n s)) && !s.regB Reg.FIO_GSTAT (n / 4) else b)
      && (!s.pcl.handing || bitAt s.fio.nextOn n)
  (bitsOf 32 fun n => on n (bitAt w0 n),
   bitsOf 32 fun k => if k < 16 then on (32 + k) (bitAt w1 k) else bitAt w1 k && (!s.pcl.handing || (decide (k < 28) && bitAt s.fio.nextGrp (k - 16))))

/-- The write of FIO_OCMD_CODE in `ACTIVE`. -/
def commit (w0 w1 code : Word) (s : State) : State :=
  let f := s.fio
  if code != commitCode s.sys.vcn w0 w1 || decide (0 < f.commits) then
    raiseS 0x0A0F 0 0 { s with fio := { fioOff f with commits := f.commits + 1 } }
  else
    let s := commitNotes w0 w1 s
    let on := takenOn w0 w1 s
    let grp := takenGrp w1 s
    { s with fio := { s.fio with
        commits := 1, committed := true, nextOn := on, nextGrp := grp
        on := s.fio.on &&& on, dueOn := s.fio.dueOn &&& on, pulse := s.fio.pulse &&& on, grp := s.fio.grp &&& grp } }

/-- A write of FIO_OCMD_CODE with what FIO_OCMD0 and FIO_OCMD1 hold (R350): outside `ACTIVE` it is ignored without record; outside P3 it
is recorded and not acted on (DEDUCED, log entry 40). -/
def writeCode (code : Word) (s : State) : State :=
  if s.sys.state = .active then
    if s.sys.phase = 3 then commit (s.reg Reg.FIO_OCMD0) (s.reg Reg.FIO_OCMD1) code s else note 0x0A16 0 0 s
  else s

/-! ### The VC start (R344, R350, R351, R357) -/

/-- The words of the snapshot in ascending offset. -/
def fioSnapWords (rb : BitVec 48) (s : State) : List Word :=
  let bits (f : Nat → Bool) (k : Nat) : Word := bitsOf 32 fun i => f (32 * k + i)
  let three f := [bits f 0, bits f 1, bits f 2]
  let two f := [bits f 0, bits f 1]
  let feed := (List.range 6).foldl (fun w f => w + Tbl.get s.fio.feed f * 8 ^ f) 0
  let gs := bitsOf 32 fun i => if i < 12 then bitAt s.fio.held i else decide (16 ≤ i ∧ i < 28) && groupClosed (i - 16) s
  three (inValue · s) ++ three (fun i => decide (i < 96) && blockInvalid (i / 16) s) ++ two (bitAt s.fio.disc ·)
    ++ two (bitAt rb ·) ++ [word feed, gs] ++ three (bitAt s.fio.undeclared ·)

/-- The snapshot code (R344). -/
def fioSnapCode (vcn : Word) (ws : List Word) : Word := crc32cWords (vcn :: ws)

/-- The edge whose STO pair lies in a group (R359). -/
def stoEdgeOf (g : Nat) (s : State) : Option Nat :=
  ((List.range 4).map (4 * g + ·)).findSome? fun n => if oUse n s = 2 then some (oEdge n s) else none

/-- An edge whose STO pair lies in one of these groups enters `LOCAL_SAFE` (R42). -/
def groupEdges (gs : BitVec 12) (s : State) : State :=
  (List.range 12).foldl (fun s g =>
    if bitAt gs g then
      match stoEdgeOf g s with
      | some e => localSafeEdge e (Tbl.get s.fio.openCode g) s
      | none => s
    else s) s

/-- Groups enter their local safe state with the snapshot that first shows them (R42, R357). -/
def groupsLocalSafe (before : Word) (s : State) : State := groupEdges (s.fio.held &&& ~~~before.setWidth 12) s

/-- The discrepancy bit of an input is set (R342): its paths have differed at DISC_T consecutive VC starts. -/
def discSet (i : Nat) (s : State) : State :=
  if decide (discT s ≤ Tbl.get s.fio.differ i) && inDiffers i s && !bitAt s.fio.disc i then
    note 0x0A05 9 i { s with fio := { s.fio with disc := setBit s.fio.disc i true, agree := Tbl.set s.fio.agree i 0 } }
  else s

/-- The silent state (R351): three VCs in `ACTIVE` without a valid commit. -/
def silentState (s : State) : State :=
  if s.sys.state = .active ∧ 3 ≤ s.fio.idle ∧ ¬ s.fio.silent then
    let keep := bitsOf 48 fun n => oUse n s == 4 && bitAt (oConf n s) 21
    raiseS 0x0A10 0 0 { s with fio := { s.fio with silent := true, on := s.fio.on &&& keep, nextOn := s.fio.nextOn &&& keep, dueOn := 0 } }
  else s

/-- FIO at the VC start tick: a commit that Mantle grants at this boundary takes effect (R53). -/
def fioStrobe (rb : BitVec 48) (s : State) : State :=
  let s := fioGate s
  let f := s.fio
  let active := s.sys.state == .active
  let f := { f with
    idle := if f.committed || !active then 0 else if f.activeVc then f.idle + 1 else f.idle
    activeVc := active, commits := 0, committed := false, pulse := 0
    undeclared := bitsOf 96 fun i => bitAt f.undeclared i && !inDeclared i s
    feedOpen := f.feedOpen &&& ~~~f.restore, restore := 0
    grp := if active then f.nextGrp else 0
    on := f.on &&& f.nextOn
    dueOn := if active then f.nextOn else 0 }
  let s := (List.range 64).foldl (fun s i => discSet i (discStrobe s i)) { s with fio := { f with ready := false } }
  let s := silentState s
  let before := s.reg Reg.FIO_GSTAT
  let ws := fioSnapWords rb s
  let s := (ws.zip (List.range 15)).foldl (fun s p => s.setReg (Reg.FIO_IN + 4 * p.2) p.1) s
  groupsLocalSafe before (s.setReg Reg.FIO_SCODE (fioSnapCode s.sys.vcn ws))

/-- The runtime's check of the snapshot code in P1 (R344). -/
def fioSnapOk (s : State) : Bool :=
  s.reg Reg.FIO_SCODE == fioSnapCode s.sys.vcn ((List.range 15).map fun k => s.reg (Reg.FIO_IN + 4 * k))

/-! ### Output faults (R353–R357) -/

/-- A class L code of an output: its record, and `LOCAL_SAFE` of the edge that the output serves. -/
def outputL (n code : Nat) (s : State) : State :=
  let s := note code 10 n s
  match oServes n s with
  | some e => localSafeEdge e code s
  | none => s

/-- FIO_OFLTn. -/
def oFlt (n : Nat) (s : State) : Word := s.reg (Reg.FIO_OFLT + 4 * n)

/-- A detection on an output that is not in classification (R355): the disconnect opens and the code is raised; the detection stands,
and its classification begins, unless the output has been classified before (R356). -/
def detect (n det res code : Nat) (s : State) : State :=
  let o := parLow n s
  let r := field (oFlt o s) 27 24
  if r = 1 then s
  else
    let s := { s with fio := openForFault (o / 4) code s.fio }
    let w := putField (putField (putField (oFlt o s) 31 28 det) 27 24 res) 15 0 s.sys.vcn.toNat
    outputL o code (if 2 ≤ r ∧ r ≤ 4 then s else s.setReg (Reg.FIO_OFLT + 4 * o) w)

/-- The result of a classification (R356). -/
def classify (n result partner : Nat) (s : State) : State :=
  let o := parLow n s
  if field (oFlt o s) 27 24 = 1 then
    let put (p : Nat) (s : State) := s.setReg (Reg.FIO_OFLT + 4 * o) (putField (putField (oFlt o s) 27 24 result) 21 16 p)
    match result with
    | 2 => outputL o 0x0A08 (put 0x3F s)
    | 3 => outputL o 0x0A0B (put partner { s with fio := openForFault (partner / 4) 0x0A0B s.fio })
    | _ =>
      match oServes o s with
      | some _ => outputL o 0x0A09 (put 0x3F s)
      | none => raiseS 0x0A0A 10 o (put 0x3F s)
  else s

end Sys2Proof.Machine
end

