-- ==== Sys2Proof/Machine/CommandOps.lean ====
section
/-!
DEFINITION. The command front end: packets, tags, credits, replies and out queues (R309–R331).
-/
namespace Sys2Proof.Machine

/-! ### Shares (R315, R335) -/

/-- The share of host `n`: declared, first tag, count. -/
def hostReg (s : State) (n : Nat) : Word := s.reg (Reg.CMD_HOST + 4 * n)

/-- Tag `t` lies in the share of host `n`. Shares stand once they are locked. -/
def inShare (s : State) (n t : Nat) : Bool :=
  let h := hostReg s n
  s.regB Reg.CMD_LOCK 0 && bitAt h 31 && decide (field h 7 0 ≤ t) && decide (t < field h 7 0 + field h 16 8)

/-- Tag `t` lies in some share. -/
def inAnyShare (s : State) (t : Nat) : Bool := (List.range 8).any fun n => inShare s n t

/-- The tag is `QUEUED` or `ACTIVE`. -/
def TagSt.inFlight : TagSt → Bool
  | .queued | .active => true
  | _ => false

/-- How many tags satisfy a test. -/
def countTags (s : State) (p : TagSt → Bool) : Nat := ((List.range 256).filter fun t => p (s.tag t).st).length

/-- The map of the 256 tags in flight (R313). -/
def tagMap (s : State) : List Byte :=
  (List.range 32).map fun i => (bitsOf 8 fun b => (s.tag (8 * i + b)).st.inFlight)

/-- The check of R316. -/
def creditsOk (s : State) : Bool :=
  let c := s.cmd
  countTags s (· == .free) == c.nFree && countTags s TagSt.inFlight == c.nFlight && countTags s (· == .held) == c.nHeld
    && c.nFree + c.nFlight + c.nHeld == 256 && (List.range 256).all fun t => ((s.tag t).st == .free) == !inAnyShare s t

/-- Credit counts recomputed from the entries. -/
def recountCredits (s : State) : State :=
  { s with cmd := { s.cmd with
      nFree := countTags s (· == .free), nFlight := countTags s TagSt.inFlight, nHeld := countTags s (· == .held) } }

/-- CREDIT_RECOUNT at 985 µs (R316). -/
def creditRecount (s : State) : State :=
  let ok := creditsOk s
  let s := { s with cmd := { s.cmd with creditOk := ok } }
  if ok then s else raiseS 0x1008 0 0 s

/-! ### Posts (R317) -/

/-- CMD refuses a post (R317): result in CMD_RSTAT and `SAFE` with cause 0x100A. -/
def postRefused (tag : Nat) (s : State) : State :=
  raiseS 0x100A 7 tag (s.setReg Reg.CMD_RSTAT (word (2 ^ 31 + 2 ^ 24 + tag)))

/-- A post (R317). -/
def postBytes (r : List Byte) (s : State) : State :=
  let t := byteAt r 5
  let g := s.tag t
  let s := writeRbuf r s
  if g.st ≠ .active ∨ ((byteAt r 2).testBit 1 = false ∧ g.posted.contains (byteAt r 16)) then postRefused t s else storeReply r s

/-- The runtime posts a reply for a tag with its session; a terminal reply of an operation that awaits replay is held back (R418), and so
is one that a `BANKED` member's own sequencing finds: its journal still holds the operation in flight (R332). -/
def postReply (tag ses status detail fault : Nat) (results : List Byte) (s : State) : State :=
  let g := s.tag tag
  let r := mkReply g.opc (replyFlags (statusTerminal status) false false) ses tag (g.hseq.getD 0) s.sys.vcn status detail fault results
  if (g.replay ≠ 0 ∨ s.sys.state = .banked) ∧ statusTerminal status then s.setTag tag { g with heldBack := some r } else postBytes r s

/-- The runtime posts a reply for a tag that is still `ACTIVE`; an operation whose tag has ended has none to post. -/
def postIfActive (tag ses status detail fault : Nat) (results : List Byte) (s : State) : State :=
  if (s.tag tag).st = .active then postReply tag ses status detail fault results s else s

/-- ACCEPTED before a later terminal reply (R323), unless it has been posted. -/
def postAccepted (tag ses : Nat) (s : State) : State :=
  let g := s.tag tag
  if g.st = .active ∧ ¬ g.posted.contains 0 ∧ g.replay = 0 then postReply tag ses 0 0 0 [] s else s

/-! ### The checks of R313 -/

/-- Parameter length of an opcode; none where the table has no such opcode (R323). -/
def opcLen (opc : Nat) : Option Nat :=
  if opc = 0x01 then some 0
  else if [0x10, 0x11, 0x12, 0x18, 0x19, 0x1A, 0x20, 0x30, 0x31, 0x32, 0x33, 0x34, 0x35, 0x38, 0x39, 0x40, 0x41, 0x42, 0x48].contains opc then some 4
  else none

/-- The opcode's SES column is 0 without condition. -/
def opcSesZero (opc : Nat) : Bool := !([0x11, 0x12, 0x31, 0x32, 0x33].contains opc)

/-- Every parameter byte the table marks 0 is 0. -/
def zeroBytesOk (opc : Nat) (p : List Byte) : Bool :=
  let z (i : Nat) : Bool := byteAt p i == 0
  match opc with
  | 0x10 | 0x11 | 0x12 | 0x19 | 0x1A | 0x32 => z 2 && z 3
  | 0x18 | 0x20 => z 3
  | 0x30 | 0x31 | 0x33 | 0x34 | 0x35 | 0x41 => z 1 && z 2 && z 3
  | 0x38 => decide (byteAt p 1 < 4)
  | 0x39 | 0x40 | 0x42 => z 1
  | _ => true

/-- A non-consuming answer to a packet, with the code behind its status, which is recorded (R310, R312, R313). -/
def answer (p : Pkt) (status code : Nat) (results : List Byte) (s : State) : State :=
  outPush p.host true (mkReply p.opc (replyFlags false true false) p.ses p.tag p.hseq s.sys.vcn status 0 code results) (note code 7 p.tag s)

/-- The answer to a duplicate (R321). -/
def answerDuplicate (host tag : Nat) (s : State) : State :=
  let g := s.tag tag
  let rep (r : Option (List Byte)) : State := match r with
    | some r => outPush host true (withFlags (replyFlags false true true) r) s
    | none => s
  match g.st with
  | .active => rep g.lastNt
  | .held => rep g.stored
  | _ => s

/-- Step 8: the packet is consumed. -/
def consume (p : Pkt) (s : State) : State :=
  let g := s.tag p.tag
  let s := s.setTag p.tag { g with
    st := .queued, hseq := some p.hseq, host := p.host, opc := p.opc, stored := none, lastNt := none, posted := [], replay := 0
    pktSes := p.ses, hvcn := p.hvcn }
  let s := { s with cmd := { s.cmd with queue := s.cmd.queue ++ [p], nHeld := s.cmd.nHeld - 1, nFlight := s.cmd.nFlight + 1 } }
  (s.setReg (Reg.CMD_HSEQ + 4 * p.host) p.hseq).setRegB Reg.CMD_HSEQV p.host true

/-- Steps 2–8 of R313 on a framed packet; `flags` are its FLAGS. -/
def checkPacket (p : Pkt) (flags : Nat) (s : State) : State :=
  match opcLen p.opc with
  | none => answer p 6 0x1002 [] s
  | some n =>
    if flags ≠ 0 ∨ (opcSesZero p.opc ∧ p.ses ≠ 0) ∨ p.params.length ≠ n ∨ ¬ zeroBytesOk p.opc p.params ∨ later p.hvcn s.sys.vcn then
      answer p 7 0x1003 [] s
    else if !inShare s p.host p.tag then answer p 3 0x1005 (tagMap s) s
    else if (s.tag p.tag).hseq = some p.hseq then answerDuplicate p.host p.tag (note 0x1006 7 p.tag s)
    else if (s.tag p.tag).st ≠ .held then answer p 3 0x1005 (tagMap s) s
    else if s.regB Reg.CMD_HSEQV p.host && !later p.hseq (s.reg (Reg.CMD_HSEQ + 4 * p.host)) then answer p 7 0x1004 [] s
    else consume p s

/-- The packets of a BODY (R311, R313). -/
def feedBody : Nat → Nat → List Byte → State → State
  | 0, _, _, s => s
  | k + 1, host, body, s =>
    if body.all (· == 0) then s
    else
      let len := halfAt body 6
      if body.length < 16 ∨ byteAt body 0 ≠ 1 ∨ 16 + len > body.length ∨ len > 240 then note 0x1001 0 host s
      else
        let p : Pkt := { host := host, tag := byteAt body 5, opc := byteAt body 1, ses := byteAt body 4, hseq := wordAt body 8
                         hvcn := wordAt body 12, params := (body.drop 16).take len }
        feedBody k host (body.drop (16 + (len + 3) / 4 * 4)) (checkPacket p (halfAt body 2) s)

/-- CMD_FEED of an accepted HOST_DOWN telegram (R313): taken in `ACTIVE` (R331), in P1. -/
def feedTelegram (host : Nat) (telegram : List Byte) (s : State) : State :=
  if s.sys.phase ≠ 1 then note 0x100C 0 0 s
  else if s.sys.state ≠ .active then s
  else feedBody 20 host ((telegram.drop 32).take (telegram.length - 36)) s

/-- Takes the head packet: its tag becomes `ACTIVE` (R314). A packet whose tag no longer stands `QUEUED` is not handed over. -/
def popHead (s : State) : Option (Pkt × State) :=
  match s.cmd.queue.dropWhile fun p => (s.tag p.tag).st != .queued with
  | [] => none
  | p :: ps =>
    if s.cmd.handed ≥ 32 ∨ s.sys.state ≠ .active then none
    else
      let s := s.setTag p.tag { s.tag p.tag with st := .active, applied := s.sys.vcn, params := wordAt p.params 0 }
      some (p, { s with cmd := { s.cmd with
        queue := ps, handed := s.cmd.handed + 1
        dirty := if s.cmd.dirty.contains p.tag then s.cmd.dirty else s.cmd.dirty ++ [p.tag] } })

/-- This VC's mirror is sent with EXT (R429). -/
def markExt (s : State) : State := { s with rt := { s.rt with ext := true } }

/-- Packets not handed over when the module leaves `ACTIVE` for `BANKED` are dropped, and their tags are `HELD` (R331; DEDUCED, log
entry 117). -/
def dropQueued (s : State) : State :=
  recountCredits (s.cmd.queue.foldl (fun s p => if (s.tag p.tag).st = .queued then s.setTag p.tag { s.tag p.tag with st := .held } else s)
    { s with cmd := { s.cmd with queue := [] } })

/-- HSEQ_LAST of a host is no longer valid (R320). -/
def dropHseq (host : Nat) (s : State) : State := s.setRegB Reg.CMD_HSEQV host false

end Sys2Proof.Machine
end

