-- ==== Sys2Proof/Machine/NetOps.lean ====
section
/-!
DEFINITION. The safety networks: reception, the telegram checks, the A/B comparison, freshness, network states, and transmit
slots (R282–R305).
-/
namespace Sys2Proof.Machine

/-- A connection. -/
def State.con (s : State) (c : Nat) : Conn := Tbl.get s.sni.conn c

/-- Replaces a connection. -/
def State.setCon (s : State) (c : Nat) (v : Conn) : State := { s with sni := { s.sni with conn := Tbl.set s.sni.conn c v } }

/-- Changes a connection. -/
def updCon (c : Nat) (f : Conn → Conn) (s : State) : State := s.setCon c (f (s.con c))

/-- SNI_CCONFn fields. -/
def conReg (s : State) (c : Nat) : Word := s.reg (Reg.SNI_CCONF + 16 * c)
def conEn (s : State) (c : Nat) : Bool := bitAt (conReg s c) 31
/-- KIND 1: a host. -/
def conHost (s : State) (c : Nat) : Bool := bitAt (conReg s c) 30
def conPexp (s : State) (c : Nat) : Nat := field (conReg s c) 29 27
def conPhase (s : State) (c : Nat) : Nat := field (conReg s c) 26 22
def conNumber (s : State) (c : Nat) : Nat := field (conReg s c) 15 8

/-- Declared connections, ascending. -/
def connections (s : State) : List Nat := (List.range (min 136 (s.regF Reg.SNI_CONF 15 8))).filter (conEn s)

/-- The connection of an object controller or of a host. -/
def conOf (s : State) (host : Bool) (number : Nat) : Option Nat :=
  (connections s).find? fun c => conHost s c == host && conNumber s c == number

/-- Acceptance runs: in `BANKED`, in `ACTIVE`, and in `JOIN` once VCN has been loaded (R304). -/
def acceptOn (s : State) : Bool :=
  s.sys.state == .banked || s.sys.state == .active || (s.sys.state == .join && s.sys.vcnLoaded)

/-! ### Datagrams (R283, R292) -/

/-- One more discarded datagram of a port. -/
def countDrop (portB : Bool) (s : State) : State :=
  let (hi, lo) := if portB then (31, 16) else (15, 0)
  s.setRegF Reg.SNI_DROP hi lo (min 0xFFFF (s.regF Reg.SNI_DROP hi lo + 1))

/-- The connection whose declared source a datagram has. -/
def sourceCon (s : State) (portB : Bool) (srcIp : Word) (srcPort : Nat) : Option Nat :=
  (connections s).find? fun c =>
    s.reg ((if portB then Reg.SNI_CIPB else Reg.SNI_CIPA) + 16 * c) == srcIp && s.regF (Reg.SNI_CPORT + 16 * c) 15 0 == srcPort

/-- DATAGRAM_RX; 0x0901 names the network in ARG, 0 for A and 1 for B (R394's worked case). `plain` is false for a fragment, a datagram with IP options, a failed UDP checksum or other traffic (R283). While the CP is
being reset the networks carry nothing (R27). -/
def datagramRx (portB plain : Bool) (srcIp : Word) (srcPort : Nat) (dstIp : Word) (dstPort arr : Nat) (bs : List Byte) (s : State) : State :=
  if s.sys.cp.reset then s
  else if !plain then countDrop portB s
  else
    let own := s.reg (if portB then Reg.SNI_IPB else Reg.SNI_IPA)
    match sourceCon s portB srcIp srcPort with
    | some c =>
      if dstIp ≠ own ∨ dstPort ≠ s.regF Reg.SNI_CONF 31 16 then note 0x0901 15 (bit portB) (countDrop portB s)
      else
        let q := if portB then s.sni.stageB else s.sni.stageA
        if q.length ≥ 128 then note 0x090E 8 c (countDrop portB s)
        else
          let q := q ++ [⟨c, bs, arr⟩]
          { s with sni := if portB then { s.sni with stageB := q } else { s.sni with stageA := q } }
    | none => note 0x0901 15 (bit portB) (countDrop portB s)

/-- Descriptor word of a snapshot copy (SNI_RXDAk). -/
def copyDesc (c : RxCopy) : Word := word (2 ^ 31 + c.bytes.length % 512 * 2 ^ 16 + c.cnum % 256 * 256 + min 255 c.arr)

/-- The snapshot code of a port (R293). -/
def snapCode (vcn : Word) (cs : List RxCopy) : Word :=
  crc32c (le4 vcn ++ ((List.range 64).flatMap fun k => le4 ((cs[k]?.map copyDesc).getD 0)) ++ cs.flatMap (·.bytes))

/-- The copies that wait for a later snapshot: their arrival lies 1,000 µs further before its tick, in steps of 4 µs (R308). -/
def staged (q : List RxCopy) : List RxCopy := (q.drop 64).map fun c => { c with arr := min 255 (c.arr + 250) }

/-- The network snapshot of the VC start (R292, R293). -/
def netSnapshot (s : State) : State :=
  let n := s.sni
  let a := n.stageA.take 64
  let b := n.stageB.take 64
  let s := { s with sni := { n with
    snapA := a, snapB := b, stageA := staged n.stageA, stageB := staged n.stageB, ready := false, txDone := false, ntx := 0, out := [] } }
  let s := (s.setReg Reg.SNI_RXTOTA (s.reg Reg.SNI_RXTOTA + word a.length)).setReg Reg.SNI_RXTOTB (s.reg Reg.SNI_RXTOTB + word b.length)
  let s := (s.setReg Reg.SNI_SCODEA (snapCode s.sys.vcn a)).setReg Reg.SNI_SCODEB (snapCode s.sys.vcn b)
  (List.range 64).foldl (fun s m => s.setReg (Reg.SNI_TXC + 4 * m) (s.reg (Reg.SNI_TXC + 4 * m) &&& 0x1FFFFFFF#32)) s

/-! ### Telegram format (R288–R291) -/

/-- TCRC of a telegram without its last four bytes (R290). -/
def tcrcOf (cid : Word) (head : List Byte) : Word := crc32c (le4 cid ++ head.take 28 ++ List.replicate 4 0#8 ++ head.drop 32)

/-- SEQ, ALIVE, FLAGS and ECHO of a telegram. -/
def tSeq (bs : List Byte) : Word := wordAt bs 8
def tAlive (bs : List Byte) : Nat := halfAt bs 12
def tFlags (bs : List Byte) : Nat := byteAt bs 14
def tEcho (bs : List Byte) : Word := wordAt bs 16
/-- The TCRC a telegram carries. -/
def tCrc (bs : List Byte) : Word := wordAt bs (bs.length - 4)

/-- Framing of an OC_STATE body (R291). -/
def ocBodyOk (bs : List Byte) : Bool :=
  let nb := byteAt bs 48
  decide (nb ≤ 8) && bs.length == 56 + 4 * nb && byteAt bs 49 == 0 && byteAt bs 50 == 0 && byteAt bs 51 == 0
    && (List.range nb).all fun i => decide (byteAt bs (52 + 4 * i) ≤ 15) && decide (byteAt bs (53 + 4 * i) < 4)

/-- Step 1 of R294. -/
def step1Ok (s : State) (c : RxCopy) : Bool :=
  let bs := c.bytes
  let n := bs.length
  let host := conHost s c.cnum
  byteAt bs 0 == 1 && halfAt bs 2 == n && n % 4 == 0 && decide (36 ≤ n ∧ n ≤ 320) && byteAt bs 4 == c.cnum
    && byteAt bs 1 == (if host then 3 else 2) && [5, 6, 7, 15].all (fun i => byteAt bs i == 0) && decide (tFlags bs < 4)
    && (List.range 12).all (fun i => byteAt bs (20 + i) == 0) && (host || ocBodyOk bs)

/-! ### A/B results (R297) -/

/-- Which result: 0 BOTH, 1 LATE_OK, 2 LATE_EXPIRED, 3 MISS. -/
def AbCount.add (r : Nat) (c : AbCount) : AbCount :=
  match r with
  | 0 => { c with both := min 0xFFFF (c.both + 1) }
  | 1 => { c with lateOk := min 0xFFFF (c.lateOk + 1) }
  | 2 => { c with lateExp := min 0xFFFF (c.lateExp + 1) }
  | _ => { c with miss := min 0xFFFF (c.miss + 1) }

/-- The result of an acceptance on the partner's port; a MISS also counts against that network's recovery (R298). -/
def abResult (c r : Nat) (s : State) : State :=
  let v := s.con c
  let onB := !v.basePortB
  let v := { v with owed := false, cntA := if onB then v.cntA else v.cntA.add r, cntB := if onB then v.cntB.add r else v.cntB }
  let s := s.setCon c v
  if r = 3 then
    { s with sni := if onB then { s.sni with netB := { s.sni.netB with missed := true } } else { s.sni with netA := { s.sni.netA with missed := true } } }
  else s

/-- AB_WIN. -/
def abWin (s : State) : Nat := s.regF Reg.SNI_CONF 7 4

/-- AB_WIN VC have passed without the partner copy (R297). -/
def abExpire (c : Nat) (s : State) : State :=
  let v := s.con c
  if v.owed && decide (since s.sys.vcn v.baseVcn > abWin s) then abResult c 3 s else s

/-- A suspended connection recovers with equal copies of a telegram later than the one in conflict (R295), and its host's HSEQ_LAST is
dropped (R320). -/
def conRecover (c : Nat) (s : State) : State :=
  let v := s.con c
  if v.suspended && !v.conflict then
    let s := s.setCon c { v with suspended := false }
    if conHost s c then dropHseq (conNumber s c) s else s
  else s

/-- The partner copy of the telegram that set BASE. -/
def partnerCopy (c : Nat) (portB : Bool) (s : State) : State :=
  let v := s.con c
  if !v.owed || portB == v.basePortB then s
  else
    let d := since s.sys.vcn v.baseVcn
    if d = 0 then conRecover c (abResult c 0 s)
    else if d ≤ abWin s then conRecover c (abResult c 1 s)
    else abResult c 2 s

/-! ### The checks of R294 -/

/-- BASE moves to a telegram: a partner result still owed is MISS, then the new one is owed. -/
def setBase (c : Nat) (portB content : Bool) (bs : List Byte) (s : State) : State :=
  let s := if (s.con c).owed then abResult c 3 s else s
  let v := s.con c
  let lost := if content ∧ v.base.isSome then (tAlive bs + 65536 - v.baseAlive + 65535) % 65536 else 0
  s.setCon c { v with
    base := some (tSeq bs), baseAlive := tAlive bs, baseLen := bs.length, baseCrc := tCrc bs, baseVcn := s.sys.vcn, basePortB := portB
    owed := content, conflict := false, aliveLost := v.aliveLost + lost
    content := if content then bs else v.content, contentVcn := if content then some s.sys.vcn else v.contentVcn }

/-- Steps 2 passed: the copy counts for BASE's silence and for its network. -/
def heardCopy (c : Nat) (portB : Bool) (s : State) : State :=
  let s := updCon c (fun v => { v with heard := some s.sys.vcn }) s
  { s with sni := if portB then { s.sni with netB := { s.sni.netB with quiet := 0 } } else { s.sni with netA := { s.sni.netA with quiet := 0 } } }

/-- Steps 4–6. -/
def checkLater (c : Nat) (portB : Bool) (bs : List Byte) (s : State) : State :=
  let v := s.con c
  if v.base.isSome ∧ tAlive bs = v.baseAlive then note 0x0913 8 c s
  else
    let echoValid := (tFlags bs).testBit 1
    if echoValid && decide (since s.sys.vcn (tEcho bs) ≤ v.maxAge) then setBase c portB true bs s
    else noteIf echoValid 0x0906 8 c (setBase c portB false bs s)

/-- A check value that the runtime obtains from CVU0 and CVU1, fed identically (R363, R364): none where their results differ. A unit whose
self-check has failed answers 0 (R372; which units serve is the model's choice: DESIGN CHOICE, log entry 121). -/
def pairCrc (v : Word) (s : State) : Option Word :=
  let r (n : Nat) : Word := if (s.unitC n).failed then 0 else v
  if r 0 = r 1 then some (r 0) else none

/-- TCRC as the two units find it over a copy. -/
def copyCrc (s : State) (c : Nat) (bs : List Byte) : Option Word := pairCrc (tcrcOf (s.con c).cid (bs.take (bs.length - 4))) s

/-- Every check on one copy. -/
def checkCopy (portB : Bool) (s : State) (cp : RxCopy) : State :=
  let c := cp.cnum
  let bs := cp.bytes
  if !step1Ok s cp then note 0x0902 8 c s
  else if copyCrc s c bs ≠ some (tCrc bs) then note 0x0903 8 c (noteIf (copyCrc s c bs).isNone 0x0B06 13 0 s)
  else
    let s := heardCopy c portB s
    let v := s.con c
    match v.base with
    | none => checkLater c portB bs s
    | some b =>
      if later (tSeq bs) b then checkLater c portB bs s
      else if tSeq bs = b then
        if bs.length = v.baseLen ∧ tCrc bs = v.baseCrc then partnerCopy c portB s
        else
          note 0x0905 8 c (updCon c (fun v => { v with suspended := true, conflict := true }) s)
      else note 0x0904 8 c s

/-- The copies of one connection in the order of R294: ascending SEQ relative to the oldest, A before B. -/
def orderedCopies (s : State) (c : Nat) : List (Bool × RxCopy) :=
  let cs := (s.sni.snapA.filter (·.cnum == c)).map (fun x => (false, x)) ++ (s.sni.snapB.filter (·.cnum == c)).map (fun x => (true, x))
  cs.mergeSort fun x y => !later (tSeq x.2.bytes) (tSeq y.2.bytes)

/-- The age of content in VCs. -/
def contentAge (s : State) (v : Conn) : Option Nat := v.contentVcn.map fun c => since s.sys.vcn c

/-- A connection's freshness (R300). -/
def freshNow (s : State) (v : Conn) : Bool :=
  match contentAge s v with
  | some d => decide (d < v.rxTmax) && !(tFlags v.content).testBit 0 && !v.suspended
  | none => false

/-- Freshness recomputed, its loss recorded. -/
def judgeFresh (c : Nat) (s : State) : State :=
  let v := s.con c
  let f := freshNow s v
  noteIf (v.fresh && !f) 0x090D 8 c (s.setCon c { v with fresh := f })

/-- BASE is dropped after RESYNC_T VC without a copy past step 2 (R295), and with it the host's HSEQ_LAST (R320). -/
def dropBase (c : Nat) (s : State) : State :=
  let s := updCon c (fun v => { v with base := none, owed := false }) s
  if conHost s c then dropHseq (conNumber s c) s else s

/-- BASE drops when its silence has lasted RESYNC_T. -/
def resync (c : Nat) (s : State) : State :=
  let v := s.con c
  match v.heard with
  | some h => if v.base.isSome && decide (since s.sys.vcn h ≥ v.resyncT) then dropBase c s else s
  | none => s

/-- One connection's turn in P1: its copies, then the packets of the telegrams accepted, then its timers (R294–R300). -/
def conTurn (s : State) (c : Nat) : State :=
  let fed (s' : State) : Bool := conHost s' c && (s'.con c).contentVcn == some s'.sys.vcn && !(s'.con c).suspended
  let s := (orderedCopies s c).foldl (fun s x =>
    let old := (s.con c).base
    let wasSus := (s.con c).suspended
    let s := checkCopy x.1 s x.2
    let v := s.con c
    let accepted := v.base != old && v.contentVcn == some s.sys.vcn && v.content == x.2.bytes
    let recovered := wasSus && !v.suspended
    if fed s && (accepted || recovered) then feedTelegram (conNumber s c) v.content s else s) s
  judgeFresh c (resync c (abExpire c s))

/-! ### Network states (R298, R299) -/

/-- A network's entry to `LOST`; the second ends in `SAFE`. -/
def netLost (portB : Bool) (s : State) : State :=
  let n := if portB then s.sni.netB else s.sni.netA
  let other := if portB then s.sni.netA else s.sni.netB
  if n.lost then s
  else
    let n := { n with lost := true, good := 0 }
    let s := note (if portB then 0x0908 else 0x0907) 0 0 { s with sni := if portB then { s.sni with netB := n } else { s.sni with netA := n } }
    if other.lost then raiseS 0x0909 0 0 s else s

/-- A `LOST` network becomes `UP`. -/
def netRestored (portB : Bool) (s : State) : State :=
  let n := if portB then s.sni.netB else s.sni.netA
  if n.lost then
    let n := { n with lost := false, good := 0 }
    note 0x0912 0 0 { s with sni := if portB then { s.sni with netB := n } else { s.sni with netA := n } }
  else s

/-- One VC of a network's counters; `quiet` is 0 when a copy of this VC has passed step 2. Before its rules are in effect a network
counts as `UP` (R445). -/
def Net.turn (join : Bool) (n : Net) : Net :=
  let n := { n with on := n.on || (join && n.link) }
  if n.on then
    { n with down := if n.link then 0 else n.down + 1, good := if n.lost && n.link && !n.missed then n.good + 1 else 0, missed := false, quiet := n.quiet + 1 }
  else { n with down := 0, good := 0, missed := false, quiet := 0 }

/-- A network fails (R298): 10 VC of link down, or NET_T VC without a copy while the other delivers. -/
def netFails (netT : Nat) (n other : Net) : Bool :=
  decide (n.down ≥ 10) || (decide (n.quiet > netT) && other.on && decide (other.quiet ≤ netT))

/-- Neither network has delivered for NET_T (R299). -/
def netsSilent (s : State) : State :=
  if s.sni.silentNoted then s else note 0x090A 0 0 { s with sni := { s.sni with silentNoted := true } }

/-- VCs since either network delivered, this one included. -/
def silence (s : State) : Nat := min s.sni.netA.quiet s.sni.netB.quiet

/-- The network rules of one VC. -/
def netsTurn (s : State) : State :=
  let netT := s.regF Reg.SNI_NETT 15 0
  let silT := s.regF Reg.SNI_NETT 31 16
  let join := s.sys.state == .join
  let s := { s with sni := { s.sni with netA := s.sni.netA.turn join, netB := s.sni.netB.turn join } }
  if !(s.sni.netA.on || s.sni.netB.on) then s
  else
    let a := s.sni.netA
    let b := s.sni.netB
    let s := if netFails netT a b then netLost false s else s
    let s := if netFails netT b a then netLost true s else s
    let s := if s.sni.netA.good ≥ 1000 then netRestored false s else s
    let s := if s.sni.netB.good ≥ 1000 then netRestored true s else s
    let q := min a.quiet b.quiet
    let s := if q ≤ netT then { s with sni := { s.sni with silentNoted := false } } else netsSilent s
    if q > silT then raiseS 0x090B 0 0 s else s

/-- The telegram checks of P1 (R293–R300), and the network rules (R298, R299, R445). -/
def telegramChecks (s : State) : State :=
  let s := if acceptOn s then (connections s).foldl conTurn s else s
  if s.live then netsTurn s else s

/-! ### Transmit slots (R302, R303) -/

/-- The connection sends in this VC (R286). -/
def conDue (s : State) (c : Nat) : Bool := s.sys.vcn.toNat % 2 ^ conPexp s c == conPhase s c

/-- The pair member that the backplane slot code gives (R422). -/
def pairMember (s : State) : Bool := s.sys.slotCode.testBit 3

/-- FLAGS of a telegram of the module. -/
def txFlags (s : State) (c : Nat) (safe : Bool) : Nat :=
  bit safe + 2 * bit (s.con c).base.isSome + 4 * bit (s.sys.state == .active) + 8 * bit (pairMember s) + 16 * s.ownSlot

/-- A telegram of the module with MSEAL 0 and its TCRC (R288–R291), which the two check-value units find (R364). -/
def telegram (s : State) (c : Nat) (safe : Bool) (block : BitVec 64) (body : List Byte) : Option (List Byte) :=
  let v := s.con c
  let n := 36 + body.length
  let head := [1#8, if conHost s c then 4#8 else 1#8] ++ le2 n ++ [byte c, 0, 0, 0] ++ le4 s.sys.vcn ++ le2 v.txAlive
    ++ [byte (txFlags s c safe), 0] ++ le4 (v.base.getD 0) ++ (List.range 8).map (fun i => byte (block.toNat >>> (8 * i)))
    ++ List.replicate 4 0#8 ++ body
  (pairCrc (tcrcOf v.cid head) s).map fun crc => head ++ le4 crc

/-- The bytes of a slot with a seal field of 0. -/
def unsealed (bs : List Byte) : List Byte := bs.take 28 ++ ((bs.drop 28).take 4).map (fun _ => 0#8) ++ bs.drop 32

/-- The runtime writes a slot and marks it vital-ready (R302); the seal field is Mantle's alone (R124). -/
def slotReady (m c : Nat) (bs : List Byte) (s : State) : State :=
  { s with sni := { s.sni with tx := Tbl.set s.sni.tx m (unsealed (bs ++ (Tbl.get s.sni.tx m).drop bs.length)) } }.setReg (Reg.SNI_TXC + 4 * m)
    (word (2 ^ 31 + bs.length % 512 * 2 ^ 16 + c % 256 * 256))

/-- Mantle's seal of a `READY` slot: MSEAL at bytes 28–31, most significant byte first (R124, R303). -/
def sealSlot (m : Nat) (s : State) : State :=
  let a := Reg.SNI_TXC + 4 * m
  let bs := Tbl.get s.sni.tx m
  let c := s.regF a 15 8
  let rec_ := mConn s.mnt (bit (conHost s c)) (conNumber s c)
  let block := BitVec.ofNat 64 (ofLe ((bs.drop 20).take 8)) &&& telGrant s.vau.debug s.mnt rec_
  let sl := sealOf (word ((rec_.map (mConnSeal s.mnt)).getD 0)) (wordAt bs 8) block
  { s with sni := { s.sni with
      tx := Tbl.set s.sni.tx m (bs.take 28 ++ be4 sl ++ bs.drop 32), sealVcn := Tbl.set s.sni.sealVcn m s.sys.vcn } }.setRegB a 30 true

/-- The release at 450 µs (R124, R303): slots that bear the seal mark of this VC and whose SEQ is this VC's go out in ascending slot; the
rest is recorded. While the CP is being reset nothing leaves the ports (R27). -/
def release (s : State) : State :=
  let cpRuns := !s.sys.cp.reset
  let s := (List.range 64).foldl (fun s m =>
    let a := Reg.SNI_TXC + 4 * m
    if !s.regB a 31 then s
    else
      let bs := Tbl.get s.sni.tx m
      let c := s.regF a 15 8
      if s.regB a 30 && Tbl.get s.sni.sealVcn m == s.sys.vcn && wordAt bs 8 == s.sys.vcn then
        let s := { s with sni := { s.sni with
          out := if cpRuns then s.sni.out ++ [⟨c, bs.take (s.regF a 24 16), 0⟩] else s.sni.out, ntx := s.sni.ntx + 1 } }
        let s := updCon c (fun v => { v with txAlive := (v.txAlive + 1) % 65536 }) s
        (s.setRegB a 29 true).setReg Reg.SNI_TXTOT (s.reg Reg.SNI_TXTOT + 1)
      else note 0x090C 8 c s) s
  { s with sni := { s.sni with txDone := true } }

/-- The berth source of an edge from its berth-proving controller (R301). -/
def ocBerth (s : State) (c slot : Nat) : Option Word :=
  let v := s.con c
  match contentAge s v with
  | some d =>
    if d > 2 ∨ v.suspended then none
    else
      let bs := v.content
      ((List.range (min 8 (byteAt bs 48))).find? fun i => byteAt bs (52 + 4 * i) == slot && (byteAt bs (53 + 4 * i)).testBit 0).map fun i =>
        word (halfAt bs (54 + 4 * i) * 2 ^ 16 + bit ((byteAt bs (53 + 4 * i)).testBit 1) * 2 + 1)
  | none => none

/-! ### What object controllers report (R142, R143, R291, R300) -/

/-- The connection of an object controller. -/
def ocCon (s : State) (k : Nat) : Option Nat := conOf s false k

/-- Freshness f of an object controller in this VC (R300). -/
def ocFresh (s : State) (k : Nat) : Bool :=
  match ocCon s k with
  | some c => (s.con c).fresh
  | none => false

/-- The state byte of an element slot in the newest accepted telegram of its object controller (R142, R291). -/
def ocByte (s : State) (k slot : Nat) : Nat :=
  match ocCon s k with
  | some c => byteAt (s.con c).content (32 + slot)
  | none => 0

/-- ESTATE of a track, point or signal from freshness and state byte (R143). -/
def fieldEstate (kind : Nat) (f : Bool) (b : Nat) : Nat :=
  let t (i : Nat) : Bool := b.testBit i
  let fr := 2048 * bit f
  match kind with
  | 1 =>
    let clr := f && t 0 && !t 1 && !t 2
    fr + bit clr + 2 * bit (!clr)
  | 2 =>
    let ok := f && !t 2 && !t 3 && !t 4
    fr + 4 * bit (ok && t 0 && !t 1) + 8 * bit (ok && t 1 && !t 0) + 1024 * bit (f && (t 3 || t 4))
  | 3 => fr + 16 * bit (f && t 0 && !t 1) + 32 * bit (f && t 1 && !t 0) + 1024 * bit (f && t 2)
  | _ => 0

end Sys2Proof.Machine
end

