-- ==== Sys2Proof/Machine/EngineOps.lean ====
section
/-!
DEFINITION. The table engine: element states, condition words, lists and session results (R135–R150).
-/
namespace Sys2Proof.Machine

/-- The ESTATE entry of an element (R141), two per register. -/
def estate (s : State) (i : Nat) : Nat :=
  let w := s.reg (Reg.ITE_ESTATE + 4 * (i / 2))
  if i % 2 = 0 then field w 15 0 else field w 31 16

/-- One bit of an ESTATE entry. -/
def estBit (s : State) (i b : Nat) : Bool := (estate s i).testBit b

/-- Proven clear. -/
def estClr (s : State) (i : Nat) : Bool := estBit s i 0
/-- Not proven clear. -/
def estOcc (s : State) (i : Nat) : Bool := estBit s i 1
/-- The source is fresh. -/
def estFresh (s : State) (i : Nat) : Bool := estBit s i 11
/-- Proven occupied (R157): OCC with FRESH. -/
def estProvenOcc (s : State) (i : Nat) : Bool := estOcc s i && estFresh s i

/-- Writes an ESTATE entry (R143). -/
def setEstate (s : State) (i v : Nat) : State :=
  let a := Reg.ITE_ESTATE + 4 * (i / 2)
  if i % 2 = 0 then s.setRegF a 15 0 v else s.setRegF a 31 16 v

/-- The fields of a condition word (R135). -/
structure Cond where
  opc : Nat
  inv : Bool
  elem : Nat
  k : Bool
  p : Bool
  c : Bool
  arg : Nat
  deriving DecidableEq, Repr

/-- The condition word that a word spells. -/
def condOf (w : Word) : Cond :=
  ⟨field w 31 27, bitAt w 26, field w 25 16, bitAt w 14, bitAt w 13, bitAt w 12, field w 11 0⟩

/-- What the engine reads beyond ESTATE and the images (R136, R141): the frozen tokens, the evaluated session, and which routes
have a session from `LOCKING` to `RELEASING`. -/
structure EvalEnv where
  st : State
  tok : Nat → Word
  ses : Nat
  rtActive : Nat → Bool

/-- The opcode names an element. -/
def condNamesElem (opc : Nat) : Bool := decide (0x02 ≤ opc ∧ opc ≤ 0x0E)

/-- The opcode's value, before INV (R136). -/
def condValue (v : EvalEnv) (c : Cond) : Bool :=
  match c.opc with
  | 0x01 => true
  | 0x02 => estBit v.st c.elem 0
  | 0x03 => estBit v.st c.elem 1
  | 0x04 => estBit v.st c.elem 2
  | 0x05 => estBit v.st c.elem 3
  | 0x06 => estBit v.st c.elem 4
  | 0x07 => estBit v.st c.elem 5
  | 0x08 => tokSt (v.tok c.elem) == 0
  | 0x09 => tokOwned (v.tok c.elem) v.ses
  | 0x0A => tokSt (v.tok c.elem) == 3
  | 0x0B => estBit v.st c.elem 8
  | 0x0C => estBit v.st c.elem 9
  | 0x0D => estBit v.st c.elem 6
  | 0x0E => estBit v.st c.elem 7
  | 0x0F => v.st.regB (Reg.ITE_INPUT + 4 * (c.arg / 32)) (c.arg % 32)
  | 0x10 => v.rtActive c.arg
  | 0x11 => v.st.regB (Reg.ITE_OCFRESH + 4 * ((c.arg - 1) / 32)) ((c.arg - 1) % 32)
  | _ => false

/-- One word's result (R137): a test of an element that is not fresh is false whether or not INV is set. -/
def condResult (v : EvalEnv) (c : Cond) : Bool :=
  if condNamesElem c.opc && !estFresh v.st c.elem then false else condValue v c != c.inv

/-- A list as the engine counts it (R137): the index of each word or group, its class bits, its result. None: a list that holds
an invalid opcode, an incomplete group, or a bad group member (R148). A GROUP word whose ARG is 0 or above 15 counts as an incomplete
group (DESIGN CHOICE, log entry 102). -/
def condList (v : EvalEnv) : Nat → Nat → List Word → Option (List (Nat × Cond × Bool))
  | 0, _, _ => some []
  | _ + 1, _, [] => some []
  | f + 1, i, w :: ws =>
    let c := condOf w
    if c.opc = 0 ∨ c.opc > 0x12 then none
    else if c.opc = 0x12 then
      let n := c.arg
      let ms := (ws.take n).map condOf
      if ms.length < n ∨ n = 0 ∨ n > 15 ∨ ms.any (fun m => m.opc == 0 || decide (m.opc ≥ 0x12) || m.c || m.p || m.k) then none
      else (condList v f (i + 1 + n) (ws.drop n)).map fun r => (i, c, ms.any (condResult v) != c.inv) :: r
    else (condList v f (i + 1) ws).map fun r => (i, c, condResult v c) :: r

/-- The first failing index of a class (R138). -/
def firstFail (cls : Cond → Bool) (r : List (Nat × Cond × Bool)) : Option Nat :=
  (r.find? fun x => cls x.2.1 && !x.2.2).map (·.1)

/-- A session's result word (ITE_RESn). -/
def resWord (r : List (Nat × Cond × Bool)) : Word :=
  let fc := firstFail (·.c) r
  let fp := firstFail (·.p) r
  let fk := firstFail (·.k) r
  word (2 ^ 31 + bit fk.isNone * 2 ^ 26 + bit fp.isNone * 2 ^ 25 + bit fc.isNone * 2 ^ 24
    + fk.getD 0 % 64 * 2 ^ 16 + fp.getD 0 % 64 * 2 ^ 8 + fc.getD 0 % 64)

/-- The words of a list in geographic data RAM. -/
def gdWords (s : State) (woff len : Nat) : List Word := (List.range len).map fun i => s.gdWord (4 * (woff + i))

/-- The result of one descriptor (R145–R148); none where it is invalid. -/
def evalSes (v : EvalEnv) (d : Word) : Option Word :=
  let len := field d 30 24
  let woff := field d 18 0
  if len > 64 ∨ 4 * (woff + len) > 0x200000 then none
  else (condList v (len + 1) 0 (gdWords v.st woff len)).map resWord

/-- The session descriptor register. -/
def sesReg (n : Nat) : Nat := Reg.ITE_SES + 4 * (n - 1)
/-- The session result register. -/
def resReg (n : Nat) : Nat := Reg.ITE_RES + 4 * (n - 1)

/-- Sessions to be evaluated, in ascending ID. -/
def evalSet (s : State) : List Nat := ((List.range 255).map (· + 1)).filter fun n => s.regB (sesReg n) 31

/-- The evaluation length in 300 MHz clocks (R147). -/
def evalClocks (s : State) : Nat :=
  64 + 8 + (evalSet s).foldl (fun a n => a + (field (s.reg (sesReg n)) 30 24 + 15) / 16) 0

/-- The result word of one session (R146): 0 for a session not to be evaluated or with an invalid descriptor, and the mark of the
latter. -/
def evalOne (rtActive : Nat → Bool) (s : State) (acc : State × Bool) (n : Nat) : State × Bool :=
  if (evalSet s).contains n then
    match evalSes { st := s, tok := Tbl.get s.ite.frozen, ses := n, rtActive := rtActive } (s.reg (sesReg n)) with
    | some w => (acc.1.setReg (resReg n) w, acc.2)
    | none => (acc.1.setReg (resReg n) 0, true)
  else (acc.1.setReg (resReg n) 0, acc.2)

/-- The result words of every session, in ascending ID. -/
def evalEach (rtActive : Nat → Bool) (s : State) : State × Bool :=
  ((List.range 255).map (· + 1)).foldl (evalOne rtActive s) (s, false)

/-- The digest over every result word (R146). -/
def evalDigest (s : State) : Word := crc32cWords ((List.range 255).map fun i => s.reg (resReg (i + 1)))

/-- What the end of the evaluation sets (R146, R147): digest, length and its high mark, count, DONE. -/
def evalDone (digest clocks : Word) (count : Nat) (s : State) : State :=
  let s := (s.setReg Reg.ITE_DIGEST digest).setReg Reg.ITE_CLOCKS clocks
  { s with ite := { s.ite with busy := false, done := true, nses := count } }

/-- ITE_CLOCKS after an evaluation: the highest length since the load, and this one. -/
def clocksWord (old : Word) (clk : Nat) : Word := word (max (field old 31 16) clk * 2 ^ 16 + clk)

/-- Sessions that have been evaluated: those of the set whose result is valid (R148, R167). -/
def evalCount (s out : State) : Nat := ((evalSet s).filter fun n => out.regB (resReg n) 31).length

/-- The end of the evaluation of the frozen state `s` whose results stand in `out`. -/
def evalFinish (s out : State) : State :=
  evalDone (evalDigest out) (clocksWord (s.reg Reg.ITE_CLOCKS) (evalClocks s)) (evalCount s out) out

/-- The evaluation of every session (R146): results, digest, count, length; and whether a descriptor was invalid. -/
def evaluate (rtActive : Nat → Bool) (s : State) : State × Bool :=
  (evalFinish s (evalEach rtActive s).1, (evalEach rtActive s).2)

/-- The result fields the sequencing reads. -/
def resOk (s : State) (n : Nat) (b : Nat) : Bool := s.regB (resReg n) 31 && s.regB (resReg n) b
/-- C_OK of a session. -/
def cOk (s : State) (n : Nat) : Bool := resOk s n 24
/-- P_OK of a session. -/
def pOk (s : State) (n : Nat) : Bool := resOk s n 25
/-- K_OK of a session. -/
def kOk (s : State) (n : Nat) : Bool := resOk s n 26

end Sys2Proof.Machine
end

