-- ==== Sys2Proof/Machine/GeoOps.lean ====
section
/-!
DEFINITION. The geographic data image (R131–R139): its records as the runtime reads them, and the load checks.
-/
namespace Sys2Proof.Machine

/-- A byte of geographic data RAM. -/
def gdB (s : State) (off : Nat) : Nat := (Tbl.get s.gd off).toNat
/-- Two bytes of geographic data RAM, little-endian. -/
def gdH (s : State) (off : Nat) : Nat := gdB s off + 256 * gdB s (off + 1)
/-- Four bytes of geographic data RAM, little-endian. -/
def gdW (s : State) (off : Nat) : Nat := (s.gdWord off).toNat

/-! ### Header (R131) -/

def gdLength (s : State) : Nat := gdW s 8
def gdConfigId (s : State) : Nat := gdW s 12
def gdNRoute (s : State) : Nat := gdH s 20
def gdOwnSlot (s : State) : Nat := gdB s 22
def gdOffElem (s : State) : Nat := gdW s 24
def gdOffRoute (s : State) : Nat := gdW s 28
def gdOffLock (s : State) : Nat := gdW s 32
def gdNLock (s : State) : Nat := gdW s 36
def gdOffCond (s : State) : Nat := gdW s 40
def gdNCond (s : State) : Nat := gdW s 44

/-! ### Element records (R132) -/

/-- An element record. -/
structure Elem where
  kind : Nat
  owner : Nat
  oc : Nat
  slot : Nat
  pbitA : Nat
  pbitB : Nat
  rtrk : Nat
  listLen : Nat
  listFirst : Nat
  throwT : Nat
  zero : Nat
  deriving DecidableEq, Repr, Inhabited

/-- The record of an element. -/
def elemOf (s : State) (i : Nat) : Elem :=
  let a := gdOffElem s + 16 * i
  ⟨gdB s a, gdB s (a + 1), gdB s (a + 2), gdB s (a + 3), gdB s (a + 4), gdB s (a + 5), gdH s (a + 6), gdB s (a + 11),
    gdW s (a + 8) % 2 ^ 24, gdH s (a + 12), gdH s (a + 14)⟩

/-! ### Route records and lock entries (R133, R134) -/

/-- A route record. -/
structure Route where
  flags : Nat
  destEdge : Nat
  signal : Nat
  entry : Nat
  dest : Nat
  listLen : Nat
  listFirst : Nat
  lockLen : Nat
  lockFirst : Nat
  appr1 : Nat
  appr2 : Nat
  apprT : Nat
  relT : Nat
  pbit : Nat
  proveVc : Nat
  setT : Nat
  waitT : Nat
  lendT : Nat
  destVc : Nat
  deriving DecidableEq, Repr, Inhabited

/-- The record of a route. -/
def routeOf (s : State) (n : Nat) : Route :=
  let a := gdOffRoute s + 32 * n
  { flags := gdB s a, destEdge := gdB s (a + 1), signal := gdH s (a + 2), entry := gdH s (a + 4), dest := gdH s (a + 6)
    listLen := gdB s (a + 11), listFirst := gdW s (a + 8) % 2 ^ 24, lockLen := gdB s (a + 15), lockFirst := gdW s (a + 12) % 2 ^ 24
    appr1 := gdH s (a + 16), appr2 := gdH s (a + 18), apprT := gdH s (a + 20), relT := gdH s (a + 22), pbit := gdB s (a + 24)
    proveVc := gdB s (a + 25), setT := gdH s (a + 26), waitT := gdB s (a + 28), lendT := gdB s (a + 29), destVc := gdH s (a + 30) }

/-- DEFINED. -/
def Route.defined (r : Route) : Bool := r.flags.testBit 0
/-- ALWAYS_APPR. -/
def Route.alwaysAppr (r : Route) : Bool := r.flags.testBit 1
/-- NO_RECLEAR. -/
def Route.noReclear (r : Route) : Bool := r.flags.testBit 2

/-- The route exists and is defined (R153). -/
def routeDefined (s : State) (n : Nat) : Bool := decide (n < gdNRoute s) && (routeOf s n).defined

/-- A lock entry (R134): MODE 0 SEQ, 1 DEST, 2 EDGE. -/
structure Lock where
  elem : Nat
  pos : Nat
  mode : Nat
  step : Nat
  deriving DecidableEq, Repr, Inhabited

/-- The lock entry that a word spells. -/
def lockOf (w : Word) : Lock := ⟨field w 31 22, field w 21 20, field w 19 18, field w 17 13⟩

/-- Bits [12:0] of every lock word of a route are 0 (R134). -/
def lockZeros (s : State) (r : Route) : Bool :=
  (List.range r.lockLen).all fun i => field (s.gdWord (gdOffLock s + 4 * (r.lockFirst + i))) 12 0 == 0

/-- The lock list of a route. -/
def locksOf (s : State) (r : Route) : List Lock :=
  (List.range r.lockLen).map fun i => lockOf (s.gdWord (gdOffLock s + 4 * (r.lockFirst + i)))

/-- The word offset that a descriptor carries (ITE_SESn.WOFF). -/
def listWoff (s : State) (first : Nat) : Nat := gdOffCond s / 4 + first

/-- The descriptor of a list (R145). -/
def descriptor (s : State) (len first : Nat) : Word := word (2 ^ 31 + len % 128 * 2 ^ 24 + listWoff s first % 2 ^ 19)

/-- The berth track of an edge; none for an edge without a platform. -/
def berthTrack (s : State) (e : Nat) : Option Nat :=
  let t := (elemOf s (1016 + e)).rtrk
  if t = 0xFFFF then none else some t

/-! ### Load checks (R139) -/

/-- What the checks read of the configuration: own slot, declared slots, declared object controllers, edges with declared door
units, and the Mantle class of a bit of an object controller's block (class, ARG). -/
structure GeoEnv where
  ownSlot : Nat
  slots : List Nat
  ocs : List Nat
  edgesWithUnits : List Nat
  mclass : Nat → Nat → Option (Nat × Nat)

/-- Header, bounds and CRC (0x0401). -/
def gdHeaderOk (s : State) : Bool :=
  let len := gdLength s
  let inside (off n : Nat) : Bool := off % 4 == 0 && decide (off + n ≤ len - 4)
  gdW s 0 == 0x47444154 && gdH s 4 == 1 && gdH s 6 == 0 && len % 4 == 0 && decide (68 ≤ len ∧ len ≤ 0x200000)
    && decide (gdNRoute s ≤ 2048) && gdB s 23 == 0 && decide (gdNLock s ≤ 65536) && decide (gdNCond s ≤ 262144)
    && (List.range 16).all (fun i => gdB s (48 + i) == 0)
    && inside (gdOffElem s) 16384 && inside (gdOffRoute s) (32 * gdNRoute s) && inside (gdOffLock s) (4 * gdNLock s)
    && inside (gdOffCond s) (4 * gdNCond s)
    && crc32c (Tbl.getList s.gd 0 (len - 4)) == s.gdWord (len - 4)

/-- The kind of an element, 0 beyond the table. -/
def elemKind (s : State) (i : Nat) : Nat := if i < 1024 then (elemOf s i).kind else 0

/-- One element record (0x0403). -/
def elemOk (s : State) (v : GeoEnv) (i : Nat) : Bool :=
  let e := elemOf s i
  let ownerOk := if v.slots = [] then e.owner == v.ownSlot else v.slots.contains e.owner || e.owner == v.ownSlot
  let listOk := decide (e.listLen ≤ 64) && decide (e.listFirst + e.listLen ≤ gdNCond s)
  let noList := e.listLen == 0 && e.listFirst == 0
  let noBits := e.pbitA == 0xFF && e.pbitB == 0xFF
  let rtrkTrack := decide (e.rtrk < 1016) && elemKind s e.rtrk == 1
  let routesUse (ed : Nat) : Bool := (List.range (gdNRoute s)).any fun n =>
    let r := routeOf s n
    r.defined && (r.destEdge == ed || (locksOf s r).any fun l => l.mode == 2 && l.elem == 1016 + ed)
  e.zero == 0 &&
  if 1016 ≤ i then
    e.kind == 4 && e.owner == v.ownSlot && e.oc == 0 && e.slot == 0 && noBits && e.throwT == 0 &&
      ((rtrkTrack && listOk) || (e.rtrk == 0xFFFF && noList && !v.edgesWithUnits.contains (i - 1016) && !routesUse (i - 1016)))
  else match e.kind with
    | 0 => e.owner == 0 && e.oc == 0 && e.slot == 0 && e.pbitA == 0 && e.pbitB == 0 && e.rtrk == 0 && noList && e.throwT == 0
    | 1 => ownerOk && v.ocs.contains e.oc && decide (e.slot ≤ 15) && noBits && e.rtrk == i && noList && e.throwT == 0
    | 2 => ownerOk && v.ocs.contains e.oc && decide (e.slot ≤ 15) && decide (e.pbitA ≤ 63 ∧ e.pbitB ≤ 63) && e.pbitA != e.pbitB
        && rtrkTrack && listOk && decide (1 ≤ e.throwT ∧ e.throwT ≤ 6000)
    | 3 => ownerOk && v.ocs.contains e.oc && decide (e.slot ≤ 15) && noBits && e.rtrk == 0xFFFF && noList && e.throwT == 0
    | _ => false

/-- The pair of keys of a list repeats nowhere. -/
def noDup (l : List (Nat × Nat)) : Bool := l.length == l.eraseDups.length

/-- Element table (0x0403). -/
def gdElementsOk (s : State) (v : GeoEnv) : Bool :=
  let idx := List.range 1024
  let live := (idx.filter fun i => decide (i < 1016) && elemKind s i != 0).map (elemOf s)
  let pts := live.filter fun e => e.kind == 2
  idx.all (elemOk s v) && noDup (live.map fun e => (e.oc, e.slot))
    && noDup (pts.flatMap fun e => [(e.oc, e.pbitA), (e.oc, e.pbitB)])

/-- Route table (0x0404). -/
def gdRoutesOk (s : State) : Bool :=
  let ns := List.range (gdNRoute s)
  let track (i : Nat) : Bool := decide (i < 1016) && elemKind s i == 1
  let defs := (ns.map (routeOf s)).filter (·.defined)
  let ptBits := ((List.range 1016).filter fun i => elemKind s i == 2).flatMap fun i =>
    let e := elemOf s i
    [(e.oc, e.pbitA), (e.oc, e.pbitB)]
  ns.all (fun n =>
    let r := routeOf s n
    if r.defined then
      decide (r.flags < 8) && elemKind s r.signal == 3 && track r.entry && track r.dest
        && decide (1 ≤ r.listLen ∧ r.listLen ≤ 64) && decide (1 ≤ r.lockLen ∧ r.lockLen ≤ 64)
        && decide (r.listFirst + r.listLen ≤ gdNCond s) && decide (r.lockFirst + r.lockLen ≤ gdNLock s)
        && (r.appr1 == 0xFFFF || track r.appr1) && (r.appr2 == 0xFFFF || track r.appr2)
        && decide (1 ≤ r.apprT ∧ r.apprT ≤ 6000) && decide (1 ≤ r.relT ∧ r.relT ≤ 6000) && decide (r.pbit ≤ 63)
        && decide (1 ≤ r.proveVc) && decide (1 ≤ r.setT ∧ r.setT ≤ 6000) && decide (1 ≤ r.lendT) && decide (1 ≤ r.destVc)
        && !ptBits.contains ((elemOf s r.signal).oc, r.pbit)
        && (if r.destEdge = 0xFF then (List.range 8).all fun e => berthTrack s e != some r.dest
            else decide (r.destEdge < 8) && berthTrack s r.destEdge == some r.dest)
    else (List.range 32).all fun i => gdB s (gdOffRoute s + 32 * n + i) == 0)
  && noDup (defs.map fun r => (r.signal, r.pbit))

/-- One condition word as a list member or not (0x0405). -/
def condWordOk (s : State) (own : Nat) (member : Bool) (w : Word) : Bool :=
  let c := condOf w
  let kind := elemKind s c.elem
  let owned := decide (c.elem < 1024) && kind != 0 && (elemOf s c.elem).owner == own
  !bitAt w 15 && (if member then !(c.c || c.p || c.k) else c.c || c.p || c.k) &&
  match c.opc with
  | 0x01 => c.elem == 0 && c.arg == 0
  | 0x02 | 0x03 => kind == 1 && c.arg == 0
  | 0x04 | 0x05 => kind == 2 && c.arg == 0
  | 0x06 | 0x07 => kind == 3 && c.arg == 0
  | 0x08 | 0x0A => owned && c.arg == 0
  | 0x09 => kind != 0 && c.arg == 0
  | 0x0B | 0x0C | 0x0D | 0x0E => kind == 4 && c.arg == 0
  | 0x0F => c.elem == 0 && decide (c.arg ≤ 95)
  | 0x10 => c.elem == 0 && decide (c.arg ≤ 2047)
  | 0x11 => c.elem == 0 && decide (1 ≤ c.arg ∧ c.arg ≤ 128)
  | 0x12 => !member && c.elem == 0 && decide (1 ≤ c.arg ∧ c.arg ≤ 15)
  | _ => false

/-- A whole condition list (0x0405): groups complete within it. -/
def condListOk (s : State) (own : Nat) : Nat → List Word → Bool
  | 0, _ => true
  | _ + 1, [] => true
  | f + 1, w :: ws =>
    let c := condOf w
    if c.opc = 0x12 then
      condWordOk s own false w && decide (c.arg ≤ ws.length) && (ws.take c.arg).all (condWordOk s own true)
        && condListOk s own f (ws.drop c.arg)
    else condWordOk s own false w && condListOk s own f ws

/-- The words of a list by pool index. -/
def poolWords (s : State) (first len : Nat) : List Word := (List.range len).map fun i => s.gdWord (gdOffCond s + 4 * (first + i))

/-- Every list of every element and defined route (0x0405). -/
def gdConditionsOk (s : State) (v : GeoEnv) : Bool :=
  (List.range 1024).all (fun i =>
    let e := elemOf s i
    !(e.kind == 2 || e.kind == 4) || condListOk s v.ownSlot 65 (poolWords s e.listFirst e.listLen))
  && (List.range (gdNRoute s)).all fun n =>
    let r := routeOf s n
    !r.defined || condListOk s v.ownSlot 65 (poolWords s r.listFirst r.listLen)

/-- The lock list of one route (0x0406). -/
def lockListOk (s : State) (r : Route) : Bool :=
  let ls := locksOf s r
  let seqTracks := ls.filter fun l => l.mode == 0 && elemKind s l.elem == 1
  let steps := seqTracks.map (·.step)
  let dests := ls.filter fun l => l.mode == 1
  let edges := ls.filter fun l => l.mode == 2
  let stepOf (t : Nat) : Option Nat := (seqTracks.find? fun l => l.elem == t).map (·.step)
  let edgeEntry (e : Nat) : Bool := match berthTrack s e with
    | some t => !(t == r.dest || seqTracks.any fun l => l.elem == t)
        || edges.any fun l => l.elem == 1016 + e && (t == r.dest || some l.step == stepOf t)
    | none => true
  (ls.map (·.elem)).length == (ls.map (·.elem)).eraseDups.length
    && dests.map (·.elem) == [r.dest]
    && steps.length == steps.eraseDups.length && steps.all (fun k => decide (k < steps.length)) && stepOf r.entry == some 0
    && ls.all (fun l => match elemKind s l.elem with
        | 1 => l.pos == 0 && decide (l.mode ≤ 1) && (l.mode != 1 || l.step == 0)
        | 2 => (l.pos == 1 || l.pos == 2) && l.mode == 0 && (some l.step == stepOf (elemOf s l.elem).rtrk
            || (l.step == 0 && (elemOf s l.elem).rtrk == r.dest))
        | 4 => l.pos == 0 && l.mode == 2
        | _ => false)
    && decide (edges.length ≤ 1)
    && lockZeros s r && (List.range 8).all edgeEntry

/-- Every lock list (0x0406). -/
def gdLocksOk (s : State) : Bool :=
  (List.range (gdNRoute s)).all fun n => !(routeOf s n).defined || lockListOk s (routeOf s n)

/-- The Mantle classes of every permissive bit (0x0407). -/
def gdClassesOk (s : State) (v : GeoEnv) : Bool :=
  (List.range (gdNRoute s)).all (fun n =>
    let r := routeOf s n
    !r.defined ||
      let want := match (locksOf s r).find? (·.mode == 2) with
        | some l => (2, l.elem - 1016)
        | none => (1, 0)
      v.mclass (elemOf s r.signal).oc r.pbit == some want)
  && (List.range 1016).all fun i =>
    let e := elemOf s i
    e.kind != 2 || (v.mclass e.oc e.pbitA == some (1, 0) && v.mclass e.oc e.pbitB == some (1, 0))

/-- GD_CHECK (R139): the code of the first failing check in table order; none when every check passes. -/
def gdCheck (s : State) (v : GeoEnv) : Option Nat :=
  if !gdHeaderOk s then some 0x0401
  else if gdOwnSlot s ≠ v.ownSlot then some 0x0402
  else if !gdElementsOk s v then some 0x0403
  else if !gdRoutesOk s then some 0x0404
  else if !gdConditionsOk s v then some 0x0405
  else if !gdLocksOk s then some 0x0406
  else if !gdClassesOk s v then some 0x0407
  else none

end Sys2Proof.Machine
end

