-- ==== Sys2Proof/Machine/LendOps.lean ====
section
/-!
DEFINITION. Lending tokens across the cascade: messages, the two books and what each message does (R182–R190).
-/
namespace Sys2Proof.Machine

/-- The session of an ID. -/
def State.ses (s : State) (n : Nat) : Session := Tbl.get s.rt.ses n

/-- Replaces a session. -/
def State.setSes (s : State) (n : Nat) (x : Session) : State := { s with rt := { s.rt with ses := Tbl.set s.rt.ses n x } }

/-- Changes a session. -/
def updSes (n : Nat) (f : Session → Session) (s : State) : State := s.setSes n (f (s.ses n))

/-- The peer counts as a banked peer: its latest response reads READY (R428). -/
def peerBanked (s : State) : Bool := s.regB Reg.PCL_STAT 27

/-- The banked peer has acknowledged a mirror that contains a change of the VC given. -/
def mirrorAcked (s : State) (v : Word) : Bool := !later v (s.reg Reg.PCL_MACK)

/-- The slot's own epoch. -/
def ownEpoch (s : State) : Nat := s.regF Reg.PCL_EPOCH 7 0

/-- A lending message of this module (R182). -/
def mkLend (s : State) (kind dest elem : Nat) (orphan : Bool) (lseq : Word) : LendMsg :=
  { kind := kind, from_ := s.ownSlot, to_ := dest, epoch := ownEpoch s, elem := elem, orphan := orphan, lseq := lseq, vcn := s.sys.vcn }

/-- Puts a message into the next cascade exchange. -/
def lendOut (m : LendMsg) (s : State) : State := { s with lend := { s.lend with out := s.lend.out ++ [m] } }

/-- Sends a message that gives up a right: with a banked peer it waits for the mirror's acknowledgement (R185). -/
def lendRight (m : LendMsg) (s : State) : State :=
  if peerBanked s then { s with lend := { s.lend with waiting := s.lend.waiting ++ [⟨m, s.sys.vcn⟩] } } else lendOut m s

/-- The messages whose mirror has been acknowledged move to the exchange (R185), in the order they were made. -/
def lendRelease (s : State) : State :=
  let go := s.lend.waiting.filter fun w => mirrorAcked s w.since || !peerBanked s
  let stay := s.lend.waiting.filter fun w => !(mirrorAcked s w.since || !peerBanked s)
  { s with lend := { s.lend with waiting := stay, out := s.lend.out ++ go.map (·.msg) } }

/-- A borrow of one foreign element for a session: entry and REQ (R184, step 1). -/
def borrow (ses : Nat) (s : State) (elem : Nat) : State :=
  let owner := (elemOf s elem).owner
  let q := s.lend.lseq + 1
  let s := { s with lend := { s.lend with lseq := q, borrows := s.lend.borrows ++ [⟨elem, owner, ses, q, false, s.sys.vcn⟩] } }
  lendOut (mkLend s 1 owner elem false q) s

/-- A session leaves `LOCKING`: its borrows no longer belong to a locking session, so a later grant is returned (step 3'). -/
def unborrow (ses : Nat) (s : State) : State :=
  { s with lend := { s.lend with borrows := s.lend.borrows.map fun b => if b.ses = ses ∧ ¬ b.isRet then { b with ses := 0 } else b } }

/-- GIVEBACK of a foreign token with its RETURN (R184, step 5). -/
def giveBack (elem holder ses : Nat) (s : State) : State :=
  let (s, ok) := crdRun 0xB elem 0 holder 0 s
  if ok then
    let owner := (elemOf s elem).owner
    let q := Tbl.get s.lend.remLseq elem
    let s := { s with lend := { s.lend with
      remLseq := Tbl.set s.lend.remLseq elem 0, borrows := s.lend.borrows ++ [⟨elem, owner, ses, q, true, s.sys.vcn⟩] } }
    lendRight (mkLend s 5 owner elem false q) s
  else s

/-- A session's token is given up at once: RELEASE of an owned one, GIVEBACK of a foreign one. A frozen token stays. -/
def freeToken (ses : Nat) (s : State) (elem : Nat) : State :=
  if tokFrozen s elem then s
  else if posKind s elem = 2 then giveBack elem ses ses s
  else (crdRun 2 elem 0 ses 0 s).1

/-- A session's token is put into timed release. A frozen token stays. -/
def timeToken (ses t : Nat) (s : State) (elem : Nat) : State :=
  if tokFrozen s elem ∨ tokSt (s.tok elem) = 2 then s else (crdRun 3 elem 0 ses t s).1

/-- Tokens a session holds, `RELEASING` ones apart. -/
def heldNow (s : State) (ses : Nat) : List Nat := (heldBy s ses).filter fun i => tokSt (s.tok i) != 2

/-- Due foreign tokens are given back (R174, R184). -/
def dueReturns (s : State) : State :=
  ((s.crd.tok.map (·.1)).filter (tokDue s)).foldl (fun s i => giveBack i (tokHolder (s.tok i)) (tokHolder (s.tok i)) s) s

/-- The block of an element in the standing list that the ledger does not yet hold is performed once its token is `FREE` (R176, R333). -/
def standingBlock (s : State) (i : Nat) : State :=
  let d := Tbl.get s.rt.standing i
  if d.block ∧ s.tok i = 0 ∧ posKind s i = 1 ∧ ¬ tokFrozen s i then (crdRun 5 i (d.host % 8) 0 0 s).1 else s

/-- Every block of the standing list. -/
def standingBlocks (s : State) : State := (s.rt.standing.map (·.1)).foldl standingBlock s

/-! ### Messages received (R183, R184, R187–R189) -/

/-- A message without a matching state (0x0513). -/
def lendProtocol (elem : Nat) (s : State) : State := note 0x0513 5 elem s

/-- The epoch of a message is the last seen from its sender (R183). -/
def epochOk (s : State) (m : LendMsg) : Bool := Tbl.get s.lend.epochs m.from_ == m.epoch + 1

/-- A new epoch of a slot (R189). -/
def newEpoch (slot epoch : Nat) (s : State) : State :=
  let known := Tbl.get s.lend.epochs slot
  if known = epoch + 1 then s
  else
    let s := { s with lend := { s.lend with epochs := Tbl.set s.lend.epochs slot (epoch + 1) } }
    if known = 0 then s
    else
      let gone := s.lend.loans.filter fun l => l.borrower == slot
      let s := { s with lend := { s.lend with
        borrows := s.lend.borrows.filter fun b => b.owner != slot, loans := s.lend.loans.filter fun l => l.borrower != slot } }
      gone.foldl (fun s l => note 0x0510 5 l.elem (crdRun 9 l.elem 0 slot (s.rt.reclaimT * 100) s).1) s

/-- The lend entry that a message matches. -/
def matchLoan (s : State) (m : LendMsg) : Option Loan := s.lend.loans.find? fun l => l.elem == m.elem && l.borrower == m.from_ && l.lseq == m.lseq

/-- The borrow book entry that a message matches. -/
def matchBorrow (s : State) (m : LendMsg) (isRet : Bool) : Option Borrow :=
  s.lend.borrows.find? fun b => b.elem == m.elem && b.owner == m.from_ && b.lseq == m.lseq && b.isRet == isRet

/-- Takes an entry out of the borrow book. -/
def dropBorrow (b : Borrow) (s : State) : State := { s with lend := { s.lend with borrows := s.lend.borrows.filter (· != b) } }

/-- Takes the lend entries of an element out. -/
def dropLoan (elem : Nat) (s : State) : State := { s with lend := { s.lend with loans := s.lend.loans.filter (·.elem != elem) } }

/-- REQ (steps 2, 2', 2''). -/
def lendReq (m : LendMsg) (s : State) : State :=
  let w := s.tok m.elem
  let grant (s : State) : State :=
    let l : Loan := ⟨m.elem, m.from_, m.lseq, false, s.sys.vcn, s.sys.vcn⟩
    let s := dropLoan m.elem s
    lendRight (mkLend s 2 m.from_ m.elem false m.lseq) { s with lend := { s.lend with loans := s.lend.loans ++ [l] } }
  if w = 0 ∧ posKind s m.elem = 1 ∧ ¬ tokFrozen s m.elem then
    let (s, ok) := crdRun 7 m.elem m.from_ 0 0 s
    if ok then grant s else lendOut (mkLend s 3 m.from_ m.elem false m.lseq) s
  else if tokSt w = 4 ∧ tokHolder w = m.from_ then grant s
  else lendOut (mkLend s 3 m.from_ m.elem false m.lseq) s

/-- GRANT (steps 3, 3'); a duplicate for a token held under the same LSEQ is answered with TAKEN (R186); any other, and one whose token
cannot be taken, finds no state of its own (R183). -/
def lendGrant (m : LendMsg) (s : State) : State :=
  match matchBorrow s m false with
  | some b =>
    if (s.ses b.ses).used ∧ b.ses ≠ 0 ∧ (s.ses b.ses).st = .locking then
      let (s, ok) := crdRun 0xA m.elem b.ses 0 0 s
      if ok then
        let s := dropBorrow b s
        lendOut (mkLend s 4 m.from_ m.elem false m.lseq) { s with lend := { s.lend with remLseq := Tbl.set s.lend.remLseq m.elem m.lseq } }
      else lendProtocol m.elem s
    else
      let s := dropBorrow b s
      let s := { s with lend := { s.lend with borrows := s.lend.borrows ++ [{ b with isRet := true, ses := 0, sent := s.sys.vcn }] } }
      lendRight (mkLend s 5 m.from_ m.elem false m.lseq) s
  | none =>
    if tokSt (s.tok m.elem) = 5 ∧ Tbl.get s.lend.remLseq m.elem = m.lseq then lendOut (mkLend s 4 m.from_ m.elem false m.lseq) s
    else lendProtocol m.elem s

/-- Marks the session of a refused borrow. -/
def markRefused (n : Nat) (s : State) : State :=
  if n ≠ 0 ∧ (s.ses n).used then updSes n (fun x => { x with lendRefused := true }) s else s

/-- REFUSE (step 3''). -/
def lendRefuse (m : LendMsg) (s : State) : State :=
  match matchBorrow s m false with
  | some b => markRefused b.ses (dropBorrow b s)
  | none => lendProtocol m.elem s

/-- TAKEN (step 4). -/
def lendTaken (m : LendMsg) (s : State) : State :=
  match matchLoan s m with
  | some _ => { s with lend := { s.lend with loans := s.lend.loans.map fun l =>
      if l.elem = m.elem ∧ l.borrower = m.from_ ∧ l.lseq = m.lseq then { l with confirmed := true } else l } }
  | none => lendProtocol m.elem s

/-- RETURN (steps 6, 6', 6''). A loan whose token the ledger does not give back (a frozen edge) stays as it is, and the message finds no
state of its own (R183): the borrower repeats it (R186). A standing block of the element is performed before anything else takes the token
(R333). -/
def lendReturn (m : LendMsg) (s : State) : State :=
  let ack (s : State) : State := lendOut (mkLend s 6 m.from_ m.elem false m.lseq) s
  match matchLoan s m with
  | some _ =>
    let (s, ok) := if m.orphan then crdRun 9 m.elem 0 m.from_ (s.rt.reclaimT * 100) s else crdRun 8 m.elem 0 m.from_ 0 s
    if ok then ack (standingBlock (noteIf m.orphan 0x0511 5 m.elem (dropLoan m.elem s)) m.elem) else lendProtocol m.elem s
  | none => ack s

/-- RETURN_ACK (step 7). -/
def lendReturnAck (m : LendMsg) (s : State) : State :=
  match matchBorrow s m true with
  | some b => dropBorrow b s
  | none => lendProtocol m.elem s

/-- AUDIT (R187). -/
def lendAudit (m : LendMsg) (s : State) : State :=
  let st := tokSt (s.tok m.elem)
  if (st = 5 ∨ st = 2) ∧ posKind s m.elem = 2 ∧ Tbl.get s.lend.remLseq m.elem = m.lseq then lendOut (mkLend s 4 m.from_ m.elem false m.lseq) s
  else if (matchBorrow s m false).isSome ∨ (matchBorrow s m true).isSome then s
  else lendOut (mkLend s 5 m.from_ m.elem true m.lseq) s

/-- A claimed token is a confirmed loan under the LSEQ of its CLAIM, and the CLAIM counts (R188). -/
def claimed (m : LendMsg) (s : State) : State :=
  let s := dropLoan m.elem s
  { s with lend := { s.lend with
    loans := s.lend.loans ++ [⟨m.elem, m.from_, m.lseq, true, s.sys.vcn, s.sys.vcn⟩], claims := Tbl.upd s.lend.claims m.from_ (· + 1) } }

/-- CLAIM (R188): a start block becomes a confirmed loan; a CLAIM repeated after another query counts again. No operation of R170 makes a
start block `LENT`: the entry is set in P1 with its counts and sum, without CRD_STAT.OPS and CRD_RESULT (DESIGN CHOICE, log entry 110). -/
def lendClaim (m : LendMsg) (s : State) : State :=
  let w := s.tok m.elem
  if s.lend.claiming ∧ posKind s m.elem = 1 ∧ tokSt w = 3 ∧ tokHolder w = 0xF8 then claimed m (tokSet m.elem (mkTok 4 0 m.from_) s)
  else if s.lend.claiming ∧ tokSt w = 4 ∧ tokHolder w = m.from_ then claimed m s
  else lendProtocol m.elem s

/-- CLAIM_END (R188). -/
def lendClaimEnd (m : LendMsg) (s : State) : State :=
  if s.lend.claiming then { s with lend := { s.lend with claimEnds := Tbl.set s.lend.claimEnds m.from_ (m.lseq.toNat + 1) } }
  else lendProtocol 0 s

/-- The elements held from an owner: `HELD_REMOTE` or foreign `RELEASING`. -/
def heldFrom (s : State) (owner : Nat) : List Nat :=
  (s.crd.tok.map (·.1)).filter fun i => posKind s i == 2 && (tokSt (s.tok i) == 5 || tokSt (s.tok i) == 2) && (elemOf s i).owner == owner

/-- CLAIM_QUERY (R188): every element held from the sender, then the count. -/
def lendClaimQuery (m : LendMsg) (s : State) : State :=
  let es := heldFrom s m.from_
  let s := es.foldl (fun s i => lendOut (mkLend s 8 m.from_ i false (Tbl.get s.lend.remLseq i)) s) s
  lendOut (mkLend s 9 m.from_ 0 false (word es.length)) s

/-- A lending message applied in P1 (R183): CLAIM_QUERY and CLAIM_END bring the sender's epoch, any other must bear it. -/
def lendApply (m : LendMsg) (s : State) : State :=
  if m.kind = 9 ∨ m.kind = 10 then
    let s := newEpoch m.from_ m.epoch s
    if m.kind = 9 then lendClaimEnd m s else lendClaimQuery m s
  else if !epochOk s m then note 0x0514 5 m.elem s
  else match m.kind with
    | 1 => lendReq m s
    | 2 => lendGrant m s
    | 3 => lendRefuse m s
    | 4 => lendTaken m s
    | 5 => lendReturn m s
    | 6 => lendReturnAck m s
    | 7 => lendAudit m s
    | 8 => lendClaim m s
    | _ => lendProtocol m.elem s

/-! ### Messages by time (R186–R188) -/

/-- Repeats every 4 VC (R186). -/
def lendRepeats (s : State) : State :=
  let v := s.sys.vcn
  let oldB (b : Borrow) : Bool := decide (since v b.sent ≥ 4) && (b.isRet || (b.ses != 0 && (s.ses b.ses).st == .locking))
  let oldL (l : Loan) : Bool := decide (since v l.sent ≥ 4) && !l.confirmed
  let waits (kind elem : Nat) : Bool := s.lend.waiting.any fun w => w.msg.kind == kind && w.msg.elem == elem
  let bs := s.lend.borrows.filter fun b => oldB b && !(b.isRet && waits 5 b.elem)
  let ls := s.lend.loans.filter fun l => oldL l && !waits 2 l.elem
  let s := bs.foldl (fun s b => lendOut (mkLend s (if b.isRet then 5 else 1) b.owner b.elem false b.lseq) s) s
  let s := ls.foldl (fun s l => lendOut (mkLend s 2 l.borrower l.elem false l.lseq) s) s
  { s with lend := { s.lend with
    borrows := s.lend.borrows.map fun b => if oldB b then { b with sent := v } else b
    loans := s.lend.loans.map fun l => if oldL l then { l with sent := v } else l } }

/-- Audits at least once every 1,024 VC (R187). -/
def lendAudits (s : State) : State :=
  let v := s.sys.vcn
  let due (l : Loan) : Bool := decide (since v l.audited ≥ 1024)
  let s := (s.lend.loans.filter due).foldl (fun s l => lendOut (mkLend s 7 l.borrower l.elem false l.lseq) s) s
  { s with lend := { s.lend with loans := s.lend.loans.map fun l => if due l then { l with audited := v } else l } }

/-- The declared members of the cascade other than this slot. -/
def otherSlots (s : State) : List Nat := (List.range 8).filter fun k => k != s.ownSlot && s.conf.modules.any (·.slot == k)

/-- A slot's claims are complete (R188). -/
def claimsFrom (s : State) (k : Nat) : Bool :=
  let e := Tbl.get s.lend.claimEnds k
  e != 0 && Tbl.get s.lend.claims k + 1 == e

/-- One member is asked for its claims; what it claims from now on is counted from 0. -/
def askClaims (s : State) (k : Nat) : State :=
  lendOut (mkLend s 10 k 0 false 0) { s with lend := { s.lend with claims := Tbl.set s.lend.claims k 0, claimEnds := Tbl.set s.lend.claimEnds k 0 } }

/-- Queries every member whose claims are incomplete. -/
def claimQuery (s : State) : State :=
  let s := ((otherSlots s).filter fun k => !claimsFrom s k).foldl askClaims s
  { s with lend := { s.lend with queried := s.sys.vcn } }

/-- Every remaining start block is changed by START_TIMED (R181, step 4). A frozen edge token refuses it (R175), so it waits for the
restoration of its edge (DEDUCED, log entry 111). -/
def startBlocks (s : State) : State :=
  let xs := (s.crd.tok.filter fun p => tokSt p.2 == 3 && tokHolder p.2 == 0xF8 && !tokFrozen s p.1).map (·.1)
  xs.foldl (fun s i => (crdRun 0xC i 0 0 (s.rt.startT * 100) s).1) s

/-- CLAIMS_COMPLETE (R181, step 4). -/
def claimsComplete (s : State) : State :=
  let s := startBlocks s
  { s with lend := { s.lend with claiming := false }, rt := { s.rt with startTimed := true } }

end Sys2Proof.Machine
end

