-- ==== Sys2Proof/Machine/RouteOps.lean ====
section
/-!
DEFINITION. Sessions: their IDs, and the turns of route and point sessions in the sequencing (R151–R162, R507).
-/
namespace Sys2Proof.Machine

/-- A session in a terminal state. -/
def SesSt.ended (t : SesSt) : Bool := t == .released || t == .cancelled

/-- Session `n` is live. -/
def sesLive (s : State) (n : Nat) : Bool := (s.ses n).used && !(s.ses n).st.ended

/-- Session IDs in use, in ascending creation number (R152). -/
def sesOrder (s : State) : List Nat :=
  ((s.rt.ses.filter (·.2.used)).mergeSort fun x y => !later x.2.creation y.2.creation).map (·.1)

/-- The live session of a kind for an object. -/
def sesOf (s : State) (kind : SesKind) (obj : Nat) : Option Nat :=
  (s.rt.ses.find? fun p => p.2.used && !p.2.st.ended && p.2.kind == kind && p.2.obj == obj).map (·.1)

/-- The lowest free session ID (R151). -/
def freeSes (s : State) : Option Nat := ((List.range 255).map (· + 1)).find? fun n => !(s.ses n).used

/-- A new session with its descriptor (R145, R151). -/
def newSes (n : Nat) (kind : SesKind) (obj target tag : Nat) (descr : Word) (s : State) : State :=
  let x : Session := { (default : Session) with
    used := true, kind := kind, st := .requested, creation := s.rt.created + 1, obj := obj, target := target, tag := tag, born := s.sys.vcn }
  let s := s.setSes n x
  { s with rt := { s.rt with created := s.rt.created + 1 } }.setReg (sesReg n) descr

/-- A session reaches a terminal state: its SESSION_END record (R402), its descriptor is no longer evaluated (R145) and its borrows
belong to no session. -/
def endSes (n : Nat) (st : SesSt) (s : State) : State :=
  let x := s.ses n
  let kind := match x.kind with
    | .route => 1
    | .point => 2
    | .door => 3
  let s := recordLater 6 ([byte n, byte kind] ++ le2 (if x.kind = .door then 1016 + x.obj else x.obj) ++ le4 x.creation
    ++ [byte (if st = .released then 8 else 9), 0#8] ++ le2 x.fault ++ le4 x.born ++ le4 s.sys.vcn ++ le4 0) s
  unborrow n (updSes n (fun x => { x with st := st }) (s.setRegB (sesReg n) 31 false))

/-- A session's state, unless it is terminal. -/
def sesTo (n : Nat) (st : SesSt) (s : State) : State := updSes n (fun x => { x with st := st }) s

/-- The terminal reply of the command that created a session, unless it has been posted. -/
def replyCreator (n status detail fault : Nat) (results : List Byte) (s : State) : State :=
  if (s.ses n).replied then s
  else updSes n (fun x => { x with replied := true, fault := fault }) (postIfActive (s.ses n).tag n status detail fault results s)

/-- The terminal reply of the command that ends a session. -/
def replyEnder (n status fault : Nat) (s : State) : State :=
  match (s.ses n).endTag with
  | some t => updSes n (fun x => { x with endTag := none }) (postIfActive t n status 0 fault [] s)
  | none => s

/-- The refusal of a session's request (R155): locked or condition, failing index, element. -/
def refuseSes (n : Nat) (locked : Bool) (index elem : Nat) (s : State) : State :=
  let code := if locked then 0x0414 else 0x0413
  endSes n .cancelled (replyCreator n (if locked then 4 else 2) index code (le2 elem ++ [0, 0]) (note code 6 n s))

/-- C_FIRST of a session's result. -/
def cFirst (s : State) (n : Nat) : Nat := s.regF (resReg n) 5 0

/-- The refusal of a session whose C conditions fail: by the opcode of the failing word (R155). -/
def refuseCond (n listFirst : Nat) (s : State) : State :=
  let c := condOf (s.gdWord (gdOffCond s + 4 * (listFirst + cFirst s n)))
  refuseSes n (c.opc == 0x08 || c.opc == 0x0A) (cFirst s n) c.elem s

/-- Writes the ACQUIRE list (R170). -/
def writeList (xs : List Nat) (s : State) : State :=
  (List.range ((xs.length + 1) / 2)).foldl (fun s k =>
    s.setReg (Reg.CRD_LIST + 4 * k) (word (xs.getD (2 * k) 0 + xs.getD (2 * k + 1) 0 * 2 ^ 16))) s

/-- ACQUIRE of elements for a session; an empty list needs none. -/
def acquireFor (n : Nat) (xs : List Nat) (s : State) : State × CrdRes :=
  if xs = [] then (s, ⟨0, 0, 0⟩) else crdDo ⟨1, 0, n, xs.length, 0, 0⟩ (writeOpa 0 0 (writeList xs s))

/-- The frozen token of an element is the session's (R144, R169). -/
def frozenOwned (s : State) (n i : Nat) : Bool := tokOwned (Tbl.get s.ite.frozen i) n

/-- A session holds no token, `RELEASING` ones with it as holder included. -/
def holdsNone (s : State) (n : Nat) : Bool := (heldBy s n).isEmpty

/-- A remote token of the session is still on its way back. -/
def returning (s : State) (n : Nat) : Bool := s.lend.borrows.any fun b => b.isRet && b.ses == n

/-- VCs since a VCN, at least `k`. -/
def elapsed (s : State) (v : Word) (k : Nat) : Bool := decide (since s.sys.vcn v ≥ k)

/-- The runtime sequences its sessions on this VC's results: in P1, after DONE, in `ACTIVE` and `BANKED`; tokens are given up there alone
(R152, R170, R429). -/
def turnNow (s : State) : Bool := s.sys.phase == 1 && s.ite.done && (s.sys.state == .active || s.sys.state == .banked)

/-! ### Route sessions (R154–R157) -/

/-- Lock entries on elements of this module, and those on elements of others. -/
def localLocks (s : State) (r : Route) : List Lock := (locksOf s r).filter fun l => (elemOf s l.elem).owner == s.ownSlot
def remoteLocks (s : State) (r : Route) : List Lock := (locksOf s r).filter fun l => (elemOf s l.elem).owner != s.ownSlot

/-- `REQUESTED` or `CHECKING`: acquire, wait while the request may wait, or refuse; a failed acquire names the position of its entry in
the route's lock list (R310). -/
def routeTry (n : Nat) (waits : Bool) (s : State) : State :=
  let r := routeOf s (s.ses n).obj
  if cOk s n then
    let (s, a) := acquireFor n ((localLocks s r).map (·.elem)) s
    if a.status = 0 then
      let s := ((remoteLocks s r).map (·.elem)).foldl (borrow n) s
      updSes n (fun x => { x with st := .locking, acqVcn := s.sys.vcn }) s
    else if waits then sesTo n .checking s
    else refuseSes n true (((locksOf s r).findIdx? (·.elem == a.elem)).getD a.pos) a.elem s
  else if waits then sesTo n .checking s
  else refuseCond n r.listFirst s

/-- The check of a turn: a request waits in `CHECKING` until WAIT_T × 100 VC have elapsed (R154). -/
def routeCheck (n : Nat) (s : State) : State :=
  let x := s.ses n
  let r := routeOf s x.obj
  routeTry n (r.waitT != 0 && !(x.st == .checking && elapsed s x.born (r.waitT * 100))) s

/-- The element whose borrow has been refused. -/
def refusedElem (s : State) (n : Nat) (r : Route) : Nat :=
  ((locksOf s r).find? fun l => (elemOf s l.elem).owner != s.ownSlot && !tokOwned (s.tok l.elem) n
      && !s.lend.borrows.any fun b => b.elem == l.elem && b.ses == n).elim 0 (·.elem)

/-- LEND_T has run out (0x0415). -/
def routeLendTimeout (n : Nat) (s : State) : State :=
  let s := (heldNow s n).foldl (freeToken n) s
  endSes n .cancelled (replyCreator n 8 0 0x0415 [] (note 0x0415 6 n s))

/-- `LOCKING`. A refused borrow is neither a failing condition word nor a failed ACQUIRE of this module, so its DETAIL is 0 (R310). -/
def routeLocking (n : Nat) (s : State) : State :=
  let x := s.ses n
  let r := routeOf s x.obj
  if (locksOf s r).all fun l => frozenOwned s n l.elem then
    updSes n (fun x => { x with st := .setting, setVcn := some (x.setVcn.getD s.sys.vcn) }) s
  else if x.lendRefused then
    refuseSes n true 0 (refusedElem s n r) ((heldNow s n).foldl (freeToken n) s)
  else if elapsed s x.acqVcn (r.lendT * 10) then routeLendTimeout n s
  else s

/-- SET_T has run out before the first clearance. -/
def routeSetTimeout (n : Nat) (s : State) : State :=
  let s := (heldNow s n).foldl (freeToken n) s
  endSes n .cancelled (replyCreator n 8 0 0x0416 [] (note 0x0416 6 n s))

/-- The signal is cleared. -/
def routeClear (n : Nat) (s : State) : State :=
  replyCreator n 1 0 0 [] (updSes n (fun x => { x with st := .set_, cleared := true }) s)

/-- SET_T × 10 VC since the first entry to `SETTING`. -/
def setTOver (s : State) (n : Nat) : Bool :=
  match (s.ses n).setVcn with
  | some v => elapsed s v ((routeOf s (s.ses n).obj).setT * 10)
  | none => false

/-- The track of step `k` of a route's SEQ entries. -/
def stepTrack (s : State) (r : Route) (k : Nat) : Option Nat :=
  ((locksOf s r).find? fun l => l.mode == 0 && l.step == k && elemKind s l.elem == 1).map (·.elem)

/-- Steps of a route's SEQ entries. -/
def stepCount (s : State) (r : Route) : Nat := ((locksOf s r).filter fun l => l.mode == 0 && elemKind s l.elem == 1).length

/-- Tracks proven occupied join those seen since the entry to `OCCUPIED`. -/
def seeTracks (n : Nat) (s : State) : State :=
  let r := routeOf s (s.ses n).obj
  let now := ((List.range (stepCount s r)).filterMap (stepTrack s r)).filter (estProvenOcc s)
  updSes n (fun x => { x with occSeen := x.occSeen ++ now.filter fun t => !x.occSeen.contains t }) s

/-- The session enters `OCCUPIED`; what is seen occupied since is seen at its turns, on the ESTATE of their VC (R157). -/
def routeOccupy (n : Nat) (s : State) : State := updSes n (fun x => { x with st := .occupied, occSeen := [], relSteps := 0 }) s

/-- The lowest step not yet released may be (R157): its track has been seen, is clear now, and the next one is occupied. -/
def stepFree (s : State) (n : Nat) (r : Route) : Bool :=
  let x := s.ses n
  let k := x.relSteps
  let next := if k + 1 < stepCount s r then (stepTrack s r (k + 1)).getD r.dest else r.dest
  match stepTrack s r k with
  | some t => decide (k < stepCount s r) && x.occSeen.contains t && estClr s t && estProvenOcc s next
  | none => false

/-- The EDGE entry of a route belongs to DEST: DEST is the berth track of its edge. -/
def edgeWithDest (s : State) (r : Route) (l : Lock) : Bool := berthTrack s (l.elem - 1016) == some r.dest

/-- A door session that waits for the token of an edge (R157, R222). -/
def doorWaiting (s : State) (e : Nat) : Option Nat := (sesOf s .door e).filter fun m => (s.ses m).st == .checking

/-- The EDGE token at the DEST release: transferred to a waiting door session, otherwise released. -/
def releaseEdge (n e : Nat) (s : State) : State :=
  if tokFrozen s (1016 + e) then s
  else match doorWaiting s e with
    | some m => (crdRun 4 (1016 + e) m n 0 s).1
    | none => freeToken n s (1016 + e)

/-- DEST may be released (R157). -/
def destFree (s : State) (n : Nat) (r : Route) : Bool :=
  decide ((s.ses n).relSteps ≥ stepCount s r) &&
    (if r.destEdge ≠ 0xFF then estBit s (1016 + r.destEdge) 6 && estBit s (1016 + r.destEdge) 7
     else decide ((s.ses n).destRun ≥ r.destVc))

/-- `OCCUPIED`: tokens are released by the rules of R157. -/
def routeRelease (n : Nat) (s : State) : State :=
  let r := routeOf s (s.ses n).obj
  let s := seeTracks n s
  let s := (List.range (stepCount s r)).foldl (fun s _ =>
    if stepFree s n r then updSes n (fun x => { x with relSteps := x.relSteps + 1 }) s else s) s
  let held (s : State) (l : Lock) : Bool := tokOwned (s.tok l.elem) n
  let gone (s : State) (l : Lock) : Bool :=
    decide (l.step < (s.ses n).relSteps) && (l.mode == 0 || (l.mode == 2 && !edgeWithDest s r l))
  let s := ((locksOf s r).filter fun l => held s l && gone s l).foldl (fun s l => freeToken n s l.elem) s
  let s := if tokOwned (s.tok r.dest) n && destFree s n r then freeToken n s r.dest else s
  let s := if tokOwned (s.tok r.dest) n then s
    else ((locksOf s r).filter fun l => l.mode == 2 && edgeWithDest s r l && held s l).foldl (fun s l => releaseEdge n (l.elem - 1016) s) s
  if (heldNow s n).isEmpty then endSes n .released s else s

/-- Points of a cleared route that have lost their detection (0x041B). -/
def detectionLost (n : Nat) (s : State) : State :=
  ((locksOf s (routeOf s (s.ses n).obj)).filter fun l => elemKind s l.elem == 2).foldl (fun s l =>
    noteIf (!(estBit s l.elem (if l.pos = 1 then 2 else 3))) 0x041B 5 l.elem s) s

/-- `SETTING` and `PROVING`. Where P_OK holds in the turn in which SET_T has elapsed, P_OK is taken (DESIGN CHOICE, log entry 103). -/
def routeProve (n : Nat) (s : State) : State :=
  let x := s.ses n
  let r := routeOf s x.obj
  if x.cleared && estOcc s r.entry then seeTracks n (routeOccupy n s)
  else if x.st = .setting then
    if pOk s n then
      if r.proveVc = 1 then routeClear n s else updSes n (fun x => { x with st := .proving, provCnt := 1 }) s
    else if setTOver s n then routeSetTimeout n s
    else s
  else if pOk s n then
    if x.provCnt + 1 < r.proveVc then updSes n (fun x => { x with provCnt := x.provCnt + 1 }) s
    else if x.cleared && r.noReclear then s
    else routeClear n s
  else if x.cleared then updSes n (fun x => { x with provCnt := 0 }) s
  else if setTOver s n then routeSetTimeout n s
  else updSes n (fun x => { x with st := .setting, provCnt := 0 }) s

/-- `SET`: occupation comes before a failing keep condition. -/
def routeKeep (n : Nat) (s : State) : State :=
  let r := routeOf s (s.ses n).obj
  if estOcc s r.entry then seeTracks n (routeOccupy n s)
  else if kOk s n then s
  else updSes n (fun x => { x with st := .proving, provCnt := 0 }) (detectionLost n s)

/-- SSTOP of a signal. -/
def sigStop (s : State) (i : Nat) : Bool := estBit s i 4

/-- Every held token goes into timed release (R159, R160). -/
def timeAll (n t : Nat) (s : State) : State :=
  updSes n (fun x => { x with relMode := .timed t }) ((heldNow s n).foldl (timeToken n t) s)

/-- No SSTOP within 1000 VC of a cancel (0x0418): the approach-locked outcome from then on (R159). -/
def signalUnproven (n : Nat) (s : State) : State :=
  timeAll n ((routeOf s (s.ses n).obj).apprT * 100) (note 0x0418 6 n s)

/-- The end of `RELEASING`: no token is held, and after an untimed end no remote token is on its way back. -/
def routeReleased (n : Nat) (s : State) : State :=
  let x := s.ses n
  if holdsNone s n && !(x.relMode == .now && returning s n) then
    replyEnder n 1 0 (endSes n (if x.isCancel then .cancelled else .released) s)
  else s

/-- `RELEASING`. -/
def routeReleasing (n : Nat) (s : State) : State :=
  let x := s.ses n
  let s := match x.relMode with
    | .now => (heldNow s n).foldl (freeToken n) s
    | .atStop =>
      if sigStop s (routeOf s x.obj).signal then
        updSes n (fun x => { x with relMode := .now }) ((heldNow s n).foldl (freeToken n) s)
      else if elapsed s x.endVcn 1000 then signalUnproven n s
      else s
    | .timed t => (heldNow s n).foldl (timeToken n t) s
  routeReleased n s

/-- The session becomes approach locked (R156). -/
def approachLock (n : Nat) (s : State) : State :=
  let x := s.ses n
  let r := routeOf s x.obj
  let occ (t : Nat) : Bool := t != 0xFFFF && estOcc s t
  if x.st = .set_ ∧ (r.alwaysAppr || occ r.appr1 || occ r.appr2) then updSes n (fun x => { x with apprLocked := true }) s else s

/-- DEST's run of proven occupied VCs. -/
def countDest (n : Nat) (s : State) : State :=
  let d := (routeOf s (s.ses n).obj).dest
  updSes n (fun x => { x with destRun := if estProvenOcc s d then min 65535 (x.destRun + 1) else 0 }) s

/-- A route session's turn (R154). -/
def routeTurn (n : Nat) (s : State) : State :=
  let s := countDest n s
  approachLock n (match (s.ses n).st with
    | .requested | .checking => routeCheck n s
    | .locking => routeLocking n s
    | .setting | .proving => routeProve n s
    | .set_ => routeKeep n s
    | .occupied => routeRelease n s
    | .releasing => routeReleasing n s
    | .released | .cancelled => s)

/-! ### Point sessions (R162) -/

/-- THROW_T has run out. -/
def throwOver (n : Nat) (s : State) : State :=
  let s := (heldNow s n).foldl (freeToken n) s
  endSes n .cancelled (replyCreator n 8 0 0x0417 [] (note 0x0417 6 n s))

/-- A point session's turn. Where the token is not `FREE` and the track under the point is not clear either, the token's refusal is given
(DESIGN CHOICE, log entry 104); where the track alone is not clear, DETAIL is 0 (R310) and the element of the results, which names
neither a word nor an entry, is a free value (DESIGN CHOICE, log entry 4). -/
def pointTurn (n : Nat) (s : State) : State :=
  let x := s.ses n
  let e := elemOf s x.obj
  match x.st with
  | .requested =>
    if !cOk s n then refuseCond n e.listFirst s
    else if s.tok x.obj ≠ 0 ∨ tokFrozen s x.obj then refuseSes n true 0 x.obj s
    else if !estClr s e.rtrk then
      let (w, s) := s.takeFree
      refuseSes n false 0 (field w 31 16) s
    else
      let (s, a) := acquireFor n [x.obj] s
      if a.status = 0 then updSes n (fun x => { x with st := .locking, acqVcn := s.sys.vcn }) s else refuseSes n true 0 x.obj s
  | .locking => if frozenOwned s n x.obj then updSes n (fun x => { x with st := .setting, setVcn := some s.sys.vcn }) s else s
  | .setting =>
    if estBit s x.obj (if x.target = 1 then 2 else 3) then
      endSes n .released (replyCreator n 1 0 0 [] ((heldNow s n).foldl (freeToken n) s))
    else if elapsed s (x.setVcn.getD s.sys.vcn) (e.throwT * 10) then throwOver n s
    else s
  | _ => s

/-! ### Cancel and timed release at application (R159–R161, R507) -/

/-- OCC of a track as this VC's snapshot forms it (R143), before the runtime writes it to the engine. -/
def occNow (s : State) (i : Nat) : Bool :=
  let e := elemOf s i
  (fieldEstate 1 (ocFresh s e.oc) (ocByte s e.oc e.slot)).testBit 1

/-- ENTRY is occupied in this VC and the route has been cleared: the session is judged in `OCCUPIED` (R161). -/
def occupyFirst (n : Nat) (s : State) : State :=
  let x := s.ses n
  if x.cleared && (x.st == .set_ || x.st == .proving) && occNow s (routeOf s x.obj).entry then routeOccupy n s else s

/-- The end of a ROUTE_REQUEST that has no terminal reply yet (R507). -/
def requestEnded (n : Nat) (s : State) : State :=
  if (s.ses n).replied then s else replyCreator n 2 0 0x041E [] (note 0x041E 6 n s)

/-- A refused cancel or timed release (0x0419). -/
def endRefused (n tag : Nat) (s : State) : State := postIfActive tag n 2 0 0x0419 [] (note 0x0419 6 n s)

/-- The session starts to end on behalf of a tag. -/
def startEnd (n tag : Nat) (cancel : Bool) (mode : RelMode) (s : State) : State :=
  updSes n (fun x => { x with st := .releasing, endTag := some tag, isCancel := cancel, relMode := mode, endVcn := s.sys.vcn }) s

/-- ROUTE_CANCEL of a route session (R159). -/
def cancelRoute (n tag : Nat) (s : State) : State :=
  let s := occupyFirst n s
  let x := s.ses n
  let r := routeOf s x.obj
  match x.st with
  | .requested | .checking => postIfActive tag n 1 0 0 [] (endSes n .cancelled (requestEnded n s))
  | .locking | .setting | .proving | .set_ =>
    if !x.cleared then
      let s := unborrow n (requestEnded n (startEnd n tag true .now s))
      routeReleased n ((heldNow s n).foldl (freeToken n) s)
    else if x.st = .locking ∨ x.st = .setting then endRefused n tag s
    else if x.apprLocked then timeAll n (r.apprT * 100) (requestEnded n (startEnd n tag true .now s))
    else requestEnded n (startEnd n tag true .atStop s)
  | _ => endRefused n tag s

/-- ROUTE_RELEASE_TIMED (R160). -/
def releaseTimed (n tag : Nat) (s : State) : State :=
  let s := occupyFirst n s
  match (s.ses n).st with
  | .setting | .proving | .set_ | .occupied =>
    timeAll n ((routeOf s (s.ses n).obj).relT * 100) (requestEnded n (startEnd n tag false .now (note 0x041C 6 n s)))
  | _ => endRefused n tag s

/-- ROUTE_CANCEL of a point session (R162). -/
def cancelPoint (n tag : Nat) (s : State) : State :=
  match (s.ses n).st with
  | .requested | .locking | .setting =>
    let s := replyCreator n 2 0 0x041D [] (note 0x041D 6 n s)
    postIfActive tag n 1 0 0 [] (endSes n .cancelled ((heldNow s n).foldl (freeToken n) s))
  | _ => endRefused n tag s

end Sys2Proof.Machine
end

