-- ==== Sys2Proof/Machine/SessionOps.lean ====
section
/-!
DEFINITION. Door sessions (R222), the edge commands that are due (R508), the standing blocks (R333), the sequencing of every session
(R152) and the edge views (R219).
-/
namespace Sys2Proof.Machine

/-! ### Commands that are due for an edge (R508) -/

/-- A command becomes due for an edge. -/
def dueCmd (e cmd ses : Nat) (tag : Option Nat) (s : State) : State :=
  { s with rt := { s.rt with due := s.rt.due ++ [⟨e, cmd, ses, tag⟩] } }

/-- ECMD END becomes due for an edge, once. -/
def dueEnd (e : Nat) (s : State) : State :=
  { s with rt := { s.rt with endDue := if s.rt.endDue.contains e then s.rt.endDue else s.rt.endDue ++ [e] } }

/-- The order of R508: LOCAL, SAFE_STOP, WITHDRAW, CLOSE, RESTORE, END, ENABLE, OPEN. -/
def dueRank (cmd : Nat) : Nat :=
  match cmd with
  | 7 => 0
  | 6 => 1
  | 4 => 2
  | 3 => 3
  | 5 => 4
  | 8 => 5
  | 1 => 6
  | 2 => 7
  | _ => 8

/-- The rank of what is written for an edge already: a class L code of another block, or a command written by itself. -/
def presetRank (s : State) (e : Nat) : Nat :=
  let d := s.edge e
  if d.localReq.isSome then 0 else dueRank (field d.ecmd 31 28)

/-- A host command whose edge command is not written (R508). -/
def dueLost (s : State) (d : DoorDue) : State :=
  match d.tag with
  | some t => postIfActive t (s.tag t).opSes 2 0 0x0714 [] (note 0x0714 2 d.edge s)
  | none => s

/-- A command that is written: the register, and who waits for its end. An ENABLE takes its session to `PROVING` (R222). -/
def dueWin (d : DoorDue) (s : State) : State :=
  let w := word (d.cmd % 16 * 2 ^ 28 + d.ses % 256 * 2 ^ 16)
  let s := updEdge d.edge (fun x => { x with ecmd := w }) s
  let s := match d.tag with
    | some t => { s with rt := { s.rt with pend := s.rt.pend ++ [⟨t, d.cmd, d.edge, false⟩] } }
    | none => s
  if d.cmd = 1 then updSes d.ses (fun x => { x with st := .proving, provVcn := s.sys.vcn }) s
  else if d.cmd = 8 then { s with rt := { s.rt with endDue := s.rt.endDue.filter (· != d.edge) } }
  else s

/-- What is due for an edge, in the order of R508. -/
def dueOf (s : State) (e : Nat) : List DoorDue :=
  let c := s.rt.due.filter (·.edge == e)
  let c := if s.rt.endDue.contains e then c ++ [⟨e, 8, 0, none⟩] else c
  c.mergeSort fun a b => decide (dueRank a.cmd ≤ dueRank b.cmd)

/-- One edge: the first in the order is written, the others are handled as R508. -/
def resolveEdge (s : State) (e : Nat) : State :=
  match dueOf s e with
  | [] => s
  | d :: ds =>
    if dueRank d.cmd < presetRank s e then ds.foldl dueLost (dueWin d s) else (d :: ds).foldl dueLost s

/-- Every edge's command of this VC is written. -/
def resolveDue (s : State) : State :=
  let s := ((List.range 8).filter (edgeEquipped s)).foldl resolveEdge s
  { s with rt := { s.rt with due := [] } }

/-! ### Door sessions (R222) -/

/-- The correspondence of an edge is no longer valid 5,000 VC after the last accepted TRAIN_DOORS (R225). -/
def corrTurn (s : State) (e : Nat) : State :=
  if s.regB (Reg.DSU_CORR + 4 * e) 31 && elapsed s (s.edge e).corrVcn 5000 then s.setRegB (Reg.DSU_CORR + 4 * e) 31 false else s

/-- DWAIT_T × 1000 VC have elapsed since the creation of a session. -/
def dwaitOver (s : State) (n : Nat) : Bool := elapsed s (s.ses n).born (eF s Reg.DSU_ECONF (s.ses n).obj 23 16 * 1000)

/-- A door session ends as `RELEASED`; its edge's command END becomes due. -/
def doorReleased (n : Nat) (s : State) : State :=
  let e := (s.ses n).obj
  dueEnd e (endSes n .released (replyEnder n 1 0 (freeToken n s (1016 + e))))

/-- `REQUESTED` and `CHECKING`: take the token, wait while the request may wait, or refuse. -/
def doorTry (n : Nat) (waits : Bool) (s : State) : State :=
  let x := s.ses n
  let i := 1016 + x.obj
  let refuse (s : State) : State :=
    if !cOk s n then refuseCond n (elemOf s i).listFirst s else refuseSes n true 0 i s
  let wait (s : State) : State := if waits then sesTo n .checking s else refuse s
  if x.st = .checking ∧ tokOwned (s.tok i) n then updSes n (fun x => { x with st := .locking, acqVcn := s.sys.vcn }) s
  else if cOk s n && s.tok i == 0 && !tokFrozen s i then
    let (s, a) := acquireFor n [i] s
    if a.status = 0 then updSes n (fun x => { x with st := .locking, acqVcn := s.sys.vcn }) s else wait s
  else wait s

/-- The check of a turn: a request waits in `CHECKING` for DWAIT_T × 1000 VC (R222). -/
def doorCheck (n : Nat) (s : State) : State :=
  let x := s.ses n
  doorTry n (eF s Reg.DSU_ECONF x.obj 23 16 != 0 && !(x.st == .checking && dwaitOver s n)) s

/-- DOOR_WITHDRAW_ENABLE takes effect at the session's turn: WITHDRAW becomes due, and a DOOR_ENABLE without its terminal reply
ends. A stop of the edge that comes before it in the order of R508 refuses it. -/
def doorWithdraw (n : Nat) (s : State) : State :=
  let e := (s.ses n).obj
  if presetRank s e < dueRank 4 then replyEnder n 2 0x0714 (note 0x0714 2 e s)
  else
    let s := if (s.ses n).replied then s else replyCreator n 2 0 0x071A [] (note 0x071A 6 n s)
    dueCmd e 4 n none (sesTo n .releasing s)

/-- 10 VC in `PROVING` without DA(e) (0x0718). -/
def enableTimeout (n : Nat) (s : State) : State :=
  let e := (s.ses n).obj
  let s := freeToken n (dueCmd e 4 n none (note 0x0718 6 n s)) (1016 + e)
  dueEnd e (endSes n .cancelled (replyCreator n 8 0 0x0718 [] s))

/-- A door session's turn. While its edge is `LOCAL_SAFE` or being restored nothing changes; a completed restoration ends it. -/
def doorTurn (n : Nat) (s : State) : State :=
  let x := s.ses n
  let e := x.obj
  let d := s.edge e
  if x.restored then doorReleased n s
  else if d.st = .localSafe ∨ d.restoring then s
  else if x.endTag.isSome ∧ (x.st = .setting ∨ x.st = .proving ∨ x.st = .set_) then doorWithdraw n s
  else match x.st with
    | .requested | .checking => doorCheck n s
    | .locking => if frozenOwned s n (1016 + e) then updSes n (fun x => { x with st := .setting, setVcn := some s.sys.vcn }) s else s
    | .setting =>
      if pOk s n && kOk s n && berthProof s e && zspdProof s e && d.clk && d.st == .secure then dueCmd e 1 n none s else s
    | .proving =>
      if bitAt s.mnt.da e then replyCreator n 1 0 0 [] (sesTo n .set_ s)
      else if elapsed s x.provVcn 10 then enableTimeout n s
      else s
    | .releasing => if d.st = .secure ∧ d.clk then doorReleased n s else s
    | _ => s

/-! ### Sequencing (R152) -/

/-- One session's turn. -/
def sesTurn (s : State) (n : Nat) : State :=
  if sesLive s n then
    match (s.ses n).kind with
    | .route => routeTurn n s
    | .point => pointTurn n s
    | .door => doorTurn n s
  else s

/-- Every live session once, in ascending creation number. -/
def sequence (s : State) : State := (sesOrder s).foldl sesTurn s

/-- Session IDs of sessions that ended in an earlier VC are free again (R151). -/
def freeEnded (s : State) : State :=
  (sesOrder s).foldl (fun s n => if (s.ses n).st.ended then s.setSes n default else s) s

/-! ### Signals that show proceed without a command (R165) -/

/-- Signal elements of the geographic data with an object controller of their own. -/
def signals (s : State) : List Nat := (List.range 1016).filter fun i => elemKind s i == 3

/-- One signal: an uncommanded proceed is recorded and its route bits are withheld until 10 consecutive VC of SSTOP. -/
def signalWatch (s : State) (i : Nat) : State :=
  let bad := estBit s i 5 && !s.rt.pbits.contains i
  let s := noteIf bad 0x041A 5 i s
  let w := s.rt.withheld.find? (·.sig == i)
  let rest := s.rt.withheld.filter (·.sig != i)
  let next : List Withheld :=
    if bad then rest ++ [⟨i, 0⟩]
    else match w with
      | none => rest
      | some h => if estBit s i 4 then (if h.run + 1 ≥ 10 then rest else rest ++ [⟨i, h.run + 1⟩]) else rest ++ [⟨i, 0⟩]
  { s with rt := { s.rt with withheld := next } }

/-- Every signal. -/
def signalsWatch (s : State) : State := (signals s).foldl signalWatch s

/-- The signal's route bits are withheld. -/
def withheldSig (s : State) (i : Nat) : Bool := s.rt.withheld.any (·.sig == i)

/-! ### Edge views (R219) -/

/-- An input named in DSU_EINe as the snapshot holds it; one not in use reads 1. -/
def viewInput (s : State) (use : Bool) (i : Nat) : Bool := !use || snapInput s i

/-- DSU_EVIEWe of this VC. -/
def edgeView (s : State) (e : Nat) : Word :=
  let c := s.reg (Reg.DSU_EIN + 4 * e)
  let k := match sesOf s .door e with
    | some n => kOk s n
    | none => true
  word (bit (viewInput s (bitAt c 30) (field c 6 0)) + 2 * bit (viewInput s (bitAt c 29) (field c 14 8))
    + 4 * bit (viewInput s (bitAt c 31) (field c 22 16)) + 8 * bit (bitAt s.mnt.da e) + 16 * bit (bitAt s.mnt.sa e)
    + 32 * bit (mTripOf s e) + 64 * bit k + 128)
where
  /-- TRIP(e) of Mantle. -/
  mTripOf (s : State) (e : Nat) : Bool := (Tbl.get s.mnt.disc e).trip

/-- The runtime writes every equipped edge's view. -/
def writeViews (s : State) : State :=
  ((List.range 8).filter (edgeEquipped s)).foldl (fun s e => s.setReg (Reg.DSU_EVIEW + 4 * e) (edgeView s e)) s

/-! ### What the step tells the door commands (R224, R508) -/

/-- The pending commands of an edge. -/
def pendsOf (s : State) (e : Nat) (kind : Nat) : List DoorPend := s.rt.pend.filter fun p => p.kind == kind && p.obj == e

/-- Ends a pending command with a terminal reply. -/
def endPend (p : DoorPend) (status code : Nat) (results : List Byte) (s : State) : State :=
  let s := { s with rt := { s.rt with pend := s.rt.pend.filter (· != p) } }
  postIfActive p.tag (s.tag p.tag).opSes status 0 code results s

/-- Ends every pending command of a kind. -/
def endPends (e kind status code : Nat) (results : List Byte) (s : State) : State :=
  (pendsOf s e kind).foldl (fun s p => endPend p status code results s) s

/-- Marks pending commands as accepted by the edge table. -/
def markPends (obj : Nat) (kinds : List Nat) (s : State) : State :=
  { s with rt := { s.rt with pend := s.rt.pend.map fun p => if p.obj = obj ∧ kinds.contains p.kind then { p with accepted := true } else p } }

/-- The mask latched by OPEN as a result parameter of DOOR_OPEN. -/
def maskResult (s : State) (e : Nat) : List Byte := le2 (s.edge e).mask.toNat ++ [0, 0]

/-- An edge command has been accepted: a close ends a DOOR_OPEN that waits. -/
def edgeAccepted (e : Nat) (s : State) : State :=
  let withdrawn := (sesOf s .door e).any (fun n => (s.ses n).st == .releasing) && (s.edge e).st != .inCycle
  let s := if (pendsOf s e 3).any (!·.accepted) || withdrawn then endPends e 2 1 0 (maskResult s e) s else s
  markPends e [2, 3, 5] s

/-- An edge command has not been accepted: the host command that waits for it is refused (R508). -/
def edgeRefused (e code : Nat) (s : State) : State :=
  (s.rt.pend.filter fun p => !p.accepted && p.obj == e && (p.kind == 2 || p.kind == 3 || p.kind == 5)).foldl
    (fun s p => endPend p 2 code [] s) s

/-- The edge enters a safe stop or `LOCAL_SAFE`: every command that waits on it ends with ABORTED_SAFE (R224). -/
def edgeStopped (e code : Nat) (s : State) : State :=
  let mine (p : DoorPend) : Bool := if p.kind < 9 then p.obj == e else p.obj / 32 == e
  let s := (s.rt.pend.filter mine).foldl (fun s p => endPend p 9 code [] s) s
  match sesOf s .door e with
  | some n => replyEnder n 9 code (replyCreator n 9 0 code [] s)
  | none => s

/-- The oldest leaf command of a leaf that the step has not judged. -/
def leafPend (s : State) (l : Nat) : Option DoorPend := s.rt.pend.find? fun p => decide (9 ≤ p.kind) && p.obj == l && !p.accepted

/-- One event of the step. -/
def settleOne (s : State) (v : DoorEvent) : State :=
  match v with
  | .accepted e => edgeAccepted e s
  | .refused e c => edgeRefused e c s
  | .opened e => endPends e 2 1 0 (maskResult s e) s
  | .openTimeout e => endPends e 2 8 0x070A [] s
  | .closed e => endPends e 3 1 0 [] s
  | .closeTimeout e => endPends e 3 8 0x070B [] s
  | .stopped e c => edgeStopped e c s
  | .restored e =>
    let s := endPends e 5 1 0 [] s
    match sesOf s .door e with
    | some n => updSes n (fun x => { x with restored := true }) s
    | none => s
  | .restoreRefused e => endPends e 5 2 0x0715 [] s
  | .leafAccepted l => match leafPend s l with
    | some p => if p.kind = 9 then endPend p 1 0 [] s
      else { s with rt := { s.rt with pend := s.rt.pend.map fun q => if q = p then { q with accepted := true } else q } }
    | none => s
  | .leafRefused l => match leafPend s l with
    | some p => endPend p 2 0x0714 [] s
    | none => s

/-- Pending LEAF_RESTOREs whose leaf is `CLOSED_LOCKED` end. -/
def restoresDone (s : State) : State :=
  (s.rt.pend.filter fun p => p.kind == 10 && p.accepted && (s.dleaf p.obj).st == .closedLocked).foldl (fun s p => endPend p 1 0 [] s) s

/-- Every event of the step reaches the commands that wait for it. -/
def settleDoors (s : State) : State :=
  let ev := s.dsu.events
  restoresDone (ev.foldl settleOne { s with dsu := { s.dsu with events := [] } })

end Sys2Proof.Machine
end

