-- ==== Sys2Proof/Machine/ImageOps.lean ====
section
/-!
DEFINITION. What the runtime writes in P1 before it launches the table engine: element states, images and berth sources (R142, R143,
R210, R326).
-/
namespace Sys2Proof.Machine

/-- ESTATE of an edge element (R143). -/
def edgeEstate (s : State) (e : Nat) : Nat :=
  let d := s.edge e
  64 * bit (berthProof s e) + 128 * bit (zspdProof s e) + 256 * bit d.clk + 512 * bit d.tDoe
    + 2048 * bit (s.sys.state == .active || s.sys.state == .banked)

/-- ESTATE of an element in this VC. -/
def estateOf (s : State) (i : Nat) : Nat :=
  let e := elemOf s i
  if e.kind = 4 then edgeEstate s (i - 1016)
  else if e.kind = 1 ∨ e.kind = 2 ∨ e.kind = 3 then fieldEstate e.kind (ocFresh s e.oc) (ocByte s e.oc e.slot)
  else 0

/-- Every ESTATE entry. -/
def writeEstates (s : State) : State := (List.range 1024).foldl (fun t i => setEstate t i (estateOf s i)) s

/-- Input image and freshness image. -/
def writeImages (s : State) : State :=
  let s := (List.range 3).foldl (fun s k => s.setReg (Reg.ITE_INPUT + 4 * k) (s.reg (Reg.FIO_IN + 4 * k))) s
  (List.range 4).foldl (fun s k => s.setReg (Reg.ITE_OCFRESH + 4 * k) (bitsOf 32 fun i => ocFresh s (32 * k + i + 1))) s

/-- The host berth source of an edge in this VC (R326). -/
def hostBerth (s : State) (e : Nat) : Word :=
  let b := Tbl.get s.rt.berth e
  let fresh := match conOf s true b.host with
    | some c => (s.con c).fresh
    | none => false
  if b.live && fresh && decide (since s.sys.vcn b.vcn < s.regF Reg.CMD_CONF 3 0) then
    word (b.offset % 2 ^ 16 * 2 ^ 16 + 2 * bit b.still + bit b.valid)
  else 0

/-- The berth source of an edge that the runtime writes (R210, R301). -/
def berthSource (s : State) (e : Nat) : Word :=
  let c := s.reg (Reg.PDS_ECONF + 4 * e)
  match field c 19 18 with
  | 1 => match ocCon s (field c 31 24) with
    | some k => (ocBerth s k (field c 23 20)).getD 0
    | none => 0
  | 2 => hostBerth s e
  | _ => 0

/-- PDS_BINe of every edge that has a source. -/
def writeBerths (s : State) : State :=
  ((List.range 8).filter fun e => field (s.reg (Reg.PDS_ECONF + 4 * e)) 19 18 != 0).foldl
    (fun s e => s.setReg (Reg.PDS_BIN + 4 * e) (berthSource s e)) s

/-- All that stands before the launch. -/
def writeInputs (s : State) : State := writeImages (writeEstates (writeBerths s))

end Sys2Proof.Machine
end

