-- ==== Sys2Proof/Machine/ContentOps.lean ====
section
/-!
DEFINITION. The outgoing content of a VC: object controller and host telegrams, door command buffers and the triad's vector (R117,
R163, R221, R232, R302, R305, R328, R509).
-/
namespace Sys2Proof.Machine

/-! ### Grants as read in P2 of the previous VC (R117) -/

/-- A class rule on Mantle's vector as it was read. -/
def readGrant (s : State) (cls arg : Nat) : Bool :=
  let v := s.mnt.readVec
  s.mnt.readOk && match cls with
    | 1 => true
    | 2 => bitAt v (28 + arg) && !bitAt v (52 + arg) && !bitAt v (20 + arg)
    | 3 => bitAt v (20 + arg)
    | 4 => bitAt v (12 + arg)
    | 5 => bitAt v arg
    | _ => false

/-- The class of a bit of a connection's block was granted; a connection without a record in Mantle's table has no class. -/
def readBit (s : State) (kind number b : Nat) : Bool :=
  match mConn s.mnt kind number with
  | some j =>
    let (c, a) := mRule s.mnt j b
    readGrant s c a
  | none => false

/-! ### Object controllers (R163) -/

/-- The position a session commands a point to. -/
structure PointCmd where
  elem : Nat
  reverse : Bool
  ses : Nat
  deriving DecidableEq, Repr

/-- The points of a route session that hold a position. -/
def routePoints (s : State) (n : Nat) : List PointCmd :=
  ((locksOf s (routeOf s (s.ses n).obj)).filter fun l => elemKind s l.elem == 2 && (l.pos == 1 || l.pos == 2)).map
    fun l => ⟨l.elem, l.pos == 2, n⟩

/-- THROW_T × 10 VC have elapsed for a point since the VCN given. -/
def throwPast (s : State) (i : Nat) (v : Option Word) : Bool :=
  match v with
  | some v => elapsed s v ((elemOf s i).throwT * 10)
  | none => false

/-- A session that may command points: a route in `SETTING` or in `PROVING` before its clearance, a point session in `SETTING`. -/
def sesPoints (s : State) (n : Nat) : List PointCmd :=
  let x := s.ses n
  match x.kind with
  | .route => if (x.st = .setting ∨ x.st = .proving) ∧ ¬ x.cleared then routePoints s n else []
  | .point => if x.st = .setting then [⟨x.obj, x.target == 2, n⟩] else []
  | .door => []

/-- The VCN from which THROW_T runs. -/
def throwFrom (s : State) (p : PointCmd) : Option Word :=
  let x := s.ses p.ses
  if x.kind = .point then x.setVcn else (x.firstCmd.find? (·.1 == p.elem)).map (·.2)

/-- The remaining conditions of PBIT_A and PBIT_B. -/
def pointOk (s : State) (p : PointCmd) : Bool :=
  tokOwned (s.tok p.elem) p.ses && estClr s (elemOf s p.elem).rtrk
    && !estBit s p.elem (if p.reverse then 3 else 2) && !throwPast s p.elem (throwFrom s p)

/-- Points commanded in this VC, their bits' class apart. -/
def pointCmds (s : State) : List PointCmd := ((sesOrder s).flatMap (sesPoints s)).filter (pointOk s)

/-- The bit of a point command in its controller's block. -/
def pointBit (s : State) (p : PointCmd) : Nat := if p.reverse then (elemOf s p.elem).pbitB else (elemOf s p.elem).pbitA

/-- The edge of an EDGE entry is closed and locked, by its ESTATE and by the DSU step of this VC. -/
def edgeClosed (s : State) (e : Nat) : Bool :=
  estBit s (1016 + e) 8 && !estBit s (1016 + e) 9 && (s.edge e).loopT && !(s.edge e).tDoe

/-- The proceed condition of a route session, its bit's class apart. -/
def proceedOk (s : State) (n : Nat) : Bool :=
  let x := s.ses n
  let r := routeOf s x.obj
  x.kind == .route && x.st == .set_ && kOk s n && !(Tbl.get s.rt.standing r.signal).fstop && !withheldSig s r.signal
    && (locksOf s r).all fun l => l.mode != 2 || !tokOwned (s.tok l.elem) n || edgeClosed s (l.elem - 1016)

/-- Routes whose proceed bit is set in this VC, the class of the bit included. -/
def proceeds (s : State) : List Route :=
  (((sesOrder s).filter (proceedOk s)).map fun n => routeOf s (s.ses n).obj).filter fun r =>
    readBit s 0 (elemOf s r.signal).oc r.pbit

/-- Points whose command bit is set in this VC, the class of the bit included. -/
def throws (s : State) : List PointCmd := (pointCmds s).filter fun p => readBit s 0 (elemOf s p.elem).oc (pointBit s p)

/-- The permissive block of an object controller. -/
def ocBlock (s : State) (k : Nat) : BitVec 64 :=
  let bs := ((throws s).filter fun p => (elemOf s p.elem).oc == k).map (pointBit s)
    ++ ((proceeds s).filter fun r => (elemOf s r.signal).oc == k).map (·.pbit)
  bitsOf 64 fun b => bs.contains b

/-- The first command of a point by a route session is remembered. -/
def firstCommands (s : State) : State :=
  (throws s).foldl (fun s p => updSes p.ses (fun x =>
    if x.kind = .route ∧ ¬ x.firstCmd.any (·.1 == p.elem) then { x with firstCmd := x.firstCmd ++ [(p.elem, s.sys.vcn)] } else x) s) s

/-! ### Hosts (R328, R509) -/

/-- The permissive block of a HOST_UP telegram (R509). -/
def hostBlock (s : State) (n : Nat) : BitVec 64 :=
  bitsOf 64 fun b =>
    if b < 8 then (s.edge b).tDoe && readGrant s 3 b && readBit s 1 n b
    else if b < 16 then (s.edge (b - 8)).clk && !(s.edge (b - 8)).tDoe && readGrant s 2 (b - 8) && readBit s 1 n b
    else false

/-- A reply padded to a multiple of four bytes. -/
def padded (r : List Byte) : List Byte := r ++ List.replicate ((4 - r.length % 4) % 4) 0#8

/-- Whole replies from the head of a queue until the next would not fit: the bytes and what stays. -/
def takeReplies : Nat → List OutReply → List Byte × List OutReply
  | _, [] => ([], [])
  | room, r :: rs =>
    let b := padded r.bytes
    if b.length ≤ room then
      let (t, rest) := takeReplies (room - b.length) rs
      (b ++ t, rest)
    else ([], r :: rs)

/-- Moves replies from the head of a host's queue, selected in CMD_OUTSEL, into a telegram body; the telegrams of `SAFE` carry the
queue from its head too (R328, R329). -/
def hostBody (n : Nat) (s : State) : List Byte × State :=
  let (b, rest) := takeReplies 284 (Tbl.get s.cmd.out n)
  (b, { s with cmd := { s.cmd with out := Tbl.set s.cmd.out n rest, outSel := n } })

/-! ### Telegrams (R302, R305) -/

/-- A formed telegram goes into slot `m`; one whose TCRC the two units do not agree on is not made vital-ready, which is the restrictive
outcome, and is recorded (R364). -/
def telegramReady (m c : Nat) (t : Option (List Byte)) (done failed : State) : State :=
  match t with
  | some bs => slotReady m c bs done
  | none => note 0x0B06 13 0 failed

/-- One telegram of a connection into slot `m`; the replies of one that fails stay queued. -/
def formTelegram (safe : Bool) (s : State) (p : Nat × Nat) : State :=
  let (c, m) := p
  let n := conNumber s c
  if conHost s c then
    let (body, s') := hostBody n s
    telegramReady m c (telegram s c safe (if safe then 0 else hostBlock s n) body) s' s
  else telegramReady m c (telegram s c safe (if safe then 0 else ocBlock s n) []) s s

/-- The telegrams of the connections due in this VC, in ascending CNUM from slot 0 (R302). -/
def formTelegrams (s : State) : State :=
  let cs := ((connections s).filter (conDue s)).take 64
  firstCommands ((cs.zip (List.range 64)).foldl (formTelegram false) s)

/-- The restrictive telegrams of one VC of `SAFE` (R305): at most 64, resuming after the last connection served. -/
def formRestrictive (s : State) : State :=
  let all := connections s
  let cs := (all.filter (fun c => decide (s.sni.resume ≤ c)) ++ all.filter fun c => decide (c < s.sni.resume)).take 64
  let s := (cs.zip (List.range 64)).foldl (formTelegram true) (clearReady s)
  { s with
    sni := { s.sni with resume := match cs.getLast? with
      | some c => c + 1
      | none => s.sni.resume }
    sys := { s.sys with safeCycles := s.sys.safeCycles - 1 } }

/-! ### Door buses (R232, R261) -/

/-- The block of an edge, each bit where its class was granted (R117). -/
def doorBlock (s : State) (e : Nat) : BitVec 64 :=
  let b := edgeBlock s e
  bitsOf 64 fun i => bitAt b i && readGrant s (if i < 32 then 3 else 4) e

/-- The loading copy of an edge's bus with READY. -/
def loadBus (s : State) (e : Nat) : State :=
  let b := doorBlock s e
  let s := (s.setReg (busReg Reg.DBC_CBLK_LO e) (b.setWidth 32)).setReg (busReg Reg.DBC_CBLK_HI e) ((b >>> 32).setWidth 32)
  let cmd (k : Nat) : Word := word ((List.range 4).foldl (fun a i => a + unitCmd s (16 * e + 4 * k + i) % 256 * 256 ^ i) 0)
  let s := (List.range 4).foldl (fun t k => t.setReg (busReg Reg.DBC_CORD e + 4 * k) (cmd k)) s
  let s := s.setReg (busReg Reg.DBC_CRAMP e) (word (eF s Reg.DSU_ESSA e 15 0))
  s.setReg (busReg Reg.DBC_CREADY e) 1#32

/-- Every equipped bus on which the module has been `MASTER` since the VC began: none is loaded in the VC of a wake (R261). -/
def loadBuses (s : State) : State :=
  ((List.range 8).filter fun e => edgeEquipped s e && (s.bus e).st == .master && (s.bus e).masterVc).foldl loadBus s

/-! ### The triad's vector (R110, R221) -/

/-- The group requests of the runtime: declared groups that are not in their local safe state (DESIGN CHOICE, log entry 41). -/
def groupWanted (s : State) (g : Nat) : Bool := bitAt (gConf g s) 31 && !bitAt s.fio.held g

/-- The vector of this VC. -/
def triadVector (s : State) : BitVec 64 :=
  bitsOf 64 fun i =>
    if i < 12 then groupWanted s i
    else if i < 20 then (s.edge (i - 12)).tSto
    else if i < 28 then (s.edge (i - 20)).tDoe
    else if i < 36 then (s.edge (i - 28)).loopT
    else if i < 44 then berthProof s (i - 36)
    else if i < 52 then zspdProof s (i - 44)
    else if i < 60 then (s.edge (i - 52)).restoring
    else false

/-- The runtime writes its vector (R111). -/
def writeVector (s : State) : State :=
  { s with mnt := { s.mnt with tset := triadVector s, tsetLo := true, tsetHi := true } }

/-- BLOCK of every telegram due in this VC, in slot order, as the runtime forms it. -/
def telegramBlocks (s : State) : List (BitVec 64) :=
  (((connections s).filter (conDue s)).take 64).map fun c => if conHost s c then hostBlock s (conNumber s c) else ocBlock s (conNumber s c)

/-- The words of a 64-bit block. -/
def blockWords (b : BitVec 64) : List Word := [b.setWidth 32, (b >>> 32).setWidth 32]

/-- Unit command bytes, four to a word. -/
def unitWords (s : State) : List Word :=
  (List.range 32).map fun k => word ((List.range 4).foldl (fun a i => a + unitCmd s (4 * k + i) % 256 * 256 ^ i) 0)

/-- What word 5 of the shadow record covers (R429). -/
def formedWords (s : State) : List Word :=
  (telegramBlocks s).flatMap blockWords ++ ((List.range 8).flatMap fun e => blockWords (edgeBlock s e)) ++ unitWords s

/-- The content of the VC, formed after the DSU step (R163, R244): routes with a proceed bit are remembered for R165; a `BANKED` member forms
it in shadow (R429). -/
def formContent (s : State) : State :=
  let s := { s with rt := { s.rt with pbits := ((proceeds s).map (·.signal)).eraseDups, formed := formedWords s } }
  let s := writeVector s
  if s.sys.state = .active then formTelegrams (loadBuses s) else s

end Sys2Proof.Machine
end

