-- ==== Sys2Proof/Machine/ViewOps.lean ====
section
/-!
DEFINITION. Registers that show a machine's state and that other blocks read: SYS_STATE, SYS_LOCAL_SAFE, DSU_ESTATEe, DSU_ECAUSEe,
MNT_DISCe.
-/
namespace Sys2Proof.Machine

/-- SYS_STATE.STATE (R48). -/
def ModState.code : ModState → Nat
  | .off => 0
  | .kindling => 1
  | .boot => 2
  | .configCheck => 3
  | .join => 4
  | .banked => 5
  | .active => 6
  | .safe => 7
  | .maint => 8

/-- SYS_STATE.MODE (R48). -/
def TriMode.code : TriMode → Nat
  | .t3 => 0
  | .t2f => 1
  | .t2s => 2

/-- SYS_STATE. -/
def sysStateWord (s : State) : Word :=
  word (s.sys.split.getD 3 % 4 * 1024 + s.sys.fenced.getD 3 % 4 * 256 + s.sys.mode.code * 64 + bit s.sys.maintFlag * 32 + s.sys.state.code)

/-- SYS_LOCAL_SAFE. -/
def localSafeWord (s : State) : Word :=
  bitsOf 32 fun i => if i < 8 then (s.edge i).st == .localSafe else decide (i < 20) && s.regB Reg.FIO_GSTAT (i - 8)

/-- DSU_ESTATEe.STATE. -/
def EdgeSt.code : EdgeSt → Nat
  | .secure => 0
  | .enabled => 1
  | .inCycle => 2
  | .closing => 3
  | .provingClosed => 4
  | .localSafe => 5

/-- DSU_LEAFi.STATE. -/
def LeafSt.code : LeafSt → Nat
  | .closedLocked => 0
  | .unlocking => 1
  | .opening => 2
  | .open_ => 3
  | .closing => 4
  | .reopening => 5
  | .stopping => 6
  | .torqueOff => 7
  | .isolated => 8
  | .fault => 9

/-- DSU_ESTATEe. -/
def estateWord (s : State) (e : Nat) : Word :=
  let d := s.edge e
  word (d.st.code * 2 ^ 28 + bit d.ss * 2 ^ 27 + bit d.restoring * 2 ^ 26 + bit d.wdPend * 2 ^ 25 + bit d.clk * 2 ^ 24
    + bit d.loopT * 2 ^ 23 + bit d.tDoe * 2 ^ 22 + bit d.tSto * 2 ^ 21 + bit d.cmdOk * 2 ^ 20 + d.pcount % 16 * 2 ^ 16 + d.ses % 256 * 2 ^ 8)

/-- MNT_DISCe. -/
def discWord (s : State) (e : Nat) : Word :=
  let d := Tbl.get s.mnt.disc e
  word (bit d.trip * 2 ^ 24 + d.zspd % 256 * 2 ^ 16 + d.berth % 256 * 2 ^ 8 + d.loop % 256)

end Sys2Proof.Machine
end

