-- ==== Sys2Proof/Machine/CommandApply.lean ====
section
/-!
DEFINITION. The host commands as the runtime applies them, opcode by opcode (R151–R153, R159–R164, R176, R224, R225, R240,
R322–R327).
-/
namespace Sys2Proof.Machine

/-! ### Replies of an application -/

/-- The terminal reply of a packet's own tag. -/
def finish (p : Pkt) (status code : Nat) (results : List Byte) (s : State) : State :=
  postIfActive p.tag p.ses status 0 code results s

/-- COMPLETED with results. -/
def complete (p : Pkt) (results : List Byte) (s : State) : State := finish p 1 0 results s

/-- A refusal with a code, which is recorded. -/
def refuse (p : Pkt) (status code obj val : Nat) (s : State) : State := finish p status code [] (note code obj val s)

/-- A parameter out of range (0x1011). -/
def badParam (p : Pkt) (s : State) : State := refuse p 2 0x1011 7 p.tag s

/-- A session that does not fit (0x1012). -/
def badSes (p : Pkt) (s : State) : State := refuse p 2 0x1012 7 p.tag s

/-- A right that the host lacks (0x100F). -/
def noRight (p : Pkt) (s : State) : State := refuse p 2 0x100F 7 p.tag s

/-- The parameters' first half word, and byte 0. -/
def Pkt.half (p : Pkt) : Nat := halfAt p.params 0
/-- The second half word of the parameters. -/
def Pkt.half2 (p : Pkt) : Nat := halfAt p.params 2
/-- A parameter byte. -/
def Pkt.byte_ (p : Pkt) (i : Nat) : Nat := byteAt p.params i

/-- A session of a kind for an object, as SES names it; one that became terminal in this VC still has its ID (R151). -/
def sesNamed (s : State) (p : Pkt) (kind : SesKind) (obj : Nat) : Bool :=
  p.ses != 0 && (s.ses p.ses).used && (s.ses p.ses).kind == kind && (s.ses p.ses).obj == obj

/-- A live session of a kind for an object, as SES names it. -/
def sesFits (s : State) (p : Pkt) (kind : SesKind) (obj : Nat) : Bool := sesNamed s p kind obj && sesLive s p.ses

/-- A new session for a packet, with its ACCEPTED reply; BUSY with 0x0412 when every ID is in use (R151). -/
def createSes (p : Pkt) (kind : SesKind) (obj target : Nat) (descr : Word) (s : State) : State :=
  match freeSes s with
  | none => refuse p 5 0x0412 7 p.tag s
  | some n => postAccepted p.tag n (newSes n kind obj target p.tag descr s)

/-! ### Routes and points -/

/-- ROUTE_REQUEST (R153, R154). -/
def applyRouteRequest (p : Pkt) (s : State) : State :=
  let n := p.half
  if n > 2047 then badParam p s
  else if !routeDefined s n then refuse p 2 0x0410 7 p.tag s
  else if (sesOf s .route n).isSome then refuse p 2 0x0411 7 p.tag s
  else createSes p .route n 0 (descriptor s (routeOf s n).listLen (routeOf s n).listFirst) s

/-- ROUTE_CANCEL (R159, R162). -/
def applyRouteCancel (p : Pkt) (s : State) : State :=
  if p.half > 2047 then badParam p s
  else if sesNamed s p .route p.half then cancelRoute p.ses p.tag s
  else if sesNamed s p .point p.half then cancelPoint p.ses p.tag s
  else badSes p s

/-- ROUTE_RELEASE_TIMED (R160). -/
def applyReleaseTimed (p : Pkt) (s : State) : State :=
  if p.half > 2047 then badParam p s
  else if sesNamed s p .route p.half then releaseTimed p.ses p.tag s
  else badSes p s

/-- POINT_MOVE (R162). -/
def applyPointMove (p : Pkt) (s : State) : State :=
  let i := p.half
  let t := p.byte_ 2
  if i > 1015 ∨ elemKind s i ≠ 2 ∨ (t ≠ 1 ∧ t ≠ 2) then badParam p s
  else if (elemOf s i).owner ≠ s.ownSlot then refuse p 2 0x0413 7 p.tag s
  else createSes p .point i t (descriptor s (elemOf s i).listLen (elemOf s i).listFirst) s

/-! ### Blocks and marks (R164, R176, R333) -/

/-- Changes an entry of the standing list. -/
def setStanding (i : Nat) (f : Stand → Stand) (s : State) : State :=
  { s with rt := { s.rt with standing := Tbl.upd s.rt.standing i f, standDirty := true } }

/-- The token is under a start block, or owned and `RELEASING` with holder 0: a block of it stands in the list alone. -/
def blockPends (s : State) (i : Nat) : Bool :=
  let w := s.tok i
  (tokSt w == 3 && tokHolder w == 0xF8) || (posKind s i == 1 && tokSt w == 2 && tokHolder w == 0)

/-- ELEMENT_BLOCK (R176). -/
def applyBlock (p : Pkt) (s : State) : State :=
  let i := p.half
  let w := s.tok i
  if i > 1023 then badParam p s
  else if posKind s i ≠ 1 then refuse p 2 0x0516 5 i s
  else if tokFrozen s i then refuse p 4 0x0515 5 i s
  else if w = 0 then
    let (s, ok) := crdRun 5 i (p.host % 8) 0 0 s
    if ok then complete p [] (setStanding i (fun x => { x with block := true, host := p.host }) s) else refuse p 4 0x0515 5 i s
  else if tokSt w = 3 ∧ tokHolder w ≤ 7 then complete p [] s
  else if blockPends s i then
    if (Tbl.get s.rt.standing i).block then complete p [] s
    else complete p [] (setStanding i (fun x => { x with block := true, host := p.host }) s)
  else refuse p 4 0x0515 5 i s

/-- ELEMENT_UNBLOCK (R176). -/
def applyUnblock (p : Pkt) (s : State) : State :=
  let i := p.half
  let w := s.tok i
  let clear (s : State) : State := setStanding i (fun x => { x with block := false, host := 0 }) s
  if i > 1023 then badParam p s
  else if tokFrozen s i then refuse p 4 0x0515 5 i s
  else if tokSt w = 3 ∧ tokHolder w ≤ 7 then
    let (s, ok) := crdRun 6 i 0 0 0 s
    if ok then complete p [] (clear s) else refuse p 2 0x0517 5 i s
  else if w = 0 ∧ posKind s i = 1 then complete p [] (if (Tbl.get s.rt.standing i).block then clear s else s)
  else if blockPends s i && (Tbl.get s.rt.standing i).block then complete p [] (clear s)
  else refuse p 2 0x0517 5 i s

/-- SIGNAL_FORCE_STOP (R164). -/
def applyForceStop (p : Pkt) (s : State) : State :=
  let i := p.half
  let v := p.byte_ 2
  if i > 1015 ∨ elemKind s i ≠ 3 ∨ (elemOf s i).owner ≠ s.ownSlot ∨ v > 1 then badParam p s
  else complete p [] (setStanding i (fun x => { x with fstop := v == 1 }) s)

/-! ### Doors (R222, R224, R225, R239, R240) -/

/-- The packet's edge is declared. -/
def edgeParam (s : State) (p : Pkt) : Bool := decide (p.byte_ 0 < 8) && edgeEquipped s (p.byte_ 0)

/-- DOOR_ENABLE (R132, R222). -/
def applyDoorEnable (p : Pkt) (s : State) : State :=
  let e := p.byte_ 0
  if !edgeParam s p || (berthTrack s e).isNone then badParam p s
  else if (s.edge e).st = .localSafe ∨ (sesOf s .door e).isSome then refuse p 2 0x0714 2 e s
  else createSes p .door e 0 (descriptor s (elemOf s (1016 + e)).listLen (elemOf s (1016 + e)).listFirst) s

/-- DOOR_OPEN (R224, R225). -/
def applyDoorOpen (p : Pkt) (s : State) : State :=
  let e := p.byte_ 0
  if !edgeParam s p then badParam p s
  else if !sesFits s p .door e then badSes p s
  else if ¬((s.ses p.ses).st = .set_ ∧ (s.edge e).st = .enabled ∧ bitAt s.mnt.da e) then refuse p 2 0x0714 2 e s
  else if eF s Reg.DSU_EIN e 28 27 = 1 ∧ ¬ s.regB (Reg.DSU_CORR + 4 * e) 31 then refuse p 2 0x0716 2 e s
  else dueCmd e 2 p.ses (some p.tag) s

/-- DOOR_CLOSE of a session (R224). -/
def applyDoorClose (p : Pkt) (s : State) : State :=
  let e := p.byte_ 0
  let d := s.edge e
  if !sesFits s p .door e then badSes p s
  else if (d.st = .inCycle ∧ ¬ d.ss) ∨ d.st = .closing then dueCmd e 3 p.ses (some p.tag) s
  else refuse p 2 0x0714 2 e s

/-- The group that carries the STO pair of an edge is not in its local safe state and its feed is `OK` (R239). -/
def stoGroupOk (s : State) (e : Nat) : Bool :=
  (List.range 12).all fun g => stoEdgeOf g s != some e || (!bitAt s.fio.held g && Tbl.get s.fio.feed (g / 2) == 0)

/-- The guard of a restoration at its acceptance (R239), what the edge table checks itself apart. -/
def restoreGuard (s : State) (e : Nat) : Bool :=
  let c := s.reg (Reg.DSU_EIN + 4 * e)
  let m := Tbl.get s.mnt.disc e
  (s.edge e).st == .localSafe && !(s.edge e).restoring && viewInput s (bitAt c 31) (field c 22 16)
    && m.loop == 0 && m.berth == 0 && m.zspd == 0 && stoGroupOk s e && leavesStill s e && (s.edge e).localReq.isNone
    && (edgeLeaves s e).all fun l => !leafTracked s l || (s.leaf l).st == .valid

/-- DOOR_CLOSE with restore (R224, R239). -/
def applyRestore (p : Pkt) (s : State) : State :=
  let e := p.byte_ 0
  if p.ses ≠ 0 then badSes p s
  else if restoreGuard s e then dueCmd e 5 0 (some p.tag) s
  else refuse p 2 0x0715 2 e s

/-- DOOR_CLOSE. -/
def applyClose (p : Pkt) (s : State) : State :=
  if !edgeParam s p || decide (p.byte_ 1 > 1) then badParam p s
  else if p.byte_ 1 = 1 then applyRestore p s
  else applyDoorClose p s

/-- DOOR_WITHDRAW_ENABLE (R222, R224): taken at the session's turn. -/
def applyWithdraw (p : Pkt) (s : State) : State :=
  let e := p.byte_ 0
  let x := s.ses p.ses
  if !edgeParam s p then badParam p s
  else if !sesFits s p .door e then badSes p s
  else if (x.st = .setting ∨ x.st = .proving ∨ x.st = .set_) ∧ (s.edge e).st ≠ .localSafe ∧ x.endTag = none then
    updSes p.ses (fun x => { x with endTag := some p.tag }) s
  else refuse p 2 0x0714 2 e s

/-- LEAF_ISOLATE and LEAF_RESTORE reach DSU as a DSU_LCMD, of which a VC has 16 (R240). -/
def applyLeaf (cmd : Nat) (p : Pkt) (s : State) : State :=
  let l := p.byte_ 0
  if !(unitDeclared s (l / 32) (l % 32 / 2) && leafDeclared s l) then badParam p s
  else if s.dsu.lcmds.length ≥ 16 then refuse p 2 0x0714 3 l s
  else { s with
    dsu := { s.dsu with lcmds := s.dsu.lcmds ++ [word (cmd * 2 ^ 28 + l)] }
    rt := { s.rt with pend := s.rt.pend ++ [⟨p.tag, cmd + 8, l, false⟩] } }

/-- The host carries train data. -/
def hostTrain (s : State) (p : Pkt) : Bool := bitAt (hostReg s p.host) 29

/-- TRAIN_DOORS (R225). -/
def applyTrainDoors (p : Pkt) (s : State) : State :=
  let e := p.byte_ 0
  if !hostTrain s p then noRight p s
  else if !edgeParam s p then badParam p s
  else if eF s Reg.DSU_EIN e 28 27 ≠ 1 then refuse p 2 0x0714 2 e s
  else complete p [] (updEdge e (fun d => { d with corrVcn := s.sys.vcn }) (s.setReg (Reg.DSU_CORR + 4 * e) (word (2 ^ 31 + p.half2))))

/-- TRAIN_BERTH (R326): the source of this VC already. -/
def applyTrainBerth (p : Pkt) (s : State) : State :=
  let e := p.byte_ 0
  if !hostTrain s p then noRight p s
  else if e > 7 ∨ field (s.reg (Reg.PDS_ECONF + 4 * e)) 19 18 ≠ 2 then badParam p s
  else
    let b : TrainBerth := { valid := (p.byte_ 1).testBit 0, still := (p.byte_ 1).testBit 1, offset := p.half2, vcn := s.sys.vcn, host := p.host, live := true }
    let s : State := { s with rt := { s.rt with berth := Tbl.set s.rt.berth e b } }
    complete p [] (s.setReg (Reg.PDS_BIN + 4 * e) (hostBerth s e))

/-! ### Queries (R323–R325) -/

/-- PING. -/
def applyPing (p : Pkt) (s : State) : State :=
  complete p ([byte s.sys.state.code, byte s.sys.mode.code, byte s.ownSlot, byte (bit (pairMember s))] ++ le4 s.sys.vcn ++ tagMap s) s

/-- The kind of a session as STATUS_QUERY shows it. -/
def sesKindCode (x : Session) : Nat :=
  if x.used then
    match x.kind with
    | .route => 1
    | .point => 2
    | .door => 3
  else 0

/-- The state of a session as STATUS_QUERY shows it. -/
def SesSt.code : SesSt → Nat
  | .requested => 0
  | .checking => 1
  | .locking => 2
  | .setting => 3
  | .proving => 4
  | .set_ => 5
  | .occupied => 6
  | .releasing => 7
  | .released => 8
  | .cancelled => 9

/-- The A/B counts of a port. -/
def abBytes (a : AbCount) : List Byte := le2 (min 65535 a.both) ++ le2 (min 65535 a.lateOk) ++ le2 (min 65535 a.lateExp) ++ le2 (min 65535 a.miss)

/-- The results of STATUS_QUERY; none for a scope or an index out of range (R324). -/
def statusResult (s : State) (scope index : Nat) : Option (List Byte) :=
  match scope with
  | 0 => if index = 0 then
      some (le4 (sysStateWord s) ++ le4 (localSafeWord s) ++ le4 s.sys.vcn ++ [byte (bit (!s.sni.netA.lost) + 2 * bit (!s.sni.netB.lost)), 0, 0, 0])
    else none
  | 1 => if index < 8 then
      some (le4 (estateWord s index) ++ le2 (s.edge index).cause ++ [0, 0] ++ le4 (s.reg (Reg.PDS_BSTAT + 4 * index)) ++ le4 (s.reg (Reg.MNT_DISC + 4 * index)))
    else none
  | 2 => if 1 ≤ index ∧ index ≤ 255 then
      let x := s.ses index
      some ([byte (sesKindCode x), byte (if x.used then x.st.code else 0)] ++ le2 (if x.used && x.kind == .door then 1016 + x.obj else x.obj)
        ++ le4 x.creation ++ le4 (s.reg (resReg index)))
    else none
  | 3 => if index < 1024 then some (le2 (estate s index) ++ [0, 0] ++ le4 (s.tok index)) else none
  | 4 => if index < 136 ∧ conEn s index then
      let v := s.con index
      some ([byte (bit v.fresh + 2 * bit v.suspended), 0] ++ le2 (v.aliveLost % 65536) ++ abBytes v.cntA ++ abBytes v.cntB)
    else none
  | _ => none

/-- STATUS_QUERY. -/
def applyStatus (p : Pkt) (s : State) : State :=
  match statusResult s (p.byte_ 0) p.half2 with
  | some r => complete p r s
  | none => badParam p s

/-- JOURNAL_QUERY. -/
def applyJournal (p : Pkt) (s : State) : State :=
  let t := p.byte_ 0
  if !inShare s p.host t then badParam p s
  else
    let g := s.tag t
    let st := match g.st with
      | .free => 0
      | .held => 1
      | .queued => 2
      | .active => 3
      | .invalid n => n
    complete p ([byte st, byte g.opc, byte g.status, byte g.ses] ++ le4 (g.hseq.getD 0)) s

/-- Tags of a host's share in a state. -/
def hostTags (s : State) (n : Nat) (f : TagSt → Bool) : Nat := ((List.range 256).filter fun t => inShare s n t && f (s.tag t).st).length

/-- The results of COUNT_QUERY (R325). -/
def countResult (s : State) (host kind index : Nat) : Option (List Byte) :=
  match kind with
  | 0 => if index < 256 then
      let d := s.dleaf index
      some (le4 d.opened ++ le4 d.closed ++ le4 d.aborted ++ [byte (bit d.cyc + 16 * d.st.code), 0, 0, 0])
    else none
  | 1 => if index = 0 then
      let c := s.crd
      some (le2 c.nFree ++ le2 c.nHeld ++ le2 c.nRel ++ le2 c.nBlk ++ le2 c.nLent ++ le2 c.nRem ++ le4 (s.reg Reg.CRD_CHECKSUM))
    else none
  | 2 => if index = 0 then
      some (le2 s.cmd.nFree ++ le2 s.cmd.nFlight ++ le2 s.cmd.nHeld ++ le2 (hostTags s host TagSt.inFlight) ++ le2 (hostTags s host (· == .held)) ++ [0, 0])
    else none
  | 3 => if index = 0 then some (le4 s.evr.rseq ++ le4 s.evr.nseq) else none
  | _ => none

/-- COUNT_QUERY. -/
def applyCount (p : Pkt) (s : State) : State :=
  match countResult s p.host (p.byte_ 0) p.half2 with
  | some r => complete p r s
  | none => badParam p s

end Sys2Proof.Machine
end

