-- ==== Sys2Proof/Machine/NorOps.lean ====
section
/-!
DEFINITION. The firmware NOR and what stands in it: boot selector, slots, manifests and parts, refresh record and spare block (R448–R451,
R461–R463, R475); all are functions of SUI alone.
-/
namespace Sys2Proof.Machine

/-- Changes SUI. -/
def updSui (f : Sui → Sui) (s : State) : State := { s with sui := f s.sui }

/-! ### Bytes (R448) -/

/-- Bytes of the NOR from an offset on. -/
def Sui.norGet (u : Sui) (off n : Nat) : List Byte :=
  let t := u.nor.dropWhile fun p => decide (p.1 < off)
  (List.range n).map fun i => ~~~(Tbl.get t (off + i))

/-- Erases a range of whole sectors of 4 KiB. -/
def Sui.norErase (off n : Nat) (u : Sui) : Sui := { u with nor := u.nor.filter fun p => decide (p.1 < off ∨ off + n ≤ p.1) }

/-- Programs bytes from an offset on, page by page. -/
def Sui.program (off : Nat) (bs : List Byte) (u : Sui) : Sui := { u with nor := Tbl.setList u.nor off (bs.map fun b => ~~~b) }

/-- The later of two copies, and whether it is the second. -/
def newestCopy {α : Type} (seq : α → Word) (a b : Option α) : Option (α × Bool) :=
  match a, b with
  | some x, some y => if later (seq y) (seq x) then some (y, true) else some (x, false)
  | some x, none => some (x, false)
  | none, some y => some (y, true)
  | none, none => none

/-- The device certificate chain (R448, R460). -/
def Sui.certChain (u : Sui) : List Byte := u.norGet 0x4020000 0x10000

/-! ### The boot selector (R450, R451) -/

/-- The COMMIT word of a selector copy. -/
def selCommit : Word := 0xA5C35A3C#32

/-- The offset of copy A or copy B. -/
def selOff (isB : Bool) : Nat := 0x4000000 + 0x1000 * bit isB

/-- Bytes 0–31 of a copy. -/
def selBytes (x : Sel) : List Byte :=
  le4 0x53454C01#32 ++ le4 x.seq ++ [byte x.slot, byte x.st, byte x.boots, byte x.group] ++ le4 x.bundle ++ le8 x.trialMs
    ++ le8 (x.activeMs.getD (2 ^ 64 - 1))

/-- The 40 bytes of a copy. -/
def selImage (x : Sel) : List Byte := selBytes x ++ le4 (crc32c (selBytes x)) ++ le4 selCommit

/-- What a valid copy holds: MAGIC, STATE, CRC and COMMIT are correct. -/
def selOf (c : List Byte) : Option Sel :=
  let ms (i : Nat) : Nat := ofLe ((c.drop i).take 8)
  if wordAt c 0 = 0x53454C01#32 ∧ 1 ≤ byteAt c 9 ∧ byteAt c 9 ≤ 3 ∧ wordAt c 36 = selCommit ∧ wordAt c 32 = crc32c (c.take 32) then
    some { seq := wordAt c 4, slot := byteAt c 8, st := byteAt c 9, boots := byteAt c 10, group := byteAt c 11, bundle := wordAt c 12
           trialMs := ms 16, activeMs := if ms 24 = 2 ^ 64 - 1 then none else some (ms 24) }
  else none

/-- A copy of the selector; none where it is not valid. -/
def Sui.sel (u : Sui) (isB : Bool) : Option Sel := selOf (u.norGet (selOff isB) 40)

/-- The newest valid copy, and whether it is copy B. -/
def newestSel (u : Sui) : Option (Sel × Bool) := newestCopy Sel.seq (u.sel false) (u.sel true)

/-- The selector in force; with no valid copy its STATE reads 0. -/
def selNow (u : Sui) : Sel := ((newestSel u).map (·.1)).getD default

/-- The copy that the next write takes: the one that does not hold the newest valid content. -/
def nextSel (u : Sui) : Bool := ((newestSel u).map fun p => !p.2).getD false

/-- The content of the next write, with its SEQ. -/
def withSeq (x : Sel) (u : Sui) : Sel := { x with seq := ((newestSel u).map fun p => p.1.seq + 1).getD 1 }

/-- A selector write begins: the sector of its copy is erased. -/
def eraseSel (u : Sui) : Sui := u.norErase (selOff (nextSel u)) 0x1000

/-- A selector write is done: its copy is programmed, COMMIT last. -/
def programSel (x : Sel) (u : Sui) : Sui := (eraseSel u).program (selOff (nextSel u)) (selImage (withSeq x u))

/-- The other slot. -/
def otherSlot (n : Nat) : Nat := 1 - n

/-- The running slot is on trial. -/
def onTrial (u : Sui) : Bool := (selNow u).st == 2 && (selNow u).slot == u.running

/-- The slot on trial has this bundle identity (R327). -/
def onTrialWith (bundle : Word) (u : Sui) : Bool := onTrial u && (selNow u).bundle == bundle

/-! ### Manifests (R461) -/

/-- The parts of a manifest, `n` of them from part `k` on. -/
def partsOf (bs : List Byte) : Nat → Nat → List Part
  | 0, _ => []
  | n + 1, k =>
    { ty := byteAt bs (256 + 64 * k), len := (wordAt bs (260 + 64 * k)).toNat, sha := (bs.drop (264 + 64 * k)).take 48 } :: partsOf bs n (k + 1)

/-- Bytes that the layout gives as 0. -/
def zeroAt (bs : List Byte) (off n : Nat) : Bool := (List.range n).all fun i => byteAt bs (off + i) == 0

/-- What the bytes of a manifest spell; none where they have not its form. -/
def manifestOf (bs : List Byte) : Option Manifest :=
  let n := halfAt bs 38
  let kr := byteAt bs 7
  if 1 ≤ n ∧ n ≤ 4 ∧ bs.length = 352 + 64 * n ∧ wordAt bs 0 = 0x4E444C42#32 ∧ halfAt bs 4 = 1 ∧ kr < 8 ∧ zeroAt bs 149 3 ∧ zeroAt bs 249 7
      ∧ (List.range n).all fun k => zeroAt bs (257 + 64 * k) 3 && zeroAt bs (312 + 64 * k) 8 then
    some { raw := bs, group := byteAt bs 6, keyCk := kr.testBit 2, keyIndex := kr % 4, bundle := wordAt bs 8, version := halfAt bs 12
           hwMask := BitVec.ofNat 16 (halfAt bs 14), minV := (List.range 4).map fun i => halfAt bs (16 + 4 * i)
           maxV := (List.range 4).map fun i => halfAt bs (18 + 4 * i), pairIf := halfAt bs 32, cascIf := halfAt bs 34, jnlFormat := halfAt bs 36
           configId := wordAt bs 40, nonce := (bs.drop 44).take 8, eph := (bs.drop 52).take 97, signer := (bs.drop 152).take 97
           parts := partsOf bs n 0 }
  else none

/-- The signature of a manifest verifies with its SIGNER. -/
def sigOk (m : Manifest) : Bool :=
  let n := m.raw.length - 96
  ecdsaVerify m.signer (sha384 (m.raw.take n)) (m.raw.drop n)

/-- The key that a manifest names is SIGNER's, programmed and not revoked: a VK entry for groups 1–3, a CK entry for group 4. -/
def keyOk (u : Sui) (m : Manifest) : Bool :=
  m.keyCk == (m.group == 4) &&
    if m.keyCk then bitAt u.ckProg m.keyIndex && !bitAt u.ckRev m.keyIndex && sha384 m.signer == Tbl.get u.ck m.keyIndex
    else bitAt u.vkProg m.keyIndex && !bitAt u.vkRev m.keyIndex && sha384 m.signer == Tbl.get u.vk m.keyIndex

/-- The largest length of a part of a type. -/
def partMax (ty : Nat) : Nat :=
  match ty with
  | 1 => 6 * 2 ^ 20
  | 2 => 6 * 2 ^ 20
  | 3 => 8 * 2 ^ 20
  | 4 => 10080
  | 5 => 2 ^ 21
  | 6 => 2 ^ 20
  | 7 => 2 ^ 21
  | _ => 0

/-- The parts match the group, in any order. -/
def partsOk (m : Manifest) : Bool :=
  let tys := m.parts.map (·.ty)
  (match m.group with
    | 1 => tys == [1]
    | 2 => tys == [2]
    | 3 => tys == [3]
    | 4 => tys.isPerm [4, 5, 6] || tys.isPerm [4, 5, 6, 7]
    | _ => false) && m.parts.all fun p => decide (1 ≤ p.len ∧ p.len ≤ partMax p.ty)

/-- The board is supported and the parts match. -/
def fitsBoard (u : Sui) (m : Manifest) : Bool := bitAt m.hwMask u.board && partsOk m

/-- A manifest is valid (R461). -/
def manifestOk (u : Sui) (m : Manifest) : Bool := fitsBoard u m && keyOk u m && sigOk m

/-! ### Compatibility (R463) -/

/-- The RANGE of a manifest holds a version of the group at `i`. -/
def rangeHolds (m : Manifest) (i v : Nat) : Bool := decide (m.minV.getD i 0 ≤ v ∧ v ≤ m.maxV.getD i 0)

/-- R463 between the bundles of two groups. -/
def pairCompat (a b : Manifest) : Bool :=
  rangeHolds a (b.group - 1) b.version && rangeHolds b (a.group - 1) a.version && a.jnlFormat == b.jnlFormat

/-- A bundle against the other groups that are installed. -/
def compatible (ms : List (Option Manifest)) (m : Manifest) : Bool := ms.all fun
  | some x => x.group == m.group || pairCompat m x
  | none => true

/-- Every installed group is compatible with the others. -/
def slotCompat (ms : List (Option Manifest)) : Bool := ms.all fun
  | some m => compatible ms m
  | none => true

/-- A bundle is breaking against the manifests of the running slot. -/
def breaking (run : List (Option Manifest)) (m : Manifest) : Bool := run.any fun
  | some x => (m.group == 4 && x.group == 4 && m.configId != x.configId) || m.pairIf != x.pairIf || m.cascIf != x.cascIf
  | none => false

/-! ### Slots (R449) -/

/-- The offset of a slot. -/
def slotOff (n : Nat) : Nat := 0x2000000 * n

/-- The bytes of the manifest of group `g` (0 SP, 1 CP, 2 TRIAD, 3 DATA) of a slot. -/
def Sui.manifestBytes (u : Sui) (n g : Nat) : List Byte :=
  let off := slotOff n + 0x10000 * (g + 1)
  u.norGet off (352 + 64 * min 5 (halfAt (u.norGet off 40) 38))

/-- The manifest of group `g` of a slot. -/
def Sui.manifest (u : Sui) (n g : Nat) : Option Manifest := manifestOf (u.manifestBytes n g)

/-- The four manifests of a slot. -/
def Sui.manifests (u : Sui) (n : Nat) : List (Option Manifest) := [0, 1, 2, 3].map (u.manifest n)

/-- BUNDLE_ID of a group of the running slot. -/
def Sui.runningBundle (u : Sui) (g : Nat) : Word := ((u.manifest u.running g).map (·.bundle)).getD 0

/-- Blocks of 64 KiB that hold a number of bytes. -/
def blocks64 (n : Nat) : Nat := (n + 65535) / 65536

/-- The lengths of a manifest's parts. -/
def partLens (m : Option Manifest) : List Nat := (m.map fun m => m.parts.map (·.len)).getD []

/-- Offsets of parts that follow each other from block `b` on, each on a boundary of 64 KiB. -/
def placeParts : Nat → List Nat → List Nat
  | _, [] => []
  | b, l :: ls => 0x10000 * b :: placeParts (b + blocks64 l) ls

/-- The part offset tables of a slot that SUI fills: the parts of the groups in order from 0x005_0000 on (DESIGN CHOICE, log entry 153). -/
def placeSlot : Nat → List (List Nat) → List (List Nat)
  | _, [] => []
  | b, g :: gs => placeParts b g :: placeSlot (g.foldl (fun b l => b + blocks64 l) b) gs

/-- The part offset tables of the groups of a slot with these manifests. -/
def slotPlaces (ms : List (Option Manifest)) : List (List Nat) := placeSlot 5 (ms.map partLens)

/-- The COMMIT word of a slot header. -/
def slotCommit : Word := 0x5A3CC3A5#32

/-- The header of a slot up to its CRC. -/
def headBytes (seq : Word) (ms : List (Option Manifest)) : List Byte :=
  le4 0x534C4F54#32 ++ le4 seq ++ (ms.zip (slotPlaces ms)).flatMap fun p =>
    le4 ((p.1.map (·.bundle)).getD 0) ++ (List.range 4).flatMap fun k => le4 (word (p.2.getD k 0))

/-- The header of a slot. -/
def headImage (seq : Word) (ms : List (Option Manifest)) : List Byte :=
  headBytes seq ms ++ le4 (crc32c (headBytes seq ms)) ++ le4 slotCommit

/-- The bytes of a slot's header. -/
def Sui.head (u : Sui) (n : Nat) : List Byte := u.norGet (slotOff n) 96

/-- A slot is committed: COMMIT is programmed and the CRC is correct. -/
def committed (u : Sui) (n : Nat) : Bool := wordAt (u.head n) 92 == slotCommit && wordAt (u.head n) 88 == crc32c ((u.head n).take 88)

/-- SLOT_SEQ of a slot. -/
def slotSeq (u : Sui) (n : Nat) : Word := wordAt (u.head n) 4

/-- Marks a slot as not committed: its COMMIT word is programmed to 0. -/
def uncommit (n : Nat) (u : Sui) : Sui := u.program (slotOff n + 92) [0#8, 0#8, 0#8, 0#8]

/-- The part offset table of group `g` in a slot's header. -/
def headPlaces (u : Sui) (n g : Nat) : List Nat := (List.range 4).map fun k => (wordAt (u.head n) (12 + 20 * g + 4 * k)).toNat

/-- The bytes of part `k` of a manifest whose parts stand at these offsets of a slot. -/
def partBytes (u : Sui) (n : Nat) (offs : List Nat) (m : Manifest) (k : Nat) : List Byte :=
  u.norGet (slotOff n + offs.getD k 0) (m.parts.getD k default).len

/-- The parts of a manifest have their hashes. -/
def hashesOk (u : Sui) (n : Nat) (offs : List Nat) (m : Manifest) : Bool :=
  (List.range m.parts.length).all fun k => sha384 (partBytes u n offs m k) == (m.parts.getD k default).sha

/-- Every group has a valid manifest of its own. -/
def manifestsOk (u : Sui) (n : Nat) : Bool := [0, 1, 2, 3].all fun g => (u.manifest n g).any fun m => m.group == g + 1 && manifestOk u m

/-- Every part of a slot has its hash, where its header says that it stands. -/
def slotHashes (u : Sui) (n : Nat) : Bool := [0, 1, 2, 3].all fun g => (u.manifest n g).all fun m => hashesOk u n (headPlaces u n g) m

/-- A slot can be booted (R452): header, manifests, parts. -/
def slotOk (u : Sui) (n : Nat) : Bool := committed u n && wordAt (u.head n) 0 == 0x534C4F54#32 && manifestsOk u n && slotHashes u n

/-- The bytes of the part of a type in group `g` of a slot; none where the group has no such part. -/
def partOf (u : Sui) (n g ty : Nat) : List Byte :=
  match u.manifest n g with
  | none => []
  | some m => match m.parts.findIdx? (·.ty == ty) with
    | some k => partBytes u n (headPlaces u n g) m k
    | none => []

/-! ### Blocks (R462) -/

/-- The blocks of a manifest. -/
def blockCount (m : Manifest) : Nat := m.parts.foldl (fun n p => n + blocks64 p.len) 0

/-- Where block `j` of parts of these lengths, numbered from `k`, lies: part, offset in it, bytes. -/
def blockOf : List Nat → Nat → Nat → Option (Nat × Nat × Nat)
  | [], _, _ => none
  | l :: ls, k, j => if j < blocks64 l then some (k, 65536 * j, min 65536 (l - 65536 * j)) else blockOf ls (k + 1) (j - blocks64 l)

/-- The plaintext of block `j`, which is in part `k`; none where its tag is wrong. -/
def openBlock (u : Sui) (m : Manifest) (k j : Nat) (data : List Byte) : Option (List Byte) :=
  (agree384 u.encKey m.eph).bind fun x =>
    gcmOpen ((hkdf384 (le4 m.bundle) x).take 32) (m.nonce ++ be4 (word (k * 2 ^ 24 ||| j))) (sha384 m.raw) data

/-! ### The refresh record (R475, R476) -/

/-- What a refresh record holds: SEQ, and the slot, block and digest being restored; none where it is empty. -/
structure RefRec where
  seq : Word
  work : Option (Nat × Nat × List Byte)
  deriving DecidableEq, Repr, Inhabited

/-- The offset of a copy of the refresh record. -/
def refOff (isB : Bool) : Nat := 0x4002000 + 0x1000 * bit isB

/-- The bytes of a copy up to its CRC. The record's layout is not the spec's (DESIGN CHOICE, log entry 154). -/
def refBytes (x : RefRec) : List Byte :=
  le4 x.seq ++ match x.work with
    | some (slot, block, sha) => le4 (word slot) ++ le4 (word block) ++ sha
    | none => List.replicate 56 0xFF#8

/-- A copy of the refresh record. -/
def refImage (x : RefRec) : List Byte := refBytes x ++ le4 (crc32c (refBytes x)) ++ le4 selCommit

/-- What a valid copy holds. -/
def refOf (c : List Byte) : Option RefRec :=
  if wordAt c 64 = selCommit ∧ wordAt c 60 = crc32c (c.take 60) then
    some { seq := wordAt c 0
           work := if wordAt c 4 = 0xFFFFFFFF#32 then none else some ((wordAt c 4).toNat % 2, (wordAt c 8).toNat % 512, (c.drop 12).take 48) }
  else none

/-- The newest valid copy of the refresh record. -/
def newestRef (u : Sui) : Option (RefRec × Bool) :=
  newestCopy RefRec.seq (refOf (u.norGet (refOff false) 68)) (refOf (u.norGet (refOff true) 68))

/-- The block being restored. -/
def refWork (u : Sui) : Option (Nat × Nat × List Byte) := (newestRef u).bind fun p => p.1.work

/-- Writes the refresh record into the copy that does not hold the newest one. -/
def programRef (work : Option (Nat × Nat × List Byte)) (u : Sui) : Sui :=
  let isB := ((newestRef u).map fun p => !p.2).getD false
  let seq := ((newestRef u).map fun p => p.1.seq + 1).getD 1
  (u.norErase (refOff isB) 0x1000).program (refOff isB) (refImage { seq := seq, work := work })

/-- The offset of the spare block. -/
def spareOff : Nat := 0x4010000

/-- The offset of a block of a slot. -/
def blockOff (slot block : Nat) : Nat := slotOff slot + 0x10000 * block

/-- Step 1 of R475: a block is copied to the spare block. -/
def refSpare (slot block : Nat) (u : Sui) : Sui :=
  (u.norErase spareOff 0x10000).program spareOff (u.norGet (blockOff slot block) 0x10000)

/-- Step 3 of R475: the block is erased and programmed from the spare block. -/
def refRestore (slot block : Nat) (u : Sui) : Sui :=
  (u.norErase (blockOff slot block) 0x10000).program (blockOff slot block) (u.norGet spareOff 0x10000)

/-- Steps 3 and 4 of R475 for the record that stands. -/
def refComplete (u : Sui) : Sui := match refWork u with
  | some (slot, block, _) => programRef none (refRestore slot block u)
  | none => u

end Sys2Proof.Machine
end

