-- ==== Sys2Proof/Machine/JournalOps.lean ====
section
/-!
DEFINITION. The recorder's start and the journal: time restore, ring scan, NAND pages, cells and their contents (R388–R417).
-/
namespace Sys2Proof.Machine

/-! ### Time (R389, R390) -/

/-- Time checkpoint A or B: the tag it holds, where it is valid. -/
def ckRead (slotB : Bool) (s : State) : Option Nat :=
  let b := s.mramGet (16 * bit slotB) 16
  if ofLe (b.drop 12) = 0xA5C3 ∧ word (ofLe ((b.drop 8).take 4)) = crc32c (b.take 8) then some (ofLe (b.take 8)) else none

/-- A dual-word slot pair (R391): the later valid value. -/
def dualRead (base : Nat) (s : State) : Option (Word × Bool) :=
  let rd (k : Nat) : Option Word :=
    let v := word (ofLe (s.mramGet (base + 8 * k) 4))
    if word (ofLe (s.mramGet (base + 8 * k + 4) 4)) = ~~~v then some v else none
  match rd 0, rd 1 with
  | some a, some b => if later b a then some (b, true) else some (a, false)
  | some a, none => some (a, false)
  | none, some b => some (b, true)
  | none, none => none

/-- The ring slots in which some byte of MRAM is listed, ascending. -/
def ringSlots (s : State) : List Nat :=
  (s.mram.filterMap fun p => if 0x100000 ≤ p.1 then some ((p.1 - 0x100000) / 32) else none).foldr
    (fun k l => if l.head? = some k then l else k :: l) []

/-- A slot holds a valid record (R396). -/
def recValid (b : List Byte) : Bool :=
  let mark := byteAt b 15
  (mark == 0x5A || mark == 0xA5) && wordAt b 28 == crc32c (b.take 20 ++ (b.drop 24).take 4)

/-- The valid records of the ring: slot, RSEQ, bytes. -/
def ringRecords (s : State) : List (Nat × Word × List Byte) :=
  (ringSlots s).filterMap fun k =>
    let b := s.mramGet (ringOff k) 32
    if recValid b then some (k, wordAt b 0, b) else none

/-- The newest record: no other valid record's RSEQ exceeds its own (R400). -/
def ringNewest (s : State) : Option (Nat × Word × List Byte) :=
  (ringRecords s).foldl (fun n r => match n with
    | none => some r
    | some m => if later r.2.1 m.2.1 then some r else some m) none

/-- The tag the module continues from at a start, with the saturations of R390; whether it was rebuilt, whether a part is
saturated, and the slot the next checkpoint takes. -/
def restoredTime (s : State) : Nat × Nat × Bool × Bool × Bool :=
  let go (cyc ms : Nat) (next : Bool) : Nat × Nat × Bool × Bool × Bool :=
    if cyc = 0x3FFFFF then (cyc, min (2 ^ 42 - 1) (ms + 1000), false, true, next)
    else (cyc + 1, ms, false, decide (ms = 2 ^ 42 - 1), next)
  match ckRead false s, ckRead true s with
  | some a, some b => if a < b then go (b / 2 ^ 42) (b % 2 ^ 42) false else go (a / 2 ^ 42) (a % 2 ^ 42) true
  | some a, none => go (a / 2 ^ 42) (a % 2 ^ 42) true
  | none, some b => go (b / 2 ^ 42) (b % 2 ^ 42) false
  | none, none =>
    match ringNewest s with
    | some r =>
      let t := ofLe ((r.2.2.drop 4).take 8)
      (min 0x3FFFFF (t / 2 ^ 42 + 1), min (2 ^ 42 - 1) (t % 2 ^ 42 + 1000), true, decide (0x3FFFFF ≤ t / 2 ^ 42 + 1), false)
    | none => (1, 0, true, false, false)

/-- EVR at the entry to `KINDLING`: the time tag is rebuilt and checkpointed, the recorder starts its scan (R388–R390, R400). What
was staged and not programmed is lost with the reset. -/
def evrStart (s : State) : State :=
  let (cyc, ms, rebuilt, sat, next) := restoredTime s
  let ns := dualRead 0x20 s
  let e : Evr := { s.evr with
    cyc := cyc, ms := ms, satNoted := sat, ckTime := next, ckNseq := (ns.map fun p => !p.2).getD false
    ckCopied := ((dualRead 0x30 s).map fun p => !p.2).getD false
    rseq := 0, slot := 0, newest := none, scanDone := false, held := [], rtThisVc := 0, drops := [], flags := [], posts := [], periods := 0
    corrMs := ms, nseq := (ns.map (·.1)).getD 0, nseqStart := (ns.map (·.1)).getD 0, staged := [], programmed := 0, lostCnt := 0, lostFirst := 0 }
  let s := timeCheckpoint { s with evr := e }
  noteIf sat 0x0D07 0 0 (noteIf rebuilt 0x0D06 0 0 s)

/-- The operating milliseconds move on to `ms` (R388, R390). -/
def timeAdvance (ms : Nat) (s : State) : State :=
  let m := min (2 ^ 42 - 1) (max s.evr.ms ms)
  let sat := decide (m = 2 ^ 42 - 1) && !s.evr.satNoted
  noteIf sat 0x0D07 0 0 { s with evr := { s.evr with ms := m, satNoted := s.evr.satNoted || sat } }

/-- Periods of the 25 MHz reference pass; every 25,000 make an operating millisecond, whatever the length of a VC (R388). -/
def periodsPass (n : Nat) (s : State) : State :=
  let p := s.evr.periods + n
  timeAdvance (s.evr.ms + p / 25000) { s with evr := { s.evr with periods := p % 25000 } }

/-! ### The start scan (R400) -/

/-- The body of the LOWCOPY of a scanned record. A damaged REPEAT is reported as 0xFFFF, and NREPEAT 0xFFFF, the complement of no such
REPEAT, is its flag DAMAGED (R396; DESIGN CHOICE, log entry 65). -/
def scanBody (b : List Byte) : List Byte :=
  if halfAt b 22 = 0xFFFF - halfAt b 20 then b else b.take 20 ++ [0xFF#8, 0xFF#8, 0xFF#8, 0xFF#8] ++ b.drop 24

/-- Stages one scanned record and moves the copied mark (R399). -/
def scanCopy (s : State) (r : Nat × Word × List Byte) : State :=
  let (s, ok) := stage 1 (scanBody r.2.2) s
  let s := putDual 0x30 s.evr.ckCopied r.2.1 s
  let s := { s with evr := { s.evr with ckCopied := !s.evr.ckCopied } }.setReg Reg.EVR_COPIED r.2.1
  let s := noteIf (halfAt r.2.2 22 != 0xFFFF - halfAt r.2.2 20) 0x0D0E 15 r.1 s
  noteIf (!ok) 0x0D03 0 0 s

/-- The scan completes: allocation resumes, the records later than the copied mark are staged in RSEQ order, and the requests that
were held are taken. -/
def ringScan (s : State) : State :=
  let recs := ringRecords s
  let mark := (dualRead 0x30 s).map (·.1)
  let newest := ringNewest s
  let todo := recs.filter fun r => match mark with
    | some m => later r.2.1 m
    | none => true
  let base := match mark, newest with
    | some m, _ => m
    | none, some n => n.2.1 - 0x7FFFFFFF#32
    | none, none => 0
  let todo := todo.mergeSort fun a b => decide ((a.2.1 - base).toNat ≤ (b.2.1 - base).toNat)
  let s := match newest with
    | some n => { s with evr := { s.evr with rseq := n.2.1 + 1, slot := (n.1 + 1) % 98304 } }
    | none => s
  let bad := 98304 - recs.length
  let s := (s.setReg Reg.EVR_COPIED (mark.getD 0)).setReg Reg.EVR_SCAN (word (2 ^ 31 + bad))
  let s := todo.foldl scanCopy s
  let held := s.evr.held
  let s := { s with evr := { s.evr with scanDone := true, held := [] } }
  held.foldl (fun s r => evrRequest r s) (noteIf (decide (0 < bad)) 0x0D05 15 bad s)

/-! ### NAND (R404, R405) -/

/-- The staged records that the next page takes: whole records within 4,080 bytes. -/
def pageTake : Nat → List NandRec → List NandRec
  | _, [] => []
  | room, r :: rs => if r.bytes.length ≤ room then r :: pageTake (room - r.bytes.length) rs else []

/-- The operating milliseconds in a record's tag. -/
def NandRec.ms (r : NandRec) : Nat := ofLe ((r.bytes.drop 8).take 8) % 2 ^ 42

/-- A page is due: the staged records fill it, or the oldest is 100 ms old (R404). -/
def pageDue (e : Evr) : Bool :=
  let rest := e.staged.drop e.programmed
  decide ((pageTake 4080 rest).length < rest.length) || rest.head?.any fun r => decide (r.ms + 100 ≤ e.ms)

/-- The 4,096 data bytes of a page (R404): PSEQ, first NSEQ, bytes used, records, the CRC-32C over them, the records, zeros. -/
def pageBytes (pseq : Word) (page : List NandRec) : List Byte :=
  let body := page.flatMap (·.bytes)
  let head := le4 pseq ++ le4 ((page.head?.map (·.nseq)).getD 0) ++ le2 (16 + body.length) ++ le2 page.length
  let used := head ++ le4 (crc32c head) ++ body
  used ++ List.replicate (4096 - used.length) 0#8

/-- The SP programs a page that is due; a failure retires the block, while a reserve block is left. The ring of 16,000 blocks of 64 pages
keeps 2 blocks erased. -/
def nandProgram (ok : Bool) (s : State) : State :=
  let e := s.evr
  let page := pageTake 4080 (e.staged.drop e.programmed)
  if page = [] ∨ !pageDue e then s
  else if ok then
    let nand := e.nand ++ [pageBytes e.pseq page]
    { s with evr := { e with
      nand := if nand.length ≤ 1023872 then nand else nand.drop 64, pseq := e.pseq + 1, programmed := e.programmed + page.length } }
  else note 0x0D0F 0 0 { s with evr := { e with retired := min 382 (e.retired + 1) } }

/-- The SP confirms the highest NSEQ programmed. -/
def nandConfirm (n : Word) (s : State) : State :=
  let rest := s.evr.staged.dropWhile fun r => !later r.nseq n
  { s with evr := { s.evr with staged := rest, programmed := s.evr.programmed - (s.evr.staged.length - rest.length) } }

/-- The SP's report at the start: records staged before and never programmed are announced by a LOST record. -/
def nandReport (highest : Word) (s : State) : State :=
  let first := highest + 1
  if later s.evr.nseqStart first then
    note 0x0D04 0 0 (stageFit 0 (le4 first ++ le4 (s.evr.nseqStart - first)) s)
  else s

/-! ### Journal cells (R408–R416) -/

/-- The MRAM offset of a copy of a cell. -/
def cellOff (c copy : Nat) : Nat := 0x1000 + 256 * c + 128 * copy

/-- The commit mark. -/
def commitMark : Word := 0x4A430D01#32

/-- The state of a copy as JNL prechecks it: 0 valid, 1 no mark, 2 wrong CRC. -/
def copyCheck (b : List Byte) : Nat :=
  if wordAt b 124 ≠ commitMark then 1 else if wordAt b 120 ≠ crc32c (b.take 120) then 2 else 0

/-- The newest valid copy of a cell: which one, its JSEQ and its bytes (R410). -/
def cellNewest (c : Nat) (s : State) : Option (Nat × Word × List Byte) :=
  let a := s.mramGet (cellOff c 0) 128
  let b := s.mramGet (cellOff c 1) 128
  let va := copyCheck a == 0
  let vb := copyCheck b == 0
  if va && vb then (if later (wordAt b 0) (wordAt a 0) then some (1, wordAt b 0, b) else some (0, wordAt a 0, a))
  else if va then some (0, wordAt a 0, a) else if vb then some (1, wordAt b 0, b) else none

/-- A read of a cell by the runtime: a copy with the mark and a wrong CRC is recorded (R410). -/
def cellDamage (c : Nat) (s : State) : State :=
  let bad (k : Nat) : Bool := copyCheck (s.mramGet (cellOff c k) 128) == 2
  noteIf (bad 1) 0x0D08 15 c (noteIf (bad 0) 0x0D08 15 c s)

/-- The image of a cell: JSEQ, number, kind, payload, CRC, mark. -/
def cellImage (c kind : Nat) (jseq : Word) (payload : List Byte) : List Byte :=
  let h := le4 jseq ++ le2 c ++ [byte kind, 0#8] ++ (payload ++ List.replicate 112 0#8).take 112
  h ++ le4 (crc32c h) ++ le4 commitMark

/-- Counts a cell write in JNL_WCOUNT and for JNL_STAT.WRITES. -/
def cellCount (c : Nat) (s : State) : State :=
  { s with jnl := { s.jnl with written := s.jnl.written ++ [c] } }.setReg Reg.JNL_WCOUNT (s.reg Reg.JNL_WCOUNT + 1)

/-- The result of a JNL operation. -/
def jnlResult (res cell copy : Nat) (s : State) : State :=
  s.setReg Reg.JNL_RESULT (word (2 ^ 31 + res * 2 ^ 28 + copy % 2 * 2 ^ 12 + cell % 4096))

/-- The runtime's write of a cell (R409): the copy that does not hold the newest valid content, through JNL_EBUF, read back and compared
with it; a difference enters `SAFE`. -/
def cellWrite (c kind : Nat) (payload : List Byte) (s : State) : State :=
  let (copy, jseq) := match cellNewest c s with
    | some (k, q, _) => (1 - k, q + 1)
    | none => (0, 1)
  let img := cellImage c kind jseq payload
  let s := (setRegs Reg.JNL_EBUF (wordsOfBytes (img.take 124)) s).mramPut (cellOff c copy) img
  if s.mramGet (cellOff c copy) 124 = img.take 124 then cellCount c (jnlResult 0 c copy s)
  else raiseS 0x0D0D 15 c (cellCount c (jnlResult 3 c copy s))

/-- A cell is to be written in the next P4; a later content of it replaces an earlier one that waits. -/
def cellLater (c kind : Nat) (payload : List Byte) (s : State) : State :=
  { s with jnl := { s.jnl with due := s.jnl.due.filter (fun d => d.1 != c) ++ [(c, kind, payload)] } }

/-- The runtime's write of a cell in P4, at most once in a VC (R410): a second one waits for the next. -/
def cellPut (c kind : Nat) (payload : List Byte) (s : State) : State :=
  if s.jnl.written.contains c then cellLater c kind payload s
  else cellWrite c kind payload { s with jnl := { s.jnl with due := s.jnl.due.filter fun d => d.1 != c } }

/-- The cells that wait are written. -/
def cellsDue (s : State) : State := s.jnl.due.foldl (fun s d => cellPut d.1 d.2.1 d.2.2 s) s

/-- The payload of a tag cell (R412). -/
def tagPayload (t : Nat) (s : State) : List Byte :=
  let g := s.tag t
  let st := match g.st with
    | .active => 1
    | .held => if g.stored.isSome then 2 else 0
    | _ => 0
  let r := (match g.stored with
    | some r => some r
    | none => g.lastNt).getD []
  [byte t, byte st, byte g.opc, byte g.host] ++ le4 (g.hseq.getD 0) ++ [byte g.opSes, byte g.status] ++ le2 g.fault
    ++ le4 g.applied ++ le4 g.postVcn ++ le4 g.params ++ le4 g.creation ++ [byte r.length, 0#8, 0#8, 0#8]
    ++ (r ++ List.replicate 64 0#8).take 64

/-- Writes the cell of a tag (R412). -/
def journalTag (s : State) (t : Nat) : State := cellPut (1 + t) 2 (tagPayload t s) s

/-- The payload of a count cell (R413). A leaf that has not started keeps the mark of its block (R243). -/
def countPayload (k : Nat) (s : State) : List Byte :=
  (List.range 4).flatMap fun j =>
    let d := Tbl.get s.dsu.leaf (4 * k + j)
    le4 d.opened ++ le4 d.closed ++ le4 d.aborted ++ le4 (word (bit d.cyc + 2 * bit (d.st == .isolated || (d.isoMark && !d.started))))

/-- Writes count cell `k`. -/
def journalCount (s : State) (k : Nat) : State := cellPut (257 + k) 3 (countPayload k s) s

/-- The byte of a standing-list entry (R414). -/
def standByte (e : Stand) : Byte := byte (128 * bit e.block + 64 * bit e.fstop + if e.block then e.host % 8 else 0)

/-- The payload of a standing cell (R414). -/
def standPayload (k : Nat) (s : State) : List Byte := (List.range 64).map fun j => standByte (Tbl.get s.rt.standing (64 * k + j))

/-- Writes standing cell `k`. -/
def journalStand (s : State) (k : Nat) : State := cellPut (321 + k) 4 (standPayload k s) s

/-- The header payload (R415). -/
def headerPayload (configId : Word) (slot member format : Nat) : List Byte := le4 configId ++ [byte slot, byte member] ++ le2 format

/-- The payload of a cell as the runtime has it: the content that waits for P4, else that of the newest valid copy. -/
def cellPayload (c : Nat) (s : State) : Option (List Byte) :=
  match s.jnl.due.find? fun d => d.1 == c with
  | some d => some d.2.2
  | none => (cellNewest c s).map fun p => (p.2.2.drop 8).take 112

/-- Reads a standing cell's entry. -/
def readStand (b : Nat) : Stand := { block := b.testBit 7, fstop := b.testBit 6, host := b % 8 }

/-- Loads the standing list from its cells (R414, R333). -/
def loadStanding (s : State) : State :=
  (List.range 16).foldl (fun s k =>
    let s := cellDamage (321 + k) s
    match cellPayload (321 + k) s with
    | some p => (List.range 64).foldl (fun s j =>
        { s with rt := { s.rt with standing := Tbl.set s.rt.standing (64 * k + j) (readStand (byteAt p j)) } }) s
    | none => s) s

/-- Loads the counts of four leaves (R413, R241). -/
def loadCounts (s : State) : State :=
  (List.range 64).foldl (fun s k =>
    let s := cellDamage (257 + k) s
    match cellPayload (257 + k) s with
    | some p => (List.range 4).foldl (fun s j =>
        let i := 4 * k + j
        let d : DLeaf := { Tbl.get s.dsu.leaf i with
          opened := wordAt p (16 * j), closed := wordAt p (16 * j + 4), aborted := wordAt p (16 * j + 8)
          cyc := (byteAt p (16 * j + 12)).testBit 0, isoMark := (byteAt p (16 * j + 12)).testBit 1 }
        { s with dsu := { s.dsu with leaf := Tbl.set s.dsu.leaf i d } }) s
    | none =>
      let s := (List.range 4).foldl (fun s j =>
        let i := 4 * k + j
        let d : DLeaf := { Tbl.get s.dsu.leaf i with opened := 0, closed := 0, aborted := 0, cyc := false, isoMark := false }
        { s with dsu := { s.dsu with leaf := Tbl.set s.dsu.leaf i d } }) s
      note 0x0D10 3 (4 * k) s) s

/-- The tag a valid cell loads (R417). -/
def tagOfCell (p : List Byte) (g : Tag) : Tag :=
  let rlen := byteAt p 28
  let r := (p.drop 32).take (min 64 rlen)
  let terminal := byteAt p 1 == 2
  { g with
    st := .active, hseq := some (wordAt p 4), host := byteAt p 3, opc := byteAt p 2, ses := byteAt p 8, pktSes := byteAt p 8, status := byteAt p 9
    fault := halfAt p 10, applied := wordAt p 12, postVcn := wordAt p 16, params := wordAt p 20, creation := wordAt p 24
    stored := if terminal then some r else none, lastNt := if terminal || rlen == 0 then none else some r
    posted := if terminal || rlen == 0 then [] else [byteAt p 9] }

/-- Loads one tag from its cell (R417). -/
def loadTag (s : State) (t : Nat) : State :=
  let host := (List.range 8).find? fun n => inShare s n t
  match host with
  | none => s.setTag t default
  | some h =>
    let s := cellDamage (1 + t) s
    match cellPayload (1 + t) s with
    | some p =>
      if byteAt p 1 = 0 then s.setTag t { (default : Tag) with st := .held, host := h }
      else
        let q := wordAt p 4
        let s := if !s.regB Reg.CMD_HSEQV h || later q (s.reg (Reg.CMD_HSEQ + 4 * h)) then
            (s.setReg (Reg.CMD_HSEQ + 4 * h) q).setRegB Reg.CMD_HSEQV h true
          else s
        s.setTag t (tagOfCell p { (default : Tag) with host := h })
    | none => s.setTag t { (default : Tag) with st := .held, host := h }

/-- Loads the tag states, stored replies and HSEQ_LAST from the tag cells (R417, R331). -/
def loadTags (s : State) : State :=
  recountCredits ((List.range 256).foldl loadTag (s.setReg Reg.CMD_HSEQV 0))

/-- The cells that the mirror carries are written into the member's own MRAM (R416). -/
def mirrorCells (cells : List (Nat × List Byte)) (s : State) : State :=
  cells.foldl (fun s c => if s.jnl.written.contains c.1 then s else cellWrite c.1 (byteAt c.2 6) ((c.2.drop 8).take 112) s) s

end Sys2Proof.Machine
end

