-- ==== Sys2Proof/Machine/ResetOps.lean ====
section
/-!
DEFINITION. Resets of the module and what outlasts them (R30, R31, R33, R39, R388, R391, R448, R458).
-/
namespace Sys2Proof.Machine

/-- The transfer record that the journal holds (R411, R467). -/
def xferLoad (s : State) : Xfer :=
  match cellNewest 337 s with
  | some (_, _, c) =>
    let p := c.drop 8
    { st := byteAt p 0, target := byteAt p 1, group := byteAt p 2, bundle := wordAt p 4, next := (wordAt p 8).toNat
      total := (wordAt p 12).toNat, digest := if byteAt p 0 = 0 then [] else (p.drop 16).take 48 }
  | none => default

/-- What SUI keeps in NOR, in one-time-programmable memory and in the MRAM state flags. -/
def suiKept (u : Sui) : Sui :=
  { State.reset.sui with
    nor := u.nor, serial := u.serial, idKey := u.idKey, encKey := u.encKey, vk := u.vk, ck := u.ck, vkProg := u.vkProg, vkRev := u.vkRev
    ckProg := u.ckProg, ckRev := u.ckRev, testRefs := u.testRefs, verifyMs := u.verifyMs, refreshMs := u.refreshMs, board := u.board
    testFail := u.testFail }

/-- The module at reset with what outlasts it: MRAM, NOR, NAND, keys, the maintenance-start flag, what waits for the next successful
start, the reset button's fault, the slot code pins. The model's own queue and counter stay. -/
def resetKeep (s : State) : State :=
  let r := State.reset
  { r with
    sys := { r.sys with
      maintFlag := s.sys.maintFlag, hold := s.sys.hold, buttonFault := s.sys.buttonFault, startNotes := s.sys.startNotes
      slotCode := s.sys.slotCode, epoch := s.sys.epoch }
    mnt := { r.mnt with ck := s.mnt.ck, ckProg := s.mnt.ckProg, ckRev := s.mnt.ckRev }
    sui := { suiKept s.sui with xfer := xferLoad s }, evr := s.evr, mram := s.mram, pending := s.pending, freeCtr := s.freeCtr }

/-- A reset into `KINDLING` with its cause bits; EVR rebuilds the time tag at once (R388, R389). -/
def moduleReset (cause : Nat) (s : State) : State :=
  evrStart ((resetKeep s).setReg Reg.SYS_RESET_CAUSE (word cause))

/-- EVR's actions at a start, where they have not been performed since the release of the regions. -/
def evrStarted (s : State) : State := if s.evr.cyc = 0 then evrStart s else s

/-- The module loses its supply (R30). A start that stands held by the button's fault stays held (R33). -/
def powerDown (s : State) : State :=
  let t := resetKeep s
  { t with sys := { t.sys with state := .off, ledAmber := false, hold := if t.sys.hold = .selftest then .none else t.sys.hold } }

/-- The regions are held in reset because of the button (R33): outputs, frames and telegrams cease. -/
def holdReset (s : State) : State :=
  let t := resetKeep s
  { t with sys := { t.sys with hold := .button, buttonFault := true, ledAmber := false } }

end Sys2Proof.Machine
end

