-- ==== Sys2Proof/Machine/UpdateOps.lean ====
section
/-!
DEFINITION. The storage and update unit: the boot selector at the start, the update operations, trial and confirmation, keys and
attestation, retention, Sorlia sessions (R451–R477).
-/
namespace Sys2Proof.Machine

/-! ### The boot selector at the start (R451, R453) -/

/-- A selector write starts (R450): the sector of its copy is erased; the end of the write programs it. -/
def startWrite (x : Sel) (s : State) : State := updSui (fun u => { (eraseSel u) with writing := some x }) s

/-- R451: with an invalid copy the ROM records 0x0F02; with no valid copy it writes a new one that confirms the committed slot with
the later SLOT_SEQ. -/
def repairSel (s : State) : State :=
  let u := s.sui
  if (u.sel false).isSome && (u.sel true).isSome then s
  else
    let s := note 0x0F02 0 0 s
    if (newestSel u).isSome then s
    else
      let write (n : Nat) : State :=
        startWrite { (default : Sel) with slot := n, st := 1, bundle := wordAt (u.head n) 8 } (updSui (fun u => { u with running := n }) s)
      match committed u 0, committed u 1 with
      | true, true => write (bit (later (slotSeq u 1) (slotSeq u 0)))
      | true, false => write 0
      | false, true => write 1
      | false, false => s

/-- What the selector reads once the write in progress is done. -/
def selSoon (u : Sui) : Sel := u.writing.getD (selNow u)

/-- The revert of a trial at the boot (R453). -/
def revertBoot (arg : Nat) (s : State) : State :=
  let x := selSoon s.sui
  note 0x0F05 15 arg (startWrite { x with slot := otherSlot x.slot, st := 3 } s)

/-- TRIAL_BOOT_SELECT (R453), and the slot that the boot takes. Its selector write is done when the boot chain ends. -/
def trialSelect (s : State) : State :=
  let x := selSoon s.sui
  let s := if x.st = 2 then
      if x.boots < 3 then startWrite { x with boots := x.boots + 1, trialMs := if x.boots = 0 then s.evr.ms else x.trialMs } s
      else revertBoot 1 s
    else s
  updSui (fun u => { u with running := if (selSoon u).st = 0 then u.running else (selSoon u).slot }) s

/-- The selector write in progress is programmed. -/
def finishWrite (s : State) : State := match s.sui.writing with
  | some x => updSui (fun u => { (programSel x u) with writing := none }) s
  | none => s

/-! ### The transfer record (R467) -/

/-- The payload of update cell 337. -/
def xferPayload (x : Xfer) : List Byte :=
  [byte x.st, byte x.target, byte x.group, 0#8] ++ le4 x.bundle ++ le4 (word x.next) ++ le4 (word x.total)
    ++ (x.digest ++ List.replicate 48 0#8).take 48

/-- The transfer record with its journal cell written at once. -/
def setXferNow (x : Xfer) (s : State) : State := cellWrite 337 5 (xferPayload x) (updSui (fun u => { u with xfer := x }) s)

/-- The transfer record and its journal cell, which the runtime writes in P4 and the Kindling ROM, in recovery, at once (R409). -/
def setXfer (x : Xfer) (s : State) : State :=
  if s.sui.recovery then setXferNow x s else cellLater 337 5 (xferPayload x) (updSui (fun u => { u with xfer := x }) s)

/-! ### Operations (R467, R478) -/

/-- SUI_RESULT. -/
def suiResult (status code : Nat) (s : State) : State := s.setReg Reg.SUI_RESULT (word (2 ^ 31 + status % 256 * 2 ^ 16 + code % 65536))

/-- The answer of the Sorlia request being served (R465). -/
def suiAnswer (status : Nat) (body : List Byte) (s : State) : State :=
  updSui (fun u => { u with answer := { head := u.req, status := status, body := body } }) s

/-- An answer as it goes out (R464). What LEN counts and which FSEQ an answer carries is not the spec's: LEN counts the whole frame, and
OP and FSEQ are the request's (DESIGN CHOICE, log entry 155). -/
def SorliaAnswer.bytes (a : SorliaAnswer) : List Byte :=
  le4 (word (8 + a.body.length)) ++ [byte a.head.op, byte a.status] ++ le2 a.head.fseq ++ a.body

/-- NEXT_BLOCK as an answer body. -/
def nextBlock (s : State) : List Byte := le4 (word s.sui.xfer.next)

/-- An operation that the state does not allow (0x0F0F). -/
def suiDenied (s : State) : State := suiAnswer 4 (nextBlock s) (suiResult 6 0x0F0F (note 0x0F0F 0 0 s))

/-- An operation may start: the key is right, the unit works and none is in progress. -/
def suiFree (key : Nat) (s : State) : Bool := key == 0x5E1F && !s.sui.failed && s.sui.busy == 0

/-- The updates are open: `MAINT`, recovery included, with the update lock held. -/
def updateOpen (s : State) : Bool := s.sys.state == .maint && s.sui.lock.isSome

/-- A bundle is refused (0x0F07). -/
def suiRefuse (status : Nat) (s : State) : State := suiAnswer 2 [] (suiResult status 0x0F07 (note 0x0F07 0 0 s))

/-- A bundle is refused for a reason whose STATUS the spec does not give: one of 1–8 (R478). -/
def suiRefuseFree (s : State) : State :=
  let (w, s) := s.takeFree
  suiRefuse (1 + w.toNat % 8) s

/-- A bundle is accepted: the record is `PREPARING`, the target slot is erased, and its copies are under way until SUI_OP_COMPLETE. -/
def startPrepare (m : Manifest) (s : State) : State :=
  let t := otherSlot s.sui.running
  let s := setXfer { st := 1, target := t, group := m.group, bundle := m.bundle, next := 0, total := blockCount m, digest := sha384 m.raw } s
  updSui (fun u => { (u.norErase (slotOff t) 0x2000000) with busy := 1, workReq := u.req }) s

/-- PREPARE (R467): the manifest is checked; then the target slot is erased and the other groups are copied, which SUI_OP_COMPLETE
ends, or a transfer of the same manifest resumes. In recovery the signature is the only check (R454; DEDUCED, log entry 135). -/
def suiPrepare (s : State) : State :=
  let u := s.sui
  match u.staged with
  | none => suiDenied s
  | some bs =>
    if !updateOpen s || (selNow u).st == 2 then suiDenied s
    else match manifestOf bs with
    | none => suiRefuseFree s
    | some m =>
      if !sigOk m then suiRefuse 1 s
      else if !u.recovery && !keyOk u m then suiRefuse 2 s
      else if !u.recovery && !fitsBoard u m then suiRefuseFree s
      else if !u.recovery && !compatible (u.manifests u.running) m then suiRefuse 3 s
      else if u.xfer.st = 2 ∧ u.xfer.digest = sha384 bs then suiAnswer 0 (nextBlock s) (suiResult 0 0x0F09 (note 0x0F09 0 0 s))
      else startPrepare m s

/-- The manifests of the target slot: the running slot's, with the new one in its group's place. -/
def newManifests (u : Sui) (m : Manifest) : List (Option Manifest) := (u.manifests u.running).set (m.group - 1) (some m)

/-- Copies the manifest and the parts of one group of the running slot to their place in the target slot. -/
def copyGroup (t g : Nat) (m : Manifest) (offs : List Nat) (u : Sui) : Sui :=
  (List.range m.parts.length).foldl (fun v k =>
      v.program (slotOff t + offs.getD k 0) (partBytes u u.running (headPlaces u u.running g) m k))
    (u.program (slotOff t + 0x10000 * (g + 1)) m.raw)

/-- The content of the target slot after a PREPARE: the other groups copied, the new manifest written. -/
def prepareSlot (t : Nat) (m : Manifest) (u : Sui) : Sui :=
  let ms := newManifests u m
  [0, 1, 2, 3].foldl (fun v g =>
      if g + 1 = m.group then v.program (slotOff t + 0x10000 * m.group) m.raw
      else match ms.getD g none with
        | some x => copyGroup t g x ((slotPlaces ms).getD g []) v
        | none => v) u

/-- The groups that a PREPARE copies have their hashes; in recovery they are not checked (R454). -/
def copiesOk (u : Sui) (m : Manifest) : Bool :=
  u.recovery || [0, 1, 2, 3].all fun g => g + 1 == m.group || (u.manifest u.running g).all fun x => hashesOk u u.running (headPlaces u u.running g) x

/-- The erase and the copy of a PREPARE end (R467). `ok` tells whether the NOR has taken them. -/
def prepareDone (ok : Bool) (s : State) : State :=
  let s := updSui (fun u => { u with busy := 0, req := u.workReq }) s
  let u := s.sui
  match u.staged.bind manifestOf with
  | some m =>
    if !ok then suiAnswer 2 [] (suiResult 7 0 s)
    else if !copiesOk u m then suiAnswer 2 [] (suiResult 5 0 s)
    else
      let s := setXfer { u.xfer with st := 2, next := 0 } (updSui (prepareSlot u.xfer.target m) s)
      suiAnswer 0 (nextBlock s) (suiResult 0 0 s)
  | none => suiAnswer 2 [] (suiResult 7 0 s)

/-- Where a block of the transfer goes and what it holds: its offset in the NOR and its plaintext; none where its tag is wrong. -/
def blockWrite (u : Sui) (j : Nat) (data : List Byte) : Option (Nat × List Byte) :=
  let t := u.xfer.target
  let g := u.xfer.group - 1
  match u.manifest t g with
  | none => none
  | some m => match blockOf (m.parts.map (·.len)) 0 j with
    | none => none
    | some (k, off, len) => match openBlock u m k j data with
      | none => none
      | some bs =>
        if bs.length = len then some (slotOff t + ((slotPlaces (u.manifests t)).getD g []).getD k 0 + off, bs) else none

/-- BLOCK (R462, R467): decrypted, programmed, read back. `readbackOk` tells what the NOR gives back. -/
def suiBlock (j : Nat) (data : List Byte) (readbackOk : Bool) (s : State) : State :=
  let x := s.sui.xfer
  if !updateOpen s || x.st != 2 then suiDenied s
  else if j ≠ x.next ∨ x.total ≤ j then suiAnswer 4 (nextBlock s) (suiResult 8 0 s)
  else match blockWrite s.sui j data with
  | none => suiAnswer 2 [] (suiResult 4 0x0F08 (note 0x0F08 0 0 s))
  | some (off, bs) =>
    if !readbackOk || slotOff (x.target + 1) < off + bs.length then suiAnswer 2 [] (suiResult 7 0 s)
    else suiAnswer 0 [] (suiResult 0 0 (setXfer { x with next := j + 1 } (updSui (fun u => u.program off bs) s)))

/-- Every part of the target slot has its hash, where SUI has put it. -/
def targetHashes (u : Sui) : Bool :=
  let t := u.xfer.target
  let ms := u.manifests t
  [0, 1, 2, 3].all fun g => (ms.getD g none).all fun m => hashesOk u t ((slotPlaces ms).getD g []) m

/-- What VERIFY finds of the target slot: STATUS and code of the check that fails; none where all pass. In recovery the signature of the
bundle is the only check (R454; DEDUCED, log entry 135). -/
def verifyFault (u : Sui) : Option (Nat × Nat) :=
  let t := u.xfer.target
  let ms := u.manifests t
  if u.recovery then (if (ms.getD (u.xfer.group - 1) none).any sigOk then none else some (1, 0x0F07))
  else if !targetHashes u then some (5, 0)
  else if !(ms.all fun m => m.any sigOk) then some (1, 0x0F07)
  else if !manifestsOk u t then some (2, 0x0F07)
  else if !slotCompat ms then some (3, 0x0F07)
  else none

/-- Programs the header of the target slot, COMMIT last. -/
def commitSlot (t : Nat) (u : Sui) : Sui := u.program (slotOff t) (headImage (slotSeq u (otherSlot t) + 1) (u.manifests t))

/-- VERIFY (R467): hashes, manifests, compatibility, then the header. `readOk` and `programOk` tell whether the NOR can be read and takes
the header. -/
def suiVerify (readOk programOk : Bool) (s : State) : State :=
  let u := s.sui
  let x := u.xfer
  if !updateOpen s || (x.st != 2 && x.st != 3) then suiDenied s
  else if x.next ≠ x.total then suiAnswer 4 (nextBlock s) (suiResult 8 0 s)
  else if !readOk then suiAnswer 2 [] (suiResult 7 0 s)
  else match verifyFault u with
  | some (status, code) => suiAnswer 2 [] (suiResult status code (noteIf (code != 0) code 0 0 s))
  | none =>
    if !programOk then suiAnswer 2 [] (suiResult 7 0 s)
    else
      suiAnswer 0 [] (suiResult 0 0 (setXfer { x with st := 3 } (updSui (commitSlot x.target) s)))

/-- ACTIVATE (R467): the selector is written to `TRIAL`; the write's end restarts the module. -/
def suiActivate (s : State) : State :=
  let u := s.sui
  if !updateOpen s || u.xfer.st != 3 || u.writing.isSome || !committed u u.xfer.target then suiDenied s
  else
    updSui (fun u => { u with busy := 4, workReq := u.req }) (startWrite { (selNow u) with
      slot := u.xfer.target, st := 2, boots := 0, group := u.xfer.group, bundle := u.xfer.bundle, trialMs := 0, activeMs := none } s)

/-- The write that confirms the bundle on trial starts, unless another one is in progress. -/
def startConfirm (s : State) : State :=
  if s.sui.writing.isSome then s else updSui (fun u => { u with busy := 5 }) (startWrite { (selNow s.sui) with st := 1 } s)

/-- CONFIRM (R470): the bundle on trial is confirmed in the selector, by a module that is `ACTIVE`. -/
def suiConfirm (s : State) : State := if onTrial s.sui && s.sys.state == .active then startConfirm s else suiDenied s

/-- REVERT (R471): the selector names the previous slot; the module keeps running. A confirm that waits comes first (R472). -/
def suiRevert (arg : Nat) (s : State) : State :=
  let u := s.sui
  if onTrial u && u.writing.isNone && u.confirmTags.isEmpty then
    note 0x0F05 15 arg (updSui (fun u => { u with busy := 6 })
      (startWrite { (selNow u) with slot := otherSlot u.running, st := 3 } s))
  else suiDenied s

/-- Why a trial is reverted (R471): 24 h after the first entry to `ACTIVE`, or 24 h of trial without one. -/
def revertWhy (s : State) : Option Nat :=
  let x := selNow s.sui
  if !onTrial s.sui then none
  else match x.activeMs with
    | some a => if s.evr.ms > a + 86400000 then some 2 else none
    | none => if s.evr.ms > x.trialMs + 86400000 then some 3 else none

/-- The first entry to `ACTIVE` on trial writes ACTIVE_MS (R470). -/
def trialActive (s : State) : State :=
  let u := s.sui
  if onTrial u ∧ (selNow u).activeMs = none ∧ u.writing = none ∧ ¬ u.failed then startWrite { (selNow u) with activeMs := some s.evr.ms } s else s

/-- Every UPDATE_CONFIRM that waits is answered. -/
def answerConfirms (status code : Nat) (s : State) : State :=
  s.sui.confirmTags.foldl (fun s t => postIfActive t 0 status 0 code [] (noteIf (code != 0) code 7 t s))
    (updSui (fun u => { u with confirmTags := [] }) s)

/-- Every UPDATE_CONFIRM that waits has found no slot on trial (R327). -/
def refuseConfirms (s : State) : State := answerConfirms 2 0x1011 s

/-- A selector write ends (R450): what it stood for completes, and every UPDATE_CONFIRM that waits for it is answered (R470). One that
waited for another write starts its own, for it was applied in `ACTIVE`; behind a revert it finds no slot on trial (R327; DEDUCED, log
entry 115). -/
def selectorDone (s : State) : State :=
  let u := s.sui
  if u.writing.isNone then s
  else
    let s := updSui (fun u => { u with busy := 0 }) (finishWrite s)
    match u.busy with
    | 4 =>
      let s := setXferNow { u.xfer with st := 4 } (suiResult 0 0x0F0A (note 0x0F0A 0 0 (updSui (fun u => { u with req := u.workReq }) s)))
      moduleReset 8 (suiAnswer 0 [] s)
    | 5 =>
      let s := suiResult 0 0x0F0B (note 0x0F0B 0 0 s)
      answerConfirms 1 0 s
    | 6 => refuseConfirms (suiResult 0 0x0F05 (updSui (fun u => { u with revertPending := true }) s))
    | _ => if u.confirmTags.isEmpty then s else if onTrial s.sui then startConfirm s else refuseConfirms s

/-- UPDATE_CONFIRM (R327, R470): its write starts; one write answers all that wait for it. SUI after a failed self-check refuses it (R477). -/
def confirmTrial (tag : Nat) (s : State) : State :=
  let s := updSui (fun u => { u with confirmTags := u.confirmTags ++ [tag] }) s
  if s.sui.failed then refuseConfirms (suiDenied s) else suiConfirm s

/-- The test of the trial's deadline in P4 (R471, R472): a confirm that waits comes first. -/
def trialTest (s : State) : State :=
  match revertWhy s with
  | some a => if !s.sui.confirmTags.isEmpty || s.sui.writing.isSome || s.sui.failed || s.sui.busy != 0 then s else suiRevert a s
  | none => s

/-! ### Attestation and keys (R459, R460) -/

/-- SUI_KEYS. -/
def keysWord (u : Sui) : Word := word (u.ckRev.toNat * 4096 + u.ckProg.toNat * 256 + u.vkRev.toNat * 16 + u.vkProg.toNat)

/-- The report of R460 up to its signature. -/
def attestBody (nonce : List Byte) (state : Nat) (s : State) : List Byte :=
  let u := s.sui
  let sel := selNow u
  let g (f : Manifest → List Byte) (n : Nat) : List Byte := (u.manifests u.running).flatMap fun m => (m.map f).getD (List.replicate n 0#8)
  le4 0x41545354#32 ++ (u.serial ++ List.replicate 16 0#8).take 16 ++ (nonce ++ List.replicate 32 0#8).take 32 ++ s.evr.tagBytes ++ le4 s.sys.vcn
    ++ [byte state, byte sel.st, byte u.running, byte sel.boots]
    ++ g (fun m => le4 m.bundle) 4 ++ g (fun m => sha384 m.raw) 48 ++ le2 (keysWord u).toNat ++ [0, 0]

/-- The CK entry `k` is in use: programmed, not revoked, alike in SUI and in Mantle. -/
def ckLive (s : State) (k : Nat) : Bool :=
  decide (k < 4) && bitAt s.sui.ckProg k && !bitAt s.sui.ckRev k && bitAt s.mnt.ckProg k && !bitAt s.mnt.ckRev k

/-- A CK entry is revoked, or left unusable, in SUI and in Mantle. -/
def revokeCk (k : Nat) (s : State) : State :=
  { s with sui := { s.sui with ckRev := setBit s.sui.ckRev k true }, mnt := { s.mnt with ckRev := setBit s.mnt.ckRev k true } }

/-- A CK entry is programmed with a digest in SUI and in Mantle. -/
def programCk (k : Nat) (sha : List Byte) (s : State) : State :=
  { s with
    sui := { s.sui with ck := Tbl.set s.sui.ck k sha, ckProg := setBit s.sui.ckProg k true }
    mnt := { s.mnt with ck := Tbl.set s.mnt.ck k sha, ckProg := setBit s.mnt.ckProg k true } }

/-- The lowest unprogrammed CK position. -/
def freeCk (s : State) : Option Nat := [0, 1, 2, 3].find? fun k => !bitAt s.sui.ckProg k

/-- Key enrolment (R459): the digest of a key goes into the lowest unprogrammed position, or a key is revoked. `signer` is the CK key whose
signature over the request verifies (over which bytes is not the spec's: DESIGN CHOICE, log entry 156); `programOk` tells whether both
devices take the entry and read back alike. -/
def enrolKey (request : KeyRequest) (signer : Option Nat) (programOk : Bool) (s : State) : State :=
  let fail (s : State) : State := suiAnswer 2 [] (suiResult 2 0 s)
  let broken (s : State) : State := suiAnswer 2 [] (suiResult 7 0x0F11 (note 0x0F11 0 0 s))
  let done (s : State) : State := suiAnswer 0 [] (suiResult 0 0 s)
  match request with
  | .revoke k =>
    if !(ckLive s k && signer.any fun j => ckLive s j && j != k) then fail s
    else if programOk then done (revokeCk k s) else broken (revokeCk k s)
  | .enrol key =>
    match freeCk s with
    | none => fail s
    | some k =>
      if !(s.sui.ckProg == 0 || signer.any (ckLive s)) then fail s
      else
        let s := programCk k (sha384 key) s
        if programOk then done s else broken (revokeCk k s)

/-! ### Retention (R474–R476) -/

/-- The module is in a state in which the slots are re-verified. -/
def reverifyOpen (s : State) : Bool := (s.sys.state == .banked || s.sys.state == .active || s.sys.state == .maint) && s.sui.lock.isNone

/-- A slot's re-verification ends: a failed slot is recorded, and marked not committed unless it runs. -/
def reverifyEnd (slot : Nat) (ok : Bool) (s : State) : State :=
  if ok || !committed s.sui slot then s
  else
    let s := note 0x0F0C 15 slot s
    if slot = s.sui.running then s else updSui (uncommit slot) s

/-- A step of the re-verification: 64 KiB of a slot, whose 512th completes the hashes of its parts, then the slot's four manifests. `readOk`
tells whether the NOR can be read. -/
def reverifyStep (readOk : Bool) (s : State) : State :=
  match s.sui.verifying with
  | none => suiDenied s
  | some (slot, block, good) =>
    if !reverifyOpen s then suiDenied s
    else if block < 512 then
      let ok := readOk && (block < 511 || slotHashes s.sui slot)
      suiResult (if ok then 0 else 5) 0 (updSui (fun u => { u with verifying := some (slot, block + 1, good && ok) }) s)
    else
      let ok := readOk && manifestsOk s.sui slot
      let s := reverifyEnd slot (good && ok) (suiResult (if ok then 0 else 1) 0 s)
      if slot = 0 then updSui (fun u => { u with verifying := some (1, 0, true) }) s
      else updSui (fun u => { u with verifying := none, verifyMs := s.evr.ms }) s

/-- What the four steps of R475 leave of a block's refresh, `done` of them complete: a step that is cut short has erased what it was to
program. -/
def refreshBlock (slot block done : Nat) (u : Sui) : Sui :=
  let sha := sha384 (u.norGet (blockOff slot block) 0x10000)
  match done with
  | 0 => u.norErase spareOff 0x10000
  | 1 => refSpare slot block u
  | 2 => (programRef (some (slot, block, sha)) (refSpare slot block u)).norErase (blockOff slot block) 0x10000
  | 3 => refRestore slot block (programRef (some (slot, block, sha)) (refSpare slot block u))
  | _ => programRef none (refRestore slot block (programRef (some (slot, block, sha)) (refSpare slot block u)))

/-- The refresh goes on to the next block, from the slot that does not run to the running one. -/
def refreshNext (slot block : Nat) (s : State) : State :=
  if block + 1 < 512 then updSui (fun u => { u with refreshing := some (slot, block + 1) }) s
  else if slot = s.sui.running then updSui (fun u => { u with refreshing := none, refreshMs := s.evr.ms }) s
  else updSui (fun u => { u with refreshing := some (u.running, 0) }) s

/-- A step of the refresh: one block in the four steps of R475, of which `done` complete. A block whose steps were cut short before is first
made whole (R476; DEDUCED, log entry 154). -/
def refreshStep (done : Nat) (s : State) : State :=
  match s.sui.refreshing with
  | none => suiDenied s
  | some (slot, block) =>
    if s.sui.lock.isSome then suiDenied s
    else
      let s := updSui (fun u => refreshBlock slot block done (refComplete u)) s
      if 4 ≤ done then refreshNext slot block (suiResult 0 0 s) else suiResult 7 0 s

/-- The boot completes a valid, non-empty refresh record (R476). -/
def refreshAtBoot (s : State) : State := if (refWork s.sui).isSome then note 0x0F0D 0 0 (updSui refComplete s) else s

/-! ### Sorlia sessions (R464, R465) -/

/-- The SP serves Sorlia requests: it runs, which it does not before the boot chain releases it (R452) and while SYS resets it (R27). -/
def sorliaServed (s : State) : Bool := !s.sys.sp.reset

/-- What a Sorlia request does where the SP serves it; the answer goes to its session. -/
def served (head : SorliaHead) (act : State → State) (s : State) : State :=
  if sorliaServed s then act (updSui (fun u => { u with req := head }) s) else s

/-- A request that the recovery loader does not offer (R454). -/
def runtimeServed (head : SorliaHead) (act : State → State) (s : State) : State := if s.sui.recovery then s else served head act s

/-- A session. -/
def Sui.session (u : Sui) (n : Nat) : Sorlia := Tbl.get u.sessions n

/-- Changes a session and marks the time of its last request. -/
def updSession (n : Nat) (f : Sorlia → Sorlia) (s : State) : State :=
  updSui (fun u => { u with sessions := Tbl.upd u.sessions n fun x => { f x with last := s.evr.ms } }) s

/-- The session may make update requests: authenticated, or in recovery. -/
def sessionOk (s : State) (n : Nat) : Bool := s.sui.recovery || (s.sui.session n).authed

/-- A session ends; a lock it holds is released (R465). -/
def endSession (n : Nat) (s : State) : State :=
  updSui (fun u => { u with sessions := Tbl.set u.sessions n default, lock := if u.lock = some n then none else u.lock }) s

/-- A request of the update session: not authenticated AUTH, not in `MAINT` or with no lock taken STATE, lock held by another session BUSY
with 0x0F06, an operation in progress BUSY; otherwise it is performed. -/
def updateRequest (head : SorliaHead) (act : State → State) (s : State) : State := served head (fun s =>
  let n := head.session
  let s := updSession n id s
  if !sessionOk s n then suiAnswer 3 [] s
  else if s.sys.state ≠ .maint ∨ s.sui.lock = none then suiAnswer 4 [] s
  else if s.sui.lock ≠ some n then suiAnswer 1 [] (note 0x0F06 0 0 s)
  else if s.sui.busy ≠ 0 then suiAnswer 1 [] s
  else if s.sui.failed then suiDenied s
  else act s) s

/-- Every journal copy is made invalid (R465), those of all 4,080 cells, and nothing that waits is written; the transfer record is empty. -/
def clearJournal (s : State) : State :=
  (List.range 4080).foldl (fun s c => (s.mramPut (cellOff c 0 + 124) (le4 0)).mramPut (cellOff c 1 + 124) (le4 0))
    { s with sui := { s.sui with xfer := default }, jnl := { s.jnl with due := [] } }

/-- The end of every Sorlia session, as at a reset of the SP (R27). -/
def endSessions (s : State) : State := updSui (fun u => { u with sessions := [], lock := none }) s

end Sys2Proof.Machine
end

