-- ==== Sys2Proof/Machine/CommandsOps.lean ====
section
/-!
DEFINITION. Application of popped packets (R322, R323, R327) and the register-level operations of the front end (R317, R328).
-/
namespace Sys2Proof.Machine

/-- Opcodes that no age limit refuses (R322). -/
def ageless (opc : Nat) : Bool := [0x01, 0x40, 0x41, 0x42].contains opc

/-- The age limit of an opcode (R322). -/
def ageLimit (s : State) (opc : Nat) : Nat := if opc = 0x38 then s.regF Reg.CMD_CONF 7 4 else s.regF Reg.CMD_CONF 25 16

/-- The command is too old (R322). -/
def tooOld (s : State) (p : Pkt) : Bool := !ageless p.opc && decide (since s.sys.vcn p.hvcn > ageLimit s p.opc)

/-- UPDATE_CONFIRM (R327). -/
def applyConfirm (p : Pkt) (s : State) : State :=
  if !bitAt (hostReg s p.host) 30 then noRight p s
  else if onTrialWith (wordAt p.params 0) s.sui then confirmTrial p.tag s
  else badParam p s

/-- The effect of an opcode (R323). -/
def applyOpcode (p : Pkt) (s : State) : State :=
  match p.opc with
  | 0x01 => applyPing p s
  | 0x10 => applyRouteRequest p s
  | 0x11 => applyRouteCancel p s
  | 0x12 => applyReleaseTimed p s
  | 0x18 => applyPointMove p s
  | 0x19 => applyBlock p s
  | 0x1A => applyUnblock p s
  | 0x20 => applyForceStop p s
  | 0x30 => applyDoorEnable p s
  | 0x31 => applyDoorOpen p s
  | 0x32 => applyClose p s
  | 0x33 => applyWithdraw p s
  | 0x34 => applyLeaf 1 p s
  | 0x35 => applyLeaf 2 p s
  | 0x38 => applyTrainBerth p s
  | 0x39 => applyTrainDoors p s
  | 0x40 => applyStatus p s
  | 0x41 => applyJournal p s
  | 0x42 => applyCount p s
  | 0x48 => applyConfirm p s
  | _ => s

/-- A TRAIN_BERTH equal to the one it replaces (R429). -/
def sameBerth (s : State) (p : Pkt) : Bool :=
  let b := Tbl.get s.rt.berth (p.byte_ 0)
  p.opc == 0x38 && b.live && b.host == p.host && b.valid == (p.byte_ 1).testBit 0 && b.still == (p.byte_ 1).testBit 1 && b.offset == p.half2

/-- A popped packet is applied (R314, R322). -/
def applyPacket (p : Pkt) (s : State) : State :=
  let s := if sameBerth s p then s else markExt s
  if tooOld s p then refuse p 8 0x1007 7 p.tag s else applyOpcode p s

/-- Up to `k` packets are popped and applied, in order (R61, R314). -/
def applyCommands : Nat → State → State
  | 0, s => s
  | k + 1, s =>
    match popHead s with
    | none => s
    | some (p, s) => applyCommands k (applyPacket p s)

/-- The runtime pops packets in P1 until it launches the engine, and not in a hand-over (R152). -/
def popsNow (s : State) : Bool := s.sys.phase == 1 && !s.ite.goTaken && !s.pcl.handing

/-- A host's packet as the front end takes it: `ACTIVE` alone (R331), checked (R313) and handed over in its turn; after the launch it
waits for the next VC (R152). -/
def hostPacket (p : Pkt) (s : State) : State :=
  if s.sys.state ≠ .active then s
  else
    let s := checkPacket p 0 s
    if popsNow s then applyCommands 32 s else s

/-- Operations whose effect takes longer than their VC are answered ACCEPTED before it ends (R323), by the `ACTIVE` member alone. -/
def acceptLate (s : State) : State :=
  if s.sys.state ≠ .active then s
  else (List.range 256).foldl (fun s t =>
    let g := s.tag t
    if g.st = .active ∧ g.posted = [] ∧ g.replay = 0 then postAccepted t g.pktSes s else s) s

/-! ### CMD_LOCK, CMD_LOAD -/

/-- The load window opens in these states (R331, R337). -/
def loadState (s : State) : Bool :=
  match s.sys.state with
  | .configCheck | .join | .banked => true
  | _ => false

/-- A tag of a share is its host's: `HELD`, unless it has a state already (R315, R316). -/
def holdTag (s : State) (t : Nat) : State :=
  if inAnyShare s t ∧ (s.tag t).st = .free then
    s.setTag t { s.tag t with st := .held, host := ((List.range 8).find? fun n => inShare s n t).getD 0 }
  else s

/-- CMD_LOCK.LOCK is set: the shares stand from now on, and their tags are `HELD`. -/
def lockCommands (s : State) : State := recountCredits ((List.range 256).foldl holdTag (s.setRegB Reg.CMD_LOCK 0 true))

/-! ### CMD_RPLY, CMD_OUTPOP -/

/-- Bytes of a packet with its padding. -/
def paddedLen (r : List Byte) : Nat := 16 + (halfAt r 6 + 3) / 4 * 4

/-- The header of a reply in CMD_RBUF: VER 1, REPLY set, a padded length of 20–64 (DEDUCED, log entry 42). -/
def replyHeaderOk (r : List Byte) : Bool := byteAt r 0 == 1 && (byteAt r 2).testBit 0 && decide (20 ≤ paddedLen r ∧ paddedLen r ≤ 64)

/-- CMD_RBUF is posted (R317). -/
def postRbuf (s : State) : State :=
  let all := Tbl.getList s.cmd.rbuf 0 256
  let r := all.take (16 + halfAt all 6)
  if !replyHeaderOk all then s.setReg Reg.CMD_RSTAT (word (2 ^ 31 + 2 * 2 ^ 24 + byteAt all 5)) else postBytes r s

/-- The head reply of the selected out queue leaves (R328). -/
def popOut (s : State) : State :=
  { s with cmd := { s.cmd with out := Tbl.upd s.cmd.out s.cmd.outSel (·.drop 1) } }

/-- The host connection of a snapshot copy that a CMD_FEED names, and its bytes. -/
def feedCopy (portB : Bool) (copy : Nat) (s : State) : List Byte :=
  (((if portB then s.sni.snapB else s.sni.snapA)[copy]?).map (·.bytes)).getD []

end Sys2Proof.Machine
end

