-- ==== Sys2Proof/Machine/Commands.lean ====
section
/-!
DEFINITION. The host commands and the operations of the command front end. Each host command is the packet that a host sends: its
connection, tag, session, sequence number and the VCN of the newest module telegram it has accepted, with its parameters.
-/
namespace Sys2Proof.Machine

/-- The packet of a host command. -/
def mkPkt (opc host tag ses : Nat) (hseq hvcn : Word) (params : List Byte) : Pkt :=
  { host := host, tag := tag, opc := opc, ses := ses, hseq := hseq, hvcn := hvcn, params := params }

/-- PING (R323). -/
def execPing (host tag ses : Nat) (hseq hvcn : Word) (s : State) : Host.Outcome State Fault Refusal :=
  .next (hostPacket (mkPkt 0x01 host tag ses hseq hvcn ([])) s)

/-- ROUTE_REQUEST (R153). -/
def execRouteRequest (host tag ses : Nat) (hseq hvcn : Word) (route : Nat) (s : State) : Host.Outcome State Fault Refusal :=
  .next (hostPacket (mkPkt 0x10 host tag ses hseq hvcn (le2 route ++ [0, 0])) s)

/-- ROUTE_CANCEL (R159). -/
def execRouteCancel (host tag ses : Nat) (hseq hvcn : Word) (object : Nat) (s : State) : Host.Outcome State Fault Refusal :=
  .next (hostPacket (mkPkt 0x11 host tag ses hseq hvcn (le2 object ++ [0, 0])) s)

/-- ROUTE_RELEASE_TIMED (R160). -/
def execRouteReleaseTimed (host tag ses : Nat) (hseq hvcn : Word) (route : Nat) (s : State) : Host.Outcome State Fault Refusal :=
  .next (hostPacket (mkPkt 0x12 host tag ses hseq hvcn (le2 route ++ [0, 0])) s)

/-- POINT_MOVE (R162). -/
def execPointMove (host tag ses : Nat) (hseq hvcn : Word) (elem target : Nat) (s : State) : Host.Outcome State Fault Refusal :=
  .next (hostPacket (mkPkt 0x18 host tag ses hseq hvcn (le2 elem ++ [byte target, 0])) s)

/-- ELEMENT_BLOCK (R176). -/
def execElementBlock (host tag ses : Nat) (hseq hvcn : Word) (elem : Nat) (s : State) : Host.Outcome State Fault Refusal :=
  .next (hostPacket (mkPkt 0x19 host tag ses hseq hvcn (le2 elem ++ [0, 0])) s)

/-- ELEMENT_UNBLOCK (R176). -/
def execElementUnblock (host tag ses : Nat) (hseq hvcn : Word) (elem : Nat) (s : State) : Host.Outcome State Fault Refusal :=
  .next (hostPacket (mkPkt 0x1A host tag ses hseq hvcn (le2 elem ++ [0, 0])) s)

/-- SIGNAL_FORCE_STOP (R164). -/
def execSignalForceStop (host tag ses : Nat) (hseq hvcn : Word) (elem set_ : Nat) (s : State) : Host.Outcome State Fault Refusal :=
  .next (hostPacket (mkPkt 0x20 host tag ses hseq hvcn (le2 elem ++ [byte set_, 0])) s)

/-- DOOR_ENABLE (R222). -/
def execDoorEnable (host tag ses : Nat) (hseq hvcn : Word) (edge : Nat) (s : State) : Host.Outcome State Fault Refusal :=
  .next (hostPacket (mkPkt 0x30 host tag ses hseq hvcn ([byte edge, 0, 0, 0])) s)

/-- DOOR_OPEN (R224). -/
def execDoorOpen (host tag ses : Nat) (hseq hvcn : Word) (edge : Nat) (s : State) : Host.Outcome State Fault Refusal :=
  .next (hostPacket (mkPkt 0x31 host tag ses hseq hvcn ([byte edge, 0, 0, 0])) s)

/-- DOOR_CLOSE (R224). -/
def execDoorClose (host tag ses : Nat) (hseq hvcn : Word) (edge : Nat) (s : State) : Host.Outcome State Fault Refusal :=
  .next (hostPacket (mkPkt 0x32 host tag ses hseq hvcn ([byte edge, 0, 0, 0])) s)

/-- DOOR_CLOSE with restore (R239). -/
def execDoorCloseRestore (host tag ses : Nat) (hseq hvcn : Word) (edge : Nat) (s : State) : Host.Outcome State Fault Refusal :=
  .next (hostPacket (mkPkt 0x32 host tag ses hseq hvcn ([byte edge, 1, 0, 0])) s)

/-- DOOR_WITHDRAW_ENABLE (R224). -/
def execDoorWithdrawEnable (host tag ses : Nat) (hseq hvcn : Word) (edge : Nat) (s : State) : Host.Outcome State Fault Refusal :=
  .next (hostPacket (mkPkt 0x33 host tag ses hseq hvcn ([byte edge, 0, 0, 0])) s)

/-- LEAF_ISOLATE (R240). -/
def execLeafIsolate (host tag ses : Nat) (hseq hvcn : Word) (leaf : Nat) (s : State) : Host.Outcome State Fault Refusal :=
  .next (hostPacket (mkPkt 0x34 host tag ses hseq hvcn ([byte leaf, 0, 0, 0])) s)

/-- LEAF_RESTORE (R240). -/
def execLeafRestore (host tag ses : Nat) (hseq hvcn : Word) (leaf : Nat) (s : State) : Host.Outcome State Fault Refusal :=
  .next (hostPacket (mkPkt 0x35 host tag ses hseq hvcn ([byte leaf, 0, 0, 0])) s)

/-- TRAIN_BERTH (R326). -/
def execTrainBerth (host tag ses : Nat) (hseq hvcn : Word) (edge flags offset : Nat) (s : State) : Host.Outcome State Fault Refusal :=
  .next (hostPacket (mkPkt 0x38 host tag ses hseq hvcn ([byte edge, byte flags] ++ le2 offset)) s)

/-- TRAIN_DOORS (R225). -/
def execTrainDoors (host tag ses : Nat) (hseq hvcn : Word) (edge mask : Nat) (s : State) : Host.Outcome State Fault Refusal :=
  .next (hostPacket (mkPkt 0x39 host tag ses hseq hvcn ([byte edge, 0] ++ le2 mask)) s)

/-- STATUS_QUERY (R324). -/
def execStatusQuery (host tag ses : Nat) (hseq hvcn : Word) (scope index : Nat) (s : State) : Host.Outcome State Fault Refusal :=
  .next (hostPacket (mkPkt 0x40 host tag ses hseq hvcn ([byte scope, 0] ++ le2 index)) s)

/-- JOURNAL_QUERY (R323). -/
def execJournalQuery (host tag ses : Nat) (hseq hvcn : Word) (ofTag : Nat) (s : State) : Host.Outcome State Fault Refusal :=
  .next (hostPacket (mkPkt 0x41 host tag ses hseq hvcn ([byte ofTag, 0, 0, 0])) s)

/-- COUNT_QUERY (R325). -/
def execCountQuery (host tag ses : Nat) (hseq hvcn : Word) (kind index : Nat) (s : State) : Host.Outcome State Fault Refusal :=
  .next (hostPacket (mkPkt 0x42 host tag ses hseq hvcn ([byte kind, 0] ++ le2 index)) s)

/-- UPDATE_CONFIRM (R327). -/
def execUpdateConfirm (host tag ses : Nat) (hseq hvcn : Word) (bundle : Word) (s : State) : Host.Outcome State Fault Refusal :=
  .next (hostPacket (mkPkt 0x48 host tag ses hseq hvcn (le4 bundle)) s)

/-- TRAIN_BERTH_EXPIRY (R326): the host source of an edge lapses once TB_HOLD VC have passed. -/
def execTrainBerthExpiry (edge : Nat) (s : State) : Host.Outcome State Fault Refusal :=
  let b := Tbl.get s.rt.berth edge
  .next (if b.live && decide (since s.sys.vcn b.vcn ≥ s.regF Reg.CMD_CONF 3 0) then
      { s with rt := { s.rt with berth := Tbl.set s.rt.berth edge default } }
    else s)

/-! ### The front end -/

/-- CMD_FEED (R313). -/
def execCmdFeed (portB : Bool) (copy host : Nat) (s : State) : Host.Outcome State Fault Refusal :=
  .next (feedTelegram (host % 8) (feedCopy portB copy s) s)

/-- CMD_POP (R152, R314, R431): the head packet's tag becomes `ACTIVE`, and the packet is applied in this VC; after the launch, and in a
hand-over, the runtime pops none. -/
def execCmdPop (w : Word) (s : State) : Host.Outcome State Fault Refusal :=
  .next (if bitAt w 0 && popsNow s then applyCommands 1 s else s)

/-- CMD_RPLY (R317). -/
def execCmdRply (w : Word) (s : State) : Host.Outcome State Fault Refusal := .next (if bitAt w 0 then postRbuf s else s)

/-- CMD_OUTSEL (R328). -/
def execCmdOutsel (host : Nat) (s : State) : Host.Outcome State Fault Refusal :=
  .next { s with cmd := { s.cmd with outSel := host % 8 } }

/-- CMD_OUTPOP (R328). -/
def execCmdOutpop (w : Word) (s : State) : Host.Outcome State Fault Refusal := .next (if bitAt w 0 then popOut s else s)

/-- CMD_LOAD.BEGIN (R331, R337): accepted in P4 in `CONFIG_CHECK`, `JOIN` and `BANKED`. -/
def execCmdLoadBegin (s : State) : Host.Outcome State Fault Refusal :=
  .next (if s.sys.phase = 4 ∧ loadState s then { s with cmd := { s.cmd with loading := true } } else s)

/-- CMD_LOAD.END: the counts are recomputed and checked as R316. -/
def execCmdLoadEnd (s : State) : Host.Outcome State Fault Refusal :=
  .next (if s.cmd.loading then creditRecount (recountCredits { s with cmd := { s.cmd with loading := false } }) else s)

/-- CMD_LOCK (R335): the configuration is read-only until reset, and the tags of the shares become `HELD` (R315). -/
def execCmdLock (w : Word) (s : State) : Host.Outcome State Fault Refusal := .next (if bitAt w 0 then lockCommands s else s)

end Sys2Proof.Machine
end

