-- ==== Sys2Proof/Machine/PairOps.lean ====
section
/-!
DEFINITION. The pair: roles, mirror and response, readiness, shadow comparison, planned swap, switch-over and cold start
(R422–R437).
-/
namespace Sys2Proof.Machine

/-- Replaces the pair and cascade link. -/
def updPcl (f : Pcl → Pcl) (s : State) : State := { s with pcl := f s.pcl }

/-- The slot is declared paired. -/
def isPaired (s : State) : Bool := s.regB Reg.PCL_CONF 31

/-- The module is in a cascade. -/
def inCascade (s : State) : Bool := s.regB Reg.PCL_CONF 30

/-- This module's member number. -/
def ownMember (s : State) : Nat := bit (pairMember s)

/-- FROM names the peer: same slot, other member (R427). -/
def fromPeer (s : State) (slot member : Nat) : Bool := slot == s.ownSlot && member != ownMember s && decide (member < 2)

/-- The peer's state as last seen (PCL_STAT.PSTATE). -/
def peerState (s : State) : Nat := s.regF Reg.PCL_STAT 23 20

/-- The hand-over VC of an announced swap is this VC (R431). -/
def inHandover (s : State) : Bool := s.reg Reg.PCL_SWAP_VCN != 0 && s.reg Reg.PCL_SWAP_VCN == s.sys.vcn

/-- The hand-over VC is the next one. -/
def beforeHandover (s : State) : Bool := s.reg Reg.PCL_SWAP_VCN != 0 && s.reg Reg.PCL_SWAP_VCN == s.sys.vcn + 1

/-! ### Becoming `ACTIVE` -/

/-- Tags whose operation is committed and awaits replay (R332, R418); a terminal reply held back since the last mirror stays held. -/
def markReplay (k : Nat) (s : State) : State :=
  (List.range 256).foldl (fun s t =>
    let g := s.tag t
    if g.st = .active then s.setTag t { g with replay := k } else s) s

/-- The module enters `ACTIVE`: the door buses follow (R270), a slot on trial runs (R453), and replay is due in P4. -/
def becomeActive (why : ReplayDue) (s : State) : State :=
  let old := s.sys.state
  let s := trialActive (busesFollow old .active { s with sys := { s.sys with state := .active } })
  let s := updPcl (fun p => { p with replay := why, roleMs := s.evr.ms, trigger := none }) s
  match why with
  | .none => s
  | .switched => markReplay 1 s
  | .cold => markReplay 2 s

/-- The ledger of a cold start: owned positions under the start block, every other position `FREE` (R181, steps 1 and 2). -/
def startTable (s : State) : Tbl Word :=
  (List.range 1024).foldl (fun t i => if posKind s i = 1 then Tbl.put i (mkTok 3 0 0xF8) t else t) []

/-- The ledger at the entry to `ACTIVE` of a cold start. -/
def startLedger (s : State) : State := recount { s with crd := { s.crd with tok := startTable s } }

/-- The load of P4 in a `JOIN` without an `ACTIVE` peer (R171, R181). -/
def startLoad (s : State) : State :=
  if s.sys.state = .join ∧ peerState s ≠ 6 ∧ s.crd.tok ≠ startTable s then loadTable (startTable s) s else s

/-- The slot epoch of a cold start (R424). -/
def startEpoch (s : State) : State :=
  let e := (max s.sys.epoch s.pcl.seenOwn + 1) % 256
  { s with sys := { s.sys with epoch := e } }.setRegF Reg.PCL_EPOCH 7 0 e

/-- The claims after a cold start begin (R188): every other slot is asked. -/
def claimStart (s : State) : State := claimQuery { s with lend := { s.lend with claiming := true, claims := [], claimEnds := [] } }

/-- The cold start (R423, R181, R243, R417): claims are collected, and the operations of the journal are replayed. -/
def coldStart (s : State) : State := becomeActive .cold (loadTags (claimStart (startLedger (startEpoch s))))

/-! ### What a member sees of its peer -/

/-- A valid frame of the peer has brought its state (R433, R437): a peer in another state than `ACTIVE`, or in `SAFE`, is a trigger
for a `BANKED` member; two `ACTIVE` members end in `SAFE`. -/
def peerSeen (state : Nat) (safe : Bool) (s : State) : State :=
  let s := s.setRegF Reg.PCL_STAT 23 20 state
  if inHandover s then s
  else if s.sys.state = .banked ∧ (safe ∨ state ≠ 6) then updPcl (fun p => { p with peerBad := true }) s
  else if s.sys.state = .active ∧ state = 6 then raiseS 0x0E10 0 0 s
  else s

/-- A valid pair-link frame. -/
def linkHeard (s : State) : State := updPcl (fun p => { p with linkAge := 0, linkNoted := false }) s

/-- A frame in `JOIN` that shows another CONFIG_ID or the same member (R423): recorded once in a stay; the module stays while such frames
come, a VC without one and the next being let pass (DESIGN CHOICE, log entry 149). -/
def peerMismatch (s : State) : State :=
  noteIf (!s.pcl.mismatchNoted) 0x0E0A 0 0 (updPcl (fun p => { p with mismatch := 3, mismatchNoted := true }) s)

/-- The sender of a cascade frame cannot be the peer of this pair (R423). -/
def mismatched (s : State) (slot member : Nat) (configId : Word) : Bool :=
  slot == s.ownSlot && (member == ownMember s || configId != s.conf.configId)

/-! ### The shadow record (R429) -/


/-- The eight words. -/
def shadowRecord (s : State) : List Word :=
  [s.reg Reg.FIO_OCMD0, s.reg Reg.FIO_OCMD1, s.mnt.tset.setWidth 32, (s.mnt.tset >>> 32).setWidth 32, s.reg Reg.ITE_DIGEST,
   crc32cWords s.rt.formed,
   Config.sessionCrc s.rt.ses, 0]

/-- Which words of two shadow records differ. -/
def recordDiff (a b : List Word) : Nat := (List.range 8).foldl (fun n k => if (a[k]?.getD 0) == (b[k]?.getD 0) then n else n + 2 ^ k) 0

/-- The comparison of this VC (R429). -/
def shadowCompare (peer : List Word) (ext : Bool) (s : State) : State :=
  if ext then s
  else
    let d := recordDiff (shadowRecord s) peer
    let old := s.regF Reg.PCL_SHADOW 31 24
    let lim := s.regF Reg.PCL_CONF 23 16
    let n := if d = 0 then 0 else min 255 (old + 1)
    let s := s.setReg Reg.PCL_SHADOW (word (n * 2 ^ 24 + d))
    if lim ≤ n ∧ d ≠ 0 then noteIf (decide (old < lim)) 0x0E07 0 0 (updPcl (fun p => { p with shadowHold := 1000 }) s) else s

/-! ### Readiness (R428) -/

/-- The phase error of the pair is within ±2 µs. -/
def phaseOk (s : State) : Bool := decide ((signed 16 (s.regF Reg.PCL_PHASE 15 0)).natAbs ≤ 200)

/-- The conditions of R428. -/
def readyNow (s : State) : Bool :=
  let p := s.pcl
  decide (p.run ≥ 16) && decide (p.gap = 0) && !p.bulk && decide (p.sumRun ≥ 16) && decide (p.shadowHold = 0) && phaseOk s
    && decide (s.mnt.st = .run) && !s.vau.debug && (!s.sni.netA.lost || !s.sni.netB.lost) && !(decide (p.linkAge ≥ 2) && decide (p.oxfenAge < 2))

/-- The member may take over in this VC: the response it has sent in it was READY and it has taken the mirrors of the 16 VCs before; of a peer that has
fallen silent, those before its silence (R428, R433; DEDUCED, log entry 43). -/
def eligible (s : State) : Bool :=
  let p := s.pcl
  let silent := decide (p.linkAge ≥ 2) && decide (p.oxfenAge ≥ 2)
  p.respVcn == some s.sys.vcn && decide (p.run ≥ 16) && (if silent then p.readyHeld && decide (p.gap ≤ 2) else p.ready && decide (p.gap ≤ 1))

/-! ### The mirror (R425–R427) -/

/-- The registers of a range, as a mirror carries them. -/
def regRange (lo hi : Nat) (s : State) : Tbl Word := s.regs.filter fun p => decide (lo ≤ p.1) && decide (p.1 < hi)

/-- Replaces the registers of a range. -/
def setRange (lo hi : Nat) (t : Tbl Word) (s : State) : State :=
  { s with regs := s.regs.filter (fun p => decide (p.1 < lo)) ++ t ++ s.regs.filter fun p => decide (hi ≤ p.1) }

/-- The cells written in this VC, with their newest images (R416). -/
def journalCells (s : State) : List (Nat × List Byte) :=
  s.jnl.written.filterMap fun c => (cellNewest c s).map fun p => (c, p.2.2)

/-- The segments of this module's mirror (R426). -/
def mirrorBody (s : State) : MirrorBody :=
  { ledger := s.crd.tok, lend := s.lend, ses := s.rt.ses, created := s.rt.created, withheld := s.rt.withheld, pend := s.rt.pend
    sesRegs := regRange Reg.ITE_SES (Reg.ITE_SES + 1020) s, pds := s.pds, pdsRegs := regRange Reg.PDS_BSTAT (Reg.PDS_STAT + 0x10000) s
    dsu := s.dsu, dsuRegs := regRange Reg.DSU_EVIEW (Reg.DSU_STAT + 0x10000) s, journal := journalCells s, conn := s.sni.conn
    lostA := s.sni.netA.lost, lostB := s.sni.netB.lost, berth := s.rt.berth, standing := s.rt.standing }

/-- The most words of a segment, by ID (R426). -/
def segMax (id : Nat) : Nat := [0, 1024, 2560, 4352, 3584, 1536, 2048, 2048, 256, 4096].getD id 0

/-- The entries of the mirror list that are in use: ID, word offset in vital SRAM, words (R426, R443). -/
def mirrorList (s : State) : List (Nat × Nat × Nat) :=
  (List.range 16).filterMap fun n =>
    let id := s.regF (Reg.PCL_MLLEN + 8 * n) 31 24
    if id = 0 ∨ 9 < id then none
    else some (id, s.regF (Reg.PCL_MLADR + 8 * n) 21 0, min (segMax id) (s.regF (Reg.PCL_MLLEN + 8 * n) 15 0))

/-- The entries that a frame has room for (R426). -/
def listFits : Nat → List (Nat × Nat × Nat) → List (Nat × Nat × Nat)
  | _, [] => []
  | room, e :: es => if 4 + 4 * e.2.2 ≤ room then e :: listFits (room - (4 + 4 * e.2.2)) es else []

/-- The words of vital SRAM from a word offset on. -/
def sramWords (s : State) (off n : Nat) : List Word := (List.range n).map fun k => word (ofLe (Tbl.getList s.sram (4 * (off + k)) 4))

/-- The areas that the mirror engine reads: a frame of 98,304 bytes has 60 bytes beside its segments. -/
def mirrorSegs (s : State) : List Seg := (listFits 98244 (mirrorList s)).map fun e => ⟨e.1, sramWords s e.2.1 e.2.2⟩

/-- The words that are sent, by their number in the stream: one on which two live regions differ is not. -/
def segsSent (differ : List Nat) : Nat → List Seg → List Seg
  | _, [] => []
  | i, g :: gs =>
    { g with words := ((g.words.zip (List.range g.words.length)).filter fun p => !differ.contains (i + p.2)).map (·.1) }
      :: segsSent differ (i + g.words.length) gs

/-- FLAGS of a frame (R425). -/
def PairFrame.flags (f : PairFrame) : Nat :=
  bit f.safe + 2 * bit f.ready + 4 * bit f.handover + 8 * bit f.takeover + 16 * bit f.ext + 32 * bit f.invalid

/-- Bytes 0 to n − 5 of a frame (R425). -/
def PairFrame.bytes (f : PairFrame) : List Byte :=
  [byte f.kind, byte (f.slot % 8 + 8 * (f.member % 2)), byte f.flags, byte f.epoch] ++ le4 f.vcn ++ le4 f.ackVcn ++ le4 f.swapVcn
    ++ le4 f.crdPrev ++ ((List.range 8).flatMap fun k => le4 (f.srec[k]?.getD 0)) ++ le4 0
    ++ f.segs.flatMap fun g => le4 (word (g.id * 2 ^ 24 + g.words.length)) ++ g.words.flatMap le4

/-- The CRC of a frame, under the PAIR_ID that is never transmitted. -/
def linkCrc (s : State) (f : PairFrame) : Word := crc32c (le4 (s.reg Reg.PCL_PAIR_ID) ++ f.bytes)

/-- The frame with its CRC. -/
def withCrc (s : State) (f : PairFrame) : PairFrame := { f with crc := linkCrc s f }

/-- What every frame of this module in this VC says. -/
def frameBase (kind : Nat) (s : State) : PairFrame :=
  { (default : PairFrame) with
    kind := kind, slot := s.ownSlot, member := ownMember s, safe := s.sys.state == .safe, handover := s.sys.state == .active && beforeHandover s
    takeover := s.pcl.trigger.isSome, epoch := s.sys.epoch, vcn := s.sys.vcn, swapVcn := s.reg Reg.PCL_SWAP_VCN, srec := shadowRecord s }

/-- This VC's mirror frame; `differ` are the numbers of the streamed words on which two live regions differ. -/
def mirrorOf (ext : Bool) (differ : List Nat) (s : State) : PairFrame :=
  withCrc s { frameBase 1 s with
    ext := ext, invalid := mirrorDiffers differ s, crdPrev := s.pcl.lastSum, segs := segsSent differ 0 (mirrorSegs s), body := mirrorBody s }
where
  /-- A word of the stream differs. -/
  mirrorDiffers (differ : List Nat) (s : State) : Bool := differ.any fun k => decide (k < ((mirrorSegs s).map (·.words.length)).sum)

/-- This VC's response frame. -/
def responseOf (ready : Bool) (s : State) : PairFrame := withCrc s { frameBase 2 s with ready := ready, ackVcn := s.pcl.ackVcn }

/-- PCL_MCTRL.GO (R425): the mirror in `ACTIVE`, the response in `BANKED`, once per VC, in P4. In `SAFE` a frame without segments reports
it (R39; DEDUCED, log entry 118). -/
def pairSend (ext : Bool) (differ : List Nat) (s : State) : State :=
  if s.sys.phase ≠ 4 then note 0x0E11 0 0 s
  else if s.pcl.sent then s
  else
    let s := updPcl (fun p => { p with sent := true }) s
    match s.sys.state with
    | .active =>
      let m := mirrorOf (ext || s.rt.ext) differ s
      updPcl (fun p => { p with mirrorOut := some m }) (noteIf m.invalid 0x0E14 0 0 s)
    | .banked =>
      let r := readyNow s
      updPcl (fun p => { p with
        ready := r, respVcn := some s.sys.vcn, readyHeld := if p.gap = 0 then r else p.readyHeld, respOut := some (responseOf r s) }) s
    | .safe => updPcl (fun p => { p with respOut := some (responseOf false s) }) s
    | _ => s

/-- The mirrored words go into this member's areas of vital SRAM: the mirror list is that of the image both members run. -/
def loadSegs (segs : List Seg) (s : State) : State :=
  ((mirrorList s).zip segs).foldl (fun s p =>
    if p.1.1 = p.2.id then
      { s with sram := Tbl.setList s.sram (4 * p.1.2.1) (((p.2.words.take p.1.2.2).flatMap le4).take (0x400000 - 4 * p.1.2.1)) }
    else s) s

/-- A mirror is loaded (R180, R242, R417, R416, R424). The states of the networks at its ports are the member's own (R299, R304; DEDUCED,
log entry 148). -/
def loadMirror (m : PairFrame) (s : State) : State :=
  let b := m.body
  let s := loadSegs m.segs s
  let s : State := { s with
    lend := { b.lend with out := [], waiting := b.lend.waiting }
    rt := { s.rt with ses := b.ses, created := b.created, withheld := b.withheld, pend := b.pend, berth := b.berth, standing := b.standing }
    cmd := { s.cmd with out := [] }
    pds := { b.pds with ready := s.pds.ready }
    dsu := { b.dsu with go := s.dsu.go, done := s.dsu.done, loading := false, lcmds := [], events := [] }
    sni := { s.sni with conn := b.conn }, sys := { s.sys with epoch := m.epoch } }
  let s := setRange Reg.ITE_SES (Reg.ITE_SES + 1020) b.sesRegs s
  let s := setRange Reg.PDS_BSTAT (Reg.PDS_STAT + 0x10000) b.pdsRegs s
  let s := setRange Reg.DSU_EVIEW (Reg.DSU_STAT + 0x10000) b.dsuRegs s
  let s := countCheck (((List.range 8).flatMap (edgeLeaves s)).foldl (fun s l => updLeaf l (fun d => { d with started := true }) s)
    (loadTable b.ledger s))
  loadTags (mirrorCells b.journal (s.setRegF Reg.PCL_EPOCH 7 0 m.epoch))

/-- A frame is valid: its kind, and the CRC under PAIR_ID. -/
def linkOk (s : State) (kind : Nat) (f : PairFrame) : Bool := f.kind == kind && f.crc == linkCrc s f

/-- The mirror meets R427. -/
def mirrorOk (s : State) (m : PairFrame) : Bool :=
  linkOk s 1 m && !m.invalid && m.vcn == s.sys.vcn && fromPeer s m.slot m.member

/-- A mirror is taken: the census checksum of the VC before is compared (R428), the shadow record, then the load. One that does not follow
the last one taken has missed a VC: the journal needs its bulk copy (R427). -/
def takeMirror (m : PairFrame) (s : State) : State :=
  let same := s.pcl.lastSum == m.crdPrev
  let next := s.pcl.gap == 0 && (s.pcl.run == 0 || m.vcn == s.pcl.ackVcn + 1)
  let s := noteIf (!same) 0x0512 0 0 s
  let s := shadowCompare m.srec m.ext s
  let s := updPcl (fun p => { p with
    run := if next then p.run + 1 else 1, bulk := p.bulk || !next, bulkCells := if next then p.bulkCells else []
    gap := 0, ackVcn := m.vcn, takenNow := true, sumRun := if same then p.sumRun + 1 else 0 }) s
  loadMirror m ((s.setReg Reg.PCL_SWAP_VCN m.swapVcn))

/-- The state that a frame shows its sender in: `ACTIVE` sends mirrors and bulk cells, `BANKED` responses (R425). -/
def frameState (f : PairFrame) : Nat := if f.safe then 7 else if f.kind = 2 then 5 else 6

/-- A valid frame of the peer on the pair link (R433, R437); one that shows it `ACTIVE` in the hand-over VC confirms the swap (R431). -/
def peerFrame (f : PairFrame) (s : State) : State :=
  let s := updPcl (fun p => { p with confirmed := p.confirmed || (p.handing && frameState f == 6) }) (linkHeard s)
  peerSeen (frameState f) f.safe s

/-- A frame of the pair link arrives: one of the same slot and member cannot be the peer's (R3, R423); of the peer's, `shown` is what it
changes in the registers and `act` what follows. -/
def linkRx (kind : Nat) (f : PairFrame) (shown act : State → State) (s : State) : State :=
  if !linkOk s kind f || !(s.live || s.sys.state == .safe) then s
  else if s.sys.state == .join && mismatched s f.slot f.member s.conf.configId then peerMismatch s
  else if !fromPeer s f.slot f.member then s
  else act (peerFrame f (shown s))

/-- PCL_MRX (R443). -/
def showRx (f : PairFrame) (taken : Bool) (s : State) : State :=
  s.setReg Reg.PCL_MRX (word (2 ^ 31 + bit taken * 2 ^ 30 + f.flags * 2 ^ 16 + f.vcn.toNat % 2 ^ 16))

/-- MIRROR_RX (R427). It is loaded in P4 (R180); a member that has begun to take over loads no mirror (R434). -/
def mirrorRx (m : PairFrame) (s : State) : State :=
  let ok := mirrorOk s m
  linkRx 1 m (showRx m ok) (fun s =>
    if (s.sys.state = .banked ∨ s.sys.state = .join) ∧ ok ∧ s.sys.phase = 4 ∧ s.pcl.trigger = none then takeMirror m s else s) s

/-- MIRROR_MISSED (R427): at 900 µs no mirror of this VC has been taken. In `JOIN` the next mirror shows by its VCN that one is
missing. -/
def mirrorMissed (s : State) : State :=
  if s.sys.state = .banked ∧ ¬ s.pcl.takenNow ∧ s.pcl.trigger = none then note 0x0E06 0 0 (updPcl (fun p => { p with gap := p.gap + 1, takenNow := true }) s)
  else s

/-- RESPONSE_RX (R425, R428): acknowledgement and readiness of the peer. -/
def responseRx (r : PairFrame) (s : State) : State :=
  linkRx 2 r (fun s => ((showRx r false s).setReg Reg.PCL_MACK r.ackVcn).setRegB Reg.PCL_STAT 27 r.ready) id s

/-- A cell of a BULK frame: a valid image whose JSEQ is later than the own one's goes into the copy that does not hold the newest valid
content (R409, R427). -/
def bulkCell (s : State) (c : Nat × List Byte) : State :=
  if copyCheck c.2 ≠ 0 then s
  else match cellNewest c.1 s with
    | some (k, j, _) => if later (wordAt c.2 0) j then s.mramPut (cellOff c.1 (1 - k)) (c.2.take 128) else s
    | none => s.mramPut (cellOff c.1 0) (c.2.take 128)

/-- The cells 0–592 that the JOURNAL segments of a BULK frame carry: images of 32 words, each with its number (R408, R426). -/
def bulkCells (f : PairFrame) : List (Nat × List Byte) :=
  (f.segs.filter (·.id == 6)).flatMap fun g =>
    (List.range (g.words.length / 32)).filterMap fun k =>
      let img := ((g.words.drop (32 * k)).take 32).flatMap le4
      if halfAt img 4 ≤ 592 then some (halfAt img 4, img) else none

/-- BULK_RX (R427): cells newer than the own ones are taken; the copy is complete once cells 0–592 have come. -/
def bulkRx (f : PairFrame) (s : State) : State :=
  linkRx 3 f id (fun s =>
    if s.sys.state ≠ .banked ∧ s.sys.state ≠ .join then s
    else
      let cells := bulkCells f
      let s := cells.foldl bulkCell s
      let got := s.pcl.bulkCells ++ ((cells.map (·.1)).filter fun c => !s.pcl.bulkCells.contains c)
      updPcl (fun p => { p with bulkCells := got, bulk := p.bulk && !((List.range 593).all fun c => got.contains c) }) s) s

/-! ### Planned swap (R430, R431) -/

/-- The first VC at least 32 VC ahead with VCN mod 16 = 1. -/
def swapVcnOf (v : Word) : Word := v + 32 + word ((16 + 1 - (v + 32).toNat % 16) % 16)

/-- A swap that is wanted is announced if it may proceed; `peerOk`: the peer is in `T3` or `T2F`. -/
def swapTry (peerOk : Bool) (s : State) : State :=
  if s.sys.state ≠ .active ∨ ¬ s.pcl.swapWanted ∨ s.reg Reg.PCL_SWAP_VCN ≠ 0 then s
  else if peerBanked s ∧ (s.sys.mode = .t3 ∨ s.sys.mode = .t2f) ∧ peerOk ∧ s.pcl.trigger = none then
    updPcl (fun p => { p with swapWanted := false }) (s.setReg Reg.PCL_SWAP_VCN (swapVcnOf s.sys.vcn))
  else updPcl (fun p => { p with swapTried := s.sys.vcn }) s

/-- A swap is asked for. -/
def swapRequest (peerOk : Bool) (s : State) : State :=
  if s.sys.state = .active ∧ isPaired s then swapTry peerOk (updPcl (fun p => { p with swapWanted := true }) s) else s

/-- The start of the hand-over VC (R431): the old `ACTIVE` begins its hand-over; the `BANKED` member that loaded the mirror of s − 1
and was eligible becomes `ACTIVE`. -/
def handoverStart (s : State) : State :=
  if !inHandover s then s
  else match s.sys.state with
    | .active => if s.pcl.handing then s else updPcl (fun p => { p with handing := true, confirmed := false }) s
    | .banked =>
      if s.pcl.ackVcn = s.sys.vcn - 1 ∧ s.pcl.ready ∧ s.pcl.respVcn = some (s.sys.vcn - 1) ∧ s.pcl.run ≥ 16 ∧ s.pcl.gap = 0 then becomeActive .switched s else s
    | _ => s

/-- 950 µs of the hand-over VC (R431). -/
def swapCheck (s : State) : State :=
  if !inHandover s ∨ s.sys.state ≠ .active then s
  else if s.pcl.handing then
    if s.pcl.confirmed then note 0x0E09 0 0 s
    else note 0x0E08 0 0 (updPcl (fun p => { p with handing := false }) (s.setReg Reg.PCL_SWAP_VCN 0))
  else note 0x0E09 0 0 (s.setReg Reg.PCL_SWAP_VCN 0)

/-- The VC start after the hand-over VC: the old `ACTIVE` is `BANKED`, its outputs off, its buses `BACKUP` (R431). It has taken no mirror of
that VC, so its journal needs the bulk copy (R427; DEDUCED, log entry 136). -/
def handoverEnd (s : State) : State :=
  if s.pcl.handing ∧ s.reg Reg.PCL_SWAP_VCN ≠ s.sys.vcn then
    if s.pcl.confirmed ∧ s.sys.state = .active then
      let s := busesFollow .active .banked (dropQueued { s with sys := { s.sys with state := .banked }, fio := fioOff s.fio })
      updPcl (fun p => { p with
        handing := false, confirmed := false, roleMs := s.evr.ms, run := 0, gap := 0, sumRun := 0, ready := false, readyHeld := false
        bulk := true, bulkCells := [] }) (s.setReg Reg.PCL_SWAP_VCN 0)
    else updPcl (fun p => { p with handing := false }) (s.setReg Reg.PCL_SWAP_VCN 0)
  else s

/-! ### Switch-over (R433–R435) -/

/-- The code of a trigger in this VC, if there is one. -/
def triggerCode (s : State) : Option Nat :=
  if s.pcl.peerBad then some 0x0E03
  else if s.pcl.linkAge ≥ 2 ∧ s.pcl.oxfenAge ≥ 2 then some 0x0E02
  else none

/-- The watch of P5 (R433); what the peer shows in a hand-over VC has not been taken as a trigger (`peerSeen`). -/
def switchTrigger (s : State) : State :=
  if s.sys.state ≠ .banked ∨ s.pcl.trigger.isSome then s
  else match triggerCode s with
    | some c =>
      let s := note c 0 0 s
      if eligible s then updPcl (fun p => { p with trigger := some s.sys.vcn }) s else raiseS 0x0E05 0 0 s
    | none =>
      if s.pcl.linkAge ≥ 2 ∧ ¬ s.pcl.linkNoted then note 0x0E01 0 0 (updPcl (fun p => { p with linkNoted := true }) s) else s

/-- The start of t + 3 (R434). -/
def takeoverStart (s : State) : State :=
  match s.pcl.trigger with
  | some t =>
    if s.sys.state = .banked ∧ since s.sys.vcn t = 3 then
      note 0x0E04 0 0 (updPcl (fun p => { p with edgesDue := true }) (becomeActive .switched s))
    else s
  | none => s

/-- The edge is in a condition of R435. -/
def edgeAtTakeover (s : State) (e : Nat) : Bool :=
  let d := s.edge e
  let open_ := (edgeLeaves s e).any fun l => (s.dleaf l).st != .closedLocked && (s.dleaf l).st != .isolated
  d.ss || ((d.st == .inCycle || d.st == .closing || d.st == .provingClosed) && open_)

/-- The first DSU step in `ACTIVE` after a switch-over (R435). -/
def edgesTakeover (s : State) : State :=
  if s.pcl.edgesDue then
    (((List.range 8).filter fun e => edgeEquipped s e && edgeAtTakeover s e)).foldl (fun s e => raiseEdge e 0x0E0F 2 e s)
      (updPcl (fun p => { p with edgesDue := false }) s)
  else s

/-! ### `JOIN` (R423) -/

/-- JOIN_T has elapsed. -/
def joinOver (s : State) : Bool := decide (s.pcl.joinRun > 10 * s.regF Reg.PCL_CONF 7 0)

/-- The member leaves `JOIN` for `ACTIVE`. -/
def joinLeaves (s : State) : Bool :=
  if isPaired s then
    decide (s.pcl.mismatch = 0) && (match peerState s with
      | 6 => false
      | 4 => ownMember s == 0
      | _ => joinOver s)
  else if inCascade s then s.sys.vcnLoaded || joinOver s
  else decide (s.pcl.joinRun ≥ 2)

/-- The VC start in `JOIN`: cold start, `BANKED` once ready, or one VC more. -/
def joinStep (s : State) : State :=
  if s.sys.state ≠ .join then s
  else
    let s := updPcl (fun p => { p with joinRun := p.joinRun + 1 }) s
    if joinLeaves s then coldStart s
    else if isPaired s ∧ s.pcl.mismatch = 0 ∧ peerState s = 6 ∧ readyNow s then busesFollow .join .banked { s with sys := { s.sys with state := .banked } }
    else s

/-- A peer that neither link has shown for 2 whole VCs is not seen: PCL_STAT.PSTATE reads 0xF (R423, R443; DEDUCED, log entry 134). -/
def peerGone (s : State) : State :=
  if 3 ≤ s.pcl.linkAge ∧ 3 ≤ s.pcl.oxfenAge then s.setRegF Reg.PCL_STAT 23 20 0xF else s

/-- What a VC start changes in the pair: ages, the flags of a VC, the roles that change at it. -/
def pairStart (s : State) : State :=
  let s := s.setReg Reg.PCL_CRXSTAT (s.pcl.crxNow.setWidth 32)
  let s := s.setReg Reg.PCL_CMEMB 0
  let s := updPcl (fun p => { p with
    sent := false, ctxSent := false, takenNow := false, peerBad := false, linkAge := min 255 (p.linkAge + 1), oxfenAge := min 255 (p.oxfenAge + 1)
    shadowHold := p.shadowHold - 1, mismatch := p.mismatch - 1, activeLast := p.activeNow, activeNow := 0, crxNow := 0, cascOut := [], mirrorOut := none, respOut := none }) s
  joinStep (takeoverStart (handoverStart (handoverEnd (peerGone s))))

/-! ### Replay (R332, R418) -/

/-- The outcome of an operation found in flight (R418). -/
inductive ReplayAct where
  | carry | reexec | abort
  deriving DecidableEq, Repr

/-- The table of R332. -/
def replayAct (s : State) (cold : Bool) (g : Tag) : ReplayAct :=
  if ageless g.opc then .reexec
  else if [0x10, 0x11, 0x12, 0x18, 0x30, 0x31, 0x32, 0x33, 0x35].contains g.opc then (if cold then .abort else .carry)
  else if g.opc = 0x48 then
    if !cold then .carry else if onTrialWith g.params s.sui then .reexec else .abort
  else .abort

/-- The packet of a tag, as it was consumed. -/
def pktOfTag (t : Nat) (g : Tag) : Pkt :=
  { host := g.host, tag := t, opc := g.opc, ses := g.pktSes, hseq := g.hseq.getD 0, hvcn := g.hvcn, params := le4 g.params }

/-- A stored terminal reply is sent again, and its tag is `HELD`; the cell is rewritten with the VC of this post (R412). -/
def resend (t : Nat) (r : List Byte) (s : State) : State :=
  let g := s.tag t
  let r := withFlags (replyFlags true false true) r
  let s := outPush g.host false r ((writeRbuf r s).setReg Reg.CMD_RSTAT (word (2 ^ 31 + t)))
  let s := s.setTag t { g with st := .held, postVcn := s.sys.vcn, replay := 0, heldBack := none, lastNt := none, posted := [] }
  tagDirty t { s with cmd := { s.cmd with nFlight := s.cmd.nFlight - 1, nHeld := s.cmd.nHeld + 1 } }

/-- REPLAYED, unless it has been posted by an earlier replay. -/
def postReplayed (t d : Nat) (s : State) : State :=
  let g := s.tag t
  let s := s.setTag t { g with replay := 0 }
  if g.status = 0xA then s else postReply t g.opSes 0xA d 0 [] s

/-- The terminal reply held back is posted, with the VCN of this VC (R310). -/
def releaseHeld (t : Nat) (s : State) : State :=
  match (s.tag t).heldBack with
  | some r => postBytes (r.take 12 ++ le4 s.sys.vcn ++ r.drop 16) (s.setTag t { s.tag t with heldBack := none })
  | none => s

/-- UPDATE_CONFIRM is carried on: this member's selector is written if its slot is on trial with that bundle; else R327 refuses it. The
other operations go on by themselves (DEDUCED, log entry 116). -/
def carryOn (t : Nat) (g : Tag) (s : State) : State :=
  if g.opc ≠ 0x48 then s
  else if onTrialWith g.params s.sui then confirmTrial t s
  else postIfActive t 0 2 0 0x1011 [] (note 0x1011 7 t s)

/-- One tag. -/
def replayTag (s : State) (t : Nat) : State :=
  let g := s.tag t
  if g.st ≠ .active ∨ g.replay = 0 then s
  else
    let cold := g.replay == 2
    match g.stored with
    | some r => resend t r s
    | none => match replayAct s cold g with
      | .abort =>
        let s := s.setTag t { g with replay := 0, heldBack := none }
        postReply t g.opSes 0xB 0 0x100B [] (note 0x100B 7 t s)
      | .reexec => applyOpcode (pktOfTag t g) (postReplayed t (bit cold) s)
      | .carry => releaseHeld t (carryOn t g (postReplayed t (bit cold) s))

/-- The replay in P4 of the first VC in `ACTIVE`. -/
def replayTags (s : State) : State :=
  if s.pcl.replay = .none then s
  else (List.range 256).foldl replayTag (updPcl (fun p => { p with replay := .none }) s)

end Sys2Proof.Machine
end

