-- ==== Sys2Proof/Machine/CascadeOps.lean ====
section
/-!
DEFINITION. The cascade: timing markers, cascade frames, epochs and the delivery of lending messages (R439–R441).
-/
namespace Sys2Proof.Machine

/-! ### Timing (R56, R439) -/

/-- Slots with an `ACTIVE` member: one whose frame of this VC or of the VC before has shown it (DEDUCED, log entry 134). -/
def activeSlots (s : State) : BitVec 8 := s.pcl.activeNow ||| s.pcl.activeLast

/-- PCL_CMEMB.ACTIVE (R443): the own slot among them. -/
def cascActive (s : State) : BitVec 8 := if s.sys.state = .active then setBit (activeSlots s) s.ownSlot true else activeSlots s

/-- This module is the timing master: `ACTIVE`, and in slot 0 or in the lowest slot with an `ACTIVE` member. -/
def timingMaster (s : State) : Bool :=
  s.sys.state == .active && (List.range s.ownSlot).all fun k => !bitAt (activeSlots s) k

/-- The timing master is the module of slot and member `k`: a change is recorded (R439). -/
def masterIs (k : Nat) (s : State) : State :=
  noteIf (s.pcl.master.isSome && s.pcl.master != some k) 0x0E0E 0 0 (updPcl (fun p => { p with master := some k }) s)

/-- A trim toward a marker (R56, R439): against the phase error, which is the own VC start minus the marker, by at most 4 ticks of 40 ns.
The spec gives no law beyond this: its size is a free value (DESIGN CHOICE, log entry 45). -/
def trimFor (w : Word) (phase : Int) : Int :=
  let n : Int := ((w.toNat % 5 : Nat) : Int)
  if 0 < phase then -n else if phase < 0 then n else 0

/-- The trim of the running VC is taken, unless this module keeps the time; in slot 0 it is always 0 (R56; DEDUCED, log entry 120). -/
def setTrim (phase : Int) (s : State) : State :=
  if s.ownSlot = 0 ∨ timingMaster s then { s with sys := { s.sys with trimNow := 0 } }
  else
    let (w, s) := s.takeFree
    { s with sys := { s.sys with trimNow := trimFor w phase } }

/-- The VC start: the trim of the VC that ends is the one shown, and the new VC has none until a marker comes (R56, R68; DESIGN CHOICE, log
entry 139). In a cascade the timing master sends its marker on the Oxfen link and is the one that this module knows; the `ACTIVE` member of
a pair sends one on the pair link (R423, R439). -/
def trimTurn (s : State) : State :=
  let s : State := { s with sys := { s.sys with trim := s.sys.trimNow, trimNow := 0 } }
  let s := updPcl (fun p => { p with markOut := timingMaster s && inCascade s, pairMarkOut := s.sys.state == .active && isPaired s }) s
  if timingMaster s && inCascade s then masterIs (s.ownSlot + 8 * ownMember s) s else s

/-- The module trims toward its peer: `BANKED`, or in `JOIN` with an `ACTIVE` peer, whose phase it has loaded (R423, R439; DEDUCED, log
entry 134). -/
def followsPeer (s : State) : Bool := s.sys.state == .banked || (s.sys.state == .join && isPaired s && peerState s == 6)

/-- A marker of the peer on the pair link: phase and, in a member that follows it, the trim. -/
def peerMarker (phase : Int) (s : State) : State :=
  let s := s.setRegF Reg.PCL_PHASE 15 0 (unsigned 16 phase)
  if followsPeer s then setTrim phase s else s

/-- A marker of the cascade from slot and member `frm`: the timing master's change (0x0E0E), phase, the watch of ±10 µs (0x0E0D) and
the trim of a module that does not follow its peer. -/
def cascadeMarker (frm : Nat) (phase : Int) (s : State) : State :=
  let s := masterIs frm s
  let s := s.setRegF Reg.PCL_PHASE 31 16 (unsigned 16 phase)
  let run := if phase.natAbs > 1000 then min 16 (s.pcl.phaseRun + 1) else 0
  let s := noteIf (run == 16 && s.pcl.phaseRun != 16) 0x0E0D 0 0 (updPcl (fun p => { p with phaseRun := run }) s)
  if followsPeer s then s else setTrim phase s

/-! ### Cascade frames (R440, R441) -/

/-- The cascade index of a slot and member: its place in the configuration's list of modules (R422). -/
def cascIndex (s : State) (slot member : Nat) : Option Nat :=
  s.conf.modules.findIdx? fun m => m.slot == slot && m.member == member

/-- Byte `k` of the epochs last seen. -/
def seenEpoch (s : State) (k : Nat) : Nat := s.regF (Reg.PCL_SEEN0 + 4 * (k / 4)) (8 * (k % 4) + 7) (8 * (k % 4))

/-- A lending message (R182). -/
def lendBytes (m : LendMsg) : List Byte :=
  [byte m.kind, byte m.from_, byte m.to_, byte m.epoch] ++ le2 m.elem ++ [byte (bit m.orphan), 0] ++ le4 m.lseq ++ le4 m.vcn

/-- A cascade frame without its CRC (R440). -/
def cascBody (f : CascFrame) : List Byte :=
  [1#8, byte (f.slot % 8 + 8 * f.member), byte (f.state % 16 + 16 * bit f.ready + 32 * bit f.takeover + 64 * bit f.handover + 128 * bit f.safe),
    byte f.epoch] ++ le4 f.vcn ++ (List.range 8).map (fun k => byte (f.seen.getD k 0)) ++ le4 f.configId ++ le2 f.msgs.length ++ [0#8, 0]
    ++ f.msgs.flatMap lendBytes

/-- The CRC of a cascade frame, under the CASC_ID that is never transmitted. -/
def cascCrc (s : State) (f : CascFrame) : Word := crc32c (le4 (s.reg Reg.PCL_CASC_ID) ++ cascBody f)

/-- This VC's cascade frame with its lending messages. -/
def cascFrame (msgs : List LendMsg) (s : State) : CascFrame :=
  let f : CascFrame :=
    { slot := s.ownSlot, member := ownMember s, state := s.sys.state.code, ready := s.pcl.ready, takeover := s.pcl.trigger.isSome,
      handover := beforeHandover s || s.pcl.handing, safe := s.sys.state == .safe, epoch := s.sys.epoch, vcn := s.sys.vcn,
      seen := (List.range 8).map (seenEpoch s), configId := s.conf.configId, msgs := msgs, crc := 0 }
  { f with crc := cascCrc s f }

/-- Lending messages travel from an `ACTIVE` member outside its hand-over (R440). -/
def lendSends (s : State) : Bool := s.sys.state == .active && !beforeHandover s && !s.pcl.handing

/-- The lending message that sixteen bytes spell (R182). -/
def lendOf (b : List Byte) : LendMsg :=
  { kind := byteAt b 0, from_ := byteAt b 1, to_ := byteAt b 2, epoch := byteAt b 3, elem := halfAt b 4, orphan := (byteAt b 6).testBit 0
    lseq := wordAt b 8, vcn := wordAt b 12 }

/-- The runtime puts the waiting messages into PCL_CTXBUF, the oldest first, and leaves the rest of it. -/
def fillCtx (s : State) : State := setRegs Reg.PCL_CTXBUF (wordsOfBytes ((s.lend.out.take 64).flatMap lendBytes)) s

/-- The message at a place of PCL_CTXBUF. -/
def ctxMsg (s : State) (k : Nat) : LendMsg := lendOf ((List.range 4).flatMap fun j => le4 (s.reg (Reg.PCL_CTXBUF + 16 * k + 4 * j)))

/-- PCL_CTX (R440): the cascade frame of this VC with the first `n` messages of PCL_CTXBUF; once per VC, in P4. -/
def cascadeSend (n : Nat) (s : State) : State :=
  if s.sys.phase ≠ 4 then note 0x0E11 0 0 s
  else if s.pcl.ctxSent then s
  else
    let s := if lendSends s then fillCtx (lendRelease s) else s
    let k := if lendSends s then min n 64 else 0
    let f := cascFrame ((List.range k).map (ctxMsg s)) s
    updPcl (fun p => { p with ctxSent := true, cascOut := p.cascOut ++ [f] }) { s with lend := { s.lend with out := s.lend.out.drop k } }

/-- A frame meets R441. -/
def cascOk (s : State) (f : CascFrame) : Bool := f.crc == cascCrc s f && f.configId == s.conf.configId && f.vcn == s.sys.vcn && decide (f.msgs.length ≤ 64)

/-- The frame's epochs: PCL_SEEN, of another slot the books at the next P1, and in `JOIN` what is reported of this slot (R424, R441). -/
def seeEpochs (f : CascFrame) (s : State) : State :=
  let s := s.setRegF (Reg.PCL_SEEN0 + 4 * (f.slot % 8 / 4)) (8 * (f.slot % 4) + 7) (8 * (f.slot % 4)) f.epoch
  updPcl (fun p => { p with
    epochNew := if f.slot = s.ownSlot then p.epochNew else Tbl.set p.epochNew f.slot (f.epoch % 256 + 1)
    seenOwn := if s.sys.state = .join then max p.seenOwn (f.seen.getD s.ownSlot 0 % 256) else p.seenOwn }) s

/-- Messages wait for the next P1, by sender slot and in the order sent (R183). -/
def lendDelivered (msgs : List LendMsg) (s : State) : State :=
  updPcl (fun p => { p with inbox := (p.inbox ++ msgs).mergeSort fun a b => decide (a.from_ ≤ b.from_) }) s

/-- A frame that is taken. -/
def takeCascade (q : Nat) (f : CascFrame) (s : State) : State :=
  let s := s.setReg Reg.PCL_CMEMB (s.reg Reg.PCL_CMEMB ||| (1#32 <<< (f.slot % 8)))
  let s := seeEpochs f s
  let mine := f.msgs.filter fun m => m.to_ == s.ownSlot
  let s := lendDelivered mine (updPcl (fun p => { p with
    crxNow := setBit p.crxNow q true, crx := Tbl.set p.crx q f
    activeNow := if f.state = 6 then setBit p.activeNow (f.slot % 8) true else p.activeNow }) s)
  if fromPeer s f.slot f.member then
    let s := updPcl (fun p => { p with oxfenAge := 0, confirmed := p.confirmed || (p.handing && f.state == 6) }) s
    peerSeen f.state f.safe s
  else s

/-- CASCADE_FRAME_RX (R441). A frame of the own slot that shows another configuration is a mismatch of the peer (R423). -/
def cascadeRx (f : CascFrame) (s : State) : State :=
  match cascIndex s f.slot f.member with
  | none => note 0x0E0B 0 0 s
  | some q =>
    let s := if f.crc == cascCrc s f && s.sys.state == .join && mismatched s f.slot f.member f.configId then peerMismatch s else s
    if cascOk s f then takeCascade q f s else note 0x0E0C 0 0 s

/-! ### Delivery (R183, R189, R441) -/

/-- The member applies lending messages and sends its own: `ACTIVE` and not in its hand-over (R431, R441). -/
def lendsNow (s : State) : Bool := s.sys.state == .active && !s.pcl.handing

/-- In P1 the epochs that frames brought reach the books, then the `ACTIVE` member applies the messages of its slot; a member that
applies no lending message drops them. -/
def lendDeliver (s : State) : State :=
  let new := s.pcl.epochNew
  let msgs := s.pcl.inbox
  let s := updPcl (fun p => { p with epochNew := [], inbox := [] }) s
  let s := new.foldl (fun s e => newEpoch e.1 (e.2 - 1) s) s
  if lendsNow s then msgs.foldl (fun s m => lendApply m s) (if msgs.isEmpty then s else markExt s) else s

/-- Lending by time and the end of the claims, in P1 of an `ACTIVE` member. -/
def lendTurn (s : State) : State :=
  if lendsNow s then
    let s := lendAudits (lendRepeats s)
    if s.lend.claiming then
      if (otherSlots s).all (claimsFrom s) then claimsComplete s
      else if since s.sys.vcn s.lend.queried ≥ 100 then claimQuery s
      else s
    else startBlocks s
  else s

end Sys2Proof.Machine
end

