-- ==== Sys2Proof/Machine/CycleOps.lean ====
section
/-!
DEFINITION. What the runtime and the table engine do within P1 after the inputs stand: launch, evaluation, sequencing, and the content
after the DSU step (R143–R152, R163, R244, R429).
-/
namespace Sys2Proof.Machine

/-! ### The engine (R144–R148) -/

/-- A session of route `n` is in a state from `LOCKING` to `RELEASING` (R136). -/
def routeActive (s : State) (n : Nat) : Bool :=
  s.rt.ses.any fun p => p.2.used && p.2.kind == .route && p.2.obj == n &&
    match p.2.st with
    | .locking | .setting | .proving | .set_ | .occupied | .releasing => true
    | _ => false

/-- A write of ITE_LAUNCH (R144, R146, R149): GO is accepted once per VC, in P1; the tokens are copied. -/
def iteLaunch (w : Word) (s : State) : State :=
  if s.ite.busy then raiseS 0x040C 0 0 s
  else if !bitAt w 0 then s
  else if s.sys.phase ≠ 1 then note 0x040B 0 0 s
  else if s.ite.goTaken then s
  else obsCount 23 1 { s with ite := { s.ite with busy := true, copying := true, goTaken := true, done := false, frozen := s.crd.tok } }

/-- The engine ends (R146, R148): results, digest and DONE; an invalid descriptor or list enters `SAFE`. -/
def iteEvaluate (s : State) : State :=
  let r := evaluate (routeActive s) (crdResume s)
  let t := obsCount 24 (evalClocks s) r.1
  if r.2 then raiseS 0x040A 0 0 t else t

/-- The module sequences sessions: `ACTIVE`, and `BANKED` on its own inputs (R429). -/
def sequences (s : State) : Bool := s.sys.state == .active || s.sys.state == .banked

/-- The runtime's work between the engine and the DSU step (R152, R165, R174, R219, R333, R508); in `JOIN` the edge views alone. -/
def afterEngine (s : State) : State :=
  if sequences s then
    let s := if s.sys.state = .active then dueReturns s else s
    let s := sequence (standingBlocks (signalsWatch s))
    let s := resolveDue (writeViews s)
    { s with rt := { s.rt with sequenced := true } }
  else if s.sys.state = .join then writeViews s
  else s

/-- ITE_DONE. -/
def iteDone (s : State) : State := if s.ite.busy then afterEngine (iteEvaluate s) else s

/-! ### After the DSU step (R163, R221, R232, R244) -/

/-- The edge views count for one step. -/
def viewsUsed (s : State) : State :=
  (List.range 8).foldl (fun s e => if evB s e 7 then s.setRegB (Reg.DSU_EVIEW + 4 * e) 7 false else s) s

/-- The DSU step ends: DONE; door commands are answered, and the content of the VC is formed. In `JOIN`, and in the hand-over of an old
`ACTIVE` member (R431), the vector alone is (R111, R221). -/
def dsuStepDone (s : State) : State :=
  if s.dsu.go && !s.dsu.done then
    let s := viewsUsed { s with dsu := { s.dsu with done := true } }
    if sequences s then
      let s := acceptLate (settleDoors s)
      if s.pcl.handing then writeVector s else formContent s
    else if s.sys.state = .join then writeVector s
    else s
  else s

end Sys2Proof.Machine
end

