-- ==== Sys2Proof/Machine/Recorder.lean ====
section
/-!
DEFINITION. The commands of the recorder and of the journal.
-/
namespace Sys2Proof.Machine

/-- TIME_CHECKPOINT (R389): `ms` is the operating time reached; a checkpoint is written once 1,000 ms have passed since the last. -/
def execTimeCheckpoint (ms : Nat) (s : State) : Host.Outcome State Fault Refusal :=
  let s := timeAdvance ms (evrStarted s)
  .next (if s.evr.ckMs + 1000 ≤ s.evr.ms then timeCheckpoint s else s)

/-- RING_SCAN_DONE (R400). -/
def execRingScanDone (s : State) : Host.Outcome State Fault Refusal := .next (if s.evr.scanDone then s else ringScan (evrStarted s))

/-- EVR_LOG (R395): GO records CODE and ARG of EVR_LOGA and EVR_LOGB. -/
def execEvrLog (w : Word) (s : State) : Host.Outcome State Fault Refusal :=
  .next (if bitAt w 0 then evrRequest ⟨0, s.regF Reg.EVR_LOGA 15 0, s.reg Reg.EVR_LOGB⟩ s else s)

/-- RECORD_REQUEST (R397): the fault channel (1), Mantle (2) or the intake (3). -/
def execRecordRequest (src code : Nat) (arg : Word) (s : State) : Host.Outcome State Fault Refusal :=
  .next (evrRequest ⟨src, code, arg⟩ s)

/-- RECORD_CLOSE (R399). -/
def execRecordClose (s : State) : Host.Outcome State Fault Refusal :=
  match s.evr.newest with
  | some n =>
    if s.evr.ms - n.ms < s.regF Reg.EVR_CONF 31 16 then .next s
    else
      let (s', ok) := evrClose s
      .next (noteIf (!ok) 0x0D03 0 0 s')
  | none => .next s

/-- EVR_NPOST (R402, R403): TYPE 2–8 and a LEN of 24–2,048 in steps of 4; in P4 alone. -/
def execEvrNpost (w : Word) (s : State) : Host.Outcome State Fault Refusal :=
  let ty := field w 31 24
  let len := field w 11 0
  if s.sys.phase ≠ 4 then .next (note 0x0D0A 0 0 s)
  else if ty < 2 ∨ 8 < ty ∨ len < 24 ∨ 2048 < len ∨ len % 4 ≠ 0 then .next (s.setReg Reg.EVR_NSTAT 0xB0000000#32)
  else
    let body := ((List.range (len / 4)).flatMap fun k => le4 (s.reg (Reg.EVR_NWIN + 4 * k))).take (len - 24)
    .next (postNand ty body s)

/-- NAND_PAGE_PROGRAM (R404). -/
def execNandPageProgram (ok : Bool) (s : State) : Host.Outcome State Fault Refusal := .next (nandProgram ok s)

/-- NAND_CONFIRM (R404). -/
def execNandConfirm (nseq : Word) (s : State) : Host.Outcome State Fault Refusal := .next (nandConfirm nseq s)

/-- NAND_START_REPORT (R405). -/
def execNandStartReport (highest : Word) (s : State) : Host.Outcome State Fault Refusal := .next (nandReport highest s)

/-- The CORRELATION record of a connection (R402, R406), posted in P4: SEQ of the newest telegram whose content was accepted, with the VCN
of that acceptance. -/
def correlation (c : Nat) (s : State) : State :=
  let k := s.con c
  recordLater 2 ([byte (conNumber s c), 0#8, 0#8, 0#8] ++ le4 (tSeq k.content) ++ le4 (k.contentVcn.getD 0)) s

/-- CORRELATION_DUE (R406): for every fresh host connection, CORR_T s after the last round. -/
def execCorrelationDue (s : State) : Host.Outcome State Fault Refusal :=
  .next (if s.evr.corrMs + 1000 * s.regF Reg.EVR_CONF 15 8 ≤ s.evr.ms then
      ((connections s).filter fun c => conHost s c && (s.con c).fresh).foldl (fun s c => correlation c s)
        { s with evr := { s.evr with corrMs := s.evr.ms } }
    else s)

/-- The states in which the journal may be written (R409). -/
def jnlOpen (s : State) : Bool :=
  s.live || s.sys.state == .configCheck || s.sys.state == .maint

/-- JNL_WRITE (R409, R421): JNL_EBUF with the commit mark last; a readback difference enters `SAFE`. -/
def execJnlWrite (cell copy : Nat) (readbackOk : Bool) (s : State) : Host.Outcome State Fault Refusal :=
  if s.sys.phase ≠ 4 ∨ ¬ jnlOpen s then .next (note 0x0D0B 15 cell s)
  else if 4080 ≤ cell then .next (jnlResult 4 cell copy s)
  else
    let img := ((List.range 31).flatMap fun k => le4 (s.reg (Reg.JNL_EBUF + 4 * k))) ++ le4 commitMark
    let s' := cellCount cell (s.mramPut (cellOff cell copy) img)
    if readbackOk then .next (jnlResult 0 cell copy s') else .next (raiseS 0x0D0D 15 cell (jnlResult 3 cell copy s'))

/-- JNL_READ (R410, R421): the copy into JNL_EBUF, with JNL's precheck. -/
def execJnlRead (cell copy : Nat) (s : State) : Host.Outcome State Fault Refusal :=
  if s.sys.phase ≠ 4 ∨ ¬ jnlOpen s then .next (note 0x0D0B 15 cell s)
  else if 4080 ≤ cell then .next (jnlResult 4 cell copy s)
  else
    let b := s.mramGet (cellOff cell copy) 128
    let s' := (List.range 32).foldl (fun s k => s.setReg (Reg.JNL_EBUF + 4 * k) (wordAt b (4 * k))) s
    .next (noteIf (copyCheck b == 2) 0x0D08 15 cell (jnlResult (copyCheck b) cell copy s'))

/-- EVR_LOCK (R420). -/
def execEvrLock (w : Word) (s : State) : Host.Outcome State Fault Refusal :=
  .next (if bitAt w 0 then s.setRegB Reg.EVR_LOCK 0 true else s)

end Sys2Proof.Machine
end

