-- ==== Sys2Proof/Machine/RegMap.lean ====
section
/-!
DEFINITION. The register map as one table of blocks (R28): where each block's registers lie, the code of a refused access (R6) and
the lock that makes its configuration read-only.
-/
namespace Sys2Proof.Machine

/-- A block's registers: base, size, units `stride` bytes apart, rows of unit 0, the access code and the lock register of unit 0. -/
structure RegBlock where
  base : Nat
  units : Nat
  stride : Nat
  rows : List RegRow
  code : Nat
  lock : Option Nat
  deriving DecidableEq, Repr

/-- Rows of MBX that belong to the block, and those that belong to a channel. -/
def mbxBlockRows : List RegRow := mbxRows.filter fun r => decide (r.lo < Reg.MBX_CSTAT)

/-- Rows of MBX that belong to a channel. -/
def mbxChanRows : List RegRow := mbxRows.filter fun r => decide (Reg.MBX_CSTAT ≤ r.lo)

/-- The blocks. -/
def regBlocks : List RegBlock :=
  [ ⟨0x40000000, 1, 0x10000, vauRows, 0x0217, none⟩,
    ⟨0x40010000, 1, 0x10000, mntRows, 0x0307, none⟩,
    ⟨0x40020000, 1, 0x10000, iteRows, 0x040B, none⟩,
    ⟨0x40030000, 1, 0x10000, crdRows, 0x0507, some Reg.CRD_ATTR_LOCK⟩,
    ⟨0x40040000, 1, 0x10000, pdsRows, 0x0608, some Reg.PDS_CONF_LOCK⟩,
    ⟨0x40050000, 1, 0x10000, dsuRows, 0x0711, some Reg.DSU_CONF_LOCK⟩,
    ⟨0x40060000, 8, 0x1000, dbcRows, 0x080F, some Reg.DBC_LOCK⟩,
    ⟨0x40070000, 1, 0x10000, sniRows, 0x0910, some Reg.SNI_LOCK⟩,
    ⟨0x40080000, 1, 0x10000, fioRows, 0x0A16, some Reg.FIO_LOCK⟩,
    ⟨0x40090000, 8, 0x100, cvuRows, 0x0B04, none⟩,
    ⟨0x400A0000, 1, 0x1000, mbxBlockRows, 0x0C01, none⟩,
    ⟨0x400A1000, 16, 0x400, mbxChanRows, 0x0C01, none⟩,
    ⟨0x400A5000, 1, 0xB000, [], 0x0C01, none⟩,
    ⟨0x400B0000, 1, 0x10000, evrRows, 0x0D0A, some Reg.EVR_LOCK⟩,
    ⟨0x400C0000, 1, 0x10000, jnlRows, 0x0D0B, none⟩,
    ⟨0x400D0000, 1, 0x10000, pclRows, 0x0E11, some Reg.PCL_LOCK⟩,
    ⟨0x400E0000, 1, 0x10000, suiRows, 0x0F0F, none⟩,
    ⟨0x400F0000, 1, 0x10000, obsRows, 0x1101, none⟩,
    ⟨0x40100000, 1, 0x10000, sysRows, 0x0107, none⟩,
    ⟨0x40110000, 1, 0x10000, cmdRows, 0x100C, some Reg.CMD_LOCK⟩ ]

/-- The block of an address, its unit, and the address in unit 0. -/
def blockAt (a : Nat) : Option (RegBlock × Nat × Nat) :=
  (regBlocks.find? fun b => decide (b.base ≤ a) && decide (a < b.base + b.units * b.stride)).map fun b =>
    (b, (a - b.base) / b.stride, b.base + (a - b.base) % b.stride)

/-- The row of an address of unit 0, and the index of the register in it. -/
def rowIn (rows : List RegRow) (a : Nat) : Option (RegRow × Nat) :=
  (rows.find? fun r => decide (r.lo ≤ a) && decide (a < r.lo + r.count * r.stride) && (a - r.lo) % r.stride == 0).map fun r =>
    (r, (a - r.lo) / r.stride)

/-- A register of the map: block, unit, row, index. -/
structure RegAt where
  block : RegBlock
  unit : Nat
  row : RegRow
  index : Nat
  deriving DecidableEq, Repr

/-- The register at an address; none where the address is reserved or outside the blocks. -/
def regAt (a : Nat) : Option RegAt :=
  match blockAt a with
  | some (b, u, a0) => (rowIn b.rows a0).map fun r => ⟨b, u, r.1, r.2⟩
  | none => none

/-- A configuration register: one that a lock makes read-only. -/
def isConfigReg (a : Nat) : Bool := (regAt a).any fun r => r.row.acc == .lock

end Sys2Proof.Machine
end

