-- ==== Sys2Proof/Machine/ConfigOps.lean ====
section
/-!
DEFINITION. The configuration image and the checks of `CONFIG_CHECK` in their order (R456, R457 and the rules they name).
-/
namespace Sys2Proof.Machine

/-! ### The configuration image (R457) -/

/-- A record of the image. -/
structure CfgRec where
  kind : Nat
  target : Nat
  words : List Word
  deriving DecidableEq, Repr

/-- The records that follow the header, `n` of them; none when the bytes do not spell them exactly. -/
def cfgRecs : Nat → List Byte → Option (List CfgRec)
  | 0, bs => if bs.isEmpty then some [] else none
  | n + 1, bs =>
    let c := halfAt bs 2
    if bs.length < 8 + 4 * c ∨ byteAt bs 1 ≠ 0 then none
    else (cfgRecs n (bs.drop (8 + 4 * c))).map fun r =>
      { kind := byteAt bs 0, target := (wordAt bs 4).toNat, words := wordsOfBytes ((bs.drop 8).take (4 * c)) } :: r

/-- The records of the image in use; none when its frame is wrong. -/
def imageRecs (image : List Byte) : Option (List CfgRec) :=
  let n := image.length
  if 24 ≤ n ∧ wordAt image 0 = 0x43464731#32 ∧ halfAt image 4 = 1 ∧ halfAt image 6 = 0 ∧ (wordAt image 8).toNat = n
      ∧ wordAt image (n - 4) = crc32c (image.take (n - 4)) then
    cfgRecs (wordAt image 16).toNat ((image.drop 20).take (n - 24))
  else none

/-- A time of the RUNTIME record: its default of 120 s where the image has no such record (R181, R184). -/
def runtimeT (r : List Word) (hi lo : Nat) : Nat := ((r.head?).map fun w => field w hi lo).getD 1200

/-- A record is well formed: its KIND, every REGS target a configuration register, START_T and RECLAIM_T in 1–6000 (DEDUCED: R181 and
R184 give the range, no rule names its check; log entry 109). -/
def cfgRecOk (r : CfgRec) : Bool :=
  match r.kind with
  | 1 => isConfigReg r.target && (List.range r.words.length).all fun i => isConfigReg (r.target + 4 * i)
  | 2 => r.target == 0 && r.words.length % 3 == 0
  | 3 => r.target == 0 && r.words.length == 5 && [runtimeT r.words 15 0, runtimeT r.words 31 16].all fun t => decide (1 ≤ t ∧ t ≤ 6000)
  | 4 => r.target == 0 && r.words.length % 12 == 0 && decide (r.words.length ≤ 96)
  | 5 => r.target == 0 && r.words.length % 4 == 0
  | _ => false

/-- The records of the configuration in use. -/
def cfg (s : State) : List CfgRec := (imageRecs s.conf.image).getD []

/-- The words of a KIND, in record order. -/
def cfgWords (s : State) (kind : Nat) : List Word := ((cfg s).filter (·.kind == kind)).flatMap (·.words)

/-- The register writes of the image, in record order. -/
def cfgRegs (s : State) : List (Nat × Word) :=
  ((cfg s).filter (·.kind == 1)).flatMap fun r => (List.range r.words.length).map fun i => (r.target + 4 * i, r.words.getD i 0)

/-- What the image gives a register; its present value where it gives none. -/
def cfgReg (s : State) (a : Nat) : Word := (((cfgRegs s).filter (·.1 == a)).getLast?.map (·.2)).getD (s.reg a)

/-- Writes the registers of the image that lie in a range, each with the bits its register has. -/
def applyRegs (lo hi : Nat) (s : State) : State :=
  ((cfgRegs s).filter fun p => decide (lo ≤ p.1) && decide (p.1 < hi)).foldl (fun s p =>
    s.setReg p.1 (p.2 &&& word (((regAt p.1).map (·.row.mask)).getD 0))) s

/-- Writes every register of the image (used to read the configuration as a whole). -/
def withRegs (s : State) : State := applyRegs 0 (2 ^ 32) s

/-- The connection records: CID, KIND, NUMBER, RX_TMAX, MAXAGE, RESYNC_T, BERTH, in CNUM order. -/
def cfgConns (s : State) : List (Word × Word × Word) :=
  let w := cfgWords s 2
  (List.range (w.length / 3)).map fun i => (w.getD (3 * i) 0, w.getD (3 * i + 1) 0, w.getD (3 * i + 2) 0)

/-- Word 1 and word 2 of a connection record as the runtime keeps them. -/
def connOfCfg (c : Word × Word × Word) : Conn :=
  { (default : Conn) with
    cid := c.1, rxTmax := field c.2.1 23 16, maxAge := field c.2.1 31 24, resyncT := field c.2.2 15 0, berth := bitAt c.2.2 16 }

/-- The modules of the image. -/
def cfgModules (s : State) : List Module :=
  let w := cfgWords s 5
  (List.range (w.length / 4)).map fun i =>
    let x := w.getD (4 * i) 0
    { slot := field x 2 0, member := bit (bitAt x 3), paired := bitAt x 4, ipA := w.getD (4 * i + 1) 0, ipB := w.getD (4 * i + 2) 0 }

/-- The digests of the maintainers' public keys: 12 words each, as the bytes of the image. -/
def maintainers (s : State) : List (List Byte) :=
  let w := cfgWords s 4
  (List.range (w.length / 12)).map fun i => ((w.drop (12 * i)).take 12).flatMap le4

/-- The runtime takes what the image tells it (R457). -/
def takeImage (s : State) : State :=
  let r := cfgWords s 3
  let cs := cfgConns s
  { s with
    conf := { s.conf with
      slot := s.sys.slotCode % 8, member := bit (s.sys.slotCode.testBit 3), modules := cfgModules s
      x1 := r.getD 1 0, x1Prefix := (r.getD 2 0).toNat, prefixA := (r.getD 3 0).toNat, prefixB := (r.getD 4 0).toNat }
    rt := { s.rt with startT := runtimeT r 15 0, reclaimT := runtimeT r 31 16 }
    sni := { s.sni with conn := Tbl.ofFn cs.length fun i => connOfCfg (cs.getD i default) } }

/-! ### Check 1 and check 2 -/

/-- The image and its identity (0x0F0E). -/
def checkImage (s : State) : Bool :=
  match imageRecs s.conf.image with
  | some rs => rs.all cfgRecOk && s.conf.configId == wordAt s.conf.image 12 && s.conf.dataId == s.conf.configId
      && gdConfigId s == s.conf.configId.toNat && mtW s.mnt 8 == s.conf.configId.toNat
  | none => false

/-- The five pins of the slot code hold an even number of ones (R494). -/
def slotParity (c : Nat) : Bool := ((List.range 5).filter c.testBit).length % 2 == 0

/-- The slot code names a declared module (R422, R494, 0x0105); where the configuration lists none, the module stands alone, in the slot of
its geographic data (DEDUCED, log entry 61). -/
def checkSlot (s : State) : Bool :=
  let k := s.sys.slotCode % 8
  let m := bit (s.sys.slotCode.testBit 3)
  slotParity s.sys.slotCode
    && (s.conf.modules.any (fun x => x.slot == k && x.member == m) || (s.conf.modules.isEmpty && m == 0 && gdOwnSlot s == k))

/-! ### Check 4 -/

/-- What the geographic data is checked against (R139). -/
def geoEnv (s : State) : GeoEnv :=
  let t := withRegs s
  let cs := cfgConns s
  { ownSlot := s.conf.slot
    slots := s.conf.slot :: s.conf.modules.map (·.slot)
    ocs := (cs.filter fun c => field c.2.1 7 0 == 0).map fun c => field c.2.1 15 8
    edgesWithUnits := (List.range 8).filter fun e => eF t Reg.DSU_ECONF e 15 0 != 0
    mclass := fun oc b => (mConn s.mnt 0 oc).map fun j => mRule s.mnt j b }

/-- CRD_CONF and CRD_ATTR from the geographic data, then the locks of ITE and CRD (R139, R192). -/
def lockGeo (s : State) : State :=
  let attr (i : Nat) : Nat := let e := elemOf s i
    if e.kind = 0 then 0 else if e.owner = s.conf.slot then 1 else 2
  let s' := (List.range 64).foldl (fun t m =>
    t.setReg (Reg.CRD_ATTR + 4 * m) (word ((List.range 16).foldl (fun a i => a + attr (16 * m + i) * 4 ^ i) 0))) s
  ((s'.setReg Reg.CRD_CONF (word s.conf.slot)).setReg Reg.ITE_LOCK 1#32).setReg Reg.CRD_ATTR_LOCK 1#32

/-! ### Check 5, block by block -/

/-- R212, R217. -/
def checkPds (s : State) : Bool :=
  (List.range 8).all fun e =>
    let c := s.reg (Reg.PDS_ECONF + 4 * e)
    let z := eF s Reg.PDS_ELIM e 12 0
    decide (1 ≤ field c 15 8) && decide (1 ≤ z ∧ z ≤ 5000) && decide (field c 19 18 ≤ 2)
      && (!bitAt c 17 || (mInputs s.mnt 1 e).map (64 + ·) == [eF s Reg.PDS_EIN e 6 0])
      && (!bitAt c 16 || (mInputs s.mnt 2 e).map (64 + ·) == [eF s Reg.PDS_EIN e 14 8])

/-- The inputs that the Mantle table assigns to an edge for LOOP_A, LOOP_B and ESTOP are in use, and DSU_EINe names them (R247). -/
def checkDsuInputs (s : State) (e : Nat) : Bool :=
  let x := s.reg (Reg.DSU_EIN + 4 * e)
  let named (use : Nat) (inUse : Bool) (n : Nat) : Bool := (mInputs s.mnt use e).all fun i => inUse && n == 64 + i
  named 3 (bitAt x 30) (field x 6 0) && named 4 (bitAt x 29) (field x 14 8) && named 5 (bitAt x 31) (field x 22 16)

/-- R237, R247. -/
def checkDsu (s : State) : Bool :=
  (List.range 8).all fun e =>
    checkDsuInputs s e &&
    decide (eF s Reg.DSU_ESSB e 23 16 < eF s Reg.DSU_ESSB e 31 24) && decide (eF s Reg.DSU_ESSA e 31 16 < eF s Reg.DSU_ESSA e 15 0)
      && decide (eF s Reg.DSU_ESSC e 15 0 ≤ eF s Reg.DSU_ECHK e 15 0) && decide (eF s Reg.DSU_ETIM e 7 0 < eF s Reg.DSU_ECHK e 31 16)
      && decide (eF s Reg.DSU_ETRV e 15 0 ≥ eF s Reg.DSU_ECHK e 31 16 + 20) && decide (eF s Reg.DSU_ETRV e 15 0 ≤ eF s Reg.DSU_ETRV e 31 16)
      && decide (eF s Reg.DSU_ETRV e 31 16 ≤ eF s Reg.PDS_ELIM e 31 16) && decide (eF s Reg.DSU_EIN e 28 27 ≤ 1)

/-- The declared input numbers that a rule reads: door supervision, travel clock, INPUT conditions, Mantle. -/
def namedInputs (s : State) : List Nat :=
  let edges := (List.range 8).flatMap fun e =>
    let c := s.reg (Reg.DSU_EIN + 4 * e)
    let p := s.reg (Reg.PDS_ECONF + 4 * e)
    (if bitAt c 31 then [field c 22 16] else []) ++ (if bitAt c 30 then [field c 6 0] else []) ++ (if bitAt c 29 then [field c 14 8] else [])
      ++ (if bitAt p 17 then [eF s Reg.PDS_EIN e 6 0] else []) ++ (if bitAt p 16 then [eF s Reg.PDS_EIN e 14 8] else [])
  let conds := (List.range (gdNCond s)).filterMap fun k =>
    let c := condOf (s.gdWord (gdOffCond s + 4 * k))
    if c.opc = 0x0F then some c.arg else none
  edges ++ conds ++ ((List.range 32).filter fun i => mUse s.mnt i != 0).map (64 + ·)

/-- A shared input without a use in the Mantle table is not named (R340). -/
def sharedNamed (s : State) (i : Nat) : Bool := decide (i < 64) || mUse s.mnt (i - 64) != 0

/-- The STO pairs of an edge (R359): the lower or upper pair of a group whose outputs both serve it. -/
def stoPairs (s : State) (e : Nat) : List Nat :=
  ((List.range 24).map (2 * ·)).filter fun n => oUse n s == 2 && oUse (n + 1) s == 2 && oEdge n s == e && oEdge (n + 1) s == e

/-- R349, R354, R359, R360. -/
def checkFio (s : State) : Bool :=
  let flags (n : Nat) : Nat × Nat × Bool × Bool := (oUse n s, oEdge n s, bitAt (oConf n s) 22, bitAt (oConf n s) 21)
  (List.range 48).all (fun n =>
      decide (oUse n s ≤ 4) && (!bitAt (oConf n s) 21 || oUse n s == 4) && (!(oUse n s == 2 || oUse n s == 3) || bitAt (oConf n s) 22)
        && (parSet n s).all (fun m => flags m == flags n)
        && (oUse n s != 2 || ((stoPairs s (oEdge n s)).any (fun p => p == n || p + 1 == n) && (parSet n s).length == 2)))
    && (List.range 12).all (fun g =>
      decide (field (gConf g s) 2 0 ≤ 4) && bitAt (gConf g s) 31 == (List.range 4).any (fun k => oDeclared (4 * g + k) s)
        && decide (((List.range 8).flatMap fun e => (stoPairs s e).filter fun p => p / 4 == g).length ≤ 1))
    && (List.range 8).all (fun e => (stoPairs s e).length == (if eF s Reg.DSU_ECONF e 15 0 = 0 then 0 else 1))
    && (namedInputs s).all (fun i => bitAt (s.reg (Reg.FIO_ICONF + 4 * i)) 31 && sharedNamed s i)
    && (List.range 96).all (fun i => field (s.reg (Reg.FIO_ICONF + 4 * i)) 7 0 != 0)
    && s.regF Reg.FIO_CONF 7 0 != 0

/-- One phase's timing in a bit timing register (R250): bit length, TSEG2 limits. -/
def phaseTiming (w : Word) (len lo hi : Nat) : Bool :=
  let t2 := field w 23 16
  decide (lo ≤ t2 ∧ t2 ≤ hi) && field w 31 24 == len - 1 - t2 && decide (1 ≤ field w 15 8 ∧ field w 15 8 ≤ t2)

/-- A value that a bit timing register accepts at the channel's data rate (R250). -/
def timingOk (lo : Nat) (fast : Bool) (w : Word) : Bool :=
  if lo = Reg.DBC_NBT then phaseTiming w 80 8 32
  else if lo = Reg.DBC_DBT then (if fast then phaseTiming w 10 2 4 else phaseTiming w 16 2 6)
  else decide (1 ≤ field w 6 0 ∧ field w 6 0 ≤ 63)

/-- The timing values against R250 for the configured data rate. -/
def checkTiming (s : State) (b : Nat) : Bool :=
  let fast := s.regB (busReg Reg.DBC_CONF b) 24
  [Reg.DBC_NBT, Reg.DBC_DBT, Reg.DBC_TDC].all fun lo => timingOk lo fast (s.reg (busReg lo b))

/-- The windows of R253. -/
def checkWindows (s : State) (b : Nat) : Bool :=
  let fast := s.regB (busReg Reg.DBC_CONF b) 24
  let w := if fast then 67 else 81
  let u (i : Nat) : Word := s.reg (busReg Reg.DBC_UWIN b + 4 * i)
  let decl := (List.range 16).filter fun i => bitAt (u i) 31
  decl.all fun i =>
    let a := field (u i) 25 16
    decide (460 ≤ a) && decide (a ≤ if fast then 936 else 922) && (fast || decide (i ≤ 7)) && decide (field (u i) 15 0 ≠ 0)
      && decl.all fun j => j == i || (field (u j) 15 0 != field (u i) 15 0
          && (bitAt (u i) 30 != bitAt (u j) 30 || decide (a + w ≤ field (u j) 25 16) || decide (field (u j) 25 16 + w ≤ a)))

/-- R280 for one bus. -/
def checkDbc (s : State) (b : Nat) : Bool :=
  let decl := (List.range 16).foldl (fun a i => a + bit (bitAt (s.reg (busReg Reg.DBC_UWIN b + 4 * i)) 31) * 2 ^ i) 0
  decide (s.regF (busReg Reg.DBC_CONF b) 29 28 ≤ 2) && checkTiming s b && checkWindows s b
    && decl == eF s Reg.DSU_ECONF b 15 0 && decl == mUnits s.mnt b

/-- The network part of an address with a prefix length. -/
def subnet (n : Nat) (a : Word) : Nat := a.toNat / 2 ^ (32 - n)

/-- R287. -/
def checkSni (s : State) : Bool :=
  let n := s.regF Reg.SNI_CONF 15 8
  let cs := cfgConns s
  let idx := List.range n
  let cids := cs.map (·.1.toNat)
  let seals := (List.range (mNConn s.mnt)).map (mConnSeal s.mnt) ++ (List.range 8).map (mBusSeal s.mnt)
  let ipA := idx.map fun c => s.reg (Reg.SNI_CIPA + 16 * c)
  let ipB := idx.map fun c => s.reg (Reg.SNI_CIPB + 16 * c)
  let ocs := ((List.range 1024).filter fun i => (elemOf s i).oc != 0).map fun i => (elemOf s i).oc
  let hosts := (List.range 8).filter fun h => bitAt (cfgReg s (Reg.CMD_HOST + 4 * h)) 31
  let once (host : Bool) (k : Nat) : Bool := (idx.filter fun c => conHost s c == host && conNumber s c == k).length == 1
  decide (n ≤ 136) && n == mNConn s.mnt && cs.length == n
    && idx.all (fun c =>
      let k := (cs.getD c default).2.1
      let v := connOfCfg (cs.getD c default)
      conEn s c && bit (conHost s c) == field k 7 0 && conNumber s c == field k 15 8
        && mtB s.mnt (196 + 72 * c) == field k 7 0 && mtB s.mnt (197 + 72 * c) == field k 15 8
        && decide (conPexp s c ≤ 5) && decide (conPhase s c < 2 ^ conPexp s c) && once (conHost s c) (conNumber s c)
        && decide (1 ≤ v.rxTmax) && decide (2 ≤ v.maxAge) && decide (100 ≤ v.resyncT ∧ v.resyncT ≤ 10000) && v.cid != 0
        && s.regF (Reg.SNI_CPORT + 16 * c) 15 0 != 0
        && subnet s.conf.prefixA (s.reg (Reg.SNI_CIPA + 16 * c)) == subnet s.conf.prefixA (s.reg Reg.SNI_IPA)
        && subnet s.conf.prefixB (s.reg (Reg.SNI_CIPB + 16 * c)) == subnet s.conf.prefixB (s.reg Reg.SNI_IPB))
    && decide (8 ≤ s.conf.prefixA ∧ s.conf.prefixA ≤ 30) && decide (8 ≤ s.conf.prefixB ∧ s.conf.prefixB ≤ 30)
    && ocs.all (once false) && hosts.all (once true) && cids.eraseDups.length == cids.length && cids.all (fun x => !seals.contains x)
    && ipA.eraseDups.length == n && ipB.eraseDups.length == n
    && (List.range 32).all (fun r => decide ((idx.filter fun c => r % 2 ^ conPexp s c == conPhase s c).length ≤ 64))
    && (List.range 8).all (fun e =>
      let c := s.reg (Reg.PDS_ECONF + 4 * e)
      field c 19 18 != 1 || idx.any (fun k => !conHost s k && conNumber s k == field c 31 24 && (s.con k).berth && conPexp s k == 0))
    && decide (s.regF Reg.SNI_NETT 15 0 < s.regF Reg.SNI_NETT 31 16) && decide (1 ≤ abWin s)
    && idx.all (fun c => !conHost s c || (List.range 64).all fun b =>
      mRule s.mnt c b == (if b < 8 then (3, b) else if b < 16 then (2, b - 8) else (0, 0)))

/-- R335. -/
def checkCmd (s : State) : Bool :=
  let hosts := List.range 8
  let h (n : Nat) : Word := hostReg s n
  let cn (n : Nat) : List Nat := (List.range (s.regF Reg.SNI_CONF 15 8)).filter fun c => conHost s c && conNumber s c == n
  let lo (n : Nat) : Nat := field (h n) 7 0
  let hi (n : Nat) : Nat := lo n + field (h n) 16 8
  hosts.all (fun n =>
      bitAt (h n) 31 == !(cn n).isEmpty
        && (!bitAt (h n) 31 || (decide (lo n < hi n) && decide (hi n ≤ 256) && (!bitAt (h n) 29 || (cn n).all (fun c => conPexp s c == 0))))
        && hosts.all fun m => m == n || !bitAt (h n) 31 || !bitAt (h m) 31 || decide (hi n ≤ lo m) || decide (hi m ≤ lo n))
    && decide (10 ≤ s.regF Reg.CMD_CONF 25 16 ∧ s.regF Reg.CMD_CONF 25 16 ≤ 1000) && decide (1 ≤ s.regF Reg.CMD_CONF 7 4)
    && decide (1 ≤ s.regF Reg.CMD_CONF 3 0 ∧ s.regF Reg.CMD_CONF 3 0 ≤ 3)

/-- R443. -/
def checkPcl (s : State) : Bool :=
  let ms := s.conf.modules
  let me := ms.find? fun m => m.slot == s.conf.slot && m.member == s.conf.member
  isPaired s == (me.map (·.paired)).getD false && inCascade s == decide (ms.length > 1 ∧ (ms.map (·.slot)).eraseDups.length > 1)
    && (!inCascade s || (cascIndexOf s == some (s.regF Reg.PCL_CONF 29 27) && s.regF Reg.PCL_CONF 26 24 + 1 == ms.length))
    && decide (s.regF Reg.PCL_CONF 29 27 < s.regF Reg.PCL_CONF 26 24 + 1)
    && decide (4 ≤ s.regF Reg.PCL_CONF 15 8 ∧ s.regF Reg.PCL_CONF 15 8 ≤ 168) && decide (2 ≤ s.regF Reg.PCL_CONF 23 16)
    && decide (1 ≤ s.regF Reg.PCL_CONF 7 0)
where
  /-- The place of this module in the list of modules. -/
  cascIndexOf (s : State) : Option Nat := s.conf.modules.findIdx? fun m => m.slot == s.conf.slot && m.member == s.conf.member

/-! ### Check 6: the journal (R415, R242, R417) -/

/-- The journal format of the running slot, FORMAT of its header (R415, R463; DEDUCED, log entry 157): 1 where the slot names none. -/
def jnlFormat (s : State) : Nat := ((s.sui.manifest s.sui.running 2).map (·.jnlFormat)).getD 1

/-- Cells of tags and of the standing list are to be rewritten empty, and the header to be rewritten, in P4 (R409, R415). -/
def journalReset (s : State) : State :=
  let s := ((List.range 256).map (1 + ·)).foldl (fun s c => cellLater c 2 (List.replicate 112 0#8) s) s
  let s := (List.range 16).foldl (fun s k => cellLater (321 + k) 4 (List.replicate 112 0#8) s) s
  note 0x0D09 0 0 (cellLater 0 1 (headerPayload s.conf.configId s.conf.slot s.conf.member (jnlFormat s)) s)

/-- The header matches the configuration in use. -/
def headerOk (s : State) : Bool :=
  match cellPayload 0 s with
  | some p => wordAt p 0 == s.conf.configId && byteAt p 4 == s.conf.slot && halfAt p 6 == jnlFormat s
  | none => false

/-- The loads of `CONFIG_CHECK`: counts, checked at the END of their window (R241, R242), standing list, tags, force-stop marks. -/
def journalLoads (s : State) : State :=
  let s := cellDamage 0 s
  let s := if headerOk s then s else journalReset s
  loadTags (loadStanding (countCheck (loadCounts s)))

/-! ### The whole -/

/-- The result of a check: go on, or the code that takes the module to `MAINT`. -/
abbrev Checked := Except (State × Nat) State

/-- A check with its code. -/
def must (ok : Bool) (code : Nat) (s : State) : Checked := if ok then .ok s else .error (s, code)

/-- Writes a block's registers, checks it, and sets its lock. -/
def blockStep (lo hi lock : Nat) (check : State → Bool) (code : Nat) (s : State) : Checked :=
  let s := applyRegs lo hi s
  if check s then .ok (s.setRegB lock 0 true) else .error (s, code)

/-- FIO: its registers are written and locked before they are checked (R360). They name the STO pairs, so the edges of groups that are
already in their local safe state follow here (R42). -/
def fioStep (s : State) : Checked :=
  let s := (applyRegs 0x40080000 0x40090000 s).setRegB Reg.FIO_LOCK 0 true
  if checkFio s then .ok (groupEdges s.fio.held s) else .error (s, 0x0A15)

/-- SNI_IPA and SNI_IPB from the configuration entry of the module's slot and pair member (R284). -/
def ownAddress (s : State) : State :=
  match s.conf.modules.find? fun m => m.slot == s.conf.slot && m.member == s.conf.member with
  | some m => (s.setReg Reg.SNI_IPA m.ipA).setReg Reg.SNI_IPB m.ipB
  | none => s

/-- SNI: the table is checked before its registers are written (R287). -/
def sniStep (s : State) : Checked :=
  let t := ownAddress (applyRegs 0x40070000 0x40080000 s)
  if checkSni t then .ok (t.setRegB Reg.SNI_LOCK 0 true) else .error (s, 0x090F)

/-- The door buses in turn. -/
def busSteps (s : State) : Checked :=
  (List.range 8).foldl (fun r b => r.bind fun s =>
    blockStep (0x40060000 + 0x1000 * b) (0x40061000 + 0x1000 * b) (busReg Reg.DBC_LOCK b) (fun s => checkDbc s b) 0x080E s) (.ok s)

/-- Every check of R456 in its order. -/
def configChecks (s : State) : Checked :=
  (must (checkImage s) 0x0F0E s).bind fun s =>
  let s := takeImage s
  (must (checkSlot s) 0x0105 s).bind fun s =>
  (must s.mnt.tabOk 0x0309 s).bind fun s =>
  (match gdCheck s (geoEnv s) with
    | some c => (Except.error (s, c) : Checked)
    | none => Except.ok (lockGeo s)).bind fun s =>
  (blockStep 0x40040000 0x40050000 Reg.PDS_CONF_LOCK checkPds 0x060B s).bind fun s =>
  (blockStep 0x40050000 0x40060000 Reg.DSU_CONF_LOCK checkDsu 0x0719 s).bind fun s =>
  (fioStep s).bind fun s =>
  (busSteps s).bind fun s =>
  (sniStep s).bind fun s =>
  (blockStep 0x40110000 0x40120000 Reg.CMD_LOCK checkCmd 0x100E s).bind fun s =>
  (blockStep 0x400B0000 0x400C0000 Reg.EVR_LOCK (fun _ => true) 0 s).bind fun s =>
  (blockStep 0x400D0000 0x400E0000 Reg.PCL_LOCK checkPcl 0x0E13 s).bind fun s =>
  .ok (journalLoads s)

/-- A check fails (R456): it is recorded, and the module goes to `MAINT` with its code at the end of this VC. -/
def configFail (code : Nat) (s : State) : State :=
  let s := note code (if code = 0x0105 then 14 else 0) (if code = 0x0105 then s.sys.slotCode else 0) s
  { s with rt := { s.rt with checkFail := some code } }

end Sys2Proof.Machine
end

