-- ==== Sys2Proof/Machine/MbxOps.lean ====
section
/-!
DEFINITION. Mailboxes and doorbells: posts, takes, return codes and endpoint resets (R375–R387).
-/
namespace Sys2Proof.Machine

/-- The data a read returns. -/
def State.answerRead (s : State) (w : Word) : State := { s with sys := { s.sys with rdata := w } }

/-- Channel `n`. -/
def State.chan (s : State) (n : Nat) : Mbx := Tbl.get s.mbx n

/-- Replaces channel `n`. -/
def State.setChan (s : State) (n : Nat) (c : Mbx) : State := { s with mbx := Tbl.set s.mbx n c }

/-- The sender of a channel (R375): 0 the triad, 1 the CP, 2 the SP. -/
def mbSender (n : Nat) : Nat := Tbl.get [(0, 1), (1, 2), (4, 1), (5, 2), (6, 1), (7, 2), (9, 1), (11, 2), (13, 1), (15, 2)] n

/-- The receiver of a channel (R375). -/
def mbReceiver (n : Nat) : Nat := Tbl.get [(2, 1), (3, 2), (4, 2), (5, 1), (8, 1), (10, 2), (12, 1), (14, 2)] n

/-- The most words of a message: 1 on a doorbell, 16 on a short, 64 on a long mailbox. -/
def mbLimit (n : Nat) : Nat := if n < 8 then 1 else if n < 12 then 16 else 64

/-- A long mailbox. -/
def mbLong (n : Nat) : Bool := decide (12 ≤ n)

/-- A channel code with its event bit in the channel's register. -/
def mbNote (n code : Nat) (s : State) : State := noteAt (0x400 * n) code 13 n s

/-- An agent is an endpoint of a channel. -/
def mbEnds (who n : Nat) : Bool := who == mbSender n || who == mbReceiver n

/-- The interrupt of an event at an endpoint, where its enable is set: RXIE 0, EMPTYIE 1, TAKENIE 2, ACKIE 3, LOSTIE 4 (R376, R387). The
triad has none (R383). -/
def mbIrq (n b agent : Nat) (s : State) : State :=
  s.setChan n { s.chan n with irq := setBit 0#5 b (agent != 0 && s.regB (Reg.MBX_CIRQ + 0x400 * n) b) }

/-- A post of words that stand in `rx` or `dbell` of the new message (R376–R378). -/
def mbPost (n len : Nat) (put : Mbx → Mbx) (s : State) : State :=
  let c := s.chan n
  let torn := c.full && c.partRead
  let c' := put { c with
    st := .posted, full := true, len := len, mepoch := c.sepoch, partRead := false, torn := c.torn || torn
    ackTaken := false, ackDone := false, rcode := 0, coll := if c.full then min 0xFFFF (c.coll + 1) else c.coll }
  let s := mbIrq n 0 (mbReceiver n) (s.setChan n c')
  let s := if torn then s.setRegB (Reg.MBX_CEVENT + 0x400 * n) 2 true else s
  if c.full then mbNote n 0x0C02 s else s

/-- The take of a message (R376, R377). -/
def mbTake (n : Nat) (s : State) : State :=
  let c := s.chan n
  mbIrq n (if mbLong n then 2 else 1) (mbSender n) (s.setChan n { c with
    full := false, torn := false, partRead := false, st := if mbLong n then .taken else .empty, ackTaken := c.ackTaken || mbLong n })

/-- The receiver's read of a doorbell: the value is delivered and cleared, a message that waits is taken (R376). -/
def mbDbellTake (n : Nat) (s : State) : State :=
  let v := (s.chan n).dbell
  let s := if (s.chan n).full then mbTake n s else s
  (s.setChan n { s.chan n with dbell := 0 }).answerRead v

/-- The receiver's read of word LEN − 1 (R376). -/
def mbLastRead (n : Nat) (s : State) : State :=
  let c := s.chan n
  (if c.full then mbTake n s else s).answerRead (Tbl.get c.rx (c.len - 1))

/-- The return code of a taken long message (R377). -/
def mbRcode (n rcode : Nat) (s : State) : State :=
  mbIrq n 3 (mbSender n) (s.setChan n { s.chan n with st := .acked, ackDone := true, rcode := rcode % 65536 })

/-- An access of an endpoint that R385 does not allow: ignored, reads 0. -/
def mbRefused (n : Nat) (s : State) : State :=
  (note 0x0C01 13 n s).answerRead 0

/-- The agent runs: the CP and the SP do not while they are held in reset (R27, R444, R447). -/
def agentRuns (who : Nat) (s : State) : Bool := match who with
  | 1 => !s.sys.cp.reset
  | 2 => !s.sys.sp.reset
  | _ => true

/-- An access that the firewall blocks (R25). -/
def firewalled (s : State) : State := note 0x0109 0 0 s

/-- The firewall lets the agent reach the channel: the triad reaches all. -/
def mbReaches (who n : Nat) : Bool := who == 0 || mbEnds who n

/-- An agent's access that it may not make: the CP and the SP reach their own channels alone (R25, R385). -/
def mbDenied (who n : Nat) (s : State) : State :=
  if mbReaches who n then mbRefused n s else (firewalled s).answerRead 0

/-- The receiver of a channel is reset (R379). -/
def mbRxReset (n : Nat) (s : State) : State :=
  let c := s.chan n
  let lost := c.full || c.st == .taken
  let c' := { c with rx := [], dbell := 0, full := false, len := 0, partRead := false }
  if lost then mbNote n 0x0C03 (mbIrq n 4 (mbSender n) (s.setChan n { c' with st := .lostRxReset, lost := min 0xFFFF (c.lost + 1) }))
  else s.setChan n c'

/-- The sender of a channel is reset (R380). -/
def mbTxReset (n : Nat) (s : State) : State :=
  let c := s.chan n
  s.setChan n { c with tx := [], sepoch := (c.sepoch + 1) % 256 }

/-- The CP (1) or the SP (2) is reset alone. -/
def mbProcReset (p : Nat) (s : State) : State :=
  (List.range 16).foldl (fun s n =>
    let s := if mbReceiver n = p then mbRxReset n s else s
    if mbSender n = p then mbTxReset n s else s) s

/-- The runtime's service of its inbound channels in P4 (R383): the return codes of the long messages taken before (free values:
their meaning belongs to the endpoints' protocol, R377), then every message that waits. -/
def mbService (s : State) : State :=
  let s := [13, 15].foldl (fun s n =>
    if (s.chan n).st = .taken then
      let (v, s) := s.takeFree
      mbRcode n v.toNat s
    else s) s
  let s := [6, 7].foldl (fun s n => if (s.chan n).full then mbDbellTake n s else s) s
  [9, 11, 13, 15].foldl (fun s n => if (s.chan n).full then mbLastRead n s else s) s

/-- One processor's heartbeat in P4 (R27): taken, or one VC more without it. -/
def heartbeatTake (n : Nat) (p : Proc) (s : State) : Proc × State :=
  if (s.chan n).full then ({ p with miss := 0 }, mbDbellTake n s) else ({ p with miss := p.miss + 1 }, s)

end Sys2Proof.Machine
end

