-- ==== Sys2Proof/Machine/RegisterView.lean ====
section
/-!
DEFINITION. What a read of a register shows: registers that show a machine's state are computed from it, every other register
stands in the register table (the field maps of the register chapters). Addresses of channels and units are those of number 0.
-/
namespace Sys2Proof.Machine

/-- A computed register: `n` registers from `lo` on, `stride` bytes apart. -/
structure View where
  lo : Nat
  n : Nat
  stride : Nat
  f : Nat → Word

/-- One computed register. -/
def view1 (lo : Nat) (w : Word) : View := ⟨lo, 1, 4, fun _ => w⟩

/-- `n` computed registers in a row. -/
def viewN (lo n : Nat) (f : Nat → Word) : View := ⟨lo, n, 4, f⟩

/-- The index of an address in a view. -/
def View.index (v : View) (a : Nat) : Option Nat :=
  if v.lo ≤ a ∧ a < v.lo + v.n * v.stride ∧ (a - v.lo) % v.stride = 0 then some ((a - v.lo) / v.stride) else none

/-- Word `k` of a bit vector. -/
def wordOf {n : Nat} (b : BitVec n) (k : Nat) : Word := (b >>> (32 * k)).setWidth 32

/-- Word `k` of bytes, the first in [7:0]. -/
def wordOfBytes (bs : List Byte) (k : Nat) : Word := word (ofLe ((bs.drop (4 * k)).take 4))

/-- Minutes in milliseconds. -/
def msMinutes (ms : Nat) : Nat := ms / 60000

/-! ### SYS, VAU, MNT -/

/-- SYS_BC_POS. -/
def bcPos (vcn : Word) : Word := word (vcn.toNat % 2 * 16 + vcn.toNat / 2 % 8)

/-- SYS (R47, R68). -/
def sysViews (s : State) : List View :=
  [view1 Reg.SYS_STATE (sysStateWord s), view1 Reg.SYS_LOCAL_SAFE (localSafeWord s), view1 Reg.SYS_VCN s.sys.vcn,
   view1 Reg.SYS_VC_POS (word (s.sys.phase % 8 * 2 ^ 16 + s.sys.tick % 2 ^ 15)),
   view1 Reg.SYS_VC_TRIM (word (unsigned 4 s.sys.trim)), view1 Reg.SYS_BC_POS (bcPos s.sys.vcn)]

/-- VAU (R102): PENDING follows the hardware, the rest stands as of 990 µs. -/
def vauViews (s : State) : List View :=
  [view1 Reg.VAU_STAT (putField (s.reg Reg.VAU_STAT) 10 8 s.vau.pending.toNat)]

/-- MNT_STAT. -/
def mntStat (s : State) : Word :=
  let m := s.mnt
  word (bit s.sys.vcOn * 2 ^ 31 + bit m.tabOk * 2 ^ 7 + bit m.vecOk * 2 ^ 6 + bit s.vau.debug * 2 ^ 5 + bit (mOk s.vau.debug m) * 2 ^ 4
    + (match m.st with
      | .wait => 0
      | .run => 1
      | .hold => 2
      | .idle => 3
      | .msafe => 4))

/-- MNT (R130): what follows Mantle as it changes. -/
def mntViews (s : State) : List View :=
  let m := s.mnt
  [view1 Reg.MNT_STAT (mntStat s), view1 Reg.MNT_AGREE (word (m.da.toNat * 2 ^ 20 + m.sa.toNat * 2 ^ 12 + m.ga.toNat))]

/-! ### ITE, CRD, PDS, DSU -/

/-- ITE (R167). -/
def iteViews (s : State) : List View :=
  let i := s.ite
  [view1 Reg.ITE_STAT (word (i.nses % 256 * 2 ^ 8 + bit (s.regB Reg.ITE_LOCK 0) * 4 + bit i.busy * 2 + bit i.done))]

/-- CRD (R192). -/
def crdViews (s : State) : List View :=
  let c := s.crd
  let busy := !c.heldOps.isEmpty || (c.censusGo && !c.censusDone)
  let pair (hi lo : Nat) : Word := word (hi * 2 ^ 16 + lo)
  [view1 Reg.CRD_STAT (word (bit c.loading * 2 ^ 31 + bit (s.regB Reg.CRD_ATTR_LOCK 0) * 2 ^ 30 + bit c.censusDone * 2 ^ 29 + bit busy * 2 ^ 28
     + min 255 c.ops * 2 ^ 16 + dueCount s)),
   view1 Reg.CRD_CNT_FH (pair c.nHeld c.nFree), view1 Reg.CRD_CNT_RB (pair c.nBlk c.nRel), view1 Reg.CRD_CNT_LR (pair c.nRem c.nLent),
   viewN Reg.CRD_TOKEN 1024 s.tok]

/-- The leaves that satisfy a test. -/
def leafCount (p : Nat → Bool) : Nat := ((List.range 256).filter p).length

/-- PDS_POSl. -/
def posWord (s : State) (l : Nat) : Word :=
  let p := s.leaf l
  let st : Nat := match p.st with
    | .waiting => 0
    | .valid => 1
    | .coast => 2
    | .lost => 3
  word (min 3 p.miss * 2 ^ 20 + bit (p.jumped && p.isNew) * 2 ^ 19 + bit p.isNew * 2 ^ 18 + st * 2 ^ 16 + p.pos % 65536)

/-- PDS_VELl. -/
def velWord (s : State) (l : Nat) : Word := word ((s.leaf l).trv % 65536 * 65536 + unsigned 16 (s.leaf l).vel)

/-- PDS (R217). -/
def pdsViews (s : State) : List View :=
  let nlost := leafCount fun l => leafTracked s l && (s.leaf l).st == .lost
  let nvalid := leafCount fun l => leafDeclared s l && (s.leaf l).st == .valid
  [view1 Reg.PDS_STAT (word (bit s.pds.ready * 2 ^ 31 + bit (s.regB Reg.PDS_CONF_LOCK 0) * 2 ^ 30 + nlost * 2 ^ 16 + nvalid)),
   viewN Reg.PDS_FIRED 16 (fun m => bitsOf 32 fun i => s.regB (Reg.PDS_SLOTR + 4 * (32 * m + i)) 16),
   view1 Reg.PDS_BFIRED (bitsOf 32 fun j => s.regB (Reg.PDS_BSLOTR + 4 * j) 16),
   viewN Reg.PDS_POS 256 (posWord s), viewN Reg.PDS_VEL 256 (velWord s)]

/-- DSU_ECAUSEe. -/
def ecauseWord (s : State) (e : Nat) : Word :=
  let d := s.edge e
  if d.ss || d.st == .localSafe then word (d.cause % 65536) else 0

/-- DSU_LEAFi. -/
def leafWord (s : State) (i : Nat) : Word :=
  let d := s.dleaf i
  word (d.st.code * 2 ^ 28 + bit d.cyc * 2 ^ 27 + bit d.creep * 2 ^ 26 + bit d.held * 2 ^ 25 + bit d.unitSs * 2 ^ 24 + d.reopens % 16 * 2 ^ 20
    + min 65535 d.timer)

/-- DSU_LSSi. -/
def lssWord (s : State) (i : Nat) : Word :=
  let d := s.dleaf i
  word (d.v0 % 65536 * 65536 + if d.st = .stopping then d.limit % 65536 else 0)

/-- DSU (R247). -/
def dsuViews (s : State) : List View :=
  let d := s.dsu
  let edges (p : DEdge → Bool) : Nat := (bitsOf 8 fun e => p (s.edge e)).toNat
  [view1 Reg.DSU_STAT (word (bit d.done * 2 ^ 31 + bit (d.go && !d.done) * 2 ^ 30 + bit (s.regB Reg.DSU_CONF_LOCK 0) * 2 ^ 29
     + bit d.loading * 2 ^ 28 + leafCount (fun l => (s.dleaf l).cyc) * 2 ^ 16 + edges (·.st == .localSafe) * 2 ^ 8 + edges (·.ss))),
   viewN Reg.DSU_ESTATE 8 (estateWord s), viewN Reg.DSU_ECAUSE 8 (ecauseWord s),
   viewN Reg.DSU_EBLK 16 (fun k => wordOf (edgeBlock s (k / 2)) (k % 2)),
   viewN Reg.DSU_UCMD 32 (fun m => word (ofLe ((List.range 4).map fun i => byte (unitCmd s (4 * m + i))))),
   viewN Reg.DSU_UREP 128 (fun u => (s.dunit u).rep), viewN Reg.DSU_LEAF 256 (leafWord s), viewN Reg.DSU_LSS 256 (lssWord s),
   viewN Reg.DSU_CNTO 256 (fun i => (s.dleaf i).opened), viewN Reg.DSU_CNTC 256 (fun i => (s.dleaf i).closed),
   viewN Reg.DSU_CNTA 256 (fun i => (s.dleaf i).aborted)]

/-! ### DBC, SNI, CMD -/

/-- DBC_STAT.STATE. -/
def BusSt.code : BusSt → Nat
  | .off => 0
  | .listen => 1
  | .master => 2
  | .backup => 3
  | .safeTx => 4
  | .silent => 5
  | .sleep => 6

/-- A DBC_TXSTAT field. -/
def TxSt.code : TxSt → Nat
  | .none => 0
  | .pending => 1
  | .sent => 2
  | .cancelled => 3
  | .tooLate => 4
  | .notSealed => 5
  | .failed => 6
  | .lostArb => 7
  | .busBusy => 8

/-- One door bus channel (R281). -/
def dbcViews (b : Nat) (s : State) : List View :=
  let d := s.bus b
  let synced := decide (d.sinceRef.getD 9 < 4)
  [view1 Reg.DBC_STAT (word (d.st.code * 2 ^ 29 + bit synced * 2 ^ 28 + bit d.mcValid * 2 ^ 27 + bit d.alone * 2 ^ 26 + d.err % 4 * 2 ^ 24
     + bit d.refOther * 2 ^ 23 + d.bc % 8 * 2 ^ 16 + s.regF (busReg Reg.DBC_STAT b) 15 0)),
   view1 Reg.DBC_TIME (word (1000 * s.sys.vcn.toNat + unsigned 32 (-d.tofs))), view1 Reg.DBC_TOFS (word (unsigned 16 d.tofs)),
   view1 Reg.DBC_TXSTAT (word (d.txRef.code * 256 + d.txOrd.code * 16 + d.txCmd.code))]

/-- The receive buffers of a port: 80 words for each copy. -/
def rxBuf (cs : List RxCopy) (k : Nat) : Word := wordOfBytes ((cs[k / 80]?.map (·.bytes)).getD []) (k % 80)

/-- SNI (R308). -/
def sniViews (s : State) : List View :=
  let n := s.sni
  [view1 Reg.SNI_STAT (word (bit n.ready * 2 ^ 31 + bit (s.regB Reg.SNI_LOCK 0) * 2 ^ 30 + bit n.txDone * 2 ^ 29 + bit n.netA.link * 2 ^ 27
     + bit n.netB.link * 2 ^ 26 + n.snapB.length % 128 * 2 ^ 16 + n.snapA.length % 128 * 2 ^ 8 + n.ntx % 128)),
   viewN Reg.SNI_RXDA 64 (fun k => (n.snapA[k]?.map copyDesc).getD 0), viewN Reg.SNI_RXDB 64 (fun k => (n.snapB[k]?.map copyDesc).getD 0),
   viewN Reg.SNI_TXBUF 5120 (fun k => wordOfBytes (Tbl.get n.tx (k / 80)) (k % 80)),
   viewN Reg.SNI_RXBUFA 5120 (rxBuf n.snapA), viewN Reg.SNI_RXBUFB 5120 (rxBuf n.snapB)]

/-- The bytes of a consumed packet (R309). -/
def pktBytes (p : Pkt) : List Byte :=
  [1#8, byte p.opc, 0, 0, byte p.ses, byte p.tag] ++ le2 p.params.length ++ le4 p.hseq ++ le4 p.hvcn ++ p.params

/-- Tag states as CMD_TAGt codes them (R315). -/
def TagSt.code : TagSt → Nat
  | .free => 0
  | .held => 1
  | .queued => 2
  | .invalid n => n
  | .active => 3

/-- CMD_TAGt. -/
def tagWord (s : State) (t : Nat) : Word :=
  let g := s.tag t
  word (g.st.code * 2 ^ 29 + bit g.stored.isSome * 2 ^ 28 + bit g.hseq.isSome * 2 ^ 27 + g.host % 8 * 2 ^ 24 + g.opc % 256 * 2 ^ 16
    + g.status % 256 * 2 ^ 8 + g.ses % 256)

/-- CMD (R337). -/
def cmdViews (s : State) : List View :=
  let c := s.cmd
  let q := Tbl.get c.out c.outSel
  let pkt := (c.queue.head?.map pktBytes).getD []
  [view1 Reg.CMD_STAT (word (bit (s.regB Reg.CMD_LOCK 0) * 2 ^ 31 + bit c.loading * 2 ^ 30 + bit c.creditOk * 2 ^ 29 + c.handed % 256 * 2 ^ 16
     + countTags s (· == .queued))),
   view1 Reg.CMD_CREDIT (word (c.nHeld * 2 ^ 20 + c.nFlight * 2 ^ 10 + c.nFree)),
   view1 Reg.CMD_HEAD ((c.queue.head?.map fun p =>
     word (2 ^ 31 + p.host % 8 * 2 ^ 24 + p.tag % 256 * 2 ^ 16 + p.opc % 256 * 2 ^ 8 + p.ses % 256)).getD 0),
   view1 Reg.CMD_OUTHEAD ((q.head?.map fun r => word (2 ^ 31 + q.length % 512 * 2 ^ 16 + paddedLen r.bytes % 128)).getD 0),
   viewN Reg.CMD_PKT 64 (wordOfBytes pkt), viewN Reg.CMD_RBUF 64 (fun k => word (ofLe (Tbl.getList c.rbuf (4 * k) 4))),
   viewN Reg.CMD_OBUF 64 (wordOfBytes ((q.head?.map (·.bytes)).getD [])),
   viewN Reg.CMD_TAG 256 (tagWord s), viewN Reg.CMD_TSEQ 256 (fun t => (s.tag t).hseq.getD (s.reg (Reg.CMD_TSEQ + 4 * t)))]

/-! ### FIO, CVU, MBX, EVR, JNL -/

/-- FIO (R362): the raw registers show the paths as filtered. -/
def fioViews (s : State) : List View :=
  let f := s.fio
  [view1 Reg.FIO_STAT (word (bit f.ready * 2 ^ 31 + bit (s.regB Reg.FIO_LOCK 0) * 2 ^ 30 + bit f.silent * 2 ^ 29 + bit f.committed * 2 ^ 28))]

/-- One check-value unit (R374): the bits of POLY, INIT and XOR at W and above read as 0 (R365). -/
def cvuViews (n : Nat) (s : State) : List View :=
  let c := Tbl.get s.cvu n
  let pair (a : Nat) : BitVec 64 := lowBits (cvuW n s) (cvuPair n a s)
  [view1 Reg.CVU_STAT (word (bit c.open_ * 2 ^ 31 + bit c.done * 2 ^ 29 + bit c.matched * 2 ^ 28 + bit c.short * 2 ^ 27 + bit c.failed * 2 ^ 26)),
   view1 Reg.CVU_RESULT_LO (wordOf c.result 0), view1 Reg.CVU_RESULT_HI (wordOf c.result 1), view1 Reg.CVU_CHECK_LO (wordOf c.check 0),
   view1 Reg.CVU_CHECK_HI (wordOf c.check 1), view1 Reg.CVU_APPEND_LO (wordOf c.append 0), view1 Reg.CVU_APPEND_HI (wordOf c.append 1),
   view1 Reg.CVU_POLY_LO (wordOf (pair Reg.CVU_POLY_LO) 0), view1 Reg.CVU_POLY_HI (wordOf (pair Reg.CVU_POLY_LO) 1),
   view1 Reg.CVU_INIT_LO (wordOf (pair Reg.CVU_INIT_LO) 0), view1 Reg.CVU_INIT_HI (wordOf (pair Reg.CVU_INIT_LO) 1),
   view1 Reg.CVU_XOR_LO (wordOf (pair Reg.CVU_XOR_LO) 0), view1 Reg.CVU_XOR_HI (wordOf (pair Reg.CVU_XOR_LO) 1),
   view1 Reg.CVU_COUNT c.count]

/-- SSTAT. -/
def MbxSt.code : MbxSt → Nat
  | .empty => 0
  | .posted => 1
  | .taken => 2
  | .acked => 3
  | .lostRxReset => 4

/-- MBX, the block (R387). -/
def mbxViews (s : State) : List View :=
  [view1 Reg.MBX_STAT (putField (s.reg Reg.MBX_STAT) 15 0 (bitsOf 16 fun n => (s.chan n).full).toNat)]

/-- One mailbox channel (R387), as the triad reads it. -/
def mbxChanViews (n : Nat) (s : State) : List View :=
  let c := s.chan n
  [view1 Reg.MBX_CSTAT (word (c.st.code * 2 ^ 29 + bit c.full * 2 ^ 28 + bit c.torn * 2 ^ 27 + c.sepoch % 256 * 2 ^ 16 + c.mepoch % 256 * 2 ^ 8
     + c.len % 128)),
   view1 Reg.MBX_ACK (word (bit c.ackTaken * 2 ^ 31 + bit c.ackDone * 2 ^ 30 + c.rcode % 65536)),
   view1 Reg.MBX_CCNT (word (c.lost * 65536 + c.coll)), view1 Reg.MBX_DBELL c.dbell, viewN Reg.MBX_RXBUF 64 (Tbl.get c.rx)]

/-- EVR (R420). -/
def evrViews (s : State) : List View :=
  let e := s.evr
  [view1 Reg.EVR_STAT (s.reg Reg.EVR_STAT &&& 0x20000000#32 |||
     word (bit e.scanDone * 2 ^ 31 + bit (s.regB Reg.EVR_LOCK 0) * 2 ^ 30 + (e.fill + 1023) / 1024)),
   view1 Reg.EVR_TAG_LO (word e.tag), view1 Reg.EVR_TAG_HI (word (e.tag / 2 ^ 32)), view1 Reg.EVR_RSEQ e.rseq, view1 Reg.EVR_NSEQ e.nseq]

/-- JNL (R421). -/
def jnlViews (s : State) : List View :=
  [view1 Reg.JNL_STAT (putField (s.reg Reg.JNL_STAT) 7 0 (min 255 s.jnl.written.length))]

/-! ### PCL, SUI, OBS -/

/-- The last frame taken of a cascade index; none before the first. -/
def crxBytes (s : State) (q : Nat) : List Byte :=
  let f := Tbl.get s.pcl.crx q
  if f = default then [] else cascBody f ++ le4 f.crc

/-- PCL (R443). -/
def pclViews (s : State) : List View :=
  let p := s.pcl
  let stat := (s.reg Reg.PCL_STAT &&& 0x08F00000#32) |||
    word (bit (timingMaster s) * 2 ^ 31 + bit (decide (p.linkAge < 2)) * 2 ^ 30 + bit (decide (p.oxfenAge < 2)) * 2 ^ 29 + bit p.ready * 2 ^ 28
      + bit p.trigger.isSome * 2 ^ 26 + bit (s.reg Reg.PCL_SWAP_VCN != 0) * 2 ^ 25)
  [view1 Reg.PCL_STAT stat,
   view1 Reg.PCL_CMEMB ((s.reg Reg.PCL_CMEMB &&& 0xFF#32) ||| ((cascActive s).setWidth 32 <<< 8)),
   viewN Reg.PCL_CRXBUF 2560 (fun k => wordOfBytes (crxBytes s (k / 320)) (k % 320))]

/-- SUI_OP.OP of the operation in progress, SUI_STAT (R478). -/
def suiStat (u : Sui) : Word :=
  word (bit (u.busy != 0) * 2 ^ 31 + bit u.lock.isSome * 2 ^ 30 + bit u.recovery * 2 ^ 29 + bit u.failed * 2 ^ 28 + u.busy % 16 * 2 ^ 24)

/-- SUI_BOOT. -/
def suiBoot (u : Sui) : Word :=
  let x := selNow u
  word (x.group % 8 * 2 ^ 24 + bit (u.sel true).isSome * 2 ^ 11 + bit (u.sel false).isSome * 2 ^ 10 + x.st % 4 * 2 ^ 8
    + x.boots % 4 * 2 ^ 4 + x.slot % 2 * 2 + u.running % 2)

/-- Minutes until the deadline of a trial (R471): 24 h of operating time from ACTIVE_MS, or from TRIAL_MS while it is not written. -/
def trialMinutes (s : State) : Nat :=
  if onTrial s.sui then 1440 - min 1440 (msMinutes (s.evr.ms - (selNow s.sui).activeMs.getD (selNow s.sui).trialMs)) else 0

/-- SUI_TRIAL. -/
def suiTrial (s : State) : Word :=
  let u := s.sui
  word (bit (onTrial u && (selNow u).activeMs.isSome) * 2 ^ 31 + bit u.revertPending * 2 ^ 30 + trialMinutes s)

/-- SUI (R478): shown from `BOOT` on. -/
def suiViews (s : State) : List View :=
  let u := s.sui
  let days := (s.evr.ms - u.refreshMs) / 86400000
  let hours := min 65535 ((s.evr.ms - u.verifyMs) / 3600000)
  if s.sys.state = .off ∨ s.sys.state = .kindling then
    [⟨Reg.SUI_STAT, 1, 4, fun _ => 0⟩, view1 Reg.SUI_BOOT 0, view1 Reg.SUI_SELSEQ 0, viewN Reg.SUI_BUNDLE 4 (fun _ => 0), view1 Reg.SUI_UPD 0,
     view1 Reg.SUI_UPDBLK 0, view1 Reg.SUI_TRIAL 0, view1 Reg.SUI_RETAIN 0, view1 Reg.SUI_KEYS 0]
  else
    [view1 Reg.SUI_STAT (suiStat u), view1 Reg.SUI_BOOT (suiBoot u),
     view1 Reg.SUI_SELSEQ (selNow u).seq, viewN Reg.SUI_BUNDLE 4 u.runningBundle,
     view1 Reg.SUI_UPD (word (u.xfer.st % 8 * 2 ^ 29 + u.xfer.target % 2 * 2 ^ 28 + u.xfer.group % 16 * 2 ^ 24)),
     view1 Reg.SUI_UPDBLK (word (u.xfer.next % 65536 * 65536 + u.xfer.total % 65536)), view1 Reg.SUI_TRIAL (suiTrial s),
     view1 Reg.SUI_RETAIN (word (min 65535 days * 65536 + hours)), view1 Reg.SUI_KEYS (keysWord u)]

/-- A fixed counter as the core reads it: a class T event reads 0 (R480). -/
def fixView (s : State) (i : Nat) : Nat := if obsClassT i then 0 else (s.obsOf (obsRef s)).fix.getD i 0

/-- A programmable counter as the core reads it: one that names a class T event, or holds counts of one, reads 0 (R480). -/
def prgView (s : State) (k : Nat) : Nat :=
  if obsClassT (field (psel s k) 6 0) || bitAt s.obs.prgT k then 0 else (s.obsOf (obsRef s)).prg.getD k 0

/-- OBS_OVF0 and OBS_OVF1 as the core reads them: without the wraps of class T counts (R480; DEDUCED, log entry 47). -/
def ovfView (s : State) (j : Nat) : Word :=
  let o := (s.obsOf (obsRef s)).ovf
  bitsOf 32 fun b =>
    let n := 32 * j + b
    bitAt o n && (if n < 48 then !obsClassT n else decide (n < 56) && !bitAt s.obs.ovfT (n - 48))

/-- OBS (R491), as the core reads it: class T values read 0 (R480). -/
def obsViews (s : State) : List View :=
  let o := s.obs
  [view1 Reg.OBS_STAT (word (bit o.linkSent * 2 ^ 31 + bit o.tagValid * 2 ^ 30 + o.seg % 16)),
   view1 Reg.OBS_TAGCTL (s.reg Reg.OBS_TAGCTL &&& 0x1F01#32),
   viewN Reg.OBS_OVF0 2 (ovfView s),
   ⟨Reg.OBS_FIX_LO, 48, 8, fun i => word (fixView s i)⟩, ⟨Reg.OBS_FIX_HI, 48, 8, fun i => word (fixView s i / 2 ^ 32)⟩,
   ⟨Reg.OBS_PCNT_LO, 8, 8, fun k => word (prgView s k)⟩, ⟨Reg.OBS_PCNT_HI, 8, 8, fun k => word (prgView s k / 2 ^ 32)⟩,
   viewN Reg.OBS_SEGL 16 (fun _ => 0), viewN Reg.OBS_SEGH 16 (fun _ => 0),
   viewN Reg.OBS_TAGREC 8 (fun k => if k = 1 then 0 else if k = 2 then s.reg (Reg.OBS_TAGREC + 8) &&& 0x1C#32 else s.reg (Reg.OBS_TAGREC + 4 * k))]

/-! ### A register's value -/

/-- The computed registers of the block at a base address, of unit `u`. -/
def viewsAt (s : State) (base u : Nat) : List View :=
  match base with
  | 0x40000000 => vauViews s
  | 0x40010000 => mntViews s
  | 0x40020000 => iteViews s
  | 0x40030000 => crdViews s
  | 0x40040000 => pdsViews s
  | 0x40050000 => dsuViews s
  | 0x40060000 => dbcViews u s
  | 0x40070000 => sniViews s
  | 0x40080000 => fioViews s
  | 0x40090000 => cvuViews u s
  | 0x400A0000 => mbxViews s
  | 0x400A1000 => mbxChanViews u s
  | 0x400B0000 => evrViews s
  | 0x400C0000 => jnlViews s
  | 0x400D0000 => pclViews s
  | 0x400E0000 => suiViews s
  | 0x400F0000 => obsViews s
  | 0x40100000 => sysViews s
  | 0x40110000 => cmdViews s
  | _ => []

/-- What the register at an address of a block holds, its reserved bits 0 (R7). -/
def regValue (s : State) (a : Nat) (r : RegAt) : Word :=
  let a0 := r.row.lo + r.index * r.row.stride
  let w := match (viewsAt s r.block.base r.unit).findSome? fun v => (v.index a0).map v.f with
    | some w => w
    | none => s.reg a
  w &&& word r.row.mask

/-- Registers whose value the model has no source for: measured readings (DESIGN CHOICE, log entry 4). -/
def openValue (a : Nat) : Bool :=
  let arr (lo n stride : Nat) : Bool := decide (lo ≤ a) && decide (a < lo + n * stride)
  arr Reg.FIO_FEEDV 6 4
    || arr Reg.FIO_IRAWA 3 4 || arr Reg.FIO_IRAWB 2 4

/-- The address is that of an OBS counter's low word: its value moves on to the present at the read. -/
def isCounter (a : Nat) : Bool := decide (Reg.OBS_FIX_LO ≤ a) && decide (a < Reg.OBS_PCNT_LO + 64) && a % 8 == 0

/-! ### Digests (R214, R245) -/

/-- The words of `n` registers of the table. -/
def regWords (s : State) (lo n : Nat) : List Word := (List.range n).map fun i => s.reg (lo + 4 * i)

/-- PDS_DIGEST (R214). -/
def pdsDigest (s : State) : Word :=
  crc32cWords (regWords s Reg.PDS_BSTAT 8 ++ (List.range 256).map (posWord s) ++ (List.range 256).map (velWord s)
    ++ regWords s Reg.PDS_SLOTC 512 ++ regWords s Reg.PDS_SLOTA 512 ++ regWords s Reg.PDS_SLOTR 512 ++ regWords s Reg.PDS_SLOTT 512
    ++ regWords s Reg.PDS_BSLOTC 32 ++ regWords s Reg.PDS_BSLOTA 32 ++ regWords s Reg.PDS_BSLOTR 32 ++ regWords s Reg.PDS_BSLOTT 32)

/-- DSU_DIGEST (R245). -/
def dsuDigest (s : State) : Word :=
  crc32cWords ((List.range 8).map (estateWord s) ++ (List.range 8).map (ecauseWord s) ++ (List.range 256).map (leafWord s)
    ++ (List.range 256).map (lssWord s) ++ (List.range 256).map (fun i => (s.dleaf i).opened)
    ++ (List.range 256).map (fun i => (s.dleaf i).closed) ++ (List.range 256).map fun i => (s.dleaf i).aborted)

end Sys2Proof.Machine
end

