-- ==== Sys2Proof/Machine/VauOps.lean ====
section
/-!
DEFINITION. Voting and alignment: minorities, the vote, signatures, fence, split and the rejoin sequence, region monitors
(R69–R102).
-/
namespace Sys2Proof.Machine

/-- Replaces the VAU. -/
def updVau (f : Vau → Vau) (s : State) : State := { s with vau := f s.vau }

/-- A register that is shown from 990 µs on. -/
def State.vauReg (s : State) (a : Nat) : Word := Tbl.get s.vau.now a

/-- Sets a register that is shown from 990 µs on. -/
def State.setVau (s : State) (a : Nat) (w : Word) : State := updVau (fun v => { v with now := Tbl.set v.now a w }) s

/-- Region `k` votes in the triad mode (R34). -/
def liveRegion (s : State) (k : Nat) : Bool := decide (k < 3) && s.sys.fenced != some k && s.sys.split != some k

/-- The regions whose copies the voter takes: live and not pending (R77). -/
def voters (s : State) : List Nat := [0, 1, 2].filter fun k => liveRegion s k && !bitAt s.vau.pending k

/-- The registers of the last minority (R102). -/
def minorityInfo (k code addr : Nat) (s : State) : State :=
  ((s.setVau Reg.VAU_MIN_INFO (word (k % 4 * 256 + code % 256))).setVau Reg.VAU_MIN_VCN s.sys.vcn).setVau Reg.VAU_MIN_ADDR (word addr)

/-- Region `k` becomes minority pending (R77, R83, R95): its record and the registers of the last minority. Where fewer than two voting
regions would be left, the code is performed as class S (R17, R34); of a region that does not vote it is recorded. -/
def regionMinority (k code addr : Nat) (s : State) : State :=
  if ¬ liveRegion s k ∨ bitAt s.vau.pending k then note code 1 k s
  else if (voters s).length < 3 then raiseS code 1 k s
  else updVau (fun v => { v with pending := setBit v.pending k true }) (minorityInfo k code addr (note code 1 k s))

/-! ### The alignment queues (R69, R70, R72) -/

/-- The parity bits of an entry (R70): one for each byte of address and data, bit 8 for the kind; even parity in this order
(DESIGN CHOICE, log entry 93). -/
def parityOf (t : Txn) : BitVec 9 :=
  let odd (n : Nat) : Bool := ones (BitVec.ofNat 8 n) % 2 == 1
  bitsOf 9 fun i =>
    if i < 4 then odd (t.addr / 2 ^ (8 * i) % 256) else if i < 8 then odd (t.data.toNat / 2 ^ (8 * (i - 4)) % 256) else odd (t.kind % 4)

/-- An entry as it stands in the queue: its parity is created as the core writes it (R70). -/
def queueEntry (w : QWrite) : QEntry :=
  ⟨{ addr := w.txn.addr ^^^ w.upAddr.toNat, data := w.txn.data ^^^ w.upData, kind := w.txn.kind ^^^ w.upKind.toNat },
    parityOf w.txn ^^^ w.upParity⟩

/-- The parity of an entry, checked as the voter takes it (R70). -/
def badParity (e : QEntry) : Bool := e.parity != parityOf e.txn

/-- The voter takes entries that it does not vote: late copies (R72) and those of a pending region (R77); their parity is checked like
any other's (R96). -/
def takeUnvoted (es : List QEntry) (s : State) : State := updVau (fun v => { v with parityBad := v.parityBad || es.any badParity }) s

/-- A core writes entries (R69): late copies of decided transactions are not voted (R72), a full queue stalls the core, which writes no
further one; a region that does not vote has its copies discarded. -/
def queueWrite (k : Nat) (w : List QWrite) (s : State) : State :=
  if liveRegion s k then
    let v := s.vau
    let es := w.map queueEntry
    let q := (Tbl.get v.queue k ++ es.drop (Tbl.get v.owed k)).take 8
    takeUnvoted (es.take (Tbl.get v.owed k)) (updVau (fun v => { v with
      queue := Tbl.set v.queue k q, owed := Tbl.set v.owed k (Tbl.get v.owed k - w.length)
      stalled := setBit v.stalled k (decide (8 ≤ q.length)) }) s)
  else s

/-- The oldest entry of a region's queue goes to the voter, which holds none of that region yet; a core that stalled continues (R69). -/
def queueLeave (k : Nat) (s : State) : State :=
  match Tbl.get s.vau.copy k, Tbl.get s.vau.queue k with
  | none, e :: q => takeUnvoted [e] (updVau (fun v => { v with
      copy := Tbl.set v.copy k (some e), queue := Tbl.set v.queue k q, stalled := setBit v.stalled k false }) s)
  | _, _ => s

/-- The copies of a pending region are taken and ignored (R77). -/
def ignorePending (k : Nat) (s : State) : State :=
  if bitAt s.vau.pending k then
    takeUnvoted (Tbl.get s.vau.queue k) (updVau (fun v => { v with
      queue := Tbl.set v.queue k [], stalled := setBit v.stalled k false }) s)
  else s

/-- The voter takes the copies that it does not hold yet. -/
def takeCopies (s : State) : State :=
  (voters s).foldl (fun s k => queueLeave k s) ([0, 1, 2].foldl (fun s k => ignorePending k s) s)

/-- The queue of a region is emptied and its copies are discarded (R84). -/
def emptyQueue (k : Nat) (s : State) : State :=
  updVau (fun v => { v with
    queue := Tbl.set v.queue k [], copy := Tbl.set v.copy k none, owed := Tbl.set v.owed k 0, stalled := setBit v.stalled k false }) s

/-- The decision is made: the copies are used up, and a voter's copy that is absent counts as absent when it comes (R72). -/
def copiesUsed (s : State) : State :=
  let late := (voters s).filter fun k => (Tbl.get s.vau.copy k).isNone
  updVau (fun v => { v with copy := [], owed := late.foldl (fun t k => Tbl.set t k (Tbl.get t k + 1)) v.owed }) s

/-! ### The vote (R72, R73, R76) -/

/-- What is voted of a transaction (R73): address and kind, and data for all but a read. -/
def votedPart (t : Txn) : Txn := if t.kind = 0 then { t with data := 0 } else t

/-- What the voters' copies come to. -/
inductive Vote (α : Type) where
  | agree (v : α)
  | minority (v : α) (k : Nat) (missing : Bool)
  | none
  deriving DecidableEq

/-- The vote of three regions or of two. -/
def voteOf {α : Type} [DecidableEq α] (copies : List (Nat × Option α)) : Vote α :=
  match copies with
  | [(i, a), (j, b), (k, c)] =>
    match a, b, c with
    | some x, some y, some z =>
      if x = y then (if y = z then .agree x else .minority x k false)
      else if x = z then .minority x j false
      else if y = z then .minority y i false
      else .none
    | some x, some y, Option.none => if x = y then .minority x k true else .none
    | some x, Option.none, some z => if x = z then .minority x j true else .none
    | Option.none, some y, some z => if y = z then .minority y i true else .none
    | _, _, _ => .none
  | [(_, some x), (_, some y)] => if x = y then .agree x else .none
  | _ => .none

/-- Where nothing can be issued: no majority of three, or a mismatch of two (R76). -/
def noMajority (three two : Nat) (s : State) : State := raiseS (if (voters s).length = 3 then three else two) 0 0 s

/-- VAU_ALIGN_HWM (R102). -/
def alignHwm (spread : Nat) (s : State) : State := s.setReg Reg.VAU_ALIGN_HWM (word (max (s.regF Reg.VAU_ALIGN_HWM 3 0) (min 15 spread)))

/-- The transaction that the voter issues, and the state with the minority recorded; VAU_MIN_ADDR takes the majority's address
(DESIGN CHOICE, log entry 94). While DEBUG is set the triad mode is not voted (R100): a minority changes nothing, and without a
majority nothing is issued (R20; DEDUCED, log entry 48). -/
def voteTxn (s : State) : State × Option Txn :=
  match voteOf ((voters s).map fun k => (k, (Tbl.get s.vau.copy k).map fun e => votedPart e.txn)) with
  | .agree t => (s, some t)
  | .minority t k missing => (if s.vau.debug then s else regionMinority k (if missing then 0x0204 else 0x0201) t.addr s, some t)
  | .none => (noMajority 0x0202 0x0203 s, none)

/-- A copy that the voter holds has failed its parity (R96): nothing of it is let out. -/
def heldBad (s : State) : Bool := [0, 1, 2].any fun k => (Tbl.get s.vau.copy k).any badParity

/-- The faults that the voter has found raise their codes in one clock (R16, R96): a parity error, a pair found equal. -/
def voterFaults (dualRailBad : Bool) (s : State) : State :=
  raiseAll ((if s.vau.parityBad then [0x0208] else []) ++ (if dualRailBad then [0x0209] else []))
    (updVau (fun v => { v with parityBad := false }) s)

/-- Every voter's copy is present; at least one is. -/
def copiesAll (s : State) : Bool := (voters s).all fun k => (Tbl.get s.vau.copy k).isSome
def copiesAny (s : State) : Bool := (voters s).any fun k => (Tbl.get s.vau.copy k).isSome

/-! ### Signatures (R79–R82) -/

/-- A store as SIGW folds it (R79): its byte enables take a byte of their own (DESIGN CHOICE, log entry 95). -/
def storeBytes (x : Store) : List Byte := le4 (word x.addr) ++ le4 x.data ++ [x.be.setWidth 8]

/-- A running write fold takes stores, in program order. -/
def foldStores (c : Word) (xs : List Store) : Word := crc32cMore c (xs.flatMap storeBytes)

/-- Every voting region makes the same store: a store that comes as a command (R79). -/
def storeFold (x : Store) (s : State) : State :=
  updVau (fun v => { v with sigw := ([0, 1, 2].filter (liveRegion s)).foldl (fun t k => Tbl.set t k (foldStores (Tbl.get t k) [x])) v.sigw }) s

/-- The stack window (R80): the words of vital SRAM from the stack pointer up to the base, at most the 1,024 just below it. -/
def stackWindow (sp : Nat) (s : State) : List Word :=
  let base := s.regF Reg.VAU_SIG_STACK 21 2
  let lo := max ((sp - 0x10000000) / 4) (base - 1024)
  (List.range (base - lo)).map fun i => word (ofLe (Tbl.getList s.sram (4 * (lo + i)) 4))

/-- VAU_SIG_CAPTURE.CAPTURE (R79–R81): once in a VC, the signatures of the regions that present theirs; the write fold starts again, for
the stores after the capture. -/
def sigCapture (w : Word) (caps : List (Option CoreCapture)) (s : State) : State :=
  if !bitAt w 0 || s.vau.captureWritten then s
  else
    let s := (s.setReg Reg.PDS_DIGEST (pdsDigest s)).setReg Reg.DSU_DIGEST (dsuDigest s)
    let tail := [s.reg Reg.ITE_DIGEST, s.reg Reg.CRD_CHECKSUM, s.reg Reg.PDS_DIGEST, s.reg Reg.DSU_DIGEST]
    let one (s : State) (k : Nat) : State :=
      match (caps[k]?).join with
      | some c => updVau (fun v => { v with
          captured := setBit v.captured k true
          sig := Tbl.set (Tbl.set v.sig k (crc32cWords (c.core ++ stackWindow c.sp s ++ tail))) (3 + k) (foldStores (Tbl.get v.sigw k) c.stores)
          sigw := Tbl.set v.sigw k 0 }) s
      | none => s
    obsCount 45 1 (([0, 1, 2].filter (liveRegion s)).foldl one (updVau (fun v => { v with captureWritten := true }) s))

/-- The VC start and the captures (R79, R81): SIGW is cleared where the VC that ends captured none. -/
def captureTurn (v : Vau) : Vau :=
  { v with captured := 0, captureWritten := false, sig := []
           sigw := [0, 1, 2].foldl (fun t k => if bitAt v.captured k then t else Tbl.set t k 0) v.sigw }

/-- The captured pair of region `k`; none where its capture is missing. -/
def sigOf (v : Vau) (k : Nat) : Option (Word × Word) := if bitAt v.captured k then some (Tbl.get v.sig k, Tbl.get v.sig (3 + k)) else none

/-- The comparison at 990 µs with VAU_SIG_STAT (R82); none is made while DEBUG is set. AGREE shows every live region whose signatures equal
the majority's, one that is pending among them, although its signatures are ignored (DESIGN CHOICE, log entry 96). -/
def sigCompare (s : State) : State :=
  let v := s.vau
  if v.debug then s.setReg Reg.VAU_SIG_STAT (word (v.captured.toNat * 2 ^ 16))
  else
    let vs := voters s
    let r := voteOf (vs.map fun k => (k, sigOf v k))
    let agree := match r with
      | .agree p | .minority p _ _ => (bitsOf 3 fun k => liveRegion s k && sigOf v k == some p).toNat
      | .none => 0
    let s := s.setReg Reg.VAU_SIG_STAT (word (v.captured.toNat * 2 ^ 16 + 2 ^ 8 + agree))
    match r with
    | .agree _ => s
    | .minority _ k _ => regionMinority k 0x0205 0 s
    | .none => noMajority 0x0206 0x0207 s

/-- SIGA and SIGW as shown: the captured ones, 0 of a region that is not live. -/
def sigShow (s : State) : State :=
  [0, 1, 2].foldl (fun s k =>
    let g := if liveRegion s k then (sigOf s.vau k).getD (0, 0) else (0, 0)
    (s.setReg (Reg.VAU_SIGA + 4 * k) g.1).setReg (Reg.VAU_SIGW + 4 * k) g.2) s

/-- The steps of the injected-mismatch test that must be detected: in `T2F` and `T2S` step 3 is omitted, and steps 0–2 are those of
the live regions (R97). -/
def injectSteps (s : State) : BitVec 7 :=
  bitsOf 7 fun i => if i < 3 then liveRegion s i else if i = 3 then s.sys.mode == .t3 else true

/-- The injected-mismatch test (R97): a step that is not detected takes the module to `SAFE`. -/
def injectTest (detected : BitVec 7) (s : State) : State :=
  let ok := injectSteps s &&& ~~~detected == 0#7
  let step := if s.sys.mode = .t3 then detected else setBit detected 3 true
  let s := s.setReg Reg.VAU_INJ_STAT (word (bit ok * 2 ^ 31 + step.toNat))
  if ok then s.setReg Reg.VAU_INJ_COUNT (s.reg Reg.VAU_INJ_COUNT + 1) else raiseS 0x020A 0 0 s

/-! ### Fence, split, rejoin (R84–R93) -/

/-- Milliseconds of 24 h. -/
def dayMs : Nat := 86400000

/-- The fences of region `k` in the last 24 h of operating time (R85). -/
def fenceCount (s : State) (k : Nat) : Nat := (s.vau.fences.filter fun f => f.1 == k && decide (s.evr.ms < f.2 + dayMs)).length

/-- A fence of region `k` is counted; the fourth within 24 h holds it until reset (R85). -/
def countFence (k : Nat) (s : State) : State :=
  let s := updVau (fun v => { v with fences := (k, s.evr.ms) :: v.fences.filter fun f => decide (s.evr.ms < f.2 + dayMs) }) s
  if 4 ≤ fenceCount s k then note 0x0212 1 k (updVau (fun v => { v with held := setBit v.held k true }) s) else s

/-- The rejoin sequence ends. -/
def endSequence (s : State) : State := updVau (fun v => { v with seqRegion := none, seqVc := 0, seqSelftestDone := false }) s

/-- Region `k` is fenced: the triad is in `T2F` without it, its queue empty (R84). -/
def toFenced (k : Nat) (s : State) : State :=
  emptyQueue k (updVau (fun v => { v with sinceChange := some 0 }) { s with sys := { s.sys with mode := .t2f, fenced := some k, split := none } })

/-- The sequence starts, or starts again, for region `k`; its first VC is the next one (R90, R91). -/
def startSequence (k : Nat) (fence : Bool) (s : State) : State :=
  updVau (fun v => { v with seqRegion := some k, seqFence := fence, seqVc := 1, seqSelftestDone := false }) s

/-- The end of P5 with a region pending (R84, R85). -/
def fenceRegion (k : Nat) (s : State) : State :=
  let s := countFence k (toFenced k (endSequence s))
  if bitAt s.vau.held k || s.sys.state == .safe then s else startSequence k true s

/-- The accepted split takes place (R34, R87). -/
def splitRegion (k : Nat) (s : State) : State :=
  startSequence k false (emptyQueue k
    (updVau (fun v => { v with sinceChange := some 0 }) { s with sys := { s.sys with mode := .t2s, split := some k } }))

/-- VAU_ST_RESULT of region `k`: 1 passed, 2 self-test failed, 3 verify failed. -/
def setResult (k r : Nat) (s : State) : State := s.setVau Reg.VAU_ST_RESULT (putField (s.vauReg Reg.VAU_ST_RESULT) (2 * k + 1) (2 * k) r)

/-- The self-test or the verify step of region `k` has failed (R91): a split region stays out as fenced, a fenced one starts again in
the next VC where R34 allows it. -/
def sequenceFailed (k code result : Nat) (s : State) : State :=
  let s := setResult k result (note code 1 k s)
  if s.vau.seqFence then
    if bitAt s.vau.held k then endSequence s else updVau (fun v => { v with seqVc := 0, seqSelftestDone := false }) s
  else countFence k (toFenced k (endSequence s))

/-- Region `k` votes again (R90). -/
def rejoin (k : Nat) (s : State) : State :=
  let s := obsRejoin k s
  let s := { s with sys := { s.sys with mode := .t3, fenced := none, split := none } }
  let s := updVau (fun v => { v with sinceChange := some 0, ageMs := Tbl.set v.ageMs k 0 }) (endSequence s)
  let due := setBit (s.vauReg Reg.VAU_ST_DUE) (4 + k) false
  (s.setVau (Reg.VAU_ST_AGE0 + 4 * k) 0).setVau Reg.VAU_ST_DUE due

/-- The three memory CRCs are equal (R90). -/
def crcsEqual (crcs : List Word) : Bool :=
  match crcs with
  | [a, b, c] => a == b && b == c
  | _ => false

/-- The memory CRCs are compared at 990 µs of VC 39 (R90, R91): equal ones pass; otherwise the verify step has failed. -/
def verifyStep (crcs : List Word) (s : State) : State :=
  match s.vau.seqRegion with
  | some k =>
    if s.sys.state = .safe ∨ s.sys.mode = .t3 ∨ s.vau.seqVc ≠ 39 then s
    else if crcsEqual crcs then setResult k 1 s
    else sequenceFailed k 0x0211 3 s
  | none => s

/-- The sequence moves on at the end of its VC (R90), with the rejoin at the end of VC 40; the copy step waits for a self-test that has
passed. A sequence that starts again counts its first VC from here (R91). -/
def sequenceStep (s : State) : State :=
  let v := s.vau
  match v.seqRegion with
  | none => s
  | some k =>
    if s.sys.state = .safe then endSequence s
    else if s.sys.mode = .t3 then s
    else if v.seqVc = 24 ∧ ¬ v.seqSelftestDone then s
    else if v.seqVc = 40 then rejoin k s
    else updVau (fun v => { v with seqVc := v.seqVc + 1 }) s

/-- The 1000 µs tick of the VAU (R51, R84, R90): the sequence, then the fence of the pending region, else the accepted split. -/
def vauVcEnd (s : State) : State :=
  let req := if s.sys.mode = .t3 then s.vau.seqRegion else none
  let s := sequenceStep s
  let p := s.vau.pending
  let s := updVau (fun v => { v with pending := 0 }) s
  match [0, 1, 2].find? (bitAt p) with
  | some k => if s.sys.mode = .t3 then fenceRegion k s else s
  | none => match req with
    | some k => if s.sys.state = .active ∨ s.sys.state = .banked then splitRegion k s else endSequence s
    | none => s

/-- VAU_SPLIT_REQ (R87). The tick of the last change is itself the first VC start counted, so 100 VC have passed at the 101st. -/
def splitRequest (w : Word) (s : State) : State :=
  let k := field w 1 0
  if field w 31 16 = 0x5B17 ∧ k < 3 ∧ s.sys.mode = .t3 ∧ (s.sys.state = .active ∨ s.sys.state = .banked) ∧ s.reg Reg.VAU_RM_STAT = 0
      ∧ 101 ≤ s.vau.sinceChange.getD 101 ∧ s.vau.seqRegion = none then
    updVau (fun v => { v with seqRegion := some k, seqFence := false, seqVc := 0, seqSelftestDone := false }) s
  else note 0x0213 1 k s

/-- The self-test of the region in the sequence ends (R90, R91). -/
def selftestDone (passed : Bool) (s : State) : State :=
  match s.vau.seqRegion with
  | some k =>
    if s.sys.mode = .t3 ∨ 24 < s.vau.seqVc ∨ s.vau.seqSelftestDone then s
    else if passed then updVau (fun v => { v with seqSelftestDone := true }) s
    else sequenceFailed k 0x0210 2 s
  | none => s

/-! ### Region monitors (R94, R95) -/

/-- The median of three. -/
def median3 (a b c : Int) : Int := max (min a b) (min (max a b) c)

/-- The regions beyond a limit in one sample (R94): relative supply, temperature gradient, clock phase, absolute limits. -/
def beyondSupply (x : RegionSample) (k : Nat) : Bool :=
  let v (k : Nat) : Int := (Tbl.get x.mv k : Nat)
  decide (60 < (v k - median3 (v 0) (v 1) (v 2)).natAbs)

/-- The gradient of one sample: highest minus lowest region above 15 K. -/
def steep (x : RegionSample) : Bool :=
  let t := Tbl.get x.temp
  decide (120 < max (t 0) (max (t 1) (t 2)) - min (t 0) (min (t 1) (t 2)))

/-- The region farthest from the median temperature of a sample; both outer ones if equally far. -/
def farthest (x : RegionSample) (k : Nat) : Bool :=
  let t := Tbl.get x.temp
  let m := median3 (t 0) (t 1) (t 2)
  let far (k : Nat) : Nat := (t k - m).natAbs
  [0, 1, 2].all fun j => decide (far j ≤ far k)

/-- The phase: ±2 core cycles. -/
def beyondPhase (x : RegionSample) (k : Nat) : Bool := decide (32 < (Tbl.get x.phase k).natAbs)

/-- The absolute limit of the supply. -/
def beyondVolt (x : RegionSample) (k : Nat) : Bool := decide (70 < ((Tbl.get x.mv k : Nat) - 900 : Int).natAbs)

/-- The absolute limit of the junction temperature. -/
def beyondHot (x : RegionSample) (k : Nat) : Bool := decide (1000 < Tbl.get x.temp k)

/-- The regions out of tolerance of a quantity: beyond its limit in three consecutive samples (R94). -/
def outOf (beyond : RegionSample → Nat → Bool) (xs : List RegionSample) : BitVec 3 := bitsOf 3 fun k => xs.all fun x => beyond x k

/-- The regions out of tolerance for the temperature gradient: the gradient itself is the quantity that is filtered (R94), and the last
sample says which region it is (DESIGN CHOICE, log entry 97). -/
def outOfTemp (xs : List RegionSample) : BitVec 3 := bitsOf 3 fun k => xs.all steep && xs.getLast?.any (farthest · k)

/-- The quantities of which region `k` is out of tolerance, as codes. Of several of one region, the first in this order stands in
VAU_MIN_INFO (DESIGN CHOICE, log entry 97). -/
def monitorCodes (supply temp phase abs : BitVec 3) (k : Nat) : List Nat :=
  (if bitAt supply k then [0x020B] else []) ++ (if bitAt temp k then [0x020C] else []) ++ (if bitAt phase k then [0x020D] else [])
    ++ (if bitAt abs k then [0x020F] else [])

/-- The readings of a sample, taken at `tick`, stand in VAU_RM_* (R102). -/
def showSample (x : RegionSample) (tick : Nat) (s : State) : State :=
  let s := updVau (fun v => { v with sampled := some (s.sys.vcn, tick / 250) }) s
  [0, 1, 2].foldl (fun s k => ((s.setReg (Reg.VAU_RM_SUPPLY + 4 * k) (word (Tbl.get x.mv k % 65536))).setReg
    (Reg.VAU_RM_TEMP + 4 * k) (word (unsigned 16 (Tbl.get x.temp k)))).setReg
    (Reg.VAU_RM_PHASE + 4 * k) (word (unsigned 16 (Tbl.get x.phase k)))) s

/-- A region that is out of the triad is kept out (R93): a split region counts as fenced. -/
def keptOut (k : Nat) (s : State) : State :=
  if s.vau.seqRegion = some k then countFence k (toFenced k (endSequence s)) else s

/-- The monitors' verdicts change (R95). VAU_RM_STAT follows them at once, with the monitor readings (DESIGN CHOICE, log entry 137). -/
def monitors (supply temp phase abs : BitVec 3) (s : State) : State :=
  let s := s.setReg Reg.VAU_RM_STAT (word (abs.toNat * 2 ^ 12 + phase.toNat * 2 ^ 8 + temp.toNat * 2 ^ 4 + supply.toNat))
  let codes := monitorCodes supply temp phase abs
  match [0, 1, 2].filter fun k => !(codes k).isEmpty with
  | [] => s
  | [k] =>
    if !liveRegion s k then keptOut k ((codes k).foldl (fun s c => note c 1 k s) s)
    else if s.sys.fenced.isSome || ([0, 1, 2].any fun j => j != k && bitAt s.vau.pending j) then raiseS 0x020E 1 k s
    else (codes k).foldl (fun s c => regionMinority k c 0 s) s
  | _ => raiseS 0x020E 0 0 s

/-- Three consecutive samples of the region monitors (R94, R95, R102). -/
def monitorSamples (xs : List RegionSample) (tick : Nat) (s : State) : State :=
  monitors (outOf beyondSupply xs) (outOfTemp xs) (outOf beyondPhase xs) (outOf beyondVolt xs ||| outOf beyondHot xs)
    (match xs.getLast? with
      | some x => showSample x tick s
      | none => s)

/-! ### Ages, memories, debug -/

/-- The ages at entry to `CONFIG_CHECK` (R86). -/
def loadAges (s : State) : State :=
  updVau (fun v => { v with ageMs := [] })
    (((s.setVau Reg.VAU_ST_AGE0 320#32).setVau (Reg.VAU_ST_AGE0 + 4) 160#32).setVau (Reg.VAU_ST_AGE0 + 8) 0)

/-- A millisecond passes for the age of region `k` (R86). A minute is complete 60,000 ms after the age was set or last counted (DESIGN
CHOICE, log entry 138). -/
def ageTick (k : Nat) (s : State) : State :=
  let n := Tbl.get s.vau.ageMs k + 1
  if 60000 ≤ n then
    updVau (fun v => { v with ageMs := Tbl.set v.ageMs k 0 })
      (s.setVau (Reg.VAU_ST_AGE0 + 4 * k) (satInc (s.vauReg (Reg.VAU_ST_AGE0 + 4 * k))))
  else updVau (fun v => { v with ageMs := Tbl.set v.ageMs k n }) s

/-- A millisecond passes for the ages (R86) and since the last fence, split or rejoin (R87). -/
def vauTick (s : State) : State :=
  [0, 1, 2].foldl (fun s k => ageTick k s) (updVau (fun v => { v with sinceChange := v.sinceChange.map fun n => min 101 (n + 1) }) s)

/-- The age of region `k` in minutes. -/
def regionAge (s : State) (k : Nat) : Nat := (s.vauReg (Reg.VAU_ST_AGE0 + 4 * k)).toNat

/-- Region `k` is overdue: 60 minutes after it fell due, and each further 60 minutes (R89). -/
def overdueNow (s : State) (k : Nat) : Bool := decide (540 ≤ regionAge s k) && (regionAge s k - 540) % 60 == 0

/-- A debugger attaches (R99, R100): DEBUG stands until reset, Mantle withdraws every line. -/
def debugAttach (k : Nat) (s : State) : State :=
  let s := updVau (fun v => { v with debug := true, attached := setBit v.attached k true }) { s with mnt := mWithdraw true s.mnt }
  if s.live || s.sys.state == .configCheck then raiseS 0x0215 1 k s else note 0x0216 1 k s

/-! ### The registers at 990 µs (R102) -/

/-- VAU_SPLIT_STAT. -/
def splitStat (s : State) : Word :=
  let v := s.vau
  let n := v.seqVc
  let step := if v.seqRegion.isNone || n = 0 then 0 else if n ≤ 24 then 1 else if n ≤ 36 then 2 else if n ≤ 39 then 3 else 4
  word ((if v.seqRegion.isSome then n else 0) * 2 ^ 16 + step * 2 ^ 8 + bit (v.seqRegion.isSome && v.seqFence) * 2 ^ 4 + (v.seqRegion.getD 3) % 4)

/-- VAU_FENCE_CNT. -/
def fenceWord (s : State) : Word :=
  let c (k : Nat) : Nat := min 4 (fenceCount s k)
  word (s.vau.held.toNat * 2 ^ 16 + c 2 * 2 ^ 8 + c 1 * 2 ^ 4 + c 0)

/-- Every VAU register that follows at 990 µs takes its present value. -/
def vauShow (s : State) : State :=
  let live := (bitsOf 3 (liveRegion s)).toNat
  let due := (bitsOf 3 fun k => decide (480 ≤ (s.vauReg (Reg.VAU_ST_AGE0 + 4 * k)).toNat)).toNat
  let shown := [Reg.VAU_MIN_INFO, Reg.VAU_MIN_VCN, Reg.VAU_MIN_ADDR, Reg.VAU_ST_RESULT, Reg.VAU_ST_AGE0, Reg.VAU_ST_AGE0 + 4,
    Reg.VAU_ST_AGE0 + 8, Reg.VAU_ECC_CORR, Reg.VAU_ECC_CORR + 4, Reg.VAU_ECC_CORR + 8]
  let s := shown.foldl (fun s a => s.setReg a (s.vauReg a)) (sigShow s)
  ((((s.setReg Reg.VAU_STAT (word (bit s.vau.debug * 2 ^ 31 + s.sys.mode.code * 16 + live))).setReg Reg.VAU_SPLIT_STAT (splitStat s)).setReg
    Reg.VAU_FENCE_CNT (fenceWord s)).setReg Reg.VAU_ST_DUE ((s.vauReg Reg.VAU_ST_DUE &&& 0x70#32) ||| word due))

end Sys2Proof.Machine
end

