-- ==== Sys2Proof/Machine/StartOps.lean ====
section
/-!
DEFINITION. The module's start: supply, self-test, boot chain, configuration check (R30, R33, R444–R457); reset of an auxiliary
processor (R27, R455); failed self-checks of blocks (R23).
-/
namespace Sys2Proof.Machine

/-! ### Supply and reset button (R30, R33) -/

/-- A reset with its cause bits; a hold of a failed self-test ends with it (R447). -/
def restart (cause : Nat) (s : State) : State := moduleReset cause { s with sys := { s.sys with hold := .none } }

/-- The logic supply becomes valid (R30, R444): the regions are released, unless the button's fault stands (R33). -/
def supplyValid (s : State) : State :=
  if s.sys.state ≠ .off then s else if s.sys.buttonFault then holdReset s else restart 1 s

/-- The button is released after a press of `heldMs` (R33). -/
def buttonRelease (heldMs : Nat) (s : State) : State :=
  if 100 ≤ heldMs ∧ heldMs ≤ 10000 ∧ ¬ s.sys.buttonFault ∧ s.sys.state ≠ .off then restart 2 s else s

/-- The button's fault is found (R33). -/
def buttonFault (s : State) : State :=
  if s.sys.state = .off then { s with sys := { s.sys with buttonFault := true } } else holdReset s

/-- The contacts have read released and in agreement for 1 s (R33): the held module starts, and 0x0104 waits for the next successful
start. -/
def buttonCleared (s : State) : State :=
  if !s.sys.buttonFault then s
  else
    let s := { s with sys := { s.sys with buttonFault := false, hold := .none, startNotes := s.sys.startNotes ++ [⟨0x0104, 0, 0⟩] } }
    if s.sys.state = .off then s else moduleReset 4 s

/-! ### Self-test and boot (R446–R454) -/

/-- What a start that passes the self-test records: the self-test that failed before (R447), and what has waited for it (R33). -/
def startRecords (s : State) : State :=
  let s := match s.sui.testFail with
    | some (step, i) =>
      updSui (fun u => { u with testFail := none }) (note 0x0F01 15 (step * 256 + i % 256) (s.setRegB Reg.SYS_RESET_CAUSE 4 true))
    | none => s
  let ns := s.sys.startNotes
  ns.foldl (fun s n => note n.code n.obj n.val s) { s with sys := { s.sys with startNotes := [] } }

/-- The first signature that differs from its reference: the step that formed it and its index. -/
def firstDiff : List (Nat × BitVec 64) → List (BitVec 64) → Nat → Option (Nat × Nat)
  | (step, v) :: l, refs, i => if v = refs.headD 0 then firstDiff l refs.tail (i + 1) else some (step, i)
  | [], _, _ => none

/-- What fails in the self-test (R446, R447): the comparison, which is step 5, or a signature. -/
def selftestFault (u : Sui) (sigs : List (Nat × BitVec 64)) (compared : Bool) (index : Nat) : Option (Nat × Nat) :=
  if compared then firstDiff sigs u.testRefs 0 else some (5, index)

/-- The self-test ends (R446, R447): every signature is compared with its reference. On a pass the boot chain starts with the selector (R451,
R453, R476); else the regions, the CP and the SP are held in reset. -/
def selftestEnd (sigs : List (Nat × BitVec 64)) (compared : Bool) (index : Nat) (s : State) : State :=
  if s.sys.state ≠ .kindling ∨ s.sys.hold ≠ .none then s
  else match selftestFault s.sui sigs compared index with
  | none => trialSelect (repairSel (refreshAtBoot (startRecords { s with sys := { s.sys with state := .boot, mode := .t3 } })))
  | some p => updSui (fun u => { u with testFail := some p }) { s with sys := { s.sys with hold := .selftest } }

/-- Parts one after the other, each on a boundary of 64 KiB. -/
def layParts (ps : List (List Byte)) : List Byte :=
  ps.flatMap fun p => p ++ List.replicate (0x10000 * blocks64 p.length - p.length) 0#8

/-- The parts of the running slot are loaded (R452, steps 3–5), and the SP and the CP are released. Where in vital SRAM the runtime, the
configuration image, the runtime extension and the Mantle table stand is not the spec's (DESIGN CHOICE, log entry 153). -/
def loadSlot (s : State) : State :=
  let u := s.sui
  let n := u.running
  let image := partOf u n 3 6
  { s with
    sys := { s.sys with sp := default, cp := default }
    gd := Tbl.setList [] 0 ((partOf u n 3 5).take 0x200000)
    sram := Tbl.setList [] 0 ((layParts [partOf u n 2 3, image, partOf u n 3 7, partOf u n 3 4]).take 0x400000)
    conf := { s.conf with image := image, configId := wordAt image 12, dataId := ((u.manifest n 3).map (·.configId)).getD 0 } }

/-- The X1 address of the configuration image, at which the SP serves Sorlia (R457, R464). -/
def x1Load (s : State) : Conf :=
  let r := cfgWords s 3
  { s.conf with x1 := r.getD 1 0, x1Prefix := (r.getD 2 0).toNat }

/-- The runtime starts (R30, R54): in `MAINT` where the maintenance-start flag is set, else in `CONFIG_CHECK`. -/
def startRuntime (s : State) : State :=
  let s := { s with conf := x1Load s, sys := { s.sys with vcOn := true, vcn := 0, vcStarted := false, phase := 0, tick := 0 } }
  if s.sys.maintFlag then
    busesFollow .boot .maint { s with sys := { s.sys with state := .maint, maintFlag := false } }
  else
    let s := loadAges (busesFollow .boot .configCheck { s with sys := { s.sys with state := .configCheck } })
    if s.vau.debug then raiseS 0x0215 0 0 s else s

/-- No slot is valid (R454): `MAINT` with cause 0x0F04, and the SP's recovery loader at 192.168.100.10/24; the runtime does not start, and
the CP stays in reset. -/
def noValidSlot (s : State) : State :=
  let s := note 0x0F04 0 0 s
  updSui (fun u => { u with recovery := true }) ({ s with
    sys := { s.sys with state := .maint, sp := default }
    conf := { s.conf with x1 := 0xC0A8640A#32, x1Prefix := 24 } }.setReg Reg.SYS_SAFE_CAUSE 0x0F04#32)

/-- The selected slot is invalid for this boot (R452, R453): recorded, and reverted where it was on trial. -/
def slotInvalid (s : State) : State :=
  let trial := onTrial s.sui
  let s := note 0x0F03 15 s.sui.running s
  if trial then finishWrite (revertBoot 4 s) else s

/-- The boot chain ends (R452–R454): the selector write of its start is done, then the selected slot is booted, or the other one.
`selRead` and `othRead` tell whether the NOR can be read there. -/
def bootEnd (selRead othRead : Bool) (s : State) : State :=
  if s.sys.state ≠ .boot then s
  else
    let s := finishWrite s
    let n := s.sui.running
    if selRead && slotOk s.sui n then startRuntime (loadSlot s)
    else
      let s := updSui (fun u => { u with running := otherSlot n }) (slotInvalid s)
      if othRead && slotOk s.sui (otherSlot n) then startRuntime (loadSlot s)
      else noValidSlot (note 0x0F03 15 (otherSlot n) s)

/-! ### Configuration check (R456) -/

/-- A transfer in `ACTIVATED` whose bundle is on trial is over (R467). -/
def clearTransfer (s : State) : State :=
  let x := s.sui.xfer
  if x.st = 4 ∧ onTrial s.sui ∧ (selNow s.sui).bundle = x.bundle then setXfer { x with st := 0 } s else s

/-- The entry to `JOIN` (R423): a `BANKED` member needs the bulk journal copy first. -/
def joinEntry (s : State) : State :=
  updPcl (fun p => { p with joinRun := 0, bulk := true, bulkCells := [], mismatch := 0, mismatchNoted := false }) s

/-- The configuration checks end (R456): `JOIN`, or a check that fails; after one that has failed no other is made. -/
def configEnd (s : State) : State :=
  if s.sys.state ≠ .configCheck ∨ s.rt.checkFail ≠ none then s
  else match configChecks (clearTransfer { s with rt := { s.rt with bootDue := true } }) with
    | .error (t, c) => configFail c t
    | .ok t => joinEntry (busesFollow .configCheck .join { t with sys := { t.sys with state := .join } })

/-! ### Slot code (R422, R494) -/

/-- The code names a position: even parity, and the configured slot and member. -/
def slotCodeOk (s : State) : Bool :=
  let c := s.sys.slotCode
  slotParity c && decide (c % 8 = s.conf.slot) && bit (c.testBit 3) == s.conf.member

/-- A configuration has been taken into use by the check, so a slot code can differ from it. -/
def slotConfigured (s : State) : Bool := s.live || ((s.sys.state == .safe || s.sys.state == .maint) && !s.conf.modules.isEmpty)

/-- The code on X20 changes: a mismatch takes the module to `SAFE` in any VC after the check; in `SAFE` and `MAINT` it is recorded (R15,
R16, R46). -/
def slotChange (code : Nat) (s : State) : State :=
  let s := { s with sys := { s.sys with slotCode := code % 32 } }
  if slotConfigured s && !slotCodeOk s then raiseS 0x0105 14 (code % 32) s else s

/-! ### Auxiliary processors (R27, R455) -/

/-- SYS resets the CP or the SP alone (R27); a reset of the SP ends the Sorlia sessions and releases the update lock. -/
def resetProc (sp : Bool) (s : State) : State :=
  let s := note (if sp then 0x010B else 0x010A) 0 0 s
  let s := mbProcReset (if sp then 2 else 1) s
  let p : Proc := { miss := 0, reset := true, dead := false, tries := 0 }
  if sp then endSessions { s with sys := { s.sys with sp := p } } else { s with sys := { s.sys with cp := p } }

/-- The heartbeat of a processor has been missing for 20 VC; one that is being reset sends none. -/
def heartbeatLost (sp : Bool) (s : State) : State :=
  if (if sp then s.sys.sp else s.sys.cp).reset then s else resetProc sp s

/-- A reload of the processor's image ends (R455): a failed one is tried once more, then the processor stays in reset. -/
def procReload (ok : Bool) (p : Proc) : Proc :=
  if !p.reset || p.dead then p
  else if ok then { p with reset := false, miss := 0, tries := 0 }
  else if p.tries = 0 then { p with tries := 1 }
  else { p with dead := true }

/-- The reload of the CP or the SP ends. -/
def reloadEnd (sp ok : Bool) (s : State) : State :=
  let p := if sp then s.sys.sp else s.sys.cp
  let q := procReload ok p
  let s := { s with sys := if sp then { s.sys with sp := q } else { s.sys with cp := q } }
  noteIf (q.dead && !p.dead) 0x0F13 0 0 s

/-! ### Self-checks of blocks (R23) -/

/-- A block's self-check fails: the reaction its chapter gives. `n` is the region of a PDS or DSU instance, the door bus channel or the
check-value unit. -/
def selfCheckFail (b : Block) (n : Nat) (s : State) : State :=
  match b with
  | .crd => raiseS 0x0508 1 n s
  | .pds => regionMinority n 0x0609 0 s
  | .dsu => regionMinority n 0x0712 0 s
  | .dbc => busLocal n 0x0810 s
  | .sni => raiseS 0x0911 0 0 s
  | .cmd => raiseS 0x100D 0 0 s
  | .fio => raiseS 0x0A14 0 0 s
  | .cvu => cvuNote n 0x0B05 (s.setUnitC n { s.unitC n with failed := true, open_ := false, result := 0, check := 0, append := 0 })
  | .mbx => raiseS 0x0C05 0 0 (s.setRegB Reg.MBX_STAT 31 true)
  | .evr => raiseS 0x0D0C 0 0 (s.setRegB Reg.EVR_STAT 29 true)
  | .jnl => raiseS 0x0D0C 0 0 (s.setRegB Reg.JNL_STAT 30 true)
  | .pcl => raiseS 0x0E12 0 0 s
  | .sui => note 0x0F10 0 0 (updSui (fun u => { u with failed := true }) s)

end Sys2Proof.Machine
end

