-- ==== Sys2Proof/Machine/PhaseOps.lean ====
section
/-!
DEFINITION. The vital cycle: what stands at each boundary of a VC, and the runtime's work of each phase (R49–R68, R40, R109–R119, R244,
R305, R392).
-/
namespace Sys2Proof.Machine

/-! ### Phases and marks (R50, R65, R66) -/

/-- The tick at which a phase begins. -/
def phaseTick (p : Nat) : Nat :=
  match p with
  | 0 => 0
  | 1 => 1250
  | 2 => 8750
  | 3 => 11250
  | 4 => 13750
  | _ => 23750

/-- A phase begins. -/
def toPhase (p : Nat) (s : State) : State := { s with sys := { s.sys with phase := p, tick := phaseTick p } }

/-- The tick at which the present phase ends: of P5, with the trim of this VC (R56). -/
def phaseEnd (s : State) : Nat := if s.sys.phase < 5 then phaseTick (s.sys.phase + 1) else (25000 + s.sys.trimNow).toNat

/-- The present tick, a free value from the last tick known to the end of the phase (DESIGN CHOICE, log entry 4). -/
def tickNow (s : State) : State :=
  if s.sys.vcOn then
    let (w, t) := s.takeFree
    { t with sys := { t.sys with tick := s.sys.tick + w.toNat % max 1 (phaseEnd s - s.sys.tick) } }
  else s

/-- SYS_PHASE_HWMp keeps its highest tick; a mark that is written again in its phase is set again, at its later tick (DESIGN CHOICE, log
entry 141). -/
def markTick (p tick : Nat) (s : State) : State :=
  { s with sys := { s.sys with lastMark := some (p, tick % 2 ^ 15) } : State }.setReg (Reg.SYS_PHASE_HWM0 + 4 * p) (word (max (s.regF (Reg.SYS_PHASE_HWM0 + 4 * p) 14 0) (tick % 2 ^ 15)))

/-- A mark that hardware sets within its phase: its tick is a measured value that the model does not have (DESIGN CHOICE, log entry 4). -/
def hardwareMark (p len : Nat) (s : State) : State :=
  let (w, s) := s.takeFree
  markTick p (phaseTick p + w.toNat % len) s

/-- The phase of bit `i` of SYS_PHASE_DONE. -/
def markPhase (i : Nat) : Nat :=
  match i with
  | 0 => 1
  | 1 => 3
  | 2 => 4
  | _ => 5

/-- A read of SYS_PHASE_HWMp (R7, R68): cleared, but for a mark set in the reading tick. -/
def hwmRead (p : Nat) (s : State) : State :=
  let s := tickNow s
  s.setReg (Reg.SYS_PHASE_HWM0 + 4 * p) (match s.sys.lastMark with
    | some (q, t) => if q = p ∧ t = s.sys.tick % 2 ^ 15 ∧ s.sys.vcOn then word t else 0
    | none => 0)

/-! ### P4 (R51, R67, R90, R92, R242, R314, R333, R383, R392, R402) -/
/-- The copy engine finds the live regions unequal while it copies (R90, R92). -/
def copyCheck4 (diff : Bool) (s : State) : State :=
  if diff && s.vau.seqRegion.isSome && decide (25 ≤ s.vau.seqVc ∧ s.vau.seqVc ≤ 36) then raiseS 0x021B 0 0 s else s

/-- The heartbeats of the CP on MB0 and of the SP on MB1 (R27). -/
def heartbeats (s : State) : State :=
  let (c, s) := heartbeatTake 0 s.sys.cp s
  let (p, s) := heartbeatTake 1 s.sys.sp s
  let s := { s with sys := { s.sys with cp := c, sp := p } }
  let s := if 20 ≤ c.miss then heartbeatLost false s else s
  if 20 ≤ p.miss then heartbeatLost true s else s

/-- Count cells whose leaves have changed (R242). -/
def changedCells (s : State) : List Nat := (List.range 64).filter fun k => (List.range 4).any fun j => (s.dleaf (4 * k + j)).changed

/-- Standing cells that differ from the standing list (R333). -/
def changedStand (s : State) : List Nat :=
  if s.rt.standDirty then (List.range 16).filter fun k =>
      standPayload k s != ((cellPayload (321 + k) s).getD (List.replicate 64 0#8)).take 64
  else []

/-- The journal commit of P4: tags, counts and standing list (R242, R314, R333); a `BANKED` member takes its cells from the mirror. The
cells of the operations that `SAFE` ended are written in `SAFE`, for their replay (R329, R412; DEDUCED, log entry 86). -/
def journalWork (s : State) : State :=
  if s.sys.state = .safe then { s.cmd.dirty.foldl journalTag s with cmd := { s.cmd with dirty := [] } }
  else if s.sys.state = .banked then cellsDue s
  else if jnlOpen s then
    let s := s.cmd.dirty.foldl journalTag (cellsDue s)
    let s := (changedStand s).foldl journalStand ((changedCells s).foldl journalCount s)
    let s := (List.range 256).foldl (fun s l => if (s.dleaf l).changed then updLeaf l (fun d => { d with changed := false }) s else s) s
    { s with cmd := { s.cmd with dirty := [] }, rt := { s.rt with standDirty := false } }
  else s

/-- The BOOT record (R402). -/
def bootRecord (s : State) : State :=
  if s.rt.bootDue then
    postNand 7 (le4 (s.reg Reg.SYS_RESET_CAUSE) ++ [byte s.conf.slot, byte s.conf.member, 0#8, 0#8]
      ++ le4 (s.sui.runningBundle 2)) { s with rt := { s.rt with bootDue := false } }
  else s

/-- The NAND records that the runtime has formed since the last P4 are posted (R403). -/
def postRecords (s : State) : State := s.evr.posts.foldl (fun s p => postNand p.1 p.2 s) { s with evr := { s.evr with posts := [] } }

/-- One part of the runtime's background work. -/
def bgPerform (w : BgWork) (s : State) : State :=
  match w with
  | .flags => readFlags s
  | .ledger => startLoad s
  | .replay => replayTags s
  | .heartbeats => heartbeats s
  | .mailboxes => mbService s
  | .boot => bootRecord s
  | .records => postRecords s
  | .journal => journalWork s

/-- The first `n` parts of the background work are done, in their order (R67). -/
def bgRun (n : Nat) (s : State) : State :=
  (s.rt.bg.take n).foldl (fun s w => bgPerform w s) { s with rt := { s.rt with bg := s.rt.bg.drop n } }

/-- The work queue of P4 is done. -/
def bgFinish (s : State) : State := bgRun s.rt.bg.length s

/-- The parts of P4's work, in their order. -/
def bgParts : List BgWork := [.flags, .ledger, .replay, .heartbeats, .mailboxes, .boot, .records, .journal]

/-- P4 begins: the work that was carried is done before any work of this VC and in its order (R67); the work of this VC waits. -/
def bgBegin (s : State) : State :=
  let s := bgFinish s
  trialTest { s with rt := { s.rt with bg := bgParts } }

/-- 950 µs without BG_DONE: how much of the work is done by then is a free value; the rest is carried (R51, R67). -/
def bgCarry (s : State) : State :=
  let (w, s) := s.takeFree
  bgRun (w.toNat % (s.rt.bg.length + 1)) s


/-- A write of SYS_PHASE_DONE at a tick (R65); BG_DONE says that the work of P4 is done (R67). -/
def phaseMark (w : Word) (tick : Nat) (s : State) : State :=
  let bits := (List.range 4).filter (bitAt w)
  let s := { s with sys := { s.sys with tick := tick } }
  let s := if bitAt w 2 && s.sys.phase == 4 then bgFinish s else s
  let s := (bits.filter fun i => s.sys.phase == markPhase i).foldl
    (fun s i => markTick (markPhase i) tick (s.setRegB Reg.SYS_PHASE_DONE i true)) s
  noteIf (bits.any fun i => s.sys.phase != markPhase i) 0x0129 0 0 s

/-- The overrun of a phase (R66): its bit in SYS_OVERRUN and its code. -/
def overrun (p code : Nat) (s : State) : State := raiseS code 0 0 (s.setRegB Reg.SYS_OVERRUN p true)

/-- The overrun, where a mark of the runtime is absent. -/
def markCheck (i code : Nat) (s : State) : State := if s.regB Reg.SYS_PHASE_DONE i then s else overrun (markPhase i) code s

/-! ### The VC start (R51) -/

/-- VCN and P0; the first VC keeps VCN 0 (R54). -/
def vcnStep (s : State) : State :=
  let v := if s.sys.vcStarted then s.sys.vcn + 1 else s.sys.vcn
  { toPhase 0 s with sys := { (toPhase 0 s).sys with vcn := v, vcStarted := true, lastMark := none } }.setReg Reg.SYS_PHASE_DONE 0

/-- Bit 31 of `n` registers from `lo` on is cleared. -/
def clearTops (lo n : Nat) (s : State) : State :=
  ((s.regs.map (·.1)).filter fun a => decide (lo ≤ a) && decide (a < lo + 4 * n)).foldl (fun s a => s.setRegB a 31 false) s

/-- What belongs to one VC ends with it: the marks of engine, ledger, door step, commands, journal, capture and mirror reception. -/
def clearFlags (s : State) : State :=
  let s := { s with
    ite := { s.ite with done := false, goTaken := false }
    crd := { s.crd with censusDone := false, censusGo := false, ops := 0, loadBegun := false }
    dsu := { s.dsu with go := false, done := false, lcmds := [] }
    pds := { s.pds with ready := false }
    cmd := { s.cmd with handed := 0 }
    jnl := { s.jnl with written := [] }
    vau := captureTurn s.vau
    rt := { s.rt with sequenced := false, ext := false, formed := [] }
    evr := { s.evr with rtThisVc := 0 } }
  let s := (List.range 8).foldl (fun s e => if (s.edge e).ecmd = 0 then s else updEdge e (fun d => { d with ecmd := 0 }) s) s
  let s := clearTops Reg.ITE_RES 255 s
  [Reg.CRD_RESULT, Reg.CRD_CENSUS, Reg.DSU_COUNT_CHECK, Reg.CMD_RSTAT, Reg.PCL_MRX].foldl (fun s a => s.setRegB a 31 false) s

/-- Mantle's strobe (R105, R106, R121): the VC that ends, where a strobe began it, has the length that Mantle measured; beyond its
limits Mantle enters `MSAFE`. -/
def mantleStrobe (measured : Bool) (meas : Nat) (s : State) : State :=
  let s := { s with mnt := mStrobe s.mnt }
  if measured then
    let s := { s with mnt := { s.mnt with vcMeas := meas } }
    if s.mnt.st ≠ .msafe ∧ (meas < 19800 ∨ 20200 < meas) then mFault 0x0304 s else s
  else s

/-- The travel clock's snapshot (R195–R201, R211, R213). -/
def travelStart (s : State) : State := (List.range 8).foldl berthCompute (latchLeaves (reportsTurn (clearNew s)))

/-- VC_START. -/
def vcStart (rb : BitVec 48) (meas : Nat) (s : State) : State :=
  if s.sys.vcOn then
    let measured := s.sys.vcStarted
    let s := updPcl (fun p => { p with lastSum := s.reg Reg.CRD_CHECKSUM }) s
    let s := clearFlags (vcnStep (vauTick (periodsPass (25000 + s.sys.trimNow).toNat s)))
    let s := mantleStrobe measured meas (trimTurn (pairStart (obsStart s)))
    let s := netSnapshot (busesTurn (fioStrobe rb s))
    freeEnded (tokTicks (travelStart s))
  else s

/-! ### P1 (R24, R51, R313, R314, R143, R305) -/

/-- Every snapshot is complete. -/
def snapshotsReady (s : State) : State :=
  hardwareMark 0 1250 { s with fio := { s.fio with ready := true }, sni := { s.sni with ready := true }, pds := { s.pds with ready := true } }

/-- The network snapshot codes hold (R293). -/
def netSnapOk (s : State) : Bool :=
  s.reg Reg.SNI_SCODEA == snapCode s.sys.vcn s.sni.snapA && s.reg Reg.SNI_SCODEB == snapCode s.sys.vcn s.sni.snapB

/-- The telegram checks, with a CORRELATION record for every host connection that becomes fresh (R406). -/
def checkTelegrams (s : State) : State :=
  let old := (connections s).filter fun c => (s.con c).fresh
  let s := telegramChecks s
  ((connections s).filter fun c => conHost s c && (s.con c).fresh && !old.contains c).foldl (fun s c => correlation c s) s

/-- The snapshot codes that do not hold. The runtime's two checks count as one detection, so of two failures the lower code is the cause
(R16; DESIGN CHOICE, log entry 140). -/
def snapFaults (s : State) : List Nat := (if netSnapOk s then [] else [0x0914]) ++ (if fioSnapOk s then [] else [0x0A13])

/-- The runtime's work of P1 before the engine is launched: a standing block takes its token before any command or lending message of the VC
(R333). -/
def evaluateWork (s : State) : State :=
  if s.sys.state = .safe then (if 0 < s.sys.safeCycles then formRestrictive s else s)
  else if s.live then
    let s := raiseAll (snapFaults s) s
    if s.live then
      let s := (List.range 8).foldl corrTurn (checkTelegrams s)
      let s := if sequences s then standingBlocks s else s
      let s := if s.pcl.handing then s else applyCommands 32 s
      writeInputs (lendTurn (lendDeliver s))
    else s
  else s

/-- EVALUATE_START. -/
def evaluateStart (ready : Bool) (s : State) : State :=
  if s.sys.vcOn then
    let s := segStart (toPhase 1 s)
    evaluateWork (if ready then snapshotsReady s else overrun 0 0x0121 s)
  else s

/-! ### P2 (R51, R112–R115, R118, R124, R40) -/

/-- The vector that the triad sends at 350 µs (R111). -/
def frozenVector (s : State) : Option (BitVec 64) :=
  if s.sys.state = .safe then some (setBit 0#64 63 true) else if s.mnt.tsetLo && s.mnt.tsetHi then some s.mnt.tset else none

/-- AGREE_START: an entry to `SAFE` in P1 has its restrictive telegrams formed before the freeze (R37). -/
def agreeStart (s : State) : State :=
  if s.sys.vcOn then
    let s := if s.sys.state = .safe ∧ s.sys.safeCycles = 3 then formRestrictive s else s
    let s := linkSend (segmentLatch (markCheck 0 0x0122 (toPhase 2 s)))
    { s with mnt := { s.mnt with tfrozen := frozenVector s, restricted := false } }
  else s

/-- Mantle counts the views of the triad: in `RUN` and `HOLD`. -/
def mWatches (m : Mnt) : Bool := m.st == .run || m.st == .hold

/-- Mantle takes the triad's vector, or misses it (R118): in `RUN` and `HOLD` a badly coded one is absent too. An all-restrictive vector
that Mantle has taken since the freeze stays the standing one (DESIGN CHOICE, log entry 142). -/
def takeVector (received : Bool) (s : State) : State :=
  let m := s.mnt
  match m.tfrozen, received && !m.tsetBad with
  | some v, true =>
    let v := if m.restricted then setBit 0#64 63 true else v
    { s with mnt := { m with tvec := v, tfrozen := some v, vecOk := true, vecAbsent := 0 } }
  | _, _ =>
    let s := { s with mnt := { m with vecOk := false, vecAbsent := if mWatches m then m.vecAbsent + 1 else 0 } }
    let s := if m.tsetBad then mFault 0x0303 s else s
    if !mWatches m then s
    else if m.vecAbsent = 0 then note 0x0305 0 0 s
    else mFault 0x0306 s

/-- Transmit slots and door buses that are vital-ready. -/
def readySlots (s : State) : List Nat := (List.range 64).filter fun m => s.regB (Reg.SNI_TXC + 4 * m) 31
def readyBuses (s : State) : List Nat := (List.range 8).filter fun b => s.regB (busReg Reg.DBC_CREADY b) 0

/-- The connection record that Mantle holds for a slot. -/
def slotRecord (s : State) (m : Nat) : Option Nat :=
  let c := s.regF (Reg.SNI_TXC + 4 * m) 15 8
  mConn s.mnt (bit (conHost s c)) (conNumber s c)

/-- The permissive block in a transmit slot. -/
def slotBlock (s : State) (m : Nat) : BitVec 64 := BitVec.ofNat 64 (ofLe (((Tbl.get s.sni.tx m).drop 20).take 8))

/-- A telegram's block is consistent with the triad's vector (R113); a bit set for a connection without a record in Mantle's table has no
class and is inconsistent (DESIGN CHOICE, log entry 106). -/
def slotConsistent (s : State) (m : Nat) : Bool :=
  let blk := slotBlock s m
  (List.range 64).all fun b => !bitAt blk b || match slotRecord s m with
    | some j =>
      let (c, a) := mRule s.mnt j b
      classOnTriad s.mnt.tvec c a
    | none => false

/-- A door command block is consistent with the triad's vector (R113, R123). -/
def busConsistent (s : State) (e : Nat) : Bool :=
  let blk := (copyOf s e).block
  (List.range 64).all fun b => !bitAt blk b || (decide (b < 48) && classOnTriad s.mnt.tvec (if b < 32 then 3 else 4) e)

/-- The consistency check (R113). -/
def consistent (s : State) : Bool :=
  vectorConsistent s.mnt.tvec && (readySlots s).all (slotConsistent s) && (readyBuses s).all (busConsistent s)

/-- A telegram's block of which Mantle masks a bit. -/
def maskedSlot (s : State) (m : Nat) : Bool := slotBlock s m &&& ~~~telGrant s.vau.debug s.mnt (slotRecord s m) != 0

/-- The seals of P2 (R124, R130); masked blocks are recorded once (R118). -/
def sealAll (s : State) : State :=
  let slots := readySlots s
  let buses := readyBuses s
  let n := (slots.filter (maskedSlot s)).length + (buses.filter (maskedBus s)).length
  let s := buses.foldl (fun s b => sealBus b s) (slots.foldl (fun s m => sealSlot m s) s)
  let s := { s with mnt := { s.mnt with sealedTel := slots.length, sealedDoor := bitsOf 8 fun b => buses.contains b, masked := n } }
  countMasked n s

/-- The registers of Mantle's window that stand from 358 µs of a VC on (R130); the seals of this P2 are shown with them (DEDUCED, log
entry 98). -/
def mntShow (s : State) : State :=
  let m := s.mnt
  let half (v : BitVec 64) (k : Nat) : Word := (v >>> (32 * k)).setWidth 32
  let regs : List (Nat × Word) := [
    (Reg.MNT_VEC_LO, half m.mvec 0), (Reg.MNT_VEC_HI, half m.mvec 1), (Reg.MNT_TVEC_LO, half m.tvec 0), (Reg.MNT_TVEC_HI, half m.tvec 1),
    (Reg.MNT_INPUTS, m.latched), (Reg.MNT_SEAL_STAT, word (m.masked % 128 * 2 ^ 16 + m.sealedDoor.toNat * 2 ^ 8 + m.sealedTel % 128)),
    (Reg.MNT_SEAL_RCNT, m.sealCount), (Reg.MNT_HB, word (m.hbCode % 256 * 2 ^ 24 + m.hbVcn % 256 * 2 ^ 16 + m.hbMiss % 4 * 2 ^ 8)),
    (Reg.MNT_VC_MEAS, word (m.vcMeas % 2 ^ 15)),
    (Reg.MNT_PARAM_ID, if m.tabOk then word (mtW m 8) else 0), (Reg.MNT_PARAM_SEQ, if m.tabOk then word (mtW m 12) else 0)]
    ++ (List.range 8).map fun e => (Reg.MNT_DISC + 4 * e, discWord s e)
  regs.foldl (fun s p => s.setReg p.1 p.2) s

/-- MANTLE_VECTOR_CHECK (R109, R112–R114, R124). Without a vector in this VC there is no triad's view: the consistency check is not made
and the counters stay (DESIGN CHOICE, log entry 107). The counting is done on the vector that was received, also where the check then fails
(DESIGN CHOICE, log entry 143). -/
def mantleCheck (received : Bool) (s : State) : State :=
  if s.sys.vcOn then
    let s := takeVector received s
    let s := if mWatches s.mnt && s.mnt.vecOk then { s with mnt := discAll s.mnt } else s
    let s := if s.mnt.vecOk && !consistent s then raiseS 0x0315 0 0 s else s
    let m := mQualify s.vau.debug (mWithdraw s.vau.debug s.mnt)
    mntShow (sealAll { s with mnt := { m with mvec := mVector s.vau.debug m } })
  else s

/-- The triad reads `MSAFE` (R40): recorded in the first VC in which it is read. -/
def readMsafe (s : State) : State :=
  let c := s.regF Reg.MNT_CAUSE 15 0
  safeOn c true (noteIf (!s.mnt.msafeRead) c 0 0 { s with mnt := { s.mnt with msafeRead := true } })

/-- The triad reads a TRIP that it has not read before (R114); the edge's token is frozen at the reading (R175). -/
def readTrips (s : State) : State :=
  ((List.range 8).filter fun e => mTrip s.mnt e && !bitAt s.mnt.readVec (52 + e)).foldl
    (fun s e => raiseEdge e (tripCode s.mnt e) 2 e (s.setRegB Reg.CRD_FREEZE e true)) s

/-- MANTLE_STATUS_READ (R40, R112, R114, R118): `echo` is what MNT_TVEC reads. Mantle's cause has a lower code than the echo's mismatch
(R16). -/
def mantleRead (readable : Bool) (echo : BitVec 64) (s : State) : State :=
  if !s.sys.vcOn then s
  else if !readable then raiseS 0x030D 0 0 { s with mnt := { s.mnt with readOk := false } }
  else
    let s := if s.mnt.st = .msafe then readMsafe s else readTrips { s with mnt := { s.mnt with msafeRead := false } }
    let s := if s.mnt.tfrozen.getD echo = echo then s else raiseS 0x030E 0 0 s
    { s with mnt := { s.mnt with readVec := s.mnt.mvec, readOk := mOk s.vau.debug s.mnt } }

/-! ### P3 (R51, R109, R115, R303) -/

/-- COMMIT_START: agreement is formed, grants take effect, telegrams are released. What was withdrawn before is off until it is committed
again (R53). -/
def commitStart (sealsDone : Bool) (s : State) : State :=
  if s.sys.vcOn then
    let s := toPhase 3 s
    let s := if sealsDone then hardwareMark 2 2500 s else overrun 2 0x0123 s
    let s := fioGate { s with mnt := mWithdraw s.vau.debug s.mnt }
    release { s with mnt := tripClear (mGrant s.vau.debug s.mnt) }
  else s

/-! ### P4 -/

/-- In `SAFE`, PCL reports it on the pair link and in the cascade frame of every P4 (R36, R39). -/
def safeStatus (s : State) : State :=
  if s.sys.state = .safe then
    cascadeSend 0 (if isPaired s then pairSend false [] s else s)
  else s

/-- BACKGROUND_START. -/
def backgroundStart (copyDiff : Bool) (s : State) : State :=
  if s.sys.vcOn then
    safeStatus (bgBegin (copyCheck4 copyDiff (markCheck 1 0x0124 (toPhase 4 s))))
  else s

/-! ### P5 (R51, R66, R67, R84–R90, R119) -/

/-- BG_DONE at 950 µs (R66, R67): where it is absent, the work not done is carried. -/
def lagCheck (s : State) : State :=
  if s.regB Reg.SYS_PHASE_DONE 2 then s.setReg Reg.SYS_BG_LAG 0
  else
    let s := bgCarry s
    let n := min 8 (s.regF Reg.SYS_BG_LAG 3 0 + 1)
    let s := note 0x0125 0 0 ((s.setRegB Reg.SYS_OVERRUN 4 true).setReg Reg.SYS_BG_LAG (word n))
    if n = 8 then overrun 6 0x0126 s else s

/-- CLOSE_START. -/
def closeStart (s : State) : State := if s.sys.vcOn then switchTrigger (lagCheck (toPhase 5 s)) else s

/-- SIGNATURE_COMPARE at 990 µs (R82, R90, R97, R102, R179): of the class S faults found then, one of the VAU has the lower code and is
the cause (R16). -/
def signatureCompare (detected : BitVec 7) (crcs : List Word) (s : State) : State :=
  if s.sys.vcOn then
    let s := verifyStep crcs (injectTest detected (sigCompare s))
    vauShow (if s.crd.censusDone then s else raiseS 0x0504 0 0 s)
  else s

/-- The VC in which a configuration check has failed ends: `MAINT` with its code (R30, R456). -/
def checkFailed (s : State) : State :=
  match s.rt.checkFail with
  | some c =>
    let s := { s with rt := { s.rt with checkFail := none } }
    if s.sys.state = .configCheck then enterMaint c false s else s
  | none => s

/-- VC_END (R51, R66, R84, R90, R119, R120, R456). -/
def vcEnd (heartbeat : Bool) (s : State) : State :=
  if s.sys.vcOn then
    let s := markCheck 3 0x0127 s
    checkFailed (vauVcEnd (let t := heartbeatCheck heartbeat s; resealAfter s.mnt t))
  else s

/-! ### VCN (R54, R55) -/

/-- A load of VCN: PCL's, once, in `JOIN`. -/
def vcnLoad (byPcl : Bool) (v : Word) (s : State) : State :=
  if byPcl && s.sys.state == .join && !s.sys.vcnLoaded then { s with sys := { s.sys with vcn := v, vcnLoaded := true } }
  else note 0x012A 0 0 s

end Sys2Proof.Machine
end

