-- ==== Sys2Proof/Machine/Cycle.lean ====
section
/-!
DEFINITION. The commands of the vital cycle. While the VC timer does not run (R54) its boundaries have no effect.
-/
namespace Sys2Proof.Machine

/-- VC_START (R51). -/
def execVcStart (reading : VcReading) (s : State) : Host.Outcome State Fault Refusal := .next (vcStart reading.pins reading.meas s)

/-- EVALUATE_START (R51, R66). -/
def execEvaluateStart (ready : Bool) (s : State) : Host.Outcome State Fault Refusal := .next (evaluateStart ready s)

/-- AGREE_START (R51, R66). -/
def execAgreeStart (s : State) : Host.Outcome State Fault Refusal := .next (agreeStart s)

/-- MANTLE_VECTOR_CHECK (R112–R114, R118). -/
def execMantleVectorCheck (received : Bool) (s : State) : Host.Outcome State Fault Refusal := .next (mantleCheck received s)

/-- MANTLE_STATUS_READ (R40, R112). -/
def execMantleStatusRead (readable : Bool) (echo : BitVec 64) (s : State) : Host.Outcome State Fault Refusal :=
  .next (mantleRead readable echo s)

/-- COMMIT_START (R51, R66, R109, R303). -/
def execCommitStart (sealsDone : Bool) (s : State) : Host.Outcome State Fault Refusal := .next (commitStart sealsDone s)

/-- BACKGROUND_START (R51, R66, R92). -/
def execBackgroundStart (copyDiff : Bool) (s : State) : Host.Outcome State Fault Refusal := .next (backgroundStart copyDiff s)

/-- CLOSE_START (R51, R66, R67). -/
def execCloseStart (s : State) : Host.Outcome State Fault Refusal := .next (closeStart s)

/-- CREDIT_RECOUNT (R316). -/
def execCreditRecount (s : State) : Host.Outcome State Fault Refusal := .next (creditRecount s)

/-- SIGNATURE_COMPARE (R82, R90, R97, R179). -/
def execSignatureCompare (results : CloseResults) (s : State) : Host.Outcome State Fault Refusal :=
  .next (signatureCompare results.detected results.crcs s)

/-- VC_END (R51, R66, R90, R119): `heartbeat` says that the word written in P5 has reached Mantle (R22, R98). -/
def execVcEnd (heartbeat : Bool) (s : State) : Host.Outcome State Fault Refusal := .next (vcEnd heartbeat s)

/-- PHASE_MARK (R65), a transaction of its own kind (R70). -/
def execPhaseMark (w : Word) (tick : Nat) (s : State) : Host.Outcome State Fault Refusal := .next (phaseMark w tick (obsCount 14 1 s))

/-- VCN_LOAD (R54). -/
def execVcnLoad (byPcl : Bool) (vcn : Word) (s : State) : Host.Outcome State Fault Refusal := .next (vcnLoad byPcl vcn s)

/-- VC_TIMER_FAULT (R55). -/
def execVcTimerFault (s : State) : Host.Outcome State Fault Refusal := .next (raiseS 0x0128 0 0 s)

/-- MANTLE_TABLE_VERIFIED (R126–R128): hash and signature, then every range; in `WAIT`. `key` is the signer's public key, which SUI hands over
with the table (DEDUCED, log entry 156). -/
def execMantleTableVerified (key : List Byte) (s : State) : Host.Outcome State Fault Refusal :=
  .next (if s.mnt.st = .wait then
    { s with mnt := { s.mnt with tabOk := tableSigned s.mnt key && tableOk s.mnt s.conf.configId.toNat } } else s)

end Sys2Proof.Machine
end

