-- ==== Sys2Proof/Machine/DoorBus.lean ====
section
/-!
DEFINITION. The door bus controllers' commands.
-/
namespace Sys2Proof.Machine

/-- REFERENCE_SEND (R268): at the first VC of a BC, the attempt of a `MASTER`, `SAFE_TX` or `BACKUP`; a busy bus withdraws it. -/
def execReferenceSend (bus : Nat) (busy : Bool) (s : State) : Host.Outcome State Fault Refusal :=
  let d := s.bus bus
  .next (if d.txRef = .pending ∧ (d.st = .master ∨ d.st = .safeTx ∨ d.st = .backup) ∧ d.err ≠ 2 ∧ d.fly = none then
      if busy then updBus bus (fun d => { d with txRef := .busBusy }) s
      else send .reference (refFrame s bus) bus s
    else s)

/-- REFERENCE_RX (R268). -/
def execReferenceRx (bus ofs id : Nat) (bytes : List Byte) (s : State) : Host.Outcome State Fault Refusal :=
  .next (refRx bus ofs (fdFrame id bytes) s)

/-- ORDER_FRAME_SEND (R261, R262, R264). -/
def execOrderFrameSend (bus : Nat) (s : State) : Host.Outcome State Fault Refusal :=
  let d := s.bus bus
  .next (if d.txOrd = .pending ∧ (d.st = .master ∨ d.st = .safeTx) ∧ d.err ≠ 2 then send .order (orderFrame s bus) bus s else s)

/-- DOOR_COMMAND_FRAME_SEND (R261, R262, R264): without the seal mark of the previous VC no frame goes out. -/
def execDoorCommandFrameSend (bus : Nat) (s : State) : Host.Outcome State Fault Refusal :=
  let d := s.bus bus
  .next (if d.txCmd = .pending ∧ (d.st = .master ∨ d.st = .safeTx) ∧ d.err ≠ 2 then
      if d.st = .master ∧ ¬ d.sending.hasSeal then noteBus bus 0x0805 (updBus bus (fun d => { d with txCmd := .notSealed }) s)
      else send .command (commandFrame s bus) bus s
    else s)

/-- FRAME_TX_END (R250, R262, R268, R274, R275). -/
def execFrameTxEnd (bus : Nat) (e : FrameEnd) (s : State) : Host.Outcome State Fault Refusal := .next (txEnd bus e.result e.tdcv s)

/-- REPORT_RX (R265, R266). -/
def execReportRx (bus unit sof : Nat) (bytes : List Byte) (s : State) : Host.Outcome State Fault Refusal :=
  .next (reportRx bus unit sof bytes s)

/-- FOREIGN_FRAME_RX (R266). -/
def execForeignFrameRx (bus id sof : Nat) (fd : Bool) (s : State) : Host.Outcome State Fault Refusal :=
  .next (foreignRx bus id sof fd s)

/-- DBC_ERROR_PASSIVE (R274). -/
def execDbcErrorPassive (bus : Nat) (s : State) : Host.Outcome State Fault Refusal := .next (passiveEvent bus s)

/-- DBC_BUS_OFF (R274). -/
def execDbcBusOff (bus : Nat) (s : State) : Host.Outcome State Fault Refusal := .next (busOff bus s)

/-- BUS_OFF_RECOVERY (R274): the channel resumes in its state, error-active with its counters at 0. -/
def execBusOffRecovery (bus : Nat) (s : State) : Host.Outcome State Fault Refusal :=
  let a := busReg Reg.DBC_ERR bus
  .next (if (s.bus bus).err = 2 then ((updBus bus (fun d => { d with err := 0 }) s).setRegF a 31 24 0).setRegF a 23 15 0 else s)

/-- DBC_CANCEL (R263). -/
def execDbcCancel (bus : Nat) (s : State) : Host.Outcome State Fault Refusal := .next (busCancel bus s)

/-- DBC_SLEEP (R277). -/
def execDbcSleep (bus : Nat) (s : State) : Host.Outcome State Fault Refusal := .next (busSleep bus s)

/-- SLEEP_ENTER (R277). -/
def execSleepEnter (bus : Nat) (s : State) : Host.Outcome State Fault Refusal := .next (sleepEnd bus s)

/-- DBC_WAKE (R248, R278): the first of three wake frames; a channel that only listens sends none. -/
def execDbcWake (bus : Nat) (s : State) : Host.Outcome State Fault Refusal :=
  .next (if (s.bus bus).mayWake then sendWake bus (updBus bus (fun d => { d with wakes := 3 }) s) else s)

/-- WAKE_FRAME_REPEAT (R278). -/
def execWakeFrameRepeat (bus : Nat) (s : State) : Host.Outcome State Fault Refusal := .next (sendWake bus s)

/-- WAKE_DETECT (R278): the wake-up pattern, or a frame with its identifier, DLC and data. -/
def execWakeDetect (bus : Nat) (pattern : Bool) (id dlc : Nat) (data : Byte) (s : State) : Host.Outcome State Fault Refusal :=
  let w := s.reg (busReg Reg.DBC_WAKE bus)
  let mode := s.regF (busReg Reg.DBC_CONF bus) 29 28
  let match_ := !pattern && id == field w 10 0 && dlc == 1 && (data ^^^ byte (field w 23 16)) &&& byte (field w 31 24) == 0#8
  .next (if (mode = 0 ∧ pattern) ∨ (mode = 1 ∧ match_) then busWakes bus s else s)

/-- DBC_CREADY (R261). -/
def execDbcCready (bus : Nat) (w : Word) (s : State) : Host.Outcome State Fault Refusal :=
  .next (if bitAt w 0 then s.setRegB (busReg Reg.DBC_CREADY bus) 0 true else s)

/-- DBC_LOADING_COPY_WRITE (R261, R125): word 0 and 1 the block, 2–5 the command bytes, 6 the ramp. A write after the seal clears
the mark, and Mantle reseals. -/
def execDbcLoadingCopyWrite (bus index : Nat) (w : Word) (s : State) : Host.Outcome State Fault Refusal :=
  if index > 6 then .next s
  else
    let w := if index = 6 then w &&& 0xFFFF#32 else w
    let hadSeal := s.regB (busReg Reg.DBC_CREADY bus) 1
    let s := s.setReg (busReg Reg.DBC_CBLK_LO bus + 4 * index) w
    .next (if hadSeal then resealBus bus s else s)

/-- DBC_LOCK (R280): set until reset. -/
def execDbcLock (bus : Nat) (w : Word) (s : State) : Host.Outcome State Fault Refusal :=
  let a := busReg Reg.DBC_LOCK bus
  .next (s.setReg a (s.reg a ||| (w &&& 1#32)))

end Sys2Proof.Machine
end

