-- ==== Sys2Proof/Machine/DoorTimers.lean ====
section
/-!
DEFINITION. The times of the door supervision as commands of their own (R222, R224, R228, R239): each acts while its leaf, edge or
session is in the state in which the time runs and the time has elapsed, and what it decides reaches the door commands that wait. The step and the
sessions' turns look at the same times themselves (log entry 8).
-/
namespace Sys2Proof.Machine

/-- LOCK_TIMEOUT (R228): LK_T without unlock or lock. -/
def execLockTimeout (leaf : Nat) (s : State) : Host.Outcome State Fault Refusal :=
  .next (if leafFault s leaf = some 0x0709 then settleDoors (leafFails 0x0709 leaf s) else s)

/-- OPEN_TIMEOUT (R228): OPEN_T without `OPEN`. -/
def execOpenTimeout (leaf : Nat) (s : State) : Host.Outcome State Fault Refusal :=
  .next (if leafFault s leaf = some 0x070A then settleDoors (leafFails 0x070A leaf s) else s)

/-- CLOSE_TIMEOUT (R224): CLOSE_T after an accepted close. -/
def execCloseTimeout (edge : Nat) (s : State) : Host.Outcome State Fault Refusal :=
  .next (if (s.edge edge).closeT.any (fun n => decide (n ≥ 100 * eF s Reg.DSU_ETIM edge 15 8)) then
      settleDoors (doorEvent (.closeTimeout edge) (note 0x070B 2 edge (updEdge edge (fun d => { d with closeT := none }) s)))
    else s)

/-- The door session of an edge in a state, at a time when the runtime sequences sessions (R152). -/
def doorSesIn (s : State) (edge : Nat) (p : SesSt → Bool) : Option Nat :=
  if turnNow s then (sesOf s .door edge).filter fun n => p (s.ses n).st else none

/-- ENABLE_GRANT_TIMEOUT (R222): 10 VC in `PROVING` without DA. -/
def execEnableGrantTimeout (edge : Nat) (s : State) : Host.Outcome State Fault Refusal :=
  .next (match doorSesIn s edge (· == .proving) with
    | some n => if bitAt s.mnt.da edge || !elapsed s (s.ses n).provVcn 10 then s else enableTimeout n s
    | none => s)

/-- DOOR_WAIT_TIMEOUT (R222): DWAIT_T in `CHECKING`. -/
def execDoorWaitTimeout (edge : Nat) (s : State) : Host.Outcome State Fault Refusal :=
  .next (match doorSesIn s edge (· == .checking) with
    | some n => if dwaitOver s n then doorTry n false s else s
    | none => s)

/-- RESTORATION_RELEASE (R239): the release of a restoration accepted in an earlier VC. -/
def execRestorationRelease (edge : Nat) (s : State) : Host.Outcome State Fault Refusal :=
  let d := s.edge edge
  .next (if d.st = .localSafe ∧ d.restoring ∧ later s.sys.vcn d.restVcn then settleDoors (restorationRelease edge s) else s)

end Sys2Proof.Machine
end

