-- ==== Sys2Proof/Machine/Doors.lean ====
section
/-!
DEFINITION. The door supervision unit's commands that concern it alone.
-/
namespace Sys2Proof.Machine

/-- A write of DSU_ECMDe (R508): taken in P1 before GO, where a second write replaces the first; elsewhere recorded. -/
def ecmdWrite (e : Nat) (w : Word) (s : State) : State :=
  if s.sys.phase = 1 then updEdge e (fun d => { d with ecmd := w }) s else note 0x0711 2 e s

/-- An edge command word. -/
def ecmdWord (cmd ses code : Nat) : Word := word (cmd % 16 * 2 ^ 28 + ses % 256 * 2 ^ 16 + code % 65536)

/-- ECMD ENABLE with the session that holds the edge token (R230). -/
def execEcmdEnable (edge ses : Nat) (s : State) : Host.Outcome State Fault Refusal := .next (ecmdWrite edge (ecmdWord 1 ses 0) s)
/-- ECMD OPEN (R230). -/
def execEcmdOpen (edge : Nat) (s : State) : Host.Outcome State Fault Refusal := .next (ecmdWrite edge (ecmdWord 2 0 0) s)
/-- ECMD CLOSE (R230). -/
def execEcmdClose (edge : Nat) (s : State) : Host.Outcome State Fault Refusal := .next (ecmdWrite edge (ecmdWord 3 0 0) s)
/-- ECMD WITHDRAW (R230). -/
def execEcmdWithdraw (edge : Nat) (s : State) : Host.Outcome State Fault Refusal := .next (ecmdWrite edge (ecmdWord 4 0 0) s)
/-- ECMD RESTORE (R239). -/
def execEcmdRestore (edge : Nat) (s : State) : Host.Outcome State Fault Refusal := .next (ecmdWrite edge (ecmdWord 5 0 0) s)
/-- ECMD SAFE_STOP (R234). -/
def execEcmdSafeStop (edge code : Nat) (s : State) : Host.Outcome State Fault Refusal := .next (ecmdWrite edge (ecmdWord 6 0 code) s)
/-- ECMD LOCAL with the code of another block (R230). -/
def execEcmdLocal (edge code : Nat) (s : State) : Host.Outcome State Fault Refusal := .next (ecmdWrite edge (ecmdWord 7 0 code) s)
/-- ECMD END (R222, R508). -/
def execEcmdEnd (edge : Nat) (s : State) : Host.Outcome State Fault Refusal := .next (ecmdWrite edge (ecmdWord 8 0 0) s)

/-- A write of DSU_LCMD: up to 16 in a VC, in P1 (R240); any other is recorded. -/
def lcmdWrite (cmd leaf : Nat) (s : State) : State :=
  if s.sys.phase = 1 ∧ s.dsu.lcmds.length < 16 then
    { s with dsu := { s.dsu with lcmds := s.dsu.lcmds ++ [word (cmd % 16 * 2 ^ 28 + leaf % 256)] } }
  else note 0x0711 3 leaf s

/-- LCMD ISOLATE (R240). -/
def execLcmdIsolate (leaf : Nat) (s : State) : Host.Outcome State Fault Refusal := .next (lcmdWrite 1 leaf s)
/-- LCMD RESTORE (R240). -/
def execLcmdRestore (leaf : Nat) (s : State) : Host.Outcome State Fault Refusal := .next (lcmdWrite 2 leaf s)

/-- DSU_STEP.GO (R244): accepted once per VC, in P1; every equipped edge must have its view, else the module enters `SAFE`. -/
def execDsuStep (s : State) : Host.Outcome State Fault Refusal :=
  .next (
    if s.sys.phase ≠ 1 then note 0x0711 0 0 s
    else if s.dsu.go then s
    else
      let s := { s with dsu := { s.dsu with go := true } }
      if (List.range 8).all fun e => !edgeEquipped s e || evB s e 7 then dsuStep (edgesTakeover (obsCount 29 1 s))
      else raiseS 0x0713 0 0 s)

/-- DSU_STEP_TIMEOUT (R244): a step that has been started has not set DONE. -/
def execDsuStepTimeout (s : State) : Host.Outcome State Fault Refusal :=
  .next (if s.dsu.go && !s.dsu.done then raiseS 0x0713 0 0 s else s)

/-- DSU_LOAD.BEGIN (R242): accepted in P4 of `CONFIG_CHECK`, `JOIN` and `BANKED`. -/
def execDsuLoadBegin (s : State) : Host.Outcome State Fault Refusal :=
  .next (if s.sys.phase = 4 ∧ (s.sys.state = .configCheck ∨ s.sys.state = .join ∨ s.sys.state = .banked) then
    { s with dsu := { s.dsu with loading := true } } else note 0x0711 0 0 s)

/-- DSU_LOAD.END (R241, R242): the window closes and the counts are checked; a mirrored state needs no start rule (R243). -/
def execDsuLoadEnd (s : State) : Host.Outcome State Fault Refusal :=
  .next (if s.dsu.loading then
      let s := { s with dsu := { s.dsu with loading := false } }
      let s := if s.sys.state = .join ∨ s.sys.state = .banked then
          ((List.range 8).flatMap (edgeLeaves s)).foldl (fun s l => updLeaf l (fun d => { d with started := true }) s) s
        else s
      countCheck s
    else note 0x0711 0 0 s)

/-- DSU_CONF_LOCK (R247): set until reset. -/
def execDsuConfLock (w : Word) (s : State) : Host.Outcome State Fault Refusal :=
  .next (s.setReg Reg.DSU_CONF_LOCK (s.reg Reg.DSU_CONF_LOCK ||| (w &&& 1#32)))

/-- SS_TIMEOUT (R236): T_SS_MAX has elapsed for a stopping leaf, which is a violation; the step judges it too (`stepRamp`). -/
def execSsTimeout (leaf : Nat) (s : State) : Host.Outcome State Fault Refusal :=
  .next (if (s.dleaf leaf).st = .stopping ∧ (s.dleaf leaf).stopT ≥ eF s Reg.DSU_ESSC (leaf / 32) 31 16 then rampFault leaf 0x0703 s else s)

/-- CORR_EXPIRY (R225): the runtime clears the correspondence 5,000 VC after the last TRAIN_DOORS; it looks in P1 of every VC too. -/
def execCorrExpiry (edge : Nat) (s : State) : Host.Outcome State Fault Refusal := .next (corrTurn s edge)

end Sys2Proof.Machine
end

