-- ==== Sys2Proof/Machine/Engine.lean ====
section
/-!
DEFINITION. The commands of the table engine, of geographic data RAM, and the end of the DSU step.
-/
namespace Sys2Proof.Machine

/-- ITE_LAUNCH (R144, R146). -/
def execIteLaunch (w : Word) (s : State) : Host.Outcome State Fault Refusal := .next (iteLaunch w s)

/-- ITE_DONE (R146): the evaluation ends, and the runtime sequences its sessions. -/
def execIteDone (s : State) : Host.Outcome State Fault Refusal := .next (iteDone s)

/-- ITE_OVERTIME (R147): an evaluation that has been started has not set DONE. -/
def execIteOvertime (s : State) : Host.Outcome State Fault Refusal := .next (if s.ite.busy then raiseS 0x0409 0 0 s else s)

/-- ITE_LOCK (R139, R140): set until reset. -/
def execIteLock (w : Word) (s : State) : Host.Outcome State Fault Refusal :=
  .next (if bitAt w 0 then s.setRegB Reg.ITE_LOCK 0 true else s)

/-- GD_RAM_WRITE (R79, R140): a word at a byte offset, which every voting region folds; blocked while GD_LOCK is set. -/
def execGdRamWrite (addr : Nat) (w : Word) (s : State) : Host.Outcome State Fault Refusal :=
  .next (if 0x200000 < addr + 4 then note 0x0107 0 0 s
    else if s.regB Reg.ITE_LOCK 0 then raiseS 0x0408 0 0 s
    else storeFold ⟨0x30000000 + addr, w, 0xF#4⟩ { s with gd := Tbl.setList s.gd addr (le4 w) })

/-- DSU_STEP_DONE (R244). -/
def execDsuStepDone (s : State) : Host.Outcome State Fault Refusal := .next (dsuStepDone s)

end Sys2Proof.Machine
end

