-- ==== Sys2Proof/Machine/FieldIo.lean ====
section
/-!
DEFINITION. The commands of FIO.
-/
namespace Sys2Proof.Machine

/-- INPUT_FILTER_CHANGE (R341, R343). -/
def execInputFilterChange (pathB : Bool) (input : Nat) (value : Bool) (s : State) : Host.Outcome State Fault Refusal :=
  if pathB then .next { s with fio := { s.fio with filtB := setBit s.fio.filtB input value } }
  else
    let s' : State := { s with fio := { s.fio with filtA := setBit s.fio.filtA input value } }
    if inDeclared input s then .next s'
    else
      let rising := value && !bitAt s.fio.undeclared input
      .next (noteIf rising 0x0A06 9 input { s' with fio := { s'.fio with undeclared := setBit s.fio.undeclared input value } })

/-- INPUT_DISCREPANCY (R342). -/
def execInputDiscrepancy (input : Nat) (s : State) : Host.Outcome State Fault Refusal := .next (discSet input s)

/-- FEED_STATE_CHANGE (R345): `LOW` is entered from `OK` alone; a state that stands already changes nothing. -/
def execFeedStateChange (feed st : Nat) (s : State) : Host.Outcome State Fault Refusal :=
  let now := Tbl.get s.fio.feed feed
  if now = st ∨ (st = 1 ∧ now ≠ 0) then .next s
  else
    let code := 0x0A00 + st
    let f := { s.fio with feed := Tbl.set s.fio.feed feed st }
    .next (note code 12 feed { s with fio := if st = 1 then f else feedOff feed code f })

/-- FEED_RECOVERY (R346). -/
def execFeedRecovery (feed : Nat) (s : State) : Host.Outcome State Fault Refusal :=
  .next { s with fio := { s.fio with feed := Tbl.set s.fio.feed feed 0 } }

/-- CONTACT_SUPPLY_LIMIT (R496). -/
def execContactSupplyLimit (supply : Nat) (s : State) : Host.Outcome State Fault Refusal :=
  .next { s with fio := { s.fio with contact := setBit s.fio.contact supply true } }

/-- CONTACT_SUPPLY_RECOVERY (R496, R346). -/
def execContactSupplyRecovery (supply : Nat) (s : State) : Host.Outcome State Fault Refusal :=
  .next { s with fio := { s.fio with contact := setBit s.fio.contact supply false } }

/-- OUTPUT_COMMIT (R350): the three writes of a commit. A right code is that of the words with the STO pairs as the runtime commands
them. -/
def execOutputCommit (w0 w1 code : Word) (s : State) : Host.Outcome State Fault Refusal :=
  let ok := code == commitCode s.sys.vcn w0 (w1 &&& 0x0FFFFFFF#32)
  let (a, b) := if ok then commitWords w0 w1 s else (w0, w1)
  let b := b &&& 0x0FFFFFFF#32
  .next (writeCode (if ok then commitCode s.sys.vcn a b else code) ((s.setReg Reg.FIO_OCMD0 a).setReg Reg.FIO_OCMD1 b))

/-- OUTPUT_ON_DELAY (R350, R53). -/
def execOutputOnDelay (s : State) : Host.Outcome State Fault Refusal :=
  .next { s with fio := { s.fio with on := s.fio.on ||| s.fio.dueOn, dueOn := 0 } }

/-- SILENT_STATE (R351). -/
def execSilentState (s : State) : Host.Outcome State Fault Refusal := .next (silentState s)

/-- TEST_PULSE (R353): the outputs and sets of this VC go off at 600 µs and back at 800 µs. -/
def execTestPulse (off : Bool) (s : State) : Host.Outcome State Fault Refusal :=
  let m := bitsOf 48 fun n => off && bitAt (oConf n s) 22 && pinOn n s && s.sys.vcn.toNat % 50 == parLow n s
  .next { s with fio := { s.fio with pulse := m } }

/-- PULSE_MISSING (R355, D1): an output in its test pulse; a pulse whose X has changed is abandoned (R353). -/
def execPulseMissing (output : Nat) (s : State) : Host.Outcome State Fault Refusal :=
  if bitAt s.fio.pulse output ∧ pinOn output s then .next (detect output 1 1 0x0A0C s) else .next s

/-- OFF_READS_HIGH (R355, D2): a declared output whose expected state is 0. -/
def execOffReadsHigh (output : Nat) (s : State) : Host.Outcome State Fault Refusal :=
  if oDeclared output s ∧ ¬ expected output s then .next (detect output 2 1 0x0A0D s) else .next s

/-- OUTPUT_LOW (R355, D3): an output whose expected state is 1. -/
def execOutputLow (output : Nat) (s : State) : Host.Outcome State Fault Refusal :=
  if expected output s then .next (detect output 3 5 0x0A07 s) else .next s

/-- UNDECLARED_OUTPUT_ENERGISED (R355, D4). -/
def execUndeclaredOutputEnergised (output : Nat) (s : State) : Host.Outcome State Fault Refusal :=
  .next (noteIf (!oDeclared output s) 0x0A0E 10 output s)

/-- CLASSIFICATION_RESULT (R356). -/
def execClassificationResult (output result partner : Nat) (s : State) : Host.Outcome State Fault Refusal :=
  .next (classify output result partner s)

/-- FIO_GRESTORE (R358). -/
def execFioGrestore (w : Word) (s : State) : Host.Outcome State Fault Refusal :=
  if field w 31 16 = 0x6A0C then
    .next ((List.range 12).foldl (fun s g =>
      if !bitAt w g then s
      else if bitAt s.fio.faultOpen g || Tbl.get s.fio.feed (g / 2) != 0 then note 0x0A17 11 g s
      else { s with fio := { s.fio with restore := setBit s.fio.restore g (bitAt s.fio.held g) } }) s)
  else .next (note 0x0A16 0 0 s)

/-- FIO_LOCK (R360). -/
def execFioLock (w : Word) (s : State) : Host.Outcome State Fault Refusal :=
  .next (if bitAt w 0 then s.setRegB Reg.FIO_LOCK 0 true else s)

end Sys2Proof.Machine
end

