-- ==== Sys2Proof/Machine/Ledger.lean ====
section
/-!
DEFINITION. The Cord ledger's commands: the operations of R170 written by the runtime, the census and the registers with a row of
their own.
-/
namespace Sys2Proof.Machine

/-- CRD_ACQUIRE (R170): the list of CRD_LIST. -/
def execCrdAcquire (holder count : Nat) (s : State) : Host.Outcome State Fault Refusal :=
  .next (crdWrite ⟨1, 0, holder, count, s.opSubj, s.opTimer⟩ s)

/-- CRD_RELEASE (R170). -/
def execCrdRelease (elem : Nat) (s : State) : Host.Outcome State Fault Refusal :=
  .next (crdWrite ⟨2, elem, 0, 0, s.opSubj, s.opTimer⟩ s)

/-- CRD_TIMED (R170). -/
def execCrdTimed (elem : Nat) (s : State) : Host.Outcome State Fault Refusal :=
  .next (crdWrite ⟨3, elem, 0, 0, s.opSubj, s.opTimer⟩ s)

/-- CRD_TRANSFER (R170). -/
def execCrdTransfer (elem holder : Nat) (s : State) : Host.Outcome State Fault Refusal :=
  .next (crdWrite ⟨4, elem, holder, 0, s.opSubj, s.opTimer⟩ s)

/-- CRD_BLOCK (R170). -/
def execCrdBlock (elem holder : Nat) (s : State) : Host.Outcome State Fault Refusal :=
  .next (crdWrite ⟨5, elem, holder, 0, s.opSubj, s.opTimer⟩ s)

/-- CRD_UNBLOCK (R170). -/
def execCrdUnblock (elem : Nat) (s : State) : Host.Outcome State Fault Refusal :=
  .next (crdWrite ⟨6, elem, 0, 0, s.opSubj, s.opTimer⟩ s)

/-- CRD_LEND (R170). -/
def execCrdLend (elem holder : Nat) (s : State) : Host.Outcome State Fault Refusal :=
  .next (crdWrite ⟨7, elem, holder, 0, s.opSubj, s.opTimer⟩ s)

/-- CRD_UNLEND (R170). -/
def execCrdUnlend (elem : Nat) (s : State) : Host.Outcome State Fault Refusal :=
  .next (crdWrite ⟨8, elem, 0, 0, s.opSubj, s.opTimer⟩ s)

/-- CRD_RECLAIM (R170). -/
def execCrdReclaim (elem : Nat) (s : State) : Host.Outcome State Fault Refusal :=
  .next (crdWrite ⟨9, elem, 0, 0, s.opSubj, s.opTimer⟩ s)

/-- CRD_TAKE (R170). -/
def execCrdTake (elem holder : Nat) (s : State) : Host.Outcome State Fault Refusal :=
  .next (crdWrite ⟨0xA, elem, holder, 0, s.opSubj, s.opTimer⟩ s)

/-- CRD_GIVEBACK (R170). -/
def execCrdGiveback (elem : Nat) (s : State) : Host.Outcome State Fault Refusal :=
  .next (crdWrite ⟨0xB, elem, 0, 0, s.opSubj, s.opTimer⟩ s)

/-- CRD_START_TIMED (R170). -/
def execCrdStartTimed (elem : Nat) (s : State) : Host.Outcome State Fault Refusal :=
  .next (crdWrite ⟨0xC, elem, 0, 0, s.opSubj, s.opTimer⟩ s)

/-- CRD_LOAD_BEGIN (R170, R180). -/
def execCrdLoadBegin (s : State) : Host.Outcome State Fault Refusal :=
  .next (crdWrite ⟨0xD, 0, 0, 0, s.opSubj, s.opTimer⟩ s)

/-- CRD_LOAD_END (R170, R177). -/
def execCrdLoadEnd (s : State) : Host.Outcome State Fault Refusal :=
  .next (crdWrite ⟨0xE, 0, 0, 0, s.opSubj, s.opTimer⟩ s)

/-- CRD_OP with an opcode that names no operation: refused with BAD_ARG (R170). -/
def execCrdOpInvalid (opc : Nat) (s : State) : Host.Outcome State Fault Refusal :=
  .next (crdWrite ⟨if opc = 0xF then 0xF else 0, 0, 0, 0, s.opSubj, s.opTimer⟩ s)

/-- The held CRD_OP writes are performed once the token copy has ended (R172). -/
def execCrdHeldOpResume (s : State) : Host.Outcome State Fault Refusal := .next (crdResume s)

/-- CRD_CENSUS_GO (R178): accepted once per VC, in P5. -/
def execCrdCensusGo (w : Word) (s : State) : Host.Outcome State Fault Refusal :=
  .next (if bitAt w 0 && s.sys.phase == 5 && !s.crd.censusGo && !s.crd.censusDone then
    { s with crd := { s.crd with censusGo := true } } else s)

/-- The census ends (R178, R179): its result, its checksum, and `SAFE` on a failed check. -/
def census (s : State) : State :=
  let okC := censusCountOk s
  let okS := censusSumOk s
  let un := censusUnlawful s
  let s := s.setReg Reg.CRD_CHECKSUM (tokChecksum s)
  let s := s.setReg Reg.CRD_CENSUS (word (2 ^ 31 + bit (okC && okS && un.isNone) * 2 ^ 30 + un.getD 0 * 2 ^ 16
    + bit un.isSome * 4 + bit (!okS) * 2 + bit (!okC)))
  let s := obsCount 44 1040 { s with crd := { s.crd with censusDone := true, censusGo := false } }
  raiseAll ((if okC then [] else [0x0501]) ++ (if okS then [] else [0x0502]) ++ (if un.isNone then [] else [0x0503])) s

/-- CENSUS_COMPLETE: a census that has been started ends (R178). -/
def execCensusComplete (s : State) : Host.Outcome State Fault Refusal :=
  .next (if s.crd.censusGo then census s else s)

/-- CRD_FREEZE (R175): the frozen edge tokens. -/
def execCrdFreeze (w : Word) (s : State) : Host.Outcome State Fault Refusal :=
  .next (s.setReg Reg.CRD_FREEZE (w &&& 0xFF#32))

/-- CRD_ATTR_LOCK (R192): set until reset. -/
def execCrdAttrLock (w : Word) (s : State) : Host.Outcome State Fault Refusal :=
  .next (s.setReg Reg.CRD_ATTR_LOCK (s.reg Reg.CRD_ATTR_LOCK ||| (w &&& 1#32)))

end Sys2Proof.Machine
end

