-- ==== Sys2Proof/Machine/Lending.lean ====
section
/-!
DEFINITION. The lending messages as commands (R182–R190): each row is one message that the cascade has delivered.
-/
namespace Sys2Proof.Machine

/-- A message of a kind as the cascade delivers it (R183, R441): the `ACTIVE` member outside its hand-over (R431) applies it in P1 before
the launch, where it marks the mirror with EXT (R429); one that comes at another time waits for the next P1. Any other member drops it. -/
def lendTakeMsg (kind : Nat) (m : LendMsg) (s : State) : State :=
  let m := { m with kind := kind }
  if !lendsNow s then s
  else if popsNow s then lendApply m (markExt s)
  else lendDelivered [m] s

/-- LEND_REQ (R184). -/
def execLendReq (m : LendMsg) (s : State) : Host.Outcome State Fault Refusal := .next (lendTakeMsg 1 m s)

/-- LEND_GRANT (R184). -/
def execLendGrant (m : LendMsg) (s : State) : Host.Outcome State Fault Refusal := .next (lendTakeMsg 2 m s)

/-- LEND_REFUSE (R184). -/
def execLendRefuse (m : LendMsg) (s : State) : Host.Outcome State Fault Refusal := .next (lendTakeMsg 3 m s)

/-- LEND_TAKEN (R184). -/
def execLendTaken (m : LendMsg) (s : State) : Host.Outcome State Fault Refusal := .next (lendTakeMsg 4 m s)

/-- LEND_RETURN (R184). -/
def execLendReturn (m : LendMsg) (s : State) : Host.Outcome State Fault Refusal := .next (lendTakeMsg 5 m s)

/-- LEND_RETURN_ACK (R184). -/
def execLendReturnAck (m : LendMsg) (s : State) : Host.Outcome State Fault Refusal := .next (lendTakeMsg 6 m s)

/-- LEND_AUDIT (R187). -/
def execLendAudit (m : LendMsg) (s : State) : Host.Outcome State Fault Refusal := .next (lendTakeMsg 7 m s)

/-- LEND_CLAIM (R188). -/
def execLendClaim (m : LendMsg) (s : State) : Host.Outcome State Fault Refusal := .next (lendTakeMsg 8 m s)

/-- LEND_CLAIM_END (R188). -/
def execLendClaimEnd (m : LendMsg) (s : State) : Host.Outcome State Fault Refusal := .next (lendTakeMsg 9 m s)

/-- LEND_CLAIM_QUERY (R188). -/
def execLendClaimQuery (m : LendMsg) (s : State) : Host.Outcome State Fault Refusal := .next (lendTakeMsg 10 m s)

/-- LEND_MESSAGE_REPEAT (R186). -/
def execLendMessageRepeat (s : State) : Host.Outcome State Fault Refusal := .next (if lendsNow s then lendRepeats s else s)

/-- AUDIT_DUE (R187). -/
def execAuditDue (s : State) : Host.Outcome State Fault Refusal := .next (if lendsNow s then lendAudits s else s)

/-- CLAIM_QUERY_REPEAT (R188): an incomplete set is queried again after 100 VC. -/
def execClaimQueryRepeat (s : State) : Host.Outcome State Fault Refusal :=
  .next (if lendsNow s && s.lend.claiming && decide (since s.sys.vcn s.lend.queried ≥ 100) then claimQuery s else s)

/-- CLAIMS_COMPLETE (R181, R188): the ledger takes START_TIMED in P1 alone (R171). -/
def execClaimsComplete (s : State) : Host.Outcome State Fault Refusal :=
  .next (if lendsNow s && s.sys.phase == 1 && s.lend.claiming && (otherSlots s).all (claimsFrom s) then claimsComplete s else s)

end Sys2Proof.Machine
end

