-- ==== Sys2Proof/Machine/Mailboxes.lean ====
section
/-!
DEFINITION. The commands of the mailboxes. `who` is the agent: 0 the triad, 1 the CP, 2 the SP. A register that does not apply to
a channel's kind is reserved: an endpoint's command then has no effect (R387); nor has one of a processor that is held in reset.
-/
namespace Sys2Proof.Machine

/-- MBX_DBELL_POST (R376). -/
def execMbxDbellPost (who chan : Nat) (value : Word) (s : State) : Host.Outcome State Fault Refusal :=
  if !agentRuns who s || (decide (8 ≤ chan) && mbReaches who chan) then .next s
  else if who = mbSender chan then .next (mbPost chan 1 (fun c => { c with dbell := value }) s)
  else .next (mbDenied who chan s)

/-- MBX_DBELL_TAKE (R376): the read clears the doorbell. -/
def execMbxDbellTake (who chan : Nat) (s : State) : Host.Outcome State Fault Refusal :=
  if !agentRuns who s || (decide (8 ≤ chan) && mbReaches who chan) then .next s
  else if who = mbReceiver chan then .next (mbDbellTake chan s)
  else .next (mbDenied who chan s)

/-- MBX_SEND (R376, R378): the words the sender has staged from word 0 on, then the post of the first `len`. -/
def execMbxSend (who chan len : Nat) (staged : List Word) (s : State) : Host.Outcome State Fault Refusal :=
  if !agentRuns who s || (decide (chan < 8) && mbReaches who chan) then .next s
  else if who = mbSender chan then
    let c := s.chan chan
    let s' := s.setChan chan { c with tx := Tbl.setList c.tx 0 (staged.take (mbLimit chan)) }
    if len = 0 ∨ mbLimit chan < len then .next (note 0x0C01 13 chan s')
    else .next (mbPost chan len (fun c => { c with rx := Tbl.setList c.rx 0 (Tbl.getList c.tx 0 len) }) s')
  else .next (mbDenied who chan s)

/-- MBX_TAKE (R376): the receiver's read of word LEN − 1. -/
def execMbxTake (who chan : Nat) (s : State) : Host.Outcome State Fault Refusal :=
  if !agentRuns who s || (decide (chan < 8) && mbReaches who chan) then .next s
  else if who = mbReceiver chan then .next (mbLastRead chan s)
  else .next (mbDenied who chan s)

/-- MBX_RCODE_WRITE (R377). -/
def execMbxRcodeWrite (who chan rcode : Nat) (s : State) : Host.Outcome State Fault Refusal :=
  if !agentRuns who s || (!mbLong chan && mbReaches who chan) then .next s
  else if who = mbReceiver chan then
    if (s.chan chan).st = .taken then .next (mbRcode chan rcode s)
    else .next (note 0x0C04 13 chan s)
  else .next (mbDenied who chan s)

end Sys2Proof.Machine
end

