-- ==== Sys2Proof/Machine/Mantle.lean ====
section
/-!
DEFINITION. Mantle's commands that concern Mantle alone.
-/
namespace Sys2Proof.Machine

/-- MANTLE_INPUT_FILTER_CHANGE (R105, R109): the filtered value of FI(64 + i) changes, and lines whose rule turns false are
withdrawn; a ZSPD input that drops ends its run. -/
def execMantleInputFilterChange (input : Nat) (value : Bool) (s : State) : Host.Outcome State Fault Refusal :=
  let m := s.mnt
  let m := { m with filt := setBit m.filt input value, zsRun := if value then m.zsRun else Tbl.set m.zsRun input 0 }
  .next (resealAfter s.mnt { s with mnt := mWithdraw s.vau.debug m })

/-- MANTLE_LISTENER_FRAME (R106, R248, R260): the listener of a bus decodes a report frame, which is a CAN FD frame; one of a declared unit
whose safety-layer CRC is right becomes the unit's newest. -/
def execMantleListenerFrame (bus id : Nat) (fd : Bool) (bytes : List Byte) (s : State) : Host.Outcome State Fault Refusal :=
  let m := s.mnt
  let u := id - 0x100
  let flags := bytes.getD 8 0#8
  .next (if fd ∧ 0x100 ≤ id ∧ id ≤ 0x10F ∧ bytes.length = 16 ∧ scrcOk bus id bytes ∧ (mUnits m bus).testBit u then
      { s with mnt := { m with
        units := Tbl.set m.units (16 * bus + u) { seen := true, lockL := flags.getLsbD 0, lockR := flags.getLsbD 1, age := 0 } } }
    else s)

/-- The all-restrictive vector is the standing vector at once; since no T_ term holds, every line is withdrawn (R109, R111). -/
def restrictNow (s : State) : State :=
  resealAfter s.mnt { s with mnt := safeMantle s.mnt }

/-- One half of the triad vector is staged (R111). -/
def stageVector (high : Bool) (w : Word) (codingOk : Bool) (m : Mnt) : Mnt :=
  if high then
    { m with tset := (m.tset &&& 0xFFFFFFFF#64) ||| (w.setWidth 64 <<< 32), tsetHi := true, tsetBad := m.tsetBad || !codingOk }
  else
    { m with tset := (m.tset &&& 0xFFFFFFFF00000000#64) ||| w.setWidth 64, tsetLo := true, tsetBad := m.tsetBad || !codingOk }

/-- A half of the all-restrictive vector (R111). -/
def restrictiveHalf (high : Bool) (w : Word) : Bool := w == if high then 0x80000000#32 else 0#32

/-- A write of MNT_TVEC_SET outside P1 (R111, R118, R129): the two halves of the all-restrictive vector, each without record, take effect
with the second (DESIGN CHOICE, log entry 146); any other write is recorded with 0x0307; a badly coded one brings Mantle to `MSAFE`. -/
def writeOutside (high : Bool) (w : Word) (codingOk : Bool) (s : State) : State :=
  let s := noteIf (!restrictiveHalf high w) 0x0307 0 0 s
  if !codingOk then resealAfter s.mnt (mFault 0x0303 s)
  else if restrictiveHalf high w then
    let m := { s.mnt with outLo := s.mnt.outLo || !high, outHi := s.mnt.outHi || high }
    let s := { s with mnt := m }
    if m.outLo && m.outHi then restrictNow s else s
  else s

/-- MNT_TVEC_SET (R111): a half of the vector in P1; the all-restrictive vector in any phase. -/
def execMntTvecSet (high : Bool) (w : Word) (codingOk : Bool) (s : State) : Host.Outcome State Fault Refusal :=
  .next (
    if s.sys.phase = 1 then
      let m := stageVector high w codingOk s.mnt
      let s := { s with mnt := m }
      if m.tsetLo && m.tsetHi && m.tset == setBit 0#64 63 true then restrictNow s else s
    else writeOutside high w codingOk s)

/-- The heartbeat word as the runtime sends it (R36, R119): in `SAFE` its code is 0x69. -/
def heartbeatWord (s : State) (w : Word) : Word := if s.sys.state = .safe then putField (putField w 31 24 0x69) 15 8 0x96 else w

/-- MNT_HEARTBEAT (R119): taken in P5; elsewhere recorded with 0x0307. -/
def execMntHeartbeat (w : Word) (s : State) : Host.Outcome State Fault Refusal :=
  .next (if s.sys.phase = 5 then { s with mnt := { s.mnt with hbWrites := s.mnt.hbWrites + 1, hbWord := heartbeatWord s w } }
    else note 0x0307 0 0 s)

/-- MANTLE_TABLE_LOAD (R128): the load port in `WAIT`; later the load is refused with 0x0307. -/
def execMantleTableLoad (bytes : List Byte) (s : State) : Host.Outcome State Fault Refusal :=
  .next (if s.mnt.st = .wait then
      { s with mnt := { s.mnt with tab := Tbl.setList [] 0 bytes, tabLen := bytes.length, tabOk := false } }
    else note 0x0307 0 0 s)

/-- MANTLE_SELF_CHECK_FAIL (R120): the halves disagree (0x0308) or a listener fails its self-check (0x030A). -/
def execMantleSelfCheckFail (listener : Bool) (s : State) : Host.Outcome State Fault Refusal :=
  .next (resealAfter s.mnt (mFault (if listener then 0x030A else 0x0308) s))

/-- MANTLE_VC_TIMING (R121): Mantle's oscillator counts past 20,200 ticks without a strobe; the length is measured at the strobe that
comes. -/
def execMantleVcTiming (s : State) : Host.Outcome State Fault Refusal := .next (resealAfter s.mnt (mFault 0x0304 s))

/-- MANTLE_SUPPLY_RESET (R103, R104): Mantle restarts in `WAIT` with every line withdrawn and its registers at reset; what the triad has
read of it stays, and its one-time-programmable memory. -/
def execMantleSupplyReset (s : State) : Host.Outcome State Fault Refusal :=
  let keys := (s.regs.map (·.1)).filter fun a => decide (Reg.MNT_STAT ≤ a) && decide (a < Reg.MNT_STAT + 0x10000)
  .next (keys.foldl (fun s a => s.setReg a 0)
    { s with mnt := { (default : Mnt) with
      readVec := s.mnt.readVec, readOk := s.mnt.readOk, msafeRead := s.mnt.msafeRead
      ck := s.mnt.ck, ckProg := s.mnt.ckProg, ckRev := s.mnt.ckRev } })

end Sys2Proof.Machine
end

