-- ==== Sys2Proof/Machine/Network.lean ====
section
/-!
DEFINITION. The safety network interface's commands.
-/
namespace Sys2Proof.Machine

/-- DATAGRAM_RX (R283, R292). -/
def execDatagramRx (portB plain : Bool) (srcIp : Word) (srcPort : Nat) (dstIp : Word) (dstPort arr : Nat) (bytes : List Byte)
    (s : State) : Host.Outcome State Fault Refusal := .next (datagramRx portB plain srcIp srcPort dstIp dstPort arr bytes s)

/-- AB_WINDOW_EXPIRY (R297): AB_WIN VC have passed without the partner copy. -/
def execAbWindowExpiry (cnum : Nat) (s : State) : Host.Outcome State Fault Refusal :=
  .next (abExpire cnum s)

/-- SEQ_BASE_DROP (R295, R320): RESYNC_T VC have passed with no copy past step 2. -/
def execSeqBaseDrop (cnum : Nat) (s : State) : Host.Outcome State Fault Refusal := .next (resync cnum s)

/-- CONNECTION_STALE (R300): RX_TMAX VC have passed without an accepted telegram. -/
def execConnectionStale (cnum : Nat) (s : State) : Host.Outcome State Fault Refusal :=
  .next (judgeFresh cnum s)

/-- PHY_LINK_CHANGE (R282, R445): the first link up in `JOIN` starts the network state rules. -/
def execPhyLinkChange (portB up : Bool) (s : State) : Host.Outcome State Fault Refusal :=
  let n := s.sni
  let on (x : Net) : Net := { x with link := up, down := 0, on := x.on || (up && s.sys.state == .join) }
  .next { s with sni := if portB then { n with netB := on n.netB } else { n with netA := on n.netA } }

/-- NETWORK_STATE_START (R445). -/
def execNetworkStateStart (s : State) : Host.Outcome State Fault Refusal := 
  .next { s with sni := { s.sni with netA := { s.sni.netA with on := true }, netB := { s.sni.netB with on := true } } }

/-- NETWORK_LOST (R298, R299): where the network fails. -/
def execNetworkLost (portB : Bool) (s : State) : Host.Outcome State Fault Refusal :=
  let n := if portB then s.sni.netB else s.sni.netA
  let other := if portB then s.sni.netA else s.sni.netB
  .next (if s.live && n.on && netFails (s.regF Reg.SNI_NETT 15 0) n other then netLost portB s else s)

/-- NETWORK_RESTORED (R298): 1,000 VC of link up without a MISS in `LOST`. -/
def execNetworkRestored (portB : Bool) (s : State) : Host.Outcome State Fault Refusal :=
  .next (if (if portB then s.sni.netB else s.sni.netA).good ≥ 1000 then netRestored portB s else s)

/-- NETS_SILENT (R299): neither network has delivered for NET_T VC. -/
def execNetsSilent (s : State) : Host.Outcome State Fault Refusal :=
  .next (if s.live && (s.sni.netA.on || s.sni.netB.on) && decide (silence s > s.regF Reg.SNI_NETT 15 0) then netsSilent s else s)

/-- NETS_SILENT_LIMIT (R299): neither network has delivered for SILENT_T VC. -/
def execNetsSilentLimit (s : State) : Host.Outcome State Fault Refusal :=
  .next (if s.live && (s.sni.netA.on || s.sni.netB.on) && decide (silence s > s.regF Reg.SNI_NETT 31 16) then raiseS 0x090B 0 0 s else s)

/-- SNI_TXC_READY (R302, R308): a slot is written and marked vital-ready in P1; READY written elsewhere is recorded. -/
def execSniTxcReady (slot cnum : Nat) (bytes : List Byte) (s : State) : Host.Outcome State Fault Refusal :=
  .next (if s.sys.phase = 1 then slotReady slot cnum bytes s else note 0x0910 0 0 s)

/-- SNI_LOCK (R287): set until reset. -/
def execSniLock (w : Word) (s : State) : Host.Outcome State Fault Refusal :=
  .next (s.setReg Reg.SNI_LOCK (s.reg Reg.SNI_LOCK ||| (w &&& 1#32)))

end Sys2Proof.Machine
end

