-- ==== Sys2Proof/Machine/Observation.lean ====
section
/-!
DEFINITION. The commands of the observation block (R484–R487).
-/
namespace Sys2Proof.Machine

/-- OBS_PSEL (R484). -/
def execObsPsel (k : Nat) (w : Word) (s : State) : Host.Outcome State Fault Refusal := .next (pselWrite k w s)

/-- OBS_MARK (R486). -/
def execObsMark (w : Word) (s : State) : Host.Outcome State Fault Refusal := .next (markWrite w s)

/-- OBS_TAGCTL (R487). -/
def execObsTagctl (w : Word) (s : State) : Host.Outcome State Fault Refusal := .next (tagctlWrite w s)

/-- OBS_TAGSEED (R487). -/
def execObsTagseed (w : Word) (s : State) : Host.Outcome State Fault Refusal := .next (seedWrite w s)

/-- INSTRUCTION_TAG (R487). -/
def execInstructionTag (pc : Word) (slotClass issueSlot fetchToIssue issueToRetire stall : Nat) (s : State) :
    Host.Outcome State Fault Refusal := .next (tagRetire pc slotClass issueSlot fetchToIssue issueToRetire stall s)

/-- COUNTER_WRAP (R484). -/
def execCounterWrap (counter : Nat) (s : State) : Host.Outcome State Fault Refusal := .next (counterWrap counter s)

end Sys2Proof.Machine
end

