-- ==== Sys2Proof/Machine/Pair.lean ====
section
/-!
DEFINITION. The commands of the pair and of the cascade.
-/
namespace Sys2Proof.Machine

/-- PCL_MCTRL_GO (R425): EXT and GO; `differ`: the numbers of the streamed words on which two live regions differ (R426). The frame follows
the VC's journal writes. -/
def execPclMctrlGo (w : Word) (differ : List Nat) (s : State) : Host.Outcome State Fault Refusal :=
  .next (if bitAt w 0 then pairSend (bitAt w 1) differ (if s.sys.phase = 4 then bgFinish s else s) else s)

/-- MIRROR_RX (R427). -/
def execMirrorRx (m : Machine.PairFrame) (s : State) : Host.Outcome State Fault Refusal := .next (mirrorRx m s)

/-- RESPONSE_RX (R428). -/
def execResponseRx (r : Machine.PairFrame) (s : State) : Host.Outcome State Fault Refusal := .next (responseRx r s)

/-- BULK_RX (R427). -/
def execBulkRx (f : Machine.PairFrame) (s : State) : Host.Outcome State Fault Refusal := .next (bulkRx f s)

/-- MIRROR_MISSED (R427). -/
def execMirrorMissed (s : State) : Host.Outcome State Fault Refusal := .next (mirrorMissed s)

/-- PCL_SWAP (R430): KEY 0x3C5A and REQ. -/
def execPclSwap (w : Word) (peerOk : Bool) (s : State) : Host.Outcome State Fault Refusal :=
  .next (if field w 31 16 ≠ 0x3C5A then note 0x0E11 0 0 s else if bitAt w 0 then swapRequest peerOk s else s)

/-- SWAP_DUE (R430): SWAP_T hours since the last change of roles. -/
def execSwapDue (peerOk : Bool) (s : State) : Host.Outcome State Fault Refusal :=
  .next (if s.evr.ms - s.pcl.roleMs ≥ s.regF Reg.PCL_CONF 15 8 * 3600000 then swapRequest peerOk s else s)

/-- SWAP_RETRY (R430): a waiting swap 1,000 VC after its last try. -/
def execSwapRetry (peerOk : Bool) (s : State) : Host.Outcome State Fault Refusal :=
  .next (if s.pcl.swapWanted ∧ since s.sys.vcn s.pcl.swapTried ≥ 1000 then swapTry peerOk s else s)

/-- SORLIA_SWAP_REQUEST (R430): accepted by the `ACTIVE` member, it asks for a swap; accepted by the `BANKED` member, it reaches the
`ACTIVE` peer, which is outside this module. -/
def execSorliaSwapRequest (peerOk : Bool) (s : State) : Host.Outcome State Fault Refusal := .next (swapRequest peerOk s)

/-- HANDOVER_VC (R431). -/
def execHandoverVc (s : State) : Host.Outcome State Fault Refusal := .next (handoverStart s)

/-- SWAP_CONFIRM_CHECK (R431). -/
def execSwapConfirmCheck (s : State) : Host.Outcome State Fault Refusal := .next (swapCheck s)

/-- SWITCHOVER_TRIGGER (R433). -/
def execSwitchoverTrigger (s : State) : Host.Outcome State Fault Refusal := .next (switchTrigger s)

/-- TAKEOVER_ACTIVE (R434). -/
def execTakeoverActive (s : State) : Host.Outcome State Fault Refusal := .next (takeoverStart s)

/-- JOIN_TIMEOUT (R423): JOIN_T has elapsed with the peer neither `ACTIVE` nor in `JOIN`. -/
def execJoinTimeout (s : State) : Host.Outcome State Fault Refusal :=
  .next (if s.sys.state = .join ∧ joinOver s ∧ peerState s ≠ 6 ∧ (peerState s ≠ 4 ∨ ownMember s = 0) ∧ s.pcl.mismatch = 0 then coldStart s else s)

/-- TIMING_MARKER_RX (R439): of the peer on the pair link, or of the cascade's timing master; the VC start less the marker in 10 ns. -/
def execTimingMarkerRx (peer : Bool) (frm : Nat) (phase : Int) (s : State) : Host.Outcome State Fault Refusal :=
  .next (if peer then peerMarker phase s else cascadeMarker frm phase s)

/-- PCL_CTX (R440). -/
def execPclCtx (w : Word) (s : State) : Host.Outcome State Fault Refusal := .next (cascadeSend (field w 6 0) s)

/-- CASCADE_FRAME_RX (R441). -/
def execCascadeFrameRx (f : Machine.CascFrame) (s : State) : Host.Outcome State Fault Refusal := .next (cascadeRx f s)

/-- PCL_EPOCH (R424): written in `JOIN`. -/
def execPclEpoch (w : Word) (s : State) : Host.Outcome State Fault Refusal :=
  .next (if s.sys.state = .join then
      { s with sys := { s.sys with epoch := field w 7 0 } }.setReg Reg.PCL_EPOCH (w &&& 0xFF#32)
    else note 0x0E11 0 0 s)

/-- PCL_LOCK (R443): set until reset. -/
def execPclLock (w : Word) (s : State) : Host.Outcome State Fault Refusal :=
  .next (s.setReg Reg.PCL_LOCK (s.reg Reg.PCL_LOCK ||| (w &&& 1#32)))

end Sys2Proof.Machine
end

