-- ==== Sys2Proof/Machine/Start.lean ====
section
/-!
DEFINITION. The commands of the module's supply, start and supervision (R22–R33, R47, R446–R456).
-/
namespace Sys2Proof.Machine

/-- LOGIC_SUPPLY_VALID (R30, R444). -/
def execLogicSupplyValid (s : State) : Host.Outcome State Fault Refusal := .next (supplyValid s)

/-- LOGIC_SUPPLY_POWER_DOWN (R30). -/
def execLogicSupplyPowerDown (s : State) : Host.Outcome State Fault Refusal := .next (powerDown s)

/-- LOGIC_SUPPLY_OUT_OF_RANGE (R46). -/
def execLogicSupplyOutOfRange (high : Bool) (s : State) : Host.Outcome State Fault Refusal :=
  .next (raiseS (if high then 0x0102 else 0x0101) 0 0 s)

/-- REF_CLOCK_LOST (R22). -/
def execRefClockLost (s : State) : Host.Outcome State Fault Refusal := .next (raiseS 0x0103 0 0 s)

/-- SELFTEST_COMPLETE (R446, R447, R451, R453, R476). -/
def execSelftestComplete (sigs : List (Nat × BitVec 64)) (compared : Bool) (index : Nat) (s : State) : Host.Outcome State Fault Refusal :=
  .next (selftestEnd sigs compared index s)

/-- BOOT_COMPLETE (R452–R454). -/
def execBootComplete (selRead othRead : Bool) (s : State) : Host.Outcome State Fault Refusal := .next (bootEnd selRead othRead s)

/-- CONFIG_CHECK_COMPLETE (R456). -/
def execConfigCheckComplete (s : State) : Host.Outcome State Fault Refusal := .next (configEnd s)

/-- RESET_BUTTON_RELEASE (R33). -/
def execResetButtonRelease (heldMs : Nat) (s : State) : Host.Outcome State Fault Refusal := .next (buttonRelease heldMs s)

/-- RESET_BUTTON_FAULT (R33). -/
def execResetButtonFault (s : State) : Host.Outcome State Fault Refusal := .next (buttonFault s)

/-- RESET_BUTTON_FAULT_CLEARED (R33). -/
def execResetButtonFaultCleared (s : State) : Host.Outcome State Fault Refusal := .next (buttonCleared s)

/-- SYS_SAFE_REQ (R47): key 0xC0A1 enters `SAFE`; any other value is recorded and ignored. -/
def execSysSafeReq (w : Word) (s : State) : Host.Outcome State Fault Refusal :=
  .next (if field w 15 0 = 0xC0A1 then raiseS 0x0106 0 0 s else note 0x0107 0 0 s)

/-- PROCESSOR_HEARTBEAT_TIMEOUT (R27). -/
def execProcessorHeartbeatTimeout (sp : Bool) (s : State) : Host.Outcome State Fault Refusal := .next (heartbeatLost sp s)

/-- PROCESSOR_RELOAD_DONE (R455). -/
def execProcessorReloadDone (sp ok : Bool) (s : State) : Host.Outcome State Fault Refusal := .next (reloadEnd sp ok s)

/-- FIREWALL_VIOLATION (R25): blocked, 0 on read, recorded; a processor that is held in reset accesses nothing. -/
def execFirewallViolation (sp : Bool) (_addr : Nat) (s : State) : Host.Outcome State Fault Refusal :=
  .next (if agentRuns (if sp then 2 else 1) s then (note 0x0109 0 0 s).answerRead 0 else s)

/-- UNMAPPED_ACCESS (R29): 0 on read, ignored on write, recorded. -/
def execUnmappedAccess (write : Bool) (_addr : Nat) (s : State) : Host.Outcome State Fault Refusal :=
  .next (let t := note 0x0107 0 0 s; if write then t else t.answerRead 0)

/-- SLOT_CODE_CHANGE (R422, R494). -/
def execSlotCodeChange (code : Nat) (s : State) : Host.Outcome State Fault Refusal := .next (slotChange code s)

/-- BLOCK_SELF_CHECK_FAIL (R23). -/
def execBlockSelfCheckFail (block : Block) (n : Nat) (s : State) : Host.Outcome State Fault Refusal := .next (selfCheckFail block n s)

/-- LED_AMBER_END (R505): 100 ms after the release of the regions. -/
def execLedAmberEnd (s : State) : Host.Outcome State Fault Refusal := .next { s with sys := { s.sys with ledAmber := false } }

end Sys2Proof.Machine
end

