-- ==== Sys2Proof/Machine/Travel.lean ====
section
/-!
DEFINITION. The travel clock's commands.
-/
namespace Sys2Proof.Machine

/-- PDS_TRACK (R197). -/
def execPdsTrack (m : Nat) (w : Word) (s : State) : Host.Outcome State Fault Refusal := .next (trackWrite m w s)

/-- PDS_SLOTC (R203). -/
def execPdsSlotc (slot : Nat) (w : Word) (s : State) : Host.Outcome State Fault Refusal := .next (slotWrite false slot w s)

/-- PDS_BSLOTC (R203, R213). -/
def execPdsBslotc (slot : Nat) (w : Word) (s : State) : Host.Outcome State Fault Refusal := .next (slotWrite true slot w s)

/-- PDS_BIN (R210): the berth source value the next VC start latches. -/
def execPdsBin (edge : Nat) (w : Word) (s : State) : Host.Outcome State Fault Refusal :=
  .next (s.setReg (Reg.PDS_BIN + 4 * edge) (w &&& 0xFFFF0003#32))

/-- PDS_CONF_LOCK (R217): set until reset. -/
def execPdsConfLock (w : Word) (s : State) : Host.Outcome State Fault Refusal :=
  .next (s.setReg Reg.PDS_CONF_LOCK (s.reg Reg.PDS_CONF_LOCK ||| (w &&& 1#32)))

/-- LEAF_LOST (R198): one more missing report takes a tracked leaf that has used up COAST_MAX to `LOST`. -/
def execLeafLost (leaf : Nat) (s : State) : Host.Outcome State Fault Refusal :=
  let p := s.leaf leaf
  .next (if leafTracked s leaf && (p.st == .valid || p.st == .coast) && decide (p.miss = s.regF Reg.PDS_CONF 9 8) then leafMissing leaf s else s)

end Sys2Proof.Machine
end

