-- ==== Sys2Proof/Machine/Update.lean ====
section
/-!
DEFINITION. The commands of the service port and of the storage and update unit (R31, R450–R478).
-/
namespace Sys2Proof.Machine

/-- Free bytes (DESIGN CHOICE, log entry 4). -/
def freeBytes (n : Nat) (s : State) : List Byte × State :=
  ((List.range n).map (Config.freeByte s.freeCtr), { s with freeCtr := s.freeCtr + 1 })

/-- SORLIA_CHALLENGE (R464): 32 bytes of SUI's random generator. -/
def execSorliaChallenge (head : SorliaHead) (s : State) : Host.Outcome State Fault Refusal :=
  .next (runtimeServed head (fun s =>
    let (c, s) := freeBytes 32 s
    suiAnswer 0 c (updSession head.session (fun x => { x with open_ := true, challenge := some c }) s)) s)

/-- The maintainer proves its key (R464): its digest stands at the index in the configuration, and the signature over the challenge and the
serial number verifies. The key comes with the signature (DEDUCED, log entry 156). -/
def authOk (s : State) (challenge : List Byte) (key : Nat) (body : AuthBody) : Bool :=
  (maintainers s)[key]? == some (sha384 body.key) && ecdsaVerify body.key (sha384 (challenge ++ s.sui.serial)) body.sig

/-- SORLIA_AUTHENTICATE (R464). -/
def execSorliaAuthenticate (head : SorliaHead) (key : Nat) (body : AuthBody) (s : State) : Host.Outcome State Fault Refusal :=
  .next (runtimeServed head (fun s =>
    if (s.sui.session head.session).challenge.any fun c => authOk s c key body then
      suiAnswer 0 [] (updSession head.session (fun x => { x with authed := true, challenge := none }) s)
    else suiAnswer 3 [] (endSession head.session (note 0x0F12 0 0 s))) s)

/-- SORLIA_LOCK (R465). -/
def execSorliaLock (head : SorliaHead) (s : State) : Host.Outcome State Fault Refusal :=
  .next (served head (fun s =>
    let n := head.session
    let s := updSession n id s
    if !sessionOk s n then suiAnswer 3 [] s
    else if s.sys.state ≠ .maint then suiAnswer 4 [] s
    else match s.sui.lock with
      | none => suiAnswer 0 [] (updSui (fun u => { u with lock := some n }) s)
      | some m => if m = n then suiAnswer 0 [] s else suiAnswer 1 [] (note 0x0F06 0 0 s)) s)

/-- SORLIA_PREPARE (R467). -/
def execSorliaPrepare (head : SorliaHead) (manifest : List Byte) (s : State) : Host.Outcome State Fault Refusal :=
  .next (updateRequest head (fun s => suiPrepare (updSui (fun u => { u with staged := some manifest }) s)) s)

/-- SORLIA_BLOCK (R465, R467). -/
def execSorliaBlock (head : SorliaHead) (block : Nat) (data : List Byte) (readbackOk : Bool) (s : State) : Host.Outcome State Fault Refusal :=
  .next (updateRequest head (suiBlock block data readbackOk) s)

/-- SORLIA_VERIFY (R465, R467). -/
def execSorliaVerify (head : SorliaHead) (readOk programOk : Bool) (s : State) : Host.Outcome State Fault Refusal :=
  .next (updateRequest head (suiVerify readOk programOk) s)

/-- SORLIA_ACTIVATE (R465, R467). -/
def execSorliaActivate (head : SorliaHead) (s : State) : Host.Outcome State Fault Refusal := .next (updateRequest head suiActivate s)

/-- The lock is released. -/
def releaseLock (s : State) : State := suiAnswer 0 [] (suiResult 0 0 (updSui (fun u => { u with lock := none }) s))

/-- SORLIA_RELEASE (R465). -/
def execSorliaRelease (head : SorliaHead) (s : State) : Host.Outcome State Fault Refusal := .next (updateRequest head releaseLock s)

/-- The attestation report, signed with the device identity key; the signature's one-time number is a free value (DESIGN CHOICE, log entry
4). -/
def attest (nonce : List Byte) (s : State) : State :=
  let b := attestBody nonce s.sys.state.code s
  let k := ofBe ((List.range 48).map (Config.freeByte s.freeCtr))
  suiAnswer 0 (b ++ ecdsaSign s.sui.idKey k (sha384 b)) (suiResult 0 0 { s with freeCtr := s.freeCtr + 1 })

/-- SORLIA_ATTEST (R454, R460): any authenticated session, in any state; in recovery a session needs no authentication. SUI after a failed
self-check refuses it (R477). -/
def execSorliaAttest (head : SorliaHead) (nonce : List Byte) (s : State) : Host.Outcome State Fault Refusal :=
  .next (served head (fun s =>
    let s := updSession head.session id s
    if !sessionOk s head.session then suiAnswer 3 [] s
    else if s.sui.failed then suiDenied s
    else attest nonce s) s)

/-- SORLIA_KEY_ENROL (R459). -/
def execSorliaKeyEnrol (head : SorliaHead) (request : KeyRequest) (signer : Option Nat) (programOk : Bool) (s : State) :
    Host.Outcome State Fault Refusal := .next (updateRequest head (enrolKey request signer programOk) s)

/-- SORLIA_JOURNAL_CLEAR (R465). -/
def execSorliaJournalClear (head : SorliaHead) (s : State) : Host.Outcome State Fault Refusal :=
  .next (updateRequest head (fun s => suiAnswer 0 [] (clearJournal s)) s)

/-- SORLIA_SESSION_END (R465). -/
def execSorliaSessionEnd (session : Nat) (s : State) : Host.Outcome State Fault Refusal := .next (endSession session s)

/-- UPDATE_LOCK_TIMEOUT (R465): 600 s of operating time without a request of the session that holds the lock. -/
def execUpdateLockTimeout (s : State) : Host.Outcome State Fault Refusal :=
  match s.sui.lock with
  | some n => .next (if s.evr.ms ≥ (s.sui.session n).last + 600000 then updSui (fun u => { u with lock := none }) s else s)
  | none => .next s

/-- A write of SUI_OP: a wrong key, or an operation while SUI works or has failed, is recorded with 0x0F0F (R478). -/
def suiOp (key : Nat) (act : State → State) (s : State) : State := if suiFree key s then act s else note 0x0F0F 0 0 s

/-- SUI_PREPARE (R467): the manifest that the SP has staged. -/
def execSuiPrepare (key : Nat) (s : State) : Host.Outcome State Fault Refusal := .next (suiOp key suiPrepare s)

/-- SUI_BLOCK (R467). -/
def execSuiBlock (key block : Nat) (data : List Byte) (readbackOk : Bool) (s : State) : Host.Outcome State Fault Refusal :=
  .next (suiOp key (suiBlock block data readbackOk) s)

/-- SUI_VERIFY (R467). -/
def execSuiVerify (key : Nat) (readOk programOk : Bool) (s : State) : Host.Outcome State Fault Refusal :=
  .next (suiOp key (suiVerify readOk programOk) s)

/-- SUI_ACTIVATE (R467). -/
def execSuiActivate (key : Nat) (s : State) : Host.Outcome State Fault Refusal := .next (suiOp key suiActivate s)

/-- SUI_CONFIRM (R470). -/
def execSuiConfirm (key : Nat) (s : State) : Host.Outcome State Fault Refusal := .next (suiOp key suiConfirm s)

/-- SUI_REVERT (R471): on a trial whose time has run out. -/
def execSuiRevert (key : Nat) (s : State) : Host.Outcome State Fault Refusal :=
  .next (suiOp key (fun s => match revertWhy s with
    | some a => suiRevert a s
    | none => suiDenied s) s)

/-- SUI_ATTEST (R460). -/
def execSuiAttest (key : Nat) (nonce : List Byte) (s : State) : Host.Outcome State Fault Refusal := .next (suiOp key (attest nonce) s)

/-- SUI_REVERIFY_STEP (R474). -/
def execSuiReverifyStep (key : Nat) (readOk : Bool) (s : State) : Host.Outcome State Fault Refusal :=
  .next (suiOp key (reverifyStep readOk) s)

/-- SUI_REFRESH_STEP (R475). -/
def execSuiRefreshStep (key done : Nat) (s : State) : Host.Outcome State Fault Refusal := .next (suiOp key (refreshStep done) s)

/-- SUI_ENROL (R459): in `MAINT`. -/
def execSuiEnrol (key : Nat) (request : KeyRequest) (signer : Option Nat) (programOk : Bool) (s : State) : Host.Outcome State Fault Refusal :=
  .next (suiOp key (fun s => if s.sys.state = .maint then enrolKey request signer programOk s else suiDenied s) s)

/-- SUI_RELEASE (R465). -/
def execSuiRelease (key : Nat) (s : State) : Host.Outcome State Fault Refusal := .next (suiOp key releaseLock s)

/-- SUI_OP_COMPLETE (R467): a PREPARE's erase and copy end. -/
def execSuiOpComplete (ok : Bool) (s : State) : Host.Outcome State Fault Refusal :=
  .next (if s.sui.busy = 1 then prepareDone ok s else s)

/-- SELECTOR_WRITE_DONE (R450, R470). -/
def execSelectorWriteDone (s : State) : Host.Outcome State Fault Refusal := .next (selectorDone s)

/-- TRIAL_DEADLINE (R471, R472): the deadline is tested in P4, at whose start the runtime tests it in any case. -/
def execTrialDeadline (s : State) : Host.Outcome State Fault Refusal := .next (if s.sys.phase = 4 then trialTest s else s)

/-- REVERIFY_DUE (R472, R474): every 720 h of operating time; deferred while the update lock is held. -/
def execReverifyDue (s : State) : Host.Outcome State Fault Refusal :=
  .next (if s.evr.ms ≥ s.sui.verifyMs + 2592000000 ∧ s.sui.verifying = none ∧ reverifyOpen s then
    updSui (fun u => { u with verifying := some (0, 0, true) }) s else s)

/-- REFRESH_DUE (R472, R475): every 35,064 h of operating time, the slot that is not running first. -/
def execRefreshDue (s : State) : Host.Outcome State Fault Refusal :=
  .next (if s.evr.ms ≥ s.sui.refreshMs + 126230400000 ∧ s.sui.refreshing = none ∧ s.sui.lock = none then
    updSui (fun u => { u with refreshing := some (otherSlot u.running, 0) }) s else s)

/-- SORLIA_MAINTENANCE_REQUEST (R30, R31, R466). -/
def execSorliaMaintenanceRequest (s : State) : Host.Outcome State Fault Refusal :=
  if !sorliaServed s then .next s
  else match s.sys.state with
  | .banked => .next (busesFollow .banked .maint { s with sys := { s.sys with state := .maint } })
  | .safe | .configCheck | .join => .next { s with sys := { s.sys with maintFlag := true } }
  | .active => .next (note 0x0108 0 0 s)
  | .off | .kindling | .boot | .maint => .next s

/-- SORLIA_RESTART_REQUEST (R31); the recovery loader does not offer it (R454). -/
def execSorliaRestartRequest (s : State) : Host.Outcome State Fault Refusal :=
  if s.sui.recovery || !sorliaServed s then .next s
  else match s.sys.state with
  | .safe | .maint => .next (moduleReset 8 s)
  | .configCheck | .join | .banked | .active => .next (note 0x0108 0 0 s)
  | .off | .kindling | .boot => .next s

end Sys2Proof.Machine
end

