-- ==== Sys2Proof/Machine/RegAccessOps.lean ====
section
/-!
DEFINITION. Accesses of the triad at an address: registers by their access codes (R6, R7), snapshot pairs (R8), the registers whose
write is an operation, memories, and addresses outside the map (R29).
-/
namespace Sys2Proof.Machine

/-- The state a command goes to; a command that stops leaves the state. -/
def landing (o : Host.Outcome State Fault Refusal) (s : State) : State :=
  match o with
  | .next t => t
  | .fault _ => s
  | .refused _ => s

/-- A refused access is recorded with the code of its block, in the channel or unit `u` (R6, the fault tables of the chapters). -/
def blockNote (b : RegBlock) (u : Nat) (s : State) : State :=
  match b.base with
  | 0x40060000 => noteBus u b.code s
  | 0x40090000 => cvuNote u b.code s
  | 0x400A1000 => note b.code 13 u s
  | _ => note b.code 0 0 s

/-- A refused access to a register. -/
def accessNote (r : RegAt) (s : State) : State := blockNote r.block r.unit s

/-- A check-value unit whose self-check has failed ignores every access (R372). -/
def unitDead (b : RegBlock) (u : Nat) (s : State) : Bool := b.base == 0x40090000 && (s.unitC u).failed

/-- A write to a read-only register: ignored; recorded in every block but SYS, whose 0x0107 covers widths alone (R46). -/
def readOnlyWrite (r : RegAt) (s : State) : State := if r.block.base = 0x40100000 then s else accessNote r s

/-- The block's configuration lock is set. -/
def locked (r : RegAt) (s : State) : Bool :=
  match r.block.lock with
  | some a => s.regB (a + r.unit * r.block.stride) 0
  | none => false

/-- The address of the register in unit 0. -/
def RegAt.addr0 (r : RegAt) : Nat := r.row.lo + r.index * r.row.stride

/-- The bits that a write can change: DBC_TDC shows a measured field beside its writable one (R281). -/
def RegAt.wmask (r : RegAt) : Word := word (if r.row.lo = Reg.DBC_TDC then 0x7F else r.row.mask)

/-- A write that changes the writable bits and leaves the others. -/
def plainWrite (a : Nat) (r : RegAt) (w : Word) (s : State) : State :=
  s.setReg a ((s.reg a &&& ~~~r.wmask) ||| (w &&& r.wmask))

/-! ### Registers open while loading (R179, R241, R316) -/

/-- CMD_TAGt while loading (R337). A stored reply that no load has brought is a free value: the map has no register for it. -/
def tagLoad (t : Nat) (w : Word) (s : State) : State :=
  let g := s.tag t
  let (bs, s) : List Byte × State := if bitAt w 28 && g.stored.isNone then freeBytes 64 s else (g.stored.getD [], s)
  s.setTag t { g with
    st := (match field w 31 29 with
      | 0 => .free
      | 1 => .held
      | 2 => .queued
      | 3 => .active
      | n => .invalid n)
    stored := if bitAt w 28 then some bs else none
    hseq := if bitAt w 27 then some (g.hseq.getD (s.reg (Reg.CMD_TSEQ + 4 * t))) else none
    host := field w 26 24, opc := field w 23 16, status := field w 15 8, ses := field w 7 0 }

/-- CMD_TSEQt while loading. -/
def tseqLoad (t : Nat) (w : Word) (s : State) : State :=
  let g := s.tag t
  (s.setTag t { g with hseq := g.hseq.map fun _ => w }).setReg (Reg.CMD_TSEQ + 4 * t) w

/-- The leaf counters while loading (R241). -/
def countLoad (lo i : Nat) (w : Word) (s : State) : State :=
  updLeaf i (fun d => if lo = Reg.DSU_CNTO then { d with opened := w } else if lo = Reg.DSU_CNTC then { d with closed := w } else { d with aborted := w }) s

/-- The load window of the register's block is open. -/
def loadOpen (r : RegAt) (s : State) : Bool :=
  match r.block.base with
  | 0x40030000 => s.crd.loading
  | 0x40050000 => s.dsu.loading
  | _ => s.cmd.loading

/-- A write to a register that is open while loading. A token entry changes the table alone: the counts and the sum follow at LOAD_END
(R177). -/
def loadingWrite (a : Nat) (r : RegAt) (w : Word) (s : State) : State :=
  if !loadOpen r s then readOnlyWrite r s
  else if r.row.lo = Reg.CRD_TOKEN then { s with crd := { s.crd with tok := Tbl.set s.crd.tok r.index w } }
  else if r.block.base = 0x40050000 then countLoad r.row.lo r.index w s
  else if r.row.lo = Reg.CMD_TAG then tagLoad r.index w s
  else if r.row.lo = Reg.CMD_TSEQ then tseqLoad r.index w s
  else plainWrite a r w s

/-! ### Writes that are operations -/

/-- VAU. The captures that the live regions' cores present are free values: the cores are not part of the model (DESIGN CHOICE, log entry 4). -/
def vauWrite (lo : Nat) (w : Word) (s : State) : Option State :=
  if lo = Reg.VAU_SIG_CAPTURE then
    let (f0, s) := s.takeFree
    let (g0, s) := s.takeFree
    let (f1, s) := s.takeFree
    let (g1, s) := s.takeFree
    let (f2, s) := s.takeFree
    let (g2, s) := s.takeFree
    some (sigCapture w [some ⟨[f0], g0.toNat, []⟩, some ⟨[f1], g1.toNat, []⟩, some ⟨[f2], g2.toNat, []⟩] s)
  else if lo = Reg.VAU_SPLIT_REQ then some (splitRequest w s)
  else none

/-- MNT (R111): three writable registers; any other write is recorded. -/
def mntWrite (lo : Nat) (w : Word) (s : State) : Option State :=
  if lo = Reg.MNT_TVEC_SET_LO then some (landing (execMntTvecSet false w true s) s)
  else if lo = Reg.MNT_TVEC_SET_HI then some (landing (execMntTvecSet true w true s) s)
  else if lo = Reg.MNT_HEARTBEAT then some (landing (execMntHeartbeat w s) s)
  else none

/-- ITE: the inputs of the engine are closed while it is busy (R149). -/
def iteWrite (lo : Nat) (w : Word) (s : State) : Option State :=
  if lo = Reg.ITE_LAUNCH then some (iteLaunch w s)
  else if s.ite.busy && [Reg.ITE_SES, Reg.ITE_ESTATE, Reg.ITE_INPUT, Reg.ITE_OCFRESH].contains lo then some (raiseS 0x040C 0 0 s)
  else none

/-- CRD. -/
def crdRegWrite (lo : Nat) (w : Word) (s : State) : Option State :=
  if lo = Reg.CRD_OP then some (crdWrite (crdOpOf w (s.reg Reg.CRD_OPA)) s)
  else if lo = Reg.CRD_CENSUS_GO then some (landing (execCrdCensusGo w s) s)
  else none

/-- PDS. -/
def pdsWrite (lo i : Nat) (w : Word) (s : State) : Option State :=
  if lo = Reg.PDS_TRACK then some (trackWrite i w s)
  else if lo = Reg.PDS_SLOTC then some (slotWrite false i w s)
  else if lo = Reg.PDS_BSLOTC then some (slotWrite true i w s)
  else none

/-- DSU: BEGIN acts before END in one write (DEDUCED, log entry 50). -/
def dsuWrite (lo i : Nat) (w : Word) (s : State) : Option State :=
  if lo = Reg.DSU_STEP then some (if bitAt w 0 then landing (execDsuStep s) s else s)
  else if lo = Reg.DSU_CORR then
    some (updEdge i (fun d => { d with corrVcn := s.sys.vcn }) (s.setReg (Reg.DSU_CORR + 4 * i) (w &&& 0x8000FFFF#32)))
  else if lo = Reg.DSU_ECMD then some (ecmdWrite i (w &&& 0xF0FFFFFF#32) s)
  else if lo = Reg.DSU_LCMD then
    some (if field w 31 28 = 1 ∨ field w 31 28 = 2 then lcmdWrite (field w 31 28) (field w 7 0) s else note 0x0711 3 (field w 7 0) s)
  else if lo = Reg.DSU_LOAD then
    let s := if bitAt w 0 then landing (execDsuLoadBegin s) s else s
    some (if bitAt w 1 then landing (execDsuLoadEnd s) s else s)
  else none

/-- The bits of a bit timing register that a write changes. -/
def putTiming (lo : Nat) (w old : Word) : Word :=
  let m : Word := if lo = Reg.DBC_TDC then 0x7F#32 else 0xFFFFFF00#32
  (old &&& ~~~m) ||| (w &&& m)

/-- DBC: the bits of DBC_CTRL act in the order CANCEL, WAKE, SLEEP (DEDUCED, log entry 50). -/
def dbcWrite (lo i b : Nat) (w : Word) (s : State) : Option State :=
  if lo = Reg.DBC_CTRL then
    let s := if bitAt w 2 then busCancel b s else s
    let s := if bitAt w 1 then landing (execDbcWake b s) s else s
    some (if bitAt w 0 then busSleep b s else s)
  else if lo = Reg.DBC_CBLK_LO then some (landing (execDbcLoadingCopyWrite b 0 w s) s)
  else if lo = Reg.DBC_CBLK_HI then some (landing (execDbcLoadingCopyWrite b 1 w s) s)
  else if lo = Reg.DBC_CORD then some (landing (execDbcLoadingCopyWrite b (2 + i) w s) s)
  else if lo = Reg.DBC_CRAMP then some (landing (execDbcLoadingCopyWrite b 6 w s) s)
  else if lo = Reg.DBC_CREADY then some (landing (execDbcCready b w s) s)
  else if lo = Reg.DBC_NBT ∨ lo = Reg.DBC_DBT ∨ lo = Reg.DBC_TDC then
    -- the bit timing registers accept the values of R250 alone
    if s.regB (busReg Reg.DBC_LOCK b) 0 then none
    else
      some (if timingOk lo (fast s b) w then s.setReg (busReg lo b) (putTiming lo w (s.reg (busReg lo b))) else s)
  else none

/-- A word of a transmit slot: the seal mark of the slot is cleared (R308); the triad has no write access to the seal field (R124). -/
def txbufWrite (k : Nat) (w : Word) (s : State) : State :=
  let m := k / 80
  let j := 4 * (k % 80)
  let bs := Tbl.get s.sni.tx m
  let bs := bs ++ List.replicate (j + 4 - bs.length) 0#8
  { s with sni := { s.sni with tx := if j = 28 then s.sni.tx else Tbl.set s.sni.tx m (bs.take j ++ le4 w ++ bs.drop (j + 4)) } }.setRegB (Reg.SNI_TXC + 4 * m) 30 false

/-- SNI_TXCm (R302, R308): READY is writable in P1 only; a write clears the seal mark. -/
def txcWrite (m : Nat) (w : Word) (s : State) : State :=
  let a := Reg.SNI_TXC + 4 * m
  let ready := s.regB a 31
  let n := field w 24 16
  let bs := Tbl.get s.sni.tx m
  let put (ready : Bool) (s : State) : State :=
    { s with sni := { s.sni with tx := Tbl.set s.sni.tx m (bs ++ List.replicate (n - bs.length) 0#8) } }.setReg a
      (word (bit ready * 2 ^ 31 + n * 2 ^ 16 + field w 15 8 * 2 ^ 8 + bit (s.regB a 29) * 2 ^ 29))
  if s.sys.phase = 1 then put (bitAt w 31) s
  else if bitAt w 31 == ready then put ready s
  else note 0x0910 0 0 (put ready s)

/-- SNI. -/
def sniWrite (lo i : Nat) (w : Word) (s : State) : Option State :=
  if lo = Reg.SNI_TXC then some (txcWrite i w s)
  else if lo = Reg.SNI_TXBUF then some (txbufWrite i w s)
  else none

/-- CMD: BEGIN acts before END in one write (DEDUCED, log entry 50). -/
def cmdWrite (lo i : Nat) (w : Word) (s : State) : Option State :=
  if lo = Reg.CMD_FEED then
    some (feedTelegram (field w 2 0) (feedCopy (bitAt w 16) (field w 13 8) s) s)
  else if lo = Reg.CMD_POP then some (landing (execCmdPop w s) s)
  else if lo = Reg.CMD_RPLY then some (landing (execCmdRply w s) s)
  else if lo = Reg.CMD_OUTSEL then some (landing (execCmdOutsel (field w 2 0) s) s)
  else if lo = Reg.CMD_OUTPOP then some (landing (execCmdOutpop w s) s)
  else if lo = Reg.CMD_LOAD then
    let s := if bitAt w 0 then landing (execCmdLoadBegin s) s else s
    some (if bitAt w 1 then landing (execCmdLoadEnd s) s else s)
  else if lo = Reg.CMD_LOCK then some (landing (execCmdLock w s) s)
  else if lo = Reg.CMD_RBUF then some { s with cmd := { s.cmd with rbuf := Tbl.setList s.cmd.rbuf (4 * i) (le4 w) } }
  else none

/-- FIO. -/
def fioWrite (lo : Nat) (w : Word) (s : State) : Option State :=
  if lo = Reg.FIO_OCMD0 then some (s.setReg Reg.FIO_OCMD0 w)
  else if lo = Reg.FIO_OCMD1 then some (s.setReg Reg.FIO_OCMD1 (w &&& 0x0FFFFFFF#32))
  else if lo = Reg.FIO_OCMD_CODE then some (writeCode w s)
  else if lo = Reg.FIO_GRESTORE then some (landing (execFioGrestore w s) s)
  else none

/-- CVU_CTRL: exactly one bit set (R369). -/
def cvuCtrl (n : Nat) (w : Word) (s : State) : State :=
  landing (match field w 2 0 with
    | 1 => execCvuStart n s
    | 2 => execCvuFinish n s
    | 4 => execCvuAbort n s
    | _ => execCvuCtrlInvalid n s) s

/-- CVU: a unit whose self-check has failed ignores every write (R372). -/
def cvuWrite (lo n : Nat) (w : Word) (s : State) : Option State :=
  if (s.unitC n).failed then some s
  else if lo = Reg.CVU_CTRL then some (cvuCtrl n w s)
  else if lo = Reg.CVU_CONF then some (landing (execCvuConf n w s) s)
  else if lo = Reg.CVU_DATA8 then some (cvuData n 1 w s)
  else if lo = Reg.CVU_DATA16 then some (cvuData n 2 w s)
  else if lo = Reg.CVU_DATA32 then some (cvuData n 4 w s)
  else if Reg.CVU_POLY_LO ≤ lo ∧ lo ≤ Reg.CVU_FALIVE then some (landing (execCvuParamWrite n ((lo - Reg.CVU_POLY_LO) / 4) w s) s)
  else none

/-- The bits of MBX_CIRQ and MBX_CEVENT that an agent may write as the channel's endpoint (R385, R387). -/
def mbOwnBits (who lo n : Nat) : Word :=
  let sends := mbSender n == who
  let takes := mbReceiver n == who
  if lo = Reg.MBX_CEVENT then word ((if sends then 3 else 0) + if takes then 4 else 0)
  else word ((if sends then (if mbLong n then 0x1C else 0x12) else 0) + bit takes)

/-- The interrupt enables that apply to a channel's kind (R387). -/
def mbKindBits (n : Nat) : Word := if mbLong n then 0x1D#32 else 0x13#32

/-- A write of an agent to a mailbox channel (R385); a register or an enable that does not apply to the channel's kind is reserved. A bit of
the other endpoint is left, and recorded where the write would change it (DEDUCED, log entry 123). -/
def mbxWrite (who lo i n : Nat) (w : Word) (s : State) : Option State :=
  let a := lo + 0x400 * n
  let sends := mbSender n == who
  if lo = Reg.MBX_CSTAT ∨ lo = Reg.MBX_CCNT then some (note 0x0C01 13 n s)
  else if lo = Reg.MBX_RXBUF then some (if n < 8 ∨ mbLimit n ≤ i then s else note 0x0C01 13 n s)
  else if lo = Reg.MBX_CEVENT then
    let m := mbOwnBits who lo n
    some (if mbEnds who n then noteIf (w &&& 7#32 &&& ~~~m != 0) 0x0C01 13 n (s.setReg a (s.reg a &&& ~~~(w &&& m))) else note 0x0C01 13 n s)
  else if lo = Reg.MBX_CIRQ then
    let m := mbOwnBits who lo n
    let foreign := (w ^^^ s.reg a) &&& mbKindBits n &&& ~~~m
    some (if mbEnds who n then noteIf (foreign != 0) 0x0C01 13 n (s.setReg a ((s.reg a &&& ~~~m) ||| (w &&& m))) else note 0x0C01 13 n s)
  else if lo = Reg.MBX_DBELL then some (landing (execMbxDbellPost who n w s) s)
  else if lo = Reg.MBX_ACK then some (landing (execMbxRcodeWrite who n (field w 15 0) s) s)
  else if lo = Reg.MBX_SEND then
    some (if n < 8 then s else landing (execMbxSend who n (field w 6 0) (Tbl.getList (s.chan n).tx 0 (mbLimit n)) s) s)
  else if lo = Reg.MBX_TXBUF then
    some (if n < 8 ∨ mbLimit n ≤ i then s
      else if sends then s.setChan n { s.chan n with tx := Tbl.set (s.chan n).tx i w } else note 0x0C01 13 n s)
  else none

/-- EVR. -/
def evrWrite (lo : Nat) (w : Word) (s : State) : Option State :=
  if lo = Reg.EVR_LOGA then some (s.setReg lo (w &&& 0xFFFF#32))
  else if lo = Reg.EVR_LOGB then some (s.setReg lo w)
  else if lo = Reg.EVR_LOG then some (landing (execEvrLog w s) s)
  else if lo = Reg.EVR_NPOST then some (landing (execEvrNpost w s) s)
  else none

/-- JNL_OP (R409, R421): whether the readback agrees is a free value. -/
def jnlWrite (w : Word) (s : State) : State :=
  let cell := field w 11 0
  let copy := field w 12 12
  match field w 31 28 with
  | 1 =>
    let (v, s) := s.takeFree
    landing (execJnlWrite cell copy (bitAt v 0) s) s
  | 2 => landing (execJnlRead cell copy s) s
  | _ => if s.sys.phase ≠ 4 ∨ ¬ jnlOpen s then note 0x0D0B 15 cell s else jnlResult 4 cell copy s

/-- PCL: what the peer's frames and the triad's copies show is a free value. -/
def pclWrite (lo : Nat) (w : Word) (s : State) : Option State :=
  let (v, t) := s.takeFree
  if lo = Reg.PCL_SWAP then some (landing (execPclSwap w (bitAt v 0) t) t)
  else if lo = Reg.PCL_MCTRL then some (landing (execPclMctrlGo w (if bitAt v 0 then [(v >>> 1).toNat] else []) t) t)
  else if lo = Reg.PCL_EPOCH then some (landing (execPclEpoch w s) s)
  else if lo = Reg.PCL_CTX then some (cascadeSend (field w 6 0) s)
  else none

/-- A key index among free values. -/
def freeKey (w : Word) (lo : Nat) : Option Nat := if bitAt w lo then some (field w (lo + 2) (lo + 1)) else none

/-- What ENROL finds in the SP's staging window, which is not part of the triad's map: free values. -/
def freeRequest (w : Word) (bs : List Byte) : KeyRequest := match freeKey w 0 with
  | some k => .revoke k
  | none => .enrol bs

/-- SUI_OP (R478): what the NOR gives back and what stands in the SP's staging window are free values. -/
def suiWrite (w : Word) (s : State) : State :=
  let key := field w 31 16
  let (v, t) := s.takeFree
  landing (match field w 15 12 with
    | 1 => execSuiPrepare key s
    | 2 =>
      let (data, t) := freeBytes (16 + v.toNat % 65537) t
      execSuiBlock key (field w 11 0) data (bitAt v 31) t
    | 3 => execSuiVerify key (bitAt v 0) (bitAt v 1) t
    | 4 => execSuiActivate key s
    | 5 => execSuiConfirm key s
    | 6 => execSuiRevert key s
    | 7 =>
      let (nonce, t) := freeBytes 32 s
      execSuiAttest key nonce t
    | 8 => execSuiReverifyStep key (bitAt v 0) t
    | 9 => execSuiRefreshStep key (v.toNat % 5) t
    | 10 =>
      let (bs, t) := freeBytes 97 t
      execSuiEnrol key (freeRequest v bs) (freeKey v 4) (bitAt v 8) t
    | 11 => execSuiRelease key s
    | _ => .next (note 0x0F0F 0 0 s)) s

/-- OBS. -/
def obsWrite (lo i : Nat) (w : Word) (s : State) : Option State :=
  if lo = Reg.OBS_MARK then some (markWrite w s)
  else if lo = Reg.OBS_TAGCTL then some (tagctlWrite w s)
  else if lo = Reg.OBS_TAGSEED then some (seedWrite w s)
  else if lo = Reg.OBS_PSEL then some (pselWrite i w s)
  else if lo = Reg.OBS_OVF0 then some (ovfWrite 0 w s)
  else if lo = Reg.OBS_OVF1 then some (ovfWrite 1 w s)
  else none

/-- SYS: a phase mark carries the present tick. -/
def sysWrite (lo : Nat) (w : Word) (s : State) : Option State :=
  if lo = Reg.SYS_SAFE_REQ then some (landing (execSysSafeReq w s) s)
  else if lo = Reg.SYS_PHASE_DONE then some (let t := tickNow s
    phaseMark w t.sys.tick t)
  else none

/-- What a write does at a register whose write is an operation; none at every other. -/
def operationWrite (r : RegAt) (w : Word) (s : State) : Option State :=
  let lo := r.row.lo
  let i := r.index
  match r.block.base with
  | 0x40000000 => vauWrite lo w s
  | 0x40010000 => mntWrite lo w s
  | 0x40020000 => iteWrite lo w s
  | 0x40030000 => crdRegWrite lo w s
  | 0x40040000 => pdsWrite lo i w s
  | 0x40050000 => dsuWrite lo i w s
  | 0x40060000 => dbcWrite lo i r.unit w s
  | 0x40070000 => sniWrite lo i w s
  | 0x40080000 => fioWrite lo w s
  | 0x40090000 => cvuWrite lo r.unit w s
  | 0x400A1000 => mbxWrite 0 lo i r.unit w s
  | 0x400B0000 => evrWrite lo w s
  | 0x400C0000 => if lo = Reg.JNL_OP then some (jnlWrite w s) else none
  | 0x400D0000 => pclWrite lo w s
  | 0x400E0000 => if lo = Reg.SUI_OP then some (suiWrite w s) else none
  | 0x400F0000 => obsWrite lo i w s
  | 0x40100000 => sysWrite lo w s
  | 0x40110000 => cmdWrite lo i w s
  | _ => none

/-- A write by the register's access code (R7); a read-clears register takes no write, which is recorded as one to a read-only register
(DESIGN CHOICE, log entry 108). -/
def codeWrite (a : Nat) (r : RegAt) (w : Word) (s : State) : State :=
  match r.row.acc with
  | .ro | .rc => readOnlyWrite r s
  | .rw => plainWrite a r w s
  | .lock => if locked r s then accessNote r s else plainWrite a r w s
  | .w1c => s.setReg a (s.reg a &&& ~~~w)
  | .w1s => s.setReg a (s.reg a ||| (w &&& r.wmask))
  | .loading => loadingWrite a r w s
  | .wo | .join | .dbell => s

/-- A 32-bit write to a register. -/
def regWrite (a : Nat) (r : RegAt) (w : Word) (s : State) : State :=
  match operationWrite r w s with
  | some t => t
  | none => codeWrite a r w s

/-! ### Memories of the map (R28) -/

/-- Vital SRAM: 4 MiB from 0x1000_0000. -/
def inSram (a width : Nat) : Bool := decide (0x10000000 ≤ a) && decide (a + width / 8 ≤ 0x10400000)

/-- Geographic data RAM: 2 MiB from 0x3000_0000. -/
def inGd (a width : Nat) : Bool := decide (0x30000000 ≤ a) && decide (a + width / 8 ≤ 0x30200000)

/-- Kindling ROM: 128 KiB from 0. -/
def inRom (a width : Nat) : Bool := decide (a + width / 8 ≤ 0x20000)

/-- A store as the write fold sees it (R79): the word's address, the data in its byte lanes (DESIGN CHOICE, log entry 95). -/
def storeOf (a width : Nat) (w : Word) : Store :=
  { addr := a - a % 4, data := (w &&& word (2 ^ width - 1)) <<< (8 * (a % 4))
    be := bitsOf 4 fun i => decide (a % 4 ≤ i) && decide (i < a % 4 + width / 8) }

/-- A write to a memory of the map: geographic data RAM is read-only once locked (R140). The spec names no effect of a write to the
ROM: it stays (DESIGN CHOICE, log entry 51). -/
def memWrite (a width : Nat) (w : Word) (s : State) : State :=
  let bs := (le4 w).take (width / 8)
  if inSram a width then storeFold (storeOf a width w) { s with sram := Tbl.setList s.sram (a - 0x10000000) bs }
  else if inGd a width then
    if s.regB Reg.ITE_LOCK 0 then raiseS 0x0408 0 0 s else storeFold (storeOf a width w) { s with gd := Tbl.setList s.gd (a - 0x30000000) bs }
  else if inRom a width then s
  else note 0x0107 0 0 s

/-- A read of a memory of the map; the ROM's content is a free value. -/
def memRead (a width : Nat) (s : State) : State :=
  let n := width / 8
  if inSram a width then s.answerRead (word (ofLe (Tbl.getList s.sram (a - 0x10000000) n)))
  else if inGd a width then s.answerRead (word (ofLe (Tbl.getList s.gd (a - 0x30000000) n)))
  else if inRom a width then s.answerRead (word (ofLe ((List.range n).map fun i => Config.freeByte 0 (0x10000 + a + i))))
  else (note 0x0107 0 0 s).answerRead 0

/-! ### The access -/

/-- A write access of the triad. -/
def accessWrite (a width : Nat) (w : Word) (s : State) : State :=
  match regAt a with
  | some r =>
    if unitDead r.block r.unit s then s
    else if width ≠ 32 then accessNote r s
    else regWrite a r w s
  | none =>
    match blockAt a with
    | some (b, u, _) => if (b.base = 0x40010000 ∨ width ≠ 32) ∧ !unitDead b u s then blockNote b u s else s
    | none => memWrite a width w s

/-- The high word of a snapshot pair (R8, R371), by the row of its low word. -/
def pairHi (lo : Nat) : Bool := [Reg.OBS_FIX_LO, Reg.OBS_PCNT_LO, Reg.EVR_TAG_LO, Reg.CVU_RESULT_LO, Reg.CVU_CHECK_LO, Reg.CVU_APPEND_LO].contains lo

/-- The high word itself. -/
def isHi (lo : Nat) : Bool := [Reg.OBS_FIX_HI, Reg.OBS_PCNT_HI, Reg.EVR_TAG_HI, Reg.CVU_RESULT_HI, Reg.CVU_CHECK_HI, Reg.CVU_APPEND_HI].contains lo

/-- A region monitor's reading: its reset value before the first sample, then for the 10 µs of its sample the reading of that one; a later
sample is a free value (R102; DESIGN CHOICE, log entries 4 and 131). -/
def monitorFresh (s : State) : State :=
  let s := tickNow s
  if (if s.sys.vcOn then s.vau.sampled == some (s.sys.vcn, s.sys.tick / 250) else s.vau.sampled.isNone) then s
  else
    let s := updVau (fun v => { v with sampled := some (s.sys.vcn, s.sys.tick / 250) }) s
    (List.range 9).foldl (fun s i =>
      let (v, s) := s.takeFree
      s.setReg (Reg.VAU_RM_SUPPLY + 4 * i) (v &&& 0xFFFF#32)) s

/-- The address is that of a region monitor's reading. -/
def isMonitor (a : Nat) : Bool := decide (Reg.VAU_RM_SUPPLY ≤ a) && decide (a < Reg.VAU_RM_SUPPLY + 36)

/-- The value of a register as it is read now, a free one where the model has no source for it. -/
def readValue (a : Nat) (r : RegAt) (s : State) : Word × State :=
  if isMonitor a then
    let s := monitorFresh s
    (regValue s a r, s)
  else if a = Reg.SYS_VC_POS then
    let s := tickNow s
    (regValue s a r, s)
  else if isCounter a then
    let s := obsRun s
    (regValue s a r, s)
  else if openValue a then
    let (v, s) := s.takeFree
    (v &&& word r.row.mask, s)
  else (regValue s a r, s)

/-- A word of a received message is read (R376, R378). -/
def rxRead (i n : Nat) (s : State) : State :=
  let c := s.chan n
  if mbLimit n ≤ i then s.answerRead 0
  else
    let t := s.answerRead (Tbl.get c.rx i)
    if c.full && i + 1 == c.len then mbTake n t
    else if c.full && decide (i < c.len) then t.setChan n { c with partRead := true }
    else t

/-- A read of a mailbox channel by an agent (R385): a register that does not apply to the channel's kind reads 0; MBX_SEND and MBX_TXBUF
are not to be read, the event flags and the interrupt enables are read by either endpoint (DEDUCED, log entry 123). -/
def mbxRead (who a : Nat) (r : RegAt) (s : State) : State :=
  let lo := r.row.lo
  let n := r.unit
  if !mbEnds who n then mbRefused n s
  else if lo = Reg.MBX_SEND ∨ lo = Reg.MBX_TXBUF then
    if n < 8 ∨ (lo = Reg.MBX_TXBUF ∧ mbLimit n ≤ r.index) then s.answerRead 0 else mbRefused n s
  else if lo = Reg.MBX_DBELL then (if 8 ≤ n then s.answerRead 0 else landing (execMbxDbellTake who n s) s)
  else if lo = Reg.MBX_RXBUF then
    if n < 8 then s.answerRead 0 else if mbReceiver n = who then rxRead r.index n s else mbRefused n s
  else if lo = Reg.MBX_ACK ∧ !mbLong n then s.answerRead 0
  else if lo = Reg.MBX_CIRQ then s.answerRead (s.reg a)
  else
    let w := regValue s a r
    s.answerRead (if lo = Reg.MBX_ACK then w ||| word (bit (s.chan n).ackTaken * 2 ^ 31 + bit (s.chan n).ackDone * 2 ^ 30) else w)

/-- A 32-bit read of a register (R7, R8). -/
def regRead (a : Nat) (r : RegAt) (s : State) : State :=
  let lo := r.row.lo
  if r.block.base = 0x400A1000 then mbxRead 0 a r s
  else match r.row.acc with
    | .wo => s.answerRead 0
    | .rc => (if r.block.base = 0x40100000 then hwmRead ((a - Reg.SYS_PHASE_HWM0) / 4) s else s.setReg a 0).answerRead (regValue s a r)
    | _ =>
      if isHi lo then
        s.answerRead (if r.block.base = 0x40090000 ∧ (s.unitC r.unit).failed then 0 else Tbl.get s.hi (a - 4))
      else if pairHi lo then
        let (v, s) := readValue a r s
        let (h, s) := readValue (a + 4) { r with row := { r.row with lo := lo + 4 } } s
        { s with hi := Tbl.set s.hi a h }.answerRead v
      else
        let (v, s) := readValue a r s
        s.answerRead v

/-- A read access of the triad. -/
def accessRead (a width : Nat) (s : State) : State :=
  match regAt a with
  | some r => if width ≠ 32 then (accessNote r s).answerRead 0 else regRead a r s
  | none =>
    match blockAt a with
    | some (b, u, _) => (if width ≠ 32 then blockNote b u s else s).answerRead 0
    | none => memRead a width s

/-- The per-region blocks ITE, CRD, PDS, DSU and OBS (R28). -/
def regionBlock (base : Nat) : Bool := [0x40020000, 0x40030000, 0x40040000, 0x40050000, 0x400F0000].contains base

/-- The access leaves the region: it is a transaction that is voted, with the registers of a single block (R28, R70). -/
def votedAddr (a : Nat) : Bool :=
  match blockAt a with
  | some (b, _, _) => !regionBlock b.base
  | none => decide (0x40000000 ≤ a)

/-! ### The CP and the SP (R25, R385) -/

/-- The mailbox channel of the agent's own at an address: its number. What else the CP and the SP reach of their windows are the telegram
queues and buffers of the rows of their own; a register there is outside them (DESIGN CHOICE, log entry 122). -/
def ownChan (who a : Nat) : Option Nat :=
  match blockAt a with
  | some (b, u, _) => if b.base = 0x400A1000 ∧ mbEnds who u then some u else none
  | none => none

/-- A write access of the CP (1) or the SP (2); held in reset it makes none. -/
def procWrite (who a width : Nat) (w : Word) (s : State) : State :=
  if !agentRuns who s then s
  else match ownChan who a with
  | some n =>
    if width ≠ 32 then note 0x0C01 13 n s
    else match regAt a with
      | some r => (mbxWrite who r.row.lo r.index n w s).getD s
      | none => s
  | none => firewalled s

/-- A read access of the CP or the SP. -/
def procRead (who a width : Nat) (s : State) : State :=
  if !agentRuns who s then s
  else match ownChan who a with
  | some n =>
    if width ≠ 32 then mbRefused n s
    else match regAt a with
      | some r => mbxRead who a r s
      | none => s.answerRead 0
  | none => (firewalled s).answerRead 0

/-! ### The debugger (R489) -/

/-- What an attached debugger reads of its region's OBS: every value, class T included. -/
def debugObs (s : State) (k a : Nat) (r : RegAt) : Word :=
  let o := s.obsOf k
  let pair (l : List Nat) (lo : Nat) : Word := word (l.getD ((a - lo) / 8) 0 / (if a % 8 = 0 then 1 else 2 ^ 32))
  if r.row.lo = Reg.OBS_FIX_LO ∨ r.row.lo = Reg.OBS_FIX_HI then pair o.fix Reg.OBS_FIX_LO
  else if r.row.lo = Reg.OBS_PCNT_LO ∨ r.row.lo = Reg.OBS_PCNT_HI then pair o.prg Reg.OBS_PCNT_LO
  else if r.row.lo = Reg.OBS_SEGL then o.segl.getD r.index 0
  else if r.row.lo = Reg.OBS_SEGH then o.segh.getD r.index 0
  else if r.row.lo = Reg.OBS_OVF0 then o.ovf.setWidth 32
  else if r.row.lo = Reg.OBS_OVF1 then (o.ovf >>> 32).setWidth 32
  else if r.row.lo = Reg.OBS_TAGREC ∨ r.row.lo = Reg.OBS_TAGCTL then s.reg a
  else regValue s a r

/-- The debugger attached to region `k` reads its region: the registers of the per-region blocks as they stand and its memories; without an
attachment nothing answers. What it reads elsewhere is not its region's (R489). -/
def debugRead (k a width : Nat) (s : State) : State :=
  if !bitAt s.vau.attached k then s.answerRead 0
  else match regAt a with
    | some r =>
      if r.block.base = 0x400F0000 then (fun s => s.answerRead (debugObs s k a r)) (obsRun s)
      else if regionBlock r.block.base then s.answerRead (regValue s a r)
      else s.answerRead 0
    | none => if inSram a width || inGd a width then memRead a width s else s.answerRead 0

/-- A write access of an agent: the triad (0), the CP or the SP. What a debugger (3 and up) writes changes its region's own copy alone, which
has left lock-step and is in no state that the module votes on: the state the regions share stays (R99, R489; DESIGN CHOICE, log entry 151). -/
def agentWrite (who a width : Nat) (w : Word) (s : State) : State :=
  if who = 0 then accessWrite a width w (if votedAddr a then obsCount 12 1 s else s)
  else if 3 ≤ who then s
  else procWrite who a width w s

/-- A read access of an agent: the triad, the CP, the SP, or the debugger of region `who` − 3. -/
def agentRead (who a width : Nat) (s : State) : State :=
  if who = 0 then accessRead a width (if votedAddr a then obsCount 13 1 s else s)
  else if 3 ≤ who then debugRead (who - 3) a width s
  else procRead who a width s

end Sys2Proof.Machine
end

