-- ==== Sys2Proof/Machine/RegisterAccess.lean ====
section
/-!
DEFINITION. The commands that read and write a register by its address.
-/
namespace Sys2Proof.Machine

/-- REGISTER_WRITE (R6, R7, R25, R385) of the triad (`who` 0), the CP (1) or the SP (2). -/
def execRegisterWrite (at_ : BusAddr) (width : Nat) (w : Word) (s : State) : Host.Outcome State Fault Refusal :=
  .next (agentWrite at_.who at_.addr width w s)

/-- REGISTER_READ (R6–R8, R25, R385) of the triad, the CP or the SP: the value stands in `sys.rdata`. -/
def execRegisterRead (at_ : BusAddr) (width : Nat) (s : State) : Host.Outcome State Fault Refusal := .next (agentRead at_.who at_.addr width s)

end Sys2Proof.Machine
end

