-- ==== Sys2Proof/Machine/Routes.lean ====
section
/-!
DEFINITION. The times of route and point sessions as commands of their own: each acts on the session it names while that session is
in the state in which the time runs (R154, R159, R162), and on a token whose timer runs (R174).
-/
namespace Sys2Proof.Machine

/-- The session is live, of a kind, and in one of some states. -/
def sesIn (s : State) (n : Nat) (kind : SesKind) (p : SesSt → Bool) : Bool := sesLive s n && (s.ses n).kind == kind && p (s.ses n).st

/-- ROUTE_WAIT_TIMEOUT (R154): WAIT_T has elapsed; the request is checked for the last time, and refused. -/
def execRouteWaitTimeout (ses : Nat) (s : State) : Host.Outcome State Fault Refusal :=
  .next (if turnNow s && sesIn s ses .route (· == .checking) && elapsed s (s.ses ses).born ((routeOf s (s.ses ses).obj).waitT * 100) then
      routeTry ses false s
    else s)

/-- LEND_TIMEOUT (R154): LEND_T has elapsed. -/
def execLendTimeout (ses : Nat) (s : State) : Host.Outcome State Fault Refusal :=
  let r := routeOf s (s.ses ses).obj
  .next (if turnNow s && sesIn s ses .route (· == .locking) && !(locksOf s r).all (fun l => frozenOwned s ses l.elem)
        && elapsed s (s.ses ses).acqVcn (r.lendT * 10) then
      routeLendTimeout ses s
    else s)

/-- SET_TIMEOUT (R154): SET_T has elapsed. -/
def execSetTimeout (ses : Nat) (s : State) : Host.Outcome State Fault Refusal :=
  .next (if turnNow s && sesIn s ses .route (fun t => t == .setting || t == .proving) && !(s.ses ses).cleared && !pOk s ses && setTOver s ses then
      routeSetTimeout ses s
    else s)

/-- THROW_TIMEOUT (R162): THROW_T has elapsed. -/
def execThrowTimeout (ses : Nat) (s : State) : Host.Outcome State Fault Refusal :=
  let x := s.ses ses
  .next (if turnNow s && sesIn s ses .point (· == .setting) && !estBit s x.obj (if x.target = 1 then 2 else 3)
        && elapsed s (x.setVcn.getD s.sys.vcn) ((elemOf s x.obj).throwT * 10) then
      throwOver ses s
    else s)

/-- SIGNAL_STOP_TIMEOUT (R159): 1,000 VC without SSTOP have elapsed since the cancel. -/
def execSignalStopTimeout (ses : Nat) (s : State) : Host.Outcome State Fault Refusal :=
  let x := s.ses ses
  .next (if turnNow s && sesIn s ses .route (· == .releasing) && x.relMode == .atStop && !sigStop s (routeOf s x.obj).signal
        && elapsed s x.endVcn 1000 then
      routeReleased ses (signalUnproven ses s)
    else s)

/-- TOKEN_TIMER_EXPIRE (R174): a `RELEASING` token that is not frozen has its timer at 0. The decrements of the VC start end their
tokens themselves (`tokTicks`); a token whose timer still runs is left (log entry 8). -/
def execTokenTimerExpire (elem : Nat) (s : State) : Host.Outcome State Fault Refusal :=
  let w := s.tok elem
  .next (if tokSt w = 2 ∧ ¬ tokFrozen s elem ∧ tokTimer w = 0 then tokExpired elem s else s)

end Sys2Proof.Machine
end

