-- ==== Sys2Proof/Machine/Triad.lean ====
section
/-!
DEFINITION. The commands of the voter, of the state signature and of the regions.
-/
namespace Sys2Proof.Machine

/-- The agreed transaction is issued at P-vital (R72, R73, R78): a read, a write or a phase mark; kind 0b11 is reserved (R70). -/
def issue (t : Txn) (s : State) : State :=
  match t.kind with
  | 0 => accessRead t.addr 32 (obsCount 13 1 s)
  | 1 => accessWrite t.addr 32 t.data (obsCount 12 1 s)
  | 2 =>
    let s := tickNow (obsCount 14 1 s)
    phaseMark t.data s.sys.tick s
  | _ => s

/-- The entries that the cores have written since the last decision, and what the voter takes of them (R69, R72). -/
def gatherCopies (w0 w1 w2 : List QWrite) (s : State) : State := takeCopies (queueWrite 2 w2 (queueWrite 1 w1 (queueWrite 0 w0 s)))

/-- The voter's decision on the copies it holds, and what it issues (R76); a parity error or a dual-rail fault lets nothing out (R96). -/
def decideTxn (spread : Nat) (dualRailBad : Bool) (s : State) : State :=
  if heldBad s || s.vau.parityBad || dualRailBad then copiesUsed (voterFaults dualRailBad s)
  else
    let r := voteTxn s
    let t := alignHwm spread (copiesUsed r.1)
    match r.2 with
    | some x => issue x t
    | none => t

/-- VOTED_TRANSACTION (R72, R76, R96): the decision is made as soon as every live region's copy is present; each checker of the dual-rail
voter says whether it has found a pair equal. -/
def execVotedTransaction (w0 w1 w2 : List QWrite) (spread : Nat) (checkerA checkerB : Bool) (s : State) : Host.Outcome State Fault Refusal :=
  .next (let t := gatherCopies w0 w1 w2 s
    let dualRailBad := checkerA || checkerB
    if copiesAll t then decideTxn spread dualRailBad t else voterFaults dualRailBad t)

/-- ALIGN_WINDOW_CLOSE (R72): six core cycles after the first copy, the copies present are all that count. -/
def execAlignWindowClose (w0 w1 w2 : List QWrite) (spread : Nat) (s : State) : Host.Outcome State Fault Refusal :=
  .next (let t := gatherCopies w0 w1 w2 s
    if copiesAny t then decideTxn spread false t else voterFaults false t)

/-- ALIGN_QUEUE_ENTRY_LEAVES (R69): the oldest of 8 entries goes to the voter, and the core continues. -/
def execAlignQueueEntryLeaves (region : Nat) (s : State) : Host.Outcome State Fault Refusal :=
  .next (if (Tbl.get s.vau.queue region).length = 8 then voterFaults false (queueLeave region s) else s)

/-- VAU_SIG_CAPTURE (R81). -/
def execVauSigCapture (w : Word) (c0 c1 c2 : Option CoreCapture) (s : State) : Host.Outcome State Fault Refusal :=
  .next (sigCapture w [c0, c1, c2] s)

/-- MEMORY_UNCORRECTABLE (R83). -/
def execMemoryUncorrectable (region : Nat) (s : State) : Host.Outcome State Fault Refusal := .next (regionMinority region 0x021A 0 s)

/-- MEMORY_CORRECTED (R83). -/
def execMemoryCorrected (region : Nat) (s : State) : Host.Outcome State Fault Refusal :=
  let a := Reg.VAU_ECC_CORR + 4 * region
  .next (obsCountT region 22 1 (s.setVau a (satInc (s.vauReg a))))

/-- REGION_OUT_OF_TOLERANCE (R94, R95): three consecutive samples, 10 µs apart, the last at `tick` of the VC. -/
def execRegionOutOfTolerance (s0 s1 s2 : RegionSample) (tick : Nat) (s : State) : Host.Outcome State Fault Refusal :=
  .next (monitorSamples [s0, s1, s2] tick s)

/-- VAU_SPLIT_REQ (R87). -/
def execVauSplitReq (w : Word) (s : State) : Host.Outcome State Fault Refusal := .next (splitRequest w s)

/-- SELFTEST_DUE (R86): where the age of the region has reached 480 minutes. -/
def execSelftestDue (region : Nat) (s : State) : Host.Outcome State Fault Refusal :=
  .next (if 480 ≤ regionAge s region then s.setVau Reg.VAU_ST_DUE (setBit (s.vauReg Reg.VAU_ST_DUE) region true) else s)

/-- SELFTEST_OVERDUE (R89): 540 minutes and each further 60 without a completed test. -/
def execSelftestOverdue (region : Nat) (s : State) : Host.Outcome State Fault Refusal :=
  .next (if overdueNow s region then
    note 0x0214 1 region (s.setVau Reg.VAU_ST_DUE (setBit (s.vauReg Reg.VAU_ST_DUE) (4 + region) true)) else s)

/-- REJOIN_SELFTEST_DONE (R90, R91). -/
def execRejoinSelftestDone (passed : Bool) (s : State) : Host.Outcome State Fault Refusal := .next (selftestDone passed s)

/-- DEBUG_ATTACH (R99, R100). -/
def execDebugAttach (region : Nat) (s : State) : Host.Outcome State Fault Refusal := .next (resealAfter s.mnt (debugAttach region s))

end Sys2Proof.Machine
end

