-- ==== Sys2Proof/Machine/Dispatch.lean ====
section
/-!
DEFINITION. One arm per command: a direct call of its meaning.
-/
namespace Sys2Proof.Machine

/-- The effect of a command on everything but the queue. -/
def exec (i : Instr) (s : State) : Host.Outcome State Fault Refusal :=
  match i with
  | .logicSupplyValid => Sys2Proof.Machine.execLogicSupplyValid s
  | .logicSupplyPowerDown => Sys2Proof.Machine.execLogicSupplyPowerDown s
  | .logicSupplyOutOfRange high => Sys2Proof.Machine.execLogicSupplyOutOfRange high s
  | .refClockLost => Sys2Proof.Machine.execRefClockLost s
  | .selftestComplete sigs compared index => Sys2Proof.Machine.execSelftestComplete sigs compared index s
  | .bootComplete selRead othRead => Sys2Proof.Machine.execBootComplete selRead othRead s
  | .configCheckComplete => Sys2Proof.Machine.execConfigCheckComplete s
  | .resetButtonRelease heldMs => Sys2Proof.Machine.execResetButtonRelease heldMs s
  | .resetButtonFault => Sys2Proof.Machine.execResetButtonFault s
  | .resetButtonFaultCleared => Sys2Proof.Machine.execResetButtonFaultCleared s
  | .sorliaRestartRequest => Sys2Proof.Machine.execSorliaRestartRequest s
  | .sorliaMaintenanceRequest => Sys2Proof.Machine.execSorliaMaintenanceRequest s
  | .sysSafeReq w => Sys2Proof.Machine.execSysSafeReq w s
  | .processorHeartbeatTimeout sp => Sys2Proof.Machine.execProcessorHeartbeatTimeout sp s
  | .processorReloadDone sp ok => Sys2Proof.Machine.execProcessorReloadDone sp ok s
  | .firewallViolation sp addr => Sys2Proof.Machine.execFirewallViolation sp addr s
  | .unmappedAccess write addr => Sys2Proof.Machine.execUnmappedAccess write addr s
  | .slotCodeChange code => Sys2Proof.Machine.execSlotCodeChange code s
  | .blockSelfCheckFail block n => Sys2Proof.Machine.execBlockSelfCheckFail block n s
  | .registerWrite at_ width w => Sys2Proof.Machine.execRegisterWrite at_ width w s
  | .vcStart reading => Sys2Proof.Machine.execVcStart reading s
  | .evaluateStart ready => Sys2Proof.Machine.execEvaluateStart ready s
  | .agreeStart => Sys2Proof.Machine.execAgreeStart s
  | .mantleVectorCheck received => Sys2Proof.Machine.execMantleVectorCheck received s
  | .mantleStatusRead readable echo => Sys2Proof.Machine.execMantleStatusRead readable echo s
  | .commitStart sealsDone => Sys2Proof.Machine.execCommitStart sealsDone s
  | .backgroundStart copyDiff => Sys2Proof.Machine.execBackgroundStart copyDiff s
  | .closeStart => Sys2Proof.Machine.execCloseStart s
  | .creditRecount => Sys2Proof.Machine.execCreditRecount s
  | .signatureCompare results => Sys2Proof.Machine.execSignatureCompare results s
  | .vcEnd heartbeat => Sys2Proof.Machine.execVcEnd heartbeat s
  | .phaseMark w tick => Sys2Proof.Machine.execPhaseMark w tick s
  | .vcnLoad byPcl vcn => Sys2Proof.Machine.execVcnLoad byPcl vcn s
  | .vcTimerFault => Sys2Proof.Machine.execVcTimerFault s
  | .votedTransaction w0 w1 w2 spread checkerA checkerB => Sys2Proof.Machine.execVotedTransaction w0 w1 w2 spread checkerA checkerB s
  | .alignWindowClose w0 w1 w2 spread => Sys2Proof.Machine.execAlignWindowClose w0 w1 w2 spread s
  | .alignQueueEntryLeaves region => Sys2Proof.Machine.execAlignQueueEntryLeaves region s
  | .vauSigCapture w c0 c1 c2 => Sys2Proof.Machine.execVauSigCapture w c0 c1 c2 s
  | .memoryUncorrectable region => Sys2Proof.Machine.execMemoryUncorrectable region s
  | .regionOutOfTolerance s0 s1 s2 tick => Sys2Proof.Machine.execRegionOutOfTolerance s0 s1 s2 tick s
  | .vauSplitReq w => Sys2Proof.Machine.execVauSplitReq w s
  | .selftestDue region => Sys2Proof.Machine.execSelftestDue region s
  | .selftestOverdue region => Sys2Proof.Machine.execSelftestOverdue region s
  | .rejoinSelftestDone passed => Sys2Proof.Machine.execRejoinSelftestDone passed s
  | .debugAttach region => Sys2Proof.Machine.execDebugAttach region s
  | .mantleInputFilterChange input value => Sys2Proof.Machine.execMantleInputFilterChange input value s
  | .mantleListenerFrame bus id fd bytes => Sys2Proof.Machine.execMantleListenerFrame bus id fd bytes s
  | .mntTvecSet high w codingOk => Sys2Proof.Machine.execMntTvecSet high w codingOk s
  | .mntHeartbeat w => Sys2Proof.Machine.execMntHeartbeat w s
  | .mantleTableLoad bytes => Sys2Proof.Machine.execMantleTableLoad bytes s
  | .mantleTableVerified key => Sys2Proof.Machine.execMantleTableVerified key s
  | .mantleSelfCheckFail listener => Sys2Proof.Machine.execMantleSelfCheckFail listener s
  | .iteLaunch w => Sys2Proof.Machine.execIteLaunch w s
  | .iteDone => Sys2Proof.Machine.execIteDone s
  | .iteOvertime => Sys2Proof.Machine.execIteOvertime s
  | .iteLock w => Sys2Proof.Machine.execIteLock w s
  | .gdRamWrite addr w => Sys2Proof.Machine.execGdRamWrite addr w s
  | .routeRequest host tag ses hseq hvcn route => Sys2Proof.Machine.execRouteRequest host tag ses hseq hvcn route s
  | .routeCancel host tag ses hseq hvcn object => Sys2Proof.Machine.execRouteCancel host tag ses hseq hvcn object s
  | .routeReleaseTimed host tag ses hseq hvcn route => Sys2Proof.Machine.execRouteReleaseTimed host tag ses hseq hvcn route s
  | .pointMove host tag ses hseq hvcn elem target => Sys2Proof.Machine.execPointMove host tag ses hseq hvcn elem target s
  | .routeWaitTimeout ses => Sys2Proof.Machine.execRouteWaitTimeout ses s
  | .lendTimeout ses => Sys2Proof.Machine.execLendTimeout ses s
  | .setTimeout ses => Sys2Proof.Machine.execSetTimeout ses s
  | .throwTimeout ses => Sys2Proof.Machine.execThrowTimeout ses s
  | .signalStopTimeout ses => Sys2Proof.Machine.execSignalStopTimeout ses s
  | .crdAcquire holder count => Sys2Proof.Machine.execCrdAcquire holder count s
  | .crdRelease elem => Sys2Proof.Machine.execCrdRelease elem s
  | .crdTimed elem => Sys2Proof.Machine.execCrdTimed elem s
  | .crdTransfer elem holder => Sys2Proof.Machine.execCrdTransfer elem holder s
  | .crdBlock elem holder => Sys2Proof.Machine.execCrdBlock elem holder s
  | .crdUnblock elem => Sys2Proof.Machine.execCrdUnblock elem s
  | .crdLend elem holder => Sys2Proof.Machine.execCrdLend elem holder s
  | .crdUnlend elem => Sys2Proof.Machine.execCrdUnlend elem s
  | .crdReclaim elem => Sys2Proof.Machine.execCrdReclaim elem s
  | .crdTake elem holder => Sys2Proof.Machine.execCrdTake elem holder s
  | .crdGiveback elem => Sys2Proof.Machine.execCrdGiveback elem s
  | .crdStartTimed elem => Sys2Proof.Machine.execCrdStartTimed elem s
  | .crdLoadBegin => Sys2Proof.Machine.execCrdLoadBegin s
  | .crdLoadEnd => Sys2Proof.Machine.execCrdLoadEnd s
  | .crdOpInvalid opc => Sys2Proof.Machine.execCrdOpInvalid opc s
  | .crdHeldOpResume => Sys2Proof.Machine.execCrdHeldOpResume s
  | .crdCensusGo w => Sys2Proof.Machine.execCrdCensusGo w s
  | .censusComplete => Sys2Proof.Machine.execCensusComplete s
  | .tokenTimerExpire elem => Sys2Proof.Machine.execTokenTimerExpire elem s
  | .crdFreeze w => Sys2Proof.Machine.execCrdFreeze w s
  | .crdAttrLock w => Sys2Proof.Machine.execCrdAttrLock w s
  | .elementBlock host tag ses hseq hvcn elem => Sys2Proof.Machine.execElementBlock host tag ses hseq hvcn elem s
  | .elementUnblock host tag ses hseq hvcn elem => Sys2Proof.Machine.execElementUnblock host tag ses hseq hvcn elem s
  | .lendReq m => Sys2Proof.Machine.execLendReq m s
  | .lendGrant m => Sys2Proof.Machine.execLendGrant m s
  | .lendRefuse m => Sys2Proof.Machine.execLendRefuse m s
  | .lendTaken m => Sys2Proof.Machine.execLendTaken m s
  | .lendReturn m => Sys2Proof.Machine.execLendReturn m s
  | .lendReturnAck m => Sys2Proof.Machine.execLendReturnAck m s
  | .lendAudit m => Sys2Proof.Machine.execLendAudit m s
  | .lendClaim m => Sys2Proof.Machine.execLendClaim m s
  | .lendClaimEnd m => Sys2Proof.Machine.execLendClaimEnd m s
  | .lendClaimQuery m => Sys2Proof.Machine.execLendClaimQuery m s
  | .lendMessageRepeat => Sys2Proof.Machine.execLendMessageRepeat s
  | .auditDue => Sys2Proof.Machine.execAuditDue s
  | .claimQueryRepeat => Sys2Proof.Machine.execClaimQueryRepeat s
  | .claimsComplete => Sys2Proof.Machine.execClaimsComplete s
  | .pdsTrack m w => Sys2Proof.Machine.execPdsTrack m w s
  | .pdsSlotc slot w => Sys2Proof.Machine.execPdsSlotc slot w s
  | .pdsBslotc slot w => Sys2Proof.Machine.execPdsBslotc slot w s
  | .pdsBin edge w => Sys2Proof.Machine.execPdsBin edge w s
  | .pdsConfLock w => Sys2Proof.Machine.execPdsConfLock w s
  | .leafLost leaf => Sys2Proof.Machine.execLeafLost leaf s
  | .dsuStep => Sys2Proof.Machine.execDsuStep s
  | .dsuStepDone => Sys2Proof.Machine.execDsuStepDone s
  | .dsuStepTimeout => Sys2Proof.Machine.execDsuStepTimeout s
  | .ecmdEnable edge ses => Sys2Proof.Machine.execEcmdEnable edge ses s
  | .ecmdOpen edge => Sys2Proof.Machine.execEcmdOpen edge s
  | .ecmdClose edge => Sys2Proof.Machine.execEcmdClose edge s
  | .ecmdWithdraw edge => Sys2Proof.Machine.execEcmdWithdraw edge s
  | .ecmdRestore edge => Sys2Proof.Machine.execEcmdRestore edge s
  | .ecmdSafeStop edge code => Sys2Proof.Machine.execEcmdSafeStop edge code s
  | .ecmdLocal edge code => Sys2Proof.Machine.execEcmdLocal edge code s
  | .ecmdEnd edge => Sys2Proof.Machine.execEcmdEnd edge s
  | .lcmdIsolate leaf => Sys2Proof.Machine.execLcmdIsolate leaf s
  | .lcmdRestore leaf => Sys2Proof.Machine.execLcmdRestore leaf s
  | .dsuLoadBegin => Sys2Proof.Machine.execDsuLoadBegin s
  | .dsuLoadEnd => Sys2Proof.Machine.execDsuLoadEnd s
  | .dsuConfLock w => Sys2Proof.Machine.execDsuConfLock w s
  | .lockTimeout leaf => Sys2Proof.Machine.execLockTimeout leaf s
  | .openTimeout leaf => Sys2Proof.Machine.execOpenTimeout leaf s
  | .closeTimeout edge => Sys2Proof.Machine.execCloseTimeout edge s
  | .ssTimeout leaf => Sys2Proof.Machine.execSsTimeout leaf s
  | .corrExpiry edge => Sys2Proof.Machine.execCorrExpiry edge s
  | .enableGrantTimeout edge => Sys2Proof.Machine.execEnableGrantTimeout edge s
  | .doorWaitTimeout edge => Sys2Proof.Machine.execDoorWaitTimeout edge s
  | .restorationRelease edge => Sys2Proof.Machine.execRestorationRelease edge s
  | .doorEnable host tag ses hseq hvcn edge => Sys2Proof.Machine.execDoorEnable host tag ses hseq hvcn edge s
  | .doorOpen host tag ses hseq hvcn edge => Sys2Proof.Machine.execDoorOpen host tag ses hseq hvcn edge s
  | .doorClose host tag ses hseq hvcn edge => Sys2Proof.Machine.execDoorClose host tag ses hseq hvcn edge s
  | .doorCloseRestore host tag ses hseq hvcn edge => Sys2Proof.Machine.execDoorCloseRestore host tag ses hseq hvcn edge s
  | .doorWithdrawEnable host tag ses hseq hvcn edge => Sys2Proof.Machine.execDoorWithdrawEnable host tag ses hseq hvcn edge s
  | .leafIsolate host tag ses hseq hvcn leaf => Sys2Proof.Machine.execLeafIsolate host tag ses hseq hvcn leaf s
  | .leafRestore host tag ses hseq hvcn leaf => Sys2Proof.Machine.execLeafRestore host tag ses hseq hvcn leaf s
  | .trainDoors host tag ses hseq hvcn edge mask => Sys2Proof.Machine.execTrainDoors host tag ses hseq hvcn edge mask s
  | .trainBerth host tag ses hseq hvcn edge flags offset => Sys2Proof.Machine.execTrainBerth host tag ses hseq hvcn edge flags offset s
  | .trainBerthExpiry edge => Sys2Proof.Machine.execTrainBerthExpiry edge s
  | .referenceSend bus busy => Sys2Proof.Machine.execReferenceSend bus busy s
  | .referenceRx bus ofs id bytes => Sys2Proof.Machine.execReferenceRx bus ofs id bytes s
  | .orderFrameSend bus => Sys2Proof.Machine.execOrderFrameSend bus s
  | .doorCommandFrameSend bus => Sys2Proof.Machine.execDoorCommandFrameSend bus s
  | .frameTxEnd bus e => Sys2Proof.Machine.execFrameTxEnd bus e s
  | .reportRx bus unit sof bytes => Sys2Proof.Machine.execReportRx bus unit sof bytes s
  | .foreignFrameRx bus id sof fd => Sys2Proof.Machine.execForeignFrameRx bus id sof fd s
  | .dbcErrorPassive bus => Sys2Proof.Machine.execDbcErrorPassive bus s
  | .dbcBusOff bus => Sys2Proof.Machine.execDbcBusOff bus s
  | .busOffRecovery bus => Sys2Proof.Machine.execBusOffRecovery bus s
  | .dbcCancel bus => Sys2Proof.Machine.execDbcCancel bus s
  | .dbcSleep bus => Sys2Proof.Machine.execDbcSleep bus s
  | .sleepEnter bus => Sys2Proof.Machine.execSleepEnter bus s
  | .dbcWake bus => Sys2Proof.Machine.execDbcWake bus s
  | .wakeFrameRepeat bus => Sys2Proof.Machine.execWakeFrameRepeat bus s
  | .wakeDetect bus pattern id dlc data => Sys2Proof.Machine.execWakeDetect bus pattern id dlc data s
  | .dbcCready bus w => Sys2Proof.Machine.execDbcCready bus w s
  | .dbcLoadingCopyWrite bus index w => Sys2Proof.Machine.execDbcLoadingCopyWrite bus index w s
  | .dbcLock bus w => Sys2Proof.Machine.execDbcLock bus w s
  | .datagramRx portB plain srcIp srcPort dstIp dstPort arr bytes => Sys2Proof.Machine.execDatagramRx portB plain srcIp srcPort dstIp dstPort arr bytes s
  | .abWindowExpiry cnum => Sys2Proof.Machine.execAbWindowExpiry cnum s
  | .seqBaseDrop cnum => Sys2Proof.Machine.execSeqBaseDrop cnum s
  | .connectionStale cnum => Sys2Proof.Machine.execConnectionStale cnum s
  | .phyLinkChange portB up => Sys2Proof.Machine.execPhyLinkChange portB up s
  | .networkStateStart => Sys2Proof.Machine.execNetworkStateStart s
  | .networkLost portB => Sys2Proof.Machine.execNetworkLost portB s
  | .networkRestored portB => Sys2Proof.Machine.execNetworkRestored portB s
  | .netsSilent => Sys2Proof.Machine.execNetsSilent s
  | .netsSilentLimit => Sys2Proof.Machine.execNetsSilentLimit s
  | .sniTxcReady slot cnum bytes => Sys2Proof.Machine.execSniTxcReady slot cnum bytes s
  | .sniLock w => Sys2Proof.Machine.execSniLock w s
  | .cmdFeed portB copy host => Sys2Proof.Machine.execCmdFeed portB copy host s
  | .cmdPop w => Sys2Proof.Machine.execCmdPop w s
  | .cmdRply w => Sys2Proof.Machine.execCmdRply w s
  | .cmdOutsel host => Sys2Proof.Machine.execCmdOutsel host s
  | .cmdOutpop w => Sys2Proof.Machine.execCmdOutpop w s
  | .cmdLoadBegin => Sys2Proof.Machine.execCmdLoadBegin s
  | .cmdLoadEnd => Sys2Proof.Machine.execCmdLoadEnd s
  | .cmdLock w => Sys2Proof.Machine.execCmdLock w s
  | .ping host tag ses hseq hvcn => Sys2Proof.Machine.execPing host tag ses hseq hvcn s
  | .signalForceStop host tag ses hseq hvcn elem setTo => Sys2Proof.Machine.execSignalForceStop host tag ses hseq hvcn elem setTo s
  | .statusQuery host tag ses hseq hvcn scope index => Sys2Proof.Machine.execStatusQuery host tag ses hseq hvcn scope index s
  | .journalQuery host tag ses hseq hvcn ofTag => Sys2Proof.Machine.execJournalQuery host tag ses hseq hvcn ofTag s
  | .countQuery host tag ses hseq hvcn kind index => Sys2Proof.Machine.execCountQuery host tag ses hseq hvcn kind index s
  | .updateConfirm host tag ses hseq hvcn bundle => Sys2Proof.Machine.execUpdateConfirm host tag ses hseq hvcn bundle s
  | .inputFilterChange pathB input value => Sys2Proof.Machine.execInputFilterChange pathB input value s
  | .inputDiscrepancy input => Sys2Proof.Machine.execInputDiscrepancy input s
  | .feedStateChange feed st => Sys2Proof.Machine.execFeedStateChange feed st s
  | .feedRecovery feed => Sys2Proof.Machine.execFeedRecovery feed s
  | .contactSupplyLimit block => Sys2Proof.Machine.execContactSupplyLimit block s
  | .outputCommit w0 w1 code => Sys2Proof.Machine.execOutputCommit w0 w1 code s
  | .outputOnDelay => Sys2Proof.Machine.execOutputOnDelay s
  | .silentState => Sys2Proof.Machine.execSilentState s
  | .testPulse off => Sys2Proof.Machine.execTestPulse off s
  | .pulseMissing output => Sys2Proof.Machine.execPulseMissing output s
  | .offReadsHigh output => Sys2Proof.Machine.execOffReadsHigh output s
  | .outputLow output => Sys2Proof.Machine.execOutputLow output s
  | .undeclaredOutputEnergised output => Sys2Proof.Machine.execUndeclaredOutputEnergised output s
  | .classificationResult output result partner => Sys2Proof.Machine.execClassificationResult output result partner s
  | .fioGrestore w => Sys2Proof.Machine.execFioGrestore w s
  | .fioLock w => Sys2Proof.Machine.execFioLock w s
  | .cvuStart unit => Sys2Proof.Machine.execCvuStart unit s
  | .cvuFinish unit => Sys2Proof.Machine.execCvuFinish unit s
  | .cvuAbort unit => Sys2Proof.Machine.execCvuAbort unit s
  | .cvuCtrlInvalid unit => Sys2Proof.Machine.execCvuCtrlInvalid unit s
  | .cvuData8 unit w => Sys2Proof.Machine.execCvuData8 unit w s
  | .cvuData16 unit w => Sys2Proof.Machine.execCvuData16 unit w s
  | .cvuData32 unit w => Sys2Proof.Machine.execCvuData32 unit w s
  | .cvuConf unit w => Sys2Proof.Machine.execCvuConf unit w s
  | .cvuParamWrite unit param w => Sys2Proof.Machine.execCvuParamWrite unit param w s
  | .mbxDbellPost who chan value => Sys2Proof.Machine.execMbxDbellPost who chan value s
  | .mbxDbellTake who chan => Sys2Proof.Machine.execMbxDbellTake who chan s
  | .mbxSend who chan len staged => Sys2Proof.Machine.execMbxSend who chan len staged s
  | .mbxTake who chan => Sys2Proof.Machine.execMbxTake who chan s
  | .mbxRcodeWrite who chan rcode => Sys2Proof.Machine.execMbxRcodeWrite who chan rcode s
  | .timeCheckpoint ms => Sys2Proof.Machine.execTimeCheckpoint ms s
  | .ringScanDone => Sys2Proof.Machine.execRingScanDone s
  | .evrLog w => Sys2Proof.Machine.execEvrLog w s
  | .recordRequest src code arg => Sys2Proof.Machine.execRecordRequest src code arg s
  | .recordClose => Sys2Proof.Machine.execRecordClose s
  | .evrNpost w => Sys2Proof.Machine.execEvrNpost w s
  | .nandPageProgram ok => Sys2Proof.Machine.execNandPageProgram ok s
  | .nandConfirm nseq => Sys2Proof.Machine.execNandConfirm nseq s
  | .nandStartReport highest => Sys2Proof.Machine.execNandStartReport highest s
  | .correlationDue => Sys2Proof.Machine.execCorrelationDue s
  | .jnlWrite cell copy readbackOk => Sys2Proof.Machine.execJnlWrite cell copy readbackOk s
  | .jnlRead cell copy => Sys2Proof.Machine.execJnlRead cell copy s
  | .evrLock w => Sys2Proof.Machine.execEvrLock w s
  | .pclMctrlGo w voteDiff => Sys2Proof.Machine.execPclMctrlGo w voteDiff s
  | .mirrorRx m => Sys2Proof.Machine.execMirrorRx m s
  | .responseRx r => Sys2Proof.Machine.execResponseRx r s
  | .bulkRx cells => Sys2Proof.Machine.execBulkRx cells s
  | .mirrorMissed => Sys2Proof.Machine.execMirrorMissed s
  | .pclSwap w peerOk => Sys2Proof.Machine.execPclSwap w peerOk s
  | .swapDue peerOk => Sys2Proof.Machine.execSwapDue peerOk s
  | .swapRetry peerOk => Sys2Proof.Machine.execSwapRetry peerOk s
  | .handoverVc => Sys2Proof.Machine.execHandoverVc s
  | .swapConfirmCheck => Sys2Proof.Machine.execSwapConfirmCheck s
  | .switchoverTrigger => Sys2Proof.Machine.execSwitchoverTrigger s
  | .takeoverActive => Sys2Proof.Machine.execTakeoverActive s
  | .joinTimeout => Sys2Proof.Machine.execJoinTimeout s
  | .timingMarkerRx peer frm phase => Sys2Proof.Machine.execTimingMarkerRx peer frm phase s
  | .pclCtx w => Sys2Proof.Machine.execPclCtx w s
  | .cascadeFrameRx f => Sys2Proof.Machine.execCascadeFrameRx f s
  | .pclEpoch w => Sys2Proof.Machine.execPclEpoch w s
  | .pclLock w => Sys2Proof.Machine.execPclLock w s
  | .sorliaChallenge head => Sys2Proof.Machine.execSorliaChallenge head s
  | .sorliaAuthenticate head key body => Sys2Proof.Machine.execSorliaAuthenticate head key body s
  | .sorliaLock head => Sys2Proof.Machine.execSorliaLock head s
  | .sorliaPrepare head manifest => Sys2Proof.Machine.execSorliaPrepare head manifest s
  | .sorliaBlock head block data readbackOk => Sys2Proof.Machine.execSorliaBlock head block data readbackOk s
  | .sorliaVerify head readOk programOk => Sys2Proof.Machine.execSorliaVerify head readOk programOk s
  | .sorliaActivate head => Sys2Proof.Machine.execSorliaActivate head s
  | .sorliaRelease head => Sys2Proof.Machine.execSorliaRelease head s
  | .sorliaAttest head nonce => Sys2Proof.Machine.execSorliaAttest head nonce s
  | .sorliaKeyEnrol head request signer programOk => Sys2Proof.Machine.execSorliaKeyEnrol head request signer programOk s
  | .sorliaJournalClear head => Sys2Proof.Machine.execSorliaJournalClear head s
  | .sorliaSessionEnd session => Sys2Proof.Machine.execSorliaSessionEnd session s
  | .updateLockTimeout => Sys2Proof.Machine.execUpdateLockTimeout s
  | .suiPrepare key => Sys2Proof.Machine.execSuiPrepare key s
  | .suiBlock key block data readbackOk => Sys2Proof.Machine.execSuiBlock key block data readbackOk s
  | .suiVerify key readOk programOk => Sys2Proof.Machine.execSuiVerify key readOk programOk s
  | .suiActivate key => Sys2Proof.Machine.execSuiActivate key s
  | .suiConfirm key => Sys2Proof.Machine.execSuiConfirm key s
  | .suiRevert key => Sys2Proof.Machine.execSuiRevert key s
  | .suiAttest key nonce => Sys2Proof.Machine.execSuiAttest key nonce s
  | .suiReverifyStep key readOk => Sys2Proof.Machine.execSuiReverifyStep key readOk s
  | .suiRefreshStep key done => Sys2Proof.Machine.execSuiRefreshStep key done s
  | .suiEnrol key request signer programOk => Sys2Proof.Machine.execSuiEnrol key request signer programOk s
  | .suiRelease key => Sys2Proof.Machine.execSuiRelease key s
  | .suiOpComplete ok => Sys2Proof.Machine.execSuiOpComplete ok s
  | .selectorWriteDone => Sys2Proof.Machine.execSelectorWriteDone s
  | .trialDeadline => Sys2Proof.Machine.execTrialDeadline s
  | .reverifyDue => Sys2Proof.Machine.execReverifyDue s
  | .refreshDue => Sys2Proof.Machine.execRefreshDue s
  | .obsPsel k w => Sys2Proof.Machine.execObsPsel k w s
  | .obsMark w => Sys2Proof.Machine.execObsMark w s
  | .obsTagctl w => Sys2Proof.Machine.execObsTagctl w s
  | .obsTagseed w => Sys2Proof.Machine.execObsTagseed w s
  | .instructionTag pc slotClass issueSlot fetchToIssue issueToRetire stall => Sys2Proof.Machine.execInstructionTag pc slotClass issueSlot fetchToIssue issueToRetire stall s
  | .mantleVcTiming => Sys2Proof.Machine.execMantleVcTiming s
  | .mantleSupplyReset => Sys2Proof.Machine.execMantleSupplyReset s
  | .sorliaSwapRequest peerOk => Sys2Proof.Machine.execSorliaSwapRequest peerOk s
  | .memoryCorrected region => Sys2Proof.Machine.execMemoryCorrected region s
  | .counterWrap counter => Sys2Proof.Machine.execCounterWrap counter s
  | .contactSupplyRecovery block => Sys2Proof.Machine.execContactSupplyRecovery block s
  | .ledAmberEnd => Sys2Proof.Machine.execLedAmberEnd s
  | .registerRead at_ width => Sys2Proof.Machine.execRegisterRead at_ width s

end Sys2Proof.Machine
end

