-- ==== Sys2Proof/Safety.lean ====
section
/-!
DEFINITION. The terms in which the statements about this module speak: what a command answers, what recording may change, what stands
once the module is in its latched safe state, and the forms that memories and registers keep.
-/
namespace Sys2Proof.Machine

/-- The command completes in the state with a next state of which `p` holds. -/
def Answers (c : Instr) (s : State) (p : State → Prop) : Prop := ∃ t, exec c s = .next t ∧ p t

/-- Between `s` and `t` nothing has changed but what a record changes: EVR's data, the register table, MRAM. -/
def recordedOnly (s t : State) : Prop := t = { s with evr := t.evr, regs := t.regs, mram := t.mram }

/-- Between `s` and `t` nothing has changed but what Mantle's new seals change: Mantle's count of masked seals, and what a record changes,
the register table with the seals among it. -/
def sealedOnly (s t : State) : Prop :=
  t = { s with
    evr := t.evr, regs := t.regs, mram := t.mram, mnt := { s.mnt with sealCount := t.mnt.sealCount, maskNoted := t.mnt.maskNoted } }

/-- Between `s` and `t` nothing has changed but what the replies of a VC change: the command front end, and what a record changes. -/
def repliedOnly (s t : State) : Prop := t = { s with evr := t.evr, regs := t.regs, mram := t.mram, cmd := t.cmd }

/-- The restrictive content of `SAFE` that stands in the state (R36): Mantle's all-restrictive vector with every line withdrawn, no
output commanded or to be commanded on, no door-open enable, and no door bus left with its commands. -/
def restrictive (t : State) : Prop :=
  t.mnt.tvec = setBit 0#64 63 true ∧ t.mnt.ga = 0 ∧ t.mnt.sa = 0 ∧ t.mnt.da = 0
    ∧ t.fio.grp = 0 ∧ t.fio.nextGrp = 0 ∧ t.fio.nextOn = 0 ∧ t.fio.dueOn = 0 ∧ (t.fio.silent = false → t.fio.on = 0)
    ∧ (∀ e, e < 8 → (t.edge e).tDoe = false)
    ∧ (∀ b, b < 8 → (t.bus b).st ≠ .master ∧ (t.bus b).st ≠ .backup ∧ (t.bus b).st ≠ .listen)

/-- The module has entered `SAFE` from `s` with a cause (R36): the state, its cause and VCN, the three restrictive telegram cycles, and
the restrictive content. -/
def enteredSafe (cause : Word) (s t : State) : Prop :=
  t.sys.state = .safe ∧ t.reg Reg.SYS_SAFE_CAUSE = cause ∧ t.reg Reg.SYS_SAFE_VCN = s.sys.vcn ∧ t.sys.safeCycles = 3 ∧ restrictive t

/-- A state after a reset: KINDLING with the SP and the CP held in reset, the VC timer stopped, nothing sequenced, what the NOR, the one-time
memories of SUI and Mantle and the state flags hold kept, every memory of the triad empty. -/
def resetFrom (s t : State) : Prop :=
  t.sys.state = .kindling ∧ t.sys.vcOn = false ∧ t.gd = [] ∧ t.sram = [] ∧ t.sys.sp.reset = true ∧ t.sys.cp.reset = true
    ∧ t.mnt = { State.reset.mnt with ck := s.mnt.ck, ckProg := s.mnt.ckProg, ckRev := s.mnt.ckRev } ∧ t.crd = State.reset.crd
    ∧ t.dsu = State.reset.dsu ∧ t.rt = State.reset.rt ∧ t.sys.maintFlag = s.sys.maintFlag ∧ t.sys.epoch = s.sys.epoch
    ∧ t.sui.nor = s.sui.nor ∧ t.sui.ck = s.sui.ck ∧ t.sui.ckProg = s.sui.ckProg ∧ t.sui.ckRev = s.sui.ckRev ∧ t.pending = s.pending

/-- The class S events of the module as a whole (R16, R22, R46, R47, R55, R147, R244, R23), each with its code, where it occurs: an engine or a
DSU step can run over its time only once it has been started. -/
def classSEvent (s : State) : Instr → Option Nat
  | .logicSupplyOutOfRange high => some (if high then 0x0102 else 0x0101)
  | .refClockLost => some 0x0103
  | .vcTimerFault => some 0x0128
  | .sysSafeReq w => if field w 15 0 = 0xC0A1 then some 0x0106 else none
  | .iteOvertime => if s.ite.busy then some 0x0409 else none
  | .dsuStepTimeout => if s.dsu.go && !s.dsu.done then some 0x0713 else none
  | .blockSelfCheckFail .crd _ => some 0x0508
  | .blockSelfCheckFail .sni _ => some 0x0911
  | .blockSelfCheckFail .cmd _ => some 0x100D
  | .blockSelfCheckFail .fio _ => some 0x0A14
  | .blockSelfCheckFail .mbx _ => some 0x0C05
  | .blockSelfCheckFail .evr _ => some 0x0D0C
  | .blockSelfCheckFail .jnl _ => some 0x0D0C
  | .blockSelfCheckFail .pcl _ => some 0x0E12
  | _ => none

/-- A ledger operation has given the entry of element `i` the value `w` and no other entry another one, has answered status 0, and has
left the module's state, the sessions and the lending books as they were. -/
def ledgerSets (i : Nat) (w : Word) (s t : State) : Prop :=
  t.tok i = w ∧ (∀ j, j ≠ i → t.tok j = s.tok j) ∧ t.reg Reg.CRD_RESULT = 0x80000000 ∧ t.sys = s.sys ∧ t.rt = s.rt ∧ t.lend = s.lend

/-- A ledger operation is refused with a status: no entry changes. -/
def ledgerRefuses (status : Nat) (s t : State) : Prop :=
  (∀ j, t.tok j = s.tok j) ∧ t.regF Reg.CRD_RESULT 27 24 = status ∧ t.regB Reg.CRD_RESULT 31 = true ∧ t.sys = s.sys

/-- The ledger performs an operation of the runtime at once: no token copy runs, P1, a state in which it works, and a declared element that
is not frozen. -/
def ledgerOpen (s : State) (i : Nat) : Prop :=
  s.ite.copying = false ∧ s.sys.phase = 1 ∧ s.live = true ∧ tokFrozen s i = false ∧ (posKind s i = 1 ∨ posKind s i = 2)

/-- The runtime applies lending messages at once: an `ACTIVE` member in P1 before its launch of the engine, in no hand-over. -/
def lendsAtOnce (s : State) : Prop := s.sys.state = .active ∧ popsNow s = true

/-- The runtime applies a lending message at once, the sender's epoch is known, and there is no banked peer whose acknowledgement a message
would wait for. -/
def lendOpen (m : LendMsg) (s : State) : Prop := lendsAtOnce s ∧ epochOk s m = true ∧ peerBanked s = false

/-- What a lending message changes beside the lending books: this VC's mirror is sent with EXT (R429). -/
def lendedOnly (s t : State) : Prop := t = { markExt s with lend := t.lend }

/-- A packet passes every check of R313: the module is `ACTIVE`, the tag is of the host's share and `HELD`, its stored HSEQ is another, HSEQ
is later than the host's last one, and HVCN is not in the future. -/
def packetAccepted (p : Pkt) (s : State) : Prop :=
  s.sys.state = .active ∧ inShare s p.host p.tag = true ∧ (s.tag p.tag).st = .held ∧ (s.tag p.tag).hseq ≠ some p.hseq
    ∧ (s.regB Reg.CMD_HSEQV p.host = false ∨ later p.hseq (s.reg (Reg.CMD_HSEQ + 4 * p.host)) = true) ∧ later p.hvcn s.sys.vcn = false

/-- A packet is accepted and comes to its turn at once: the runtime pops packets (P1 before its launch of the engine, no hand-over),
nothing queued before it, fewer than 32 packets taken in this VC, and its age within the limit. -/
def packetApplied (p : Pkt) (s : State) : Prop :=
  packetAccepted p s ∧ s.sys.phase = 1 ∧ s.ite.goTaken = false ∧ s.pcl.handing = false ∧ s.cmd.queue = [] ∧ s.cmd.handed < 32
    ∧ tooOld s p = false ∧ p.host < 8 ∧ p.tag < 256

/-- The operation of a tag has ended with a terminal reply of a status: the tag is `HELD` again, and the reply is stored. -/
def tagEnded (tag status : Nat) (t : State) : Prop :=
  (t.tag tag).st = .held ∧ (t.tag tag).status = status ∧ ∃ r, (t.tag tag).stored = some r ∧ byteAt r 16 = status ∧ byteAt r 5 = tag

/-- A session stands for an object: in use, of a kind, just requested, created by the tag. -/
def sessionCreated (n : Nat) (kind : SesKind) (obj tag : Nat) (t : State) : Prop :=
  (t.ses n).used = true ∧ (t.ses n).kind = kind ∧ (t.ses n).obj = obj ∧ (t.ses n).st = .requested ∧ (t.ses n).tag = tag

end Sys2Proof.Machine
end

