-- ==== Sys2Proof/WellFormed.lean ====
section
/-!
DEFINITION. The operands that a command can carry: each numbered thing within the numbers the spec gives it (R28, R69, R102, R168, R193,
R248, R282, R309, R338, R363, R375, R388, R484). A host's packet carries whatever its bytes can hold, since the module checks its parameters
itself (R311, R318).
-/
namespace Sys2Proof

/-- OP has 8 bits, FSEQ 16 (R464). -/
def headOk (h : Machine.SorliaHead) : Bool := decide (h.op < 256) && decide (h.fseq < 0x10000)

/-- The operands are within what the spec numbers. -/
def Instr.wf (i : Instr) : Bool :=
  match i with
  | .logicSupplyValid => true
  | .logicSupplyPowerDown => true
  | .logicSupplyOutOfRange _ => true
  | .refClockLost => true
  | .selftestComplete sigs _ index => sigs.length == 41 && sigs.all (fun p => decide (1 ≤ p.1 ∧ p.1 ≤ 5)) && decide (index < 41)
  | .bootComplete _ _ => true
  | .configCheckComplete => true
  | .resetButtonRelease _ => true
  | .resetButtonFault => true
  | .resetButtonFaultCleared => true
  | .sorliaRestartRequest => true
  | .sorliaMaintenanceRequest => true
  | .sysSafeReq _ => true
  | .processorHeartbeatTimeout _ => true
  | .processorReloadDone _ _ => true
  | .firewallViolation _ addr => decide (addr < 0x100000000)
  | .unmappedAccess _ addr => decide (addr < 0x100000000)
  | .slotCodeChange code => decide (code < 32)
  | .blockSelfCheckFail _ n => decide (n < 16)
  | .registerWrite p width _ => decide (p.who < 6) && decide (p.addr < 0x100000000) && decide (width = 8 ∨ width = 16 ∨ width = 32)
  | .vcStart v => decide (v.meas < 0x8000)
  | .evaluateStart _ => true
  | .agreeStart => true
  | .mantleVectorCheck _ => true
  | .mantleStatusRead _ _ => true
  | .commitStart _ => true
  | .backgroundStart _ => true
  | .closeStart => true
  | .creditRecount => true
  | .signatureCompare _ => true
  | .vcEnd _ => true
  | .phaseMark _ tick => decide (tick < 0x61ad)
  | .vcnLoad _ _ => true
  | .vcTimerFault => true
  | .votedTransaction _ _ _ _ _ _ => true
  | .alignWindowClose _ _ _ _ => true
  | .alignQueueEntryLeaves region => decide (region < 3)
  | .vauSigCapture _ _ _ _ => true
  | .memoryUncorrectable region => decide (region < 3)
  | .regionOutOfTolerance _ _ _ tick => decide (tick < 0x61ad)
  | .vauSplitReq _ => true
  | .selftestDue region => decide (region < 3)
  | .selftestOverdue region => decide (region < 3)
  | .rejoinSelftestDone _ => true
  | .debugAttach region => decide (region < 3)
  | .mantleInputFilterChange input _ => decide (input < 32)
  | .mantleListenerFrame bus id _ _ => decide (bus < 8) && decide (id < 2048)
  | .mntTvecSet _ _ _ => true
  | .mntHeartbeat _ => true
  | .mantleTableLoad _ => true
  | .mantleTableVerified key => key.length == 97
  | .mantleSelfCheckFail _ => true
  | .iteLaunch _ => true
  | .iteDone => true
  | .iteOvertime => true
  | .iteLock _ => true
  | .gdRamWrite addr _ => decide (addr < 0x100000000)
  | .routeRequest host tag ses _ _ route => decide (host < 8) && decide (tag < 256) && decide (ses < 256) && decide (route < 0x10000)
  | .routeCancel host tag ses _ _ object => decide (host < 8) && decide (tag < 256) && decide (ses < 256) && decide (object < 0x10000)
  | .routeReleaseTimed host tag ses _ _ route => decide (host < 8) && decide (tag < 256) && decide (ses < 256) && decide (route < 0x10000)
  | .pointMove host tag ses _ _ elem target => decide (host < 8) && decide (tag < 256) && decide (ses < 256) && decide (elem < 0x10000) && decide (target < 256)
  | .routeWaitTimeout ses => decide (ses < 256)
  | .lendTimeout ses => decide (ses < 256)
  | .setTimeout ses => decide (ses < 256)
  | .throwTimeout ses => decide (ses < 256)
  | .signalStopTimeout ses => decide (ses < 256)
  | .crdAcquire holder count => decide (holder < 256) && decide (count < 128)
  | .crdRelease elem => decide (elem < 1024)
  | .crdTimed elem => decide (elem < 1024)
  | .crdTransfer elem holder => decide (elem < 1024) && decide (holder < 256)
  | .crdBlock elem holder => decide (elem < 1024) && decide (holder < 256)
  | .crdUnblock elem => decide (elem < 1024)
  | .crdLend elem holder => decide (elem < 1024) && decide (holder < 256)
  | .crdUnlend elem => decide (elem < 1024)
  | .crdReclaim elem => decide (elem < 1024)
  | .crdTake elem holder => decide (elem < 1024) && decide (holder < 256)
  | .crdGiveback elem => decide (elem < 1024)
  | .crdStartTimed elem => decide (elem < 1024)
  | .crdLoadBegin => true
  | .crdLoadEnd => true
  | .crdOpInvalid opc => decide (opc = 0 ∨ opc = 15)
  | .crdHeldOpResume => true
  | .crdCensusGo _ => true
  | .censusComplete => true
  | .tokenTimerExpire elem => decide (elem < 1024)
  | .crdFreeze _ => true
  | .crdAttrLock _ => true
  | .elementBlock host tag ses _ _ elem => decide (host < 8) && decide (tag < 256) && decide (ses < 256) && decide (elem < 0x10000)
  | .elementUnblock host tag ses _ _ elem => decide (host < 8) && decide (tag < 256) && decide (ses < 256) && decide (elem < 0x10000)
  | .lendReq _ => true
  | .lendGrant _ => true
  | .lendRefuse _ => true
  | .lendTaken _ => true
  | .lendReturn _ => true
  | .lendReturnAck _ => true
  | .lendAudit _ => true
  | .lendClaim _ => true
  | .lendClaimEnd _ => true
  | .lendClaimQuery _ => true
  | .lendMessageRepeat => true
  | .auditDue => true
  | .claimQueryRepeat => true
  | .claimsComplete => true
  | .pdsTrack m _ => decide (m < 8)
  | .pdsSlotc slot _ => decide (slot < 512)
  | .pdsBslotc slot _ => decide (slot < 32)
  | .pdsBin edge _ => decide (edge < 8)
  | .pdsConfLock _ => true
  | .leafLost leaf => decide (leaf < 256)
  | .dsuStep => true
  | .dsuStepDone => true
  | .dsuStepTimeout => true
  | .ecmdEnable edge ses => decide (edge < 8) && decide (ses < 256)
  | .ecmdOpen edge => decide (edge < 8)
  | .ecmdClose edge => decide (edge < 8)
  | .ecmdWithdraw edge => decide (edge < 8)
  | .ecmdRestore edge => decide (edge < 8)
  | .ecmdSafeStop edge code => decide (edge < 8) && decide (code < 0x10000)
  | .ecmdLocal edge code => decide (edge < 8) && decide (code < 0x10000)
  | .ecmdEnd edge => decide (edge < 8)
  | .lcmdIsolate leaf => decide (leaf < 256)
  | .lcmdRestore leaf => decide (leaf < 256)
  | .dsuLoadBegin => true
  | .dsuLoadEnd => true
  | .dsuConfLock _ => true
  | .lockTimeout leaf => decide (leaf < 256)
  | .openTimeout leaf => decide (leaf < 256)
  | .closeTimeout edge => decide (edge < 8)
  | .ssTimeout leaf => decide (leaf < 256)
  | .corrExpiry edge => decide (edge < 8)
  | .enableGrantTimeout edge => decide (edge < 8)
  | .doorWaitTimeout edge => decide (edge < 8)
  | .restorationRelease edge => decide (edge < 8)
  | .doorEnable host tag ses _ _ edge => decide (host < 8) && decide (tag < 256) && decide (ses < 256) && decide (edge < 256)
  | .doorOpen host tag ses _ _ edge => decide (host < 8) && decide (tag < 256) && decide (ses < 256) && decide (edge < 256)
  | .doorClose host tag ses _ _ edge => decide (host < 8) && decide (tag < 256) && decide (ses < 256) && decide (edge < 256)
  | .doorCloseRestore host tag ses _ _ edge => decide (host < 8) && decide (tag < 256) && decide (ses < 256) && decide (edge < 256)
  | .doorWithdrawEnable host tag ses _ _ edge => decide (host < 8) && decide (tag < 256) && decide (ses < 256) && decide (edge < 256)
  | .leafIsolate host tag ses _ _ leaf => decide (host < 8) && decide (tag < 256) && decide (ses < 256) && decide (leaf < 256)
  | .leafRestore host tag ses _ _ leaf => decide (host < 8) && decide (tag < 256) && decide (ses < 256) && decide (leaf < 256)
  | .trainDoors host tag ses _ _ edge mask => decide (host < 8) && decide (tag < 256) && decide (ses < 256) && decide (edge < 256) && decide (mask < 0x10000)
  | .trainBerth host tag ses _ _ edge flags offset => decide (host < 8) && decide (tag < 256) && decide (ses < 256) && decide (edge < 256) && decide (flags < 256) && decide (offset < 0x10000)
  | .trainBerthExpiry edge => decide (edge < 8)
  | .referenceSend bus _ => decide (bus < 8)
  | .referenceRx bus ofs id _ => decide (bus < 8) && decide (ofs < 1001) && decide (id < 0x20000000)
  | .orderFrameSend bus => decide (bus < 8)
  | .doorCommandFrameSend bus => decide (bus < 8)
  | .frameTxEnd bus e => decide (bus < 8) && decide (e.result < 8) && decide (e.tdcv < 128)
  | .reportRx bus unit sof _ => decide (bus < 8) && decide (unit < 16) && decide (sof < 1000)
  | .foreignFrameRx bus id sof _ => decide (bus < 8) && decide (id < 0x20000000) && decide (sof < 1000)
  | .dbcErrorPassive bus => decide (bus < 8)
  | .dbcBusOff bus => decide (bus < 8)
  | .busOffRecovery bus => decide (bus < 8)
  | .dbcCancel bus => decide (bus < 8)
  | .dbcSleep bus => decide (bus < 8)
  | .sleepEnter bus => decide (bus < 8)
  | .dbcWake bus => decide (bus < 8)
  | .wakeFrameRepeat bus => decide (bus < 8)
  | .wakeDetect bus _ id dlc _ => decide (bus < 8) && decide (id < 0x20000000) && decide (dlc < 9)
  | .dbcCready bus _ => decide (bus < 8)
  | .dbcLoadingCopyWrite bus index _ => decide (bus < 8) && decide (index < 7)
  | .dbcLock bus _ => decide (bus < 8)
  | .datagramRx _ _ _ srcPort _ dstPort arr _ => decide (srcPort < 0x10000) && decide (dstPort < 0x10000) && decide (arr < 256)
  | .abWindowExpiry cnum => decide (cnum < 136)
  | .seqBaseDrop cnum => decide (cnum < 136)
  | .connectionStale cnum => decide (cnum < 136)
  | .phyLinkChange _ _ => true
  | .networkStateStart => true
  | .networkLost _ => true
  | .networkRestored _ => true
  | .netsSilent => true
  | .netsSilentLimit => true
  | .sniTxcReady slot cnum _ => decide (slot < 64) && decide (cnum < 136)
  | .sniLock _ => true
  | .cmdFeed _ copy host => decide (copy < 64) && decide (host < 8)
  | .cmdPop _ => true
  | .cmdRply _ => true
  | .cmdOutsel host => decide (host < 8)
  | .cmdOutpop _ => true
  | .cmdLoadBegin => true
  | .cmdLoadEnd => true
  | .cmdLock _ => true
  | .ping host tag ses _ _ => decide (host < 8) && decide (tag < 256) && decide (ses < 256)
  | .signalForceStop host tag ses _ _ elem setTo => decide (host < 8) && decide (tag < 256) && decide (ses < 256) && decide (elem < 0x10000) && decide (setTo < 256)
  | .statusQuery host tag ses _ _ scope index => decide (host < 8) && decide (tag < 256) && decide (ses < 256) && decide (scope < 256) && decide (index < 0x10000)
  | .journalQuery host tag ses _ _ ofTag => decide (host < 8) && decide (tag < 256) && decide (ses < 256) && decide (ofTag < 256)
  | .countQuery host tag ses _ _ kind index => decide (host < 8) && decide (tag < 256) && decide (ses < 256) && decide (kind < 256) && decide (index < 0x10000)
  | .updateConfirm host tag ses _ _ _ => decide (host < 8) && decide (tag < 256) && decide (ses < 256)
  | .inputFilterChange pathB input _ => decide (input < if pathB then 64 else 96)
  | .inputDiscrepancy input => decide (input < 64)
  | .feedStateChange feed st => decide (feed < 6) && decide (st < 5)
  | .feedRecovery feed => decide (feed < 6)
  | .contactSupplyLimit supply => decide (supply < 8)
  | .outputCommit _ _ _ => true
  | .outputOnDelay => true
  | .silentState => true
  | .testPulse _ => true
  | .pulseMissing output => decide (output < 48)
  | .offReadsHigh output => decide (output < 48)
  | .outputLow output => decide (output < 48)
  | .undeclaredOutputEnergised output => decide (output < 48)
  | .classificationResult output result partner => decide (output < 48) && decide (result < 6) && decide (partner < 64)
  | .fioGrestore _ => true
  | .fioLock _ => true
  | .cvuStart unit => decide (unit < 8)
  | .cvuFinish unit => decide (unit < 8)
  | .cvuAbort unit => decide (unit < 8)
  | .cvuCtrlInvalid unit => decide (unit < 8)
  | .cvuData8 unit _ => decide (unit < 8)
  | .cvuData16 unit _ => decide (unit < 8)
  | .cvuData32 unit _ => decide (unit < 8)
  | .cvuConf unit _ => decide (unit < 8)
  | .cvuParamWrite unit param _ => decide (unit < 8) && decide (param < 8)
  | .mbxDbellPost who chan _ => decide (who < 3) && decide (chan < 16) && decide (chan < 8)
  | .mbxDbellTake who chan => decide (who < 3) && decide (chan < 16) && decide (chan < 8)
  | .mbxSend who chan len _ => decide (who < 3) && decide (chan < 16) && decide (len < 128) && decide (8 ≤ chan)
  | .mbxTake who chan => decide (who < 3) && decide (chan < 16) && decide (8 ≤ chan)
  | .mbxRcodeWrite who chan rcode => decide (who < 3) && decide (chan < 16) && decide (rcode < 0x10000) && decide (12 ≤ chan)
  | .timeCheckpoint _ => true
  | .ringScanDone => true
  | .evrLog _ => true
  | .recordRequest src code _ => decide (src < 16) && decide (code < 0x10000)
  | .recordClose => true
  | .evrNpost _ => true
  | .nandPageProgram _ => true
  | .nandConfirm _ => true
  | .nandStartReport _ => true
  | .correlationDue => true
  | .jnlWrite cell copy _ => decide (cell < 0x1000) && decide (copy < 2)
  | .jnlRead cell copy => decide (cell < 0x1000) && decide (copy < 2)
  | .evrLock _ => true
  | .pclMctrlGo _ _ => true
  | .mirrorRx _ => true
  | .responseRx _ => true
  | .bulkRx _ => true
  | .mirrorMissed => true
  | .pclSwap _ _ => true
  | .swapDue _ => true
  | .swapRetry _ => true
  | .handoverVc => true
  | .swapConfirmCheck => true
  | .switchoverTrigger => true
  | .takeoverActive => true
  | .joinTimeout => true
  | .timingMarkerRx _ frm _ => decide (frm < 16)
  | .pclCtx _ => true
  | .cascadeFrameRx _ => true
  | .pclEpoch _ => true
  | .pclLock _ => true
  | .sorliaChallenge h => headOk h
  | .sorliaAuthenticate h key body => headOk h && decide (key < 8) && body.key.length == 97 && body.sig.length == 96
  | .sorliaLock h => headOk h && h.op == 0x10
  | .sorliaPrepare h _ => headOk h && h.op == 0x11
  | .sorliaBlock h block _ _ => headOk h && h.op == 0x12 && decide (block < 0x100000000)
  | .sorliaVerify h _ _ => headOk h && h.op == 0x13
  | .sorliaActivate h => headOk h && h.op == 0x14
  | .sorliaRelease h => headOk h && h.op == 0x15
  | .sorliaAttest h nonce => headOk h && h.op == 0x20 && nonce.length == 32
  | .sorliaKeyEnrol h _ _ _ => headOk h && h.op == 0x24
  | .sorliaJournalClear h => headOk h && h.op == 0x25
  | .sorliaSessionEnd _ => true
  | .updateLockTimeout => true
  | .suiPrepare key => decide (key < 0x10000)
  | .suiBlock key block _ _ => decide (key < 0x10000) && decide (block < 0x1000)
  | .suiVerify key _ _ => decide (key < 0x10000)
  | .suiActivate key => decide (key < 0x10000)
  | .suiConfirm key => decide (key < 0x10000)
  | .suiRevert key => decide (key < 0x10000)
  | .suiAttest key nonce => decide (key < 0x10000) && nonce.length == 32
  | .suiReverifyStep key _ => decide (key < 0x10000)
  | .suiRefreshStep key done => decide (key < 0x10000) && decide (done ≤ 4)
  | .suiEnrol key _ _ _ => decide (key < 0x10000)
  | .suiRelease key => decide (key < 0x10000)
  | .suiOpComplete _ => true
  | .selectorWriteDone => true
  | .trialDeadline => true
  | .reverifyDue => true
  | .refreshDue => true
  | .obsPsel k _ => decide (k < 8)
  | .obsMark _ => true
  | .obsTagctl _ => true
  | .obsTagseed _ => true
  | .instructionTag _ _ _ _ _ _ => true
  | .mantleVcTiming => true
  | .mantleSupplyReset => true
  | .sorliaSwapRequest _ => true
  | .memoryCorrected region => decide (region < 3)
  | .counterWrap counter => decide (counter < 56)
  | .contactSupplyRecovery supply => decide (supply < 8)
  | .ledAmberEnd => true
  | .registerRead p width => decide (p.who < 6) && decide (p.addr < 0x100000000) && decide (width = 8 ∨ width = 16 ∨ width = 32)

/-- A well-formed command. -/
abbrev WellFormed (i : Instr) : Prop := i.wf = true

end Sys2Proof
end

