-- ==== Sys2Proof/Certificates/Slice0/Obligations.lean ====
section
/-!
DEFINITION. The statements about this module.
-/
open Sys2Proof Sys2Proof.Machine

/-! ### The step, the queue, reset -/

/-- A command at the front of the queue is taken and performed: the step at that state is exec of the command on the state with the rest of
the queue. -/
def Obligations.StepRunsFrontCommand : Prop :=
  ∀ (s : State) (c : Instr) (rest : List Instr), s.pending = c :: rest → step s = exec c { s with pending := rest }

/-- On an empty queue the step idles: the state stays as it is (the model's choice, log entry 2). -/
def Obligations.StepIdlesOnEmptyQueue : Prop := ∀ s : State, s.pending = [] → step s = .next s

/-- Every command of the table completes in every state with some next state: no meaning ends in a fault or a refusal. -/
def Obligations.EveryCommandCompletes : Prop := ∀ (c : Instr) (s : State), ∃ t, exec c s = .next t

/-- No command touches the queue of waiting commands: after exec the queue is what it was, so a step leaves exactly the rest of the queue,
and a queue of well-formed commands stays one (the model's queue, log entry 2). -/
def Obligations.CommandsLeaveTheQueue : Prop :=
  (∀ (c : Instr) (s t : State), exec c s = .next t → t.pending = s.pending)
    ∧ (∀ s t : State, step s = .next t → t.pending = s.pending.tail)
    ∧ ∀ s t : State, (∀ c ∈ s.pending, WellFormed c) → step s = .next t → ∀ c ∈ t.pending, WellFormed c

/-- Right after reset the module is in KINDLING with the VC timer stopped, the queue, every memory and the region latches empty, every
region in the vote (mode T3), the SP and the CP held in reset, all 1,024 tokens and all 256 tags free, and the registers of the maps with a reset value at it (a few named);
and its memories and register table are in canonical form: keys strictly rising, no entry equal to what an unlisted key reads as. -/
def Obligations.ResetState : Prop :=
  (State.reset.sys.state = .kindling ∧ State.reset.sys.mode = .t3 ∧ State.reset.sys.vcOn = false ∧ State.reset.sys.vcn = 0
    ∧ State.reset.pending = [] ∧ State.reset.gd = [] ∧ State.reset.sram = [] ∧ State.reset.mram = []
    ∧ State.reset.mnt.st = .wait ∧ State.reset.sys.sp.reset = true ∧ State.reset.sys.cp.reset = true
    ∧ State.reset.crd.nFree = 1024 ∧ (∀ i, State.reset.tok i = 0)
    ∧ State.reset.cmd.nFree = 256 ∧ (∀ t, (State.reset.tag t).st = .free)
    ∧ State.reset.reg Reg.PDS_CONF = 0x21E ∧ State.reset.reg Reg.SNI_CONF = 0x78DC0020 ∧ State.reset.reg Reg.CMD_CONF = 0x640043
    ∧ State.reset.reg Reg.EVR_CONF = 0x3E83C00 ∧ State.reset.reg Reg.FIO_LOCK = 0 ∧ State.reset.reg Reg.ITE_LOCK = 0)
    ∧ (Tbl.wf State.reset.regs = true ∧ Tbl.wf State.reset.mram = true ∧ Tbl.wf State.reset.gd = true ∧ Tbl.wf State.reset.sram = true
    ∧ Tbl.wf State.reset.vau.now = true)

/-! ### SAFE -/

/-- SAFE is latched: from every state in SAFE, every step whose command is not the loss of the supply, the reset button, its held fault or
the end of that fault, a Sorlia restart request, or the end of the selector write of an activation leaves the module in SAFE. -/
def Obligations.SafeIsLatched : Prop :=
  ∀ s t : State, s.sys.state = .safe → s.sui.busy ≠ 4 → step s = .next t →
    (∀ c, s.pending.head? = some c → c ≠ .logicSupplyPowerDown ∧ (∀ ms, c ≠ .resetButtonRelease ms) ∧ c ≠ .resetButtonFault
      ∧ c ≠ .resetButtonFaultCleared ∧ c ≠ .sorliaRestartRequest) →
    t.sys.state = .safe

/-- In JOIN, BANKED and ACTIVE each of these events takes the module to SAFE with its cause, the VCN of the entry, three restrictive
telegram cycles and the restrictive content: the logic supply out of range (0x0101 low, 0x0102 high), loss of the reference clock (0x0103),
a slot code that does not name the configured position (0x0105), the SAFE request with its key (0x0106), a VC timer fault (0x0128), an
engine that has been started and does not end in time (0x0409), a DSU step that has been started and does not end in time (0x0713), both
networks silent beyond the limit (0x090B), and the self-check failures of CRD, SNI, CMD, FIO, MBX, EVR, JNL and PCL. -/
def Obligations.ClassSEventsEnterSafe : Prop :=
  ∀ s : State, s.live = true →
    Answers (.logicSupplyOutOfRange false) s (enteredSafe 0x0101 s) ∧ Answers (.logicSupplyOutOfRange true) s (enteredSafe 0x0102 s)
    ∧ Answers .refClockLost s (enteredSafe 0x0103 s) ∧ Answers .vcTimerFault s (enteredSafe 0x0128 s)
    ∧ (∀ code, slotCodeOk { s with sys := { s.sys with slotCode := code % 32 } } = false →
        Answers (.slotCodeChange code) s (enteredSafe 0x0105 s))
    ∧ (∀ w, field w 15 0 = 0xC0A1 → Answers (.sysSafeReq w) s (enteredSafe 0x0106 s))
    ∧ (s.ite.busy = true → Answers .iteOvertime s (enteredSafe 0x0409 s))
    ∧ (s.dsu.go = true → s.dsu.done = false → Answers .dsuStepTimeout s (enteredSafe 0x0713 s))
    ∧ (s.sni.netA.on = true ∨ s.sni.netB.on = true → s.regF Reg.SNI_NETT 31 16 < silence s → Answers .netsSilentLimit s (enteredSafe 0x090B s))
    ∧ ∀ n, Answers (.blockSelfCheckFail .crd n) s (enteredSafe 0x0508 s) ∧ Answers (.blockSelfCheckFail .sni n) s (enteredSafe 0x0911 s)
      ∧ Answers (.blockSelfCheckFail .cmd n) s (enteredSafe 0x100D s) ∧ Answers (.blockSelfCheckFail .fio n) s (enteredSafe 0x0A14 s)
      ∧ Answers (.blockSelfCheckFail .mbx n) s (enteredSafe 0x0C05 s) ∧ Answers (.blockSelfCheckFail .evr n) s (enteredSafe 0x0D0C s)
      ∧ Answers (.blockSelfCheckFail .jnl n) s (enteredSafe 0x0D0C s) ∧ Answers (.blockSelfCheckFail .pcl n) s (enteredSafe 0x0E12 s)

/-- The class S events outside the live states: each of the supply, the reference clock, the VC timer, the SAFE request with its key, the
engine's and the DSU's overtime and the failed self-checks (with the code and under the condition that `classSEvent` gives it) takes
CONFIG_CHECK to MAINT with its code in SYS_SAFE_CAUSE; in OFF, KINDLING, BOOT, SAFE and MAINT it is recorded and leaves the module state,
SYS_SAFE_CAUSE and SYS_SAFE_VCN as they are. A slot code that differs from the configured position is recorded with 0x0105 in SAFE and in
MAINT once the check has taken a configuration, and before that changes the pins alone; a slot code that names the position changes the pins
alone in every state. The silence of both networks changes nothing outside JOIN, BANKED and ACTIVE. A write of SYS_SAFE_REQ with any other
value than the key is ignored but for the record 0x0107, in every state. A check-value unit or the storage and update unit whose self-check
fails is marked failed alone. -/
def Obligations.ClassSElsewhere : Prop :=
  ((∀ (s : State) (c : Instr) (code : Nat), classSEvent s c = some code → s.sys.state = .configCheck →
        Answers c s (fun t => t.sys.state = .maint ∧ t.reg Reg.SYS_SAFE_CAUSE = word code))
    ∧ (∀ (s : State) (c : Instr) (code : Nat), classSEvent s c = some code →
        s.sys.state = .off ∨ s.sys.state = .kindling ∨ s.sys.state = .boot ∨ s.sys.state = .safe ∨ s.sys.state = .maint →
        Answers c s (fun t => recordedOnly s t ∧ (∃ obj val u, recordedOnly s u ∧ u.evr = s.evr ∧ t = note code obj val u)
          ∧ t.reg Reg.SYS_SAFE_CAUSE = s.reg Reg.SYS_SAFE_CAUSE ∧ t.reg Reg.SYS_SAFE_VCN = s.reg Reg.SYS_SAFE_VCN))
    ∧ (∀ (s : State) (n : Nat), s.sys.state = .safe ∨ s.sys.state = .maint → s.conf.modules ≠ [] →
        slotCodeOk { s with sys := { s.sys with slotCode := n % 32 } } = false →
        Answers (.slotCodeChange n) s (fun t => t = note 0x0105 14 (n % 32) { s with sys := { s.sys with slotCode := n % 32 } }))
    ∧ (∀ (s : State) (n : Nat), s.sys.state = .off ∨ s.sys.state = .kindling ∨ s.sys.state = .boot ∨ s.sys.state = .configCheck →
        Answers (.slotCodeChange n) s (fun t => t = { s with sys := { s.sys with slotCode := n % 32 } }))
    ∧ (∀ s : State, s.live = false → Answers .netsSilentLimit s (fun t => t = s))
    ∧ (∀ (s : State) (w : Word), field w 15 0 ≠ 0xC0A1 → Answers (.sysSafeReq w) s (fun t => recordedOnly s t ∧ t = note 0x0107 0 0 s)))
    ∧ ∀ (s : State) (n : Nat),
        Answers (.blockSelfCheckFail .cvu n) s (fun t => (t.unitC n).failed = true ∧ (t.unitC n).open_ = false ∧ (t.unitC n).result = 0 ∧ t.sys = s.sys)
          ∧ Answers (.blockSelfCheckFail .sui n) s (fun t => t.sui = { s.sui with failed := true } ∧ t.sys = s.sys)
          ∧ (slotCodeOk { s with sys := { s.sys with slotCode := n % 32 } } = true →
              Answers (.slotCodeChange n) s (fun t => t = { s with sys := { s.sys with slotCode := n % 32 } }))

/-! ### Supply, reset, self-test, boot (chapters 01 and 17) -/

/-- The supply and the resets: a valid supply takes OFF to KINDLING; the loss of the supply takes any state to OFF; a press of the reset
button for 0.1 s to 10 s resets a powered module and any other press does nothing; a Sorlia restart resets in SAFE and MAINT and is recorded
with 0x0108, nothing else, in CONFIG_CHECK, JOIN, BANKED and ACTIVE (both where the SP runs and is not the recovery loader); a button fault holds a powered module in reset, and its end lets the
module start through KINDLING with 0x0104 waiting for the next successful start; the end of the 100 ms LED display after the release of the
regions changes nothing else. -/
def Obligations.SupplyAndReset : Prop :=
  ((∀ s : State, s.sys.state = .off → s.sys.buttonFault = false → Answers .logicSupplyValid s (resetFrom s))
    ∧ (∀ s : State, Answers .logicSupplyPowerDown s (fun t => t.sys.state = .off ∧ t.sys.maintFlag = s.sys.maintFlag ∧ t.mram = s.mram))
    ∧ (∀ (s : State) (ms : Nat), s.sys.state ≠ .off → s.sys.buttonFault = false →
        (100 ≤ ms ∧ ms ≤ 10000 → Answers (.resetButtonRelease ms) s (resetFrom s))
          ∧ (¬ (100 ≤ ms ∧ ms ≤ 10000) → Answers (.resetButtonRelease ms) s (fun t => t = s)))
    ∧ (∀ s : State, s.sys.sp.reset = false → s.sui.recovery = false → s.sys.state = .safe ∨ s.sys.state = .maint →
        Answers .sorliaRestartRequest s (resetFrom s))
    ∧ (∀ s : State, s.sys.sp.reset = false → s.sui.recovery = false → s.live = true ∨ s.sys.state = .configCheck →
        Answers .sorliaRestartRequest s (fun t => t = note 0x0108 0 0 s ∧ recordedOnly s t))
    ∧ (∀ s : State, s.sys.state ≠ .off →
        Answers .resetButtonFault s (fun t => t.sys.state = .kindling ∧ t.sys.hold = .button ∧ t.sys.buttonFault = true ∧ t.sys.vcOn = false))
    ∧ (∀ s : State, s.sys.state ≠ .off → s.sys.buttonFault = true →
        Answers .resetButtonFaultCleared s (fun t => t.sys.state = .kindling ∧ t.sys.hold = .none ∧ t.sys.buttonFault = false
          ∧ ⟨0x0104, 0, 0⟩ ∈ t.sys.startNotes)))
    ∧ (∀ s : State, Answers .ledAmberEnd s (fun t => t = { s with sys := { s.sys with ledAmber := false } }))

/-- A Sorlia maintenance request that the SP serves (it runs): in CONFIG_CHECK, JOIN and SAFE it sets the maintenance-start flag and changes nothing else; the flag
outlasts a reset by the button and a power cycle, and at the next boot the runtime starts in MAINT with the flag cleared; while ACTIVE the
request is refused and recorded with 0x0108 and nothing else; in BANKED it takes the module to MAINT. -/
def Obligations.MaintenanceRequest : Prop :=
  ((∀ s : State, s.sys.sp.reset = false → s.sys.state = .configCheck ∨ s.sys.state = .join ∨ s.sys.state = .safe →
      Answers .sorliaMaintenanceRequest s (fun t => t = { s with sys := { s.sys with maintFlag := true } }))
    ∧ (∀ (s : State) (ms : Nat), s.sys.state ≠ .off → s.sys.buttonFault = false → 100 ≤ ms → ms ≤ 10000 → s.sys.maintFlag = true →
        Answers (.resetButtonRelease ms) s (fun t => t.sys.maintFlag = true))
    ∧ (∀ s : State, s.sys.maintFlag = true →
        Answers .logicSupplyPowerDown s (fun t => t.sys.maintFlag = true)
          ∧ (s.sys.state = .off → s.sys.buttonFault = false → Answers .logicSupplyValid s (fun t => t.sys.maintFlag = true)))
    ∧ (∀ (s : State) (oth : Bool), s.sys.state = .boot → s.sys.maintFlag = true →
        slotOk (finishWrite s).sui (finishWrite s).sui.running = true →
        Answers (.bootComplete true oth) s (fun t => t.sys.state = .maint ∧ t.sys.maintFlag = false)))
    ∧ ((∀ s : State, s.sys.sp.reset = false → s.sys.state = .active → Answers .sorliaMaintenanceRequest s (fun t => t = note 0x0108 0 0 s ∧ recordedOnly s t))
    ∧ ∀ s : State, s.sys.sp.reset = false → s.sys.state = .banked → Answers .sorliaMaintenanceRequest s (fun t => t.sys.state = .maint))

/-- The start chain: a self-test whose comparison works and whose signatures all equal their references takes KINDLING to BOOT; any other
holds the regions in reset in KINDLING with the step and index of what failed kept, step 5 and the index given where the comparison itself
failed. The boot chain starts the slot that the selector names, where it can be read and is valid, and else the other one: with the
maintenance-start flag clear the runtime and the VC timer start with VCN 0 in CONFIG_CHECK, and the SP and the CP are released; with no slot
that can be read it ends in MAINT with cause 0x0F04, the SP's recovery loader running. The configuration check ends in JOIN, or with the
first failing check, whose code takes the module to MAINT at the end of that VC and stands in SYS_SAFE_CAUSE. -/
def Obligations.StartChain : Prop :=
  (∀ (s : State) (sigs : List (Nat × BitVec 64)) (compared : Bool) (index : Nat), s.sys.state = .kindling → s.sys.hold = .none →
      (compared = true → sigs.map (·.2) = s.sui.testRefs →
          Answers (.selftestComplete sigs compared index) s (fun t => t.sys.state = .boot))
        ∧ (∀ p, selftestFault s.sui sigs compared index = some p →
            Answers (.selftestComplete sigs compared index) s (fun t =>
              t.sys.state = .kindling ∧ t.sys.hold = .selftest ∧ t.sui.testFail = some p))
        ∧ (compared = false → selftestFault s.sui sigs compared index = some (5, index)))
    ∧ (∀ (s : State) (oth : Bool), s.sys.state = .boot → s.sys.maintFlag = false → s.vau.debug = false →
        slotOk (finishWrite s).sui (finishWrite s).sui.running = true →
        Answers (.bootComplete true oth) s (fun t => t.sys.state = .configCheck ∧ t.sys.vcOn = true ∧ t.sys.vcn = 0
          ∧ t.sui.running = (finishWrite s).sui.running ∧ t.sys.sp.reset = false ∧ t.sys.cp.reset = false))
    ∧ (∀ (s : State) (sel : Bool) (u : Sui), s.sys.state = .boot → s.sys.maintFlag = false → s.vau.debug = false →
        (sel && slotOk (finishWrite s).sui (finishWrite s).sui.running) = false →
        u = { (slotInvalid (finishWrite s)).sui with running := otherSlot (finishWrite s).sui.running } → slotOk u u.running = true →
        Answers (.bootComplete sel true) s (fun t => t.sys.state = .configCheck ∧ t.sui.running = u.running))
    ∧ (∀ s : State, s.sys.state = .boot →
        Answers (.bootComplete false false) s (fun t => t.sys.state = .maint ∧ t.reg Reg.SYS_SAFE_CAUSE = 0x0F04 ∧ t.sui.recovery = true
          ∧ t.sys.sp.reset = false))
    ∧ (∀ s : State, s.sys.state = .configCheck → s.rt.checkFail = none →
        match configChecks (clearTransfer { s with rt := { s.rt with bootDue := true } }) with
        | .ok _ => Answers .configCheckComplete s (fun t => t.sys.state = .join)
        | .error (u, code) => Answers .configCheckComplete s (fun t => t.rt.checkFail = some code ∧ t.gd = u.gd))
    ∧ (∀ (s : State) (code : Nat), s.sys.vcOn = true → s.regB Reg.SYS_PHASE_DONE 3 = true → s.sys.state = .configCheck →
        s.rt.checkFail = some code → ∀ hb, Answers (.vcEnd hb) s (fun t => t.sys.state = .maint ∧ t.reg Reg.SYS_SAFE_CAUSE = word (code % 65536)))

/-- The auxiliary processors: one whose heartbeat has been missing is reset alone, and a reset of the SP ends the Sorlia sessions and the
update lock; a reload that succeeds lets it resume, a first failure is retried, and after a second the processor is held in reset. -/
def Obligations.ProcessorReset : Prop :=
  (∀ s : State, s.sys.cp.reset = false →
      Answers (.processorHeartbeatTimeout false) s (fun t => t.sys.cp.reset = true ∧ t.sys.cp.tries = 0 ∧ t.sys.sp = s.sys.sp ∧ t.sys.state = s.sys.state))
    ∧ (∀ s : State, s.sys.sp.reset = false →
        Answers (.processorHeartbeatTimeout true) s (fun t => t.sys.sp.reset = true ∧ t.sys.cp = s.sys.cp ∧ t.sui.lock = none ∧ t.sui.sessions = []))
    ∧ (∀ s : State, s.sys.cp.reset = true → s.sys.cp.dead = false →
        Answers (.processorReloadDone false true) s (fun t => t = { s with sys := { s.sys with cp := { s.sys.cp with reset := false, miss := 0, tries := 0 } } })
          ∧ (s.sys.cp.tries = 0 → Answers (.processorReloadDone false false) s (fun t =>
              t = { s with sys := { s.sys with cp := { s.sys.cp with tries := 1 } } }))
          ∧ (s.sys.cp.tries ≠ 0 → Answers (.processorReloadDone false false) s (fun t =>
              t.sys = { s.sys with cp := { s.sys.cp with dead := true } } ∧ t = note 0x0F13 0 0 { s with sys := t.sys })))

/-- A blocked access of the CP or the SP reads 0, is ignored on write and is recorded with 0x0109; nothing else changes. The same holds of
their register accesses outside their own mailbox channels (the model's choice of what their windows hold, log entry 122). A processor that
is held in reset makes no access, so nothing changes. -/
def Obligations.FirewallBlocks : Prop :=
  (∀ (s : State) (sp : Bool) (addr : Nat), agentRuns (if sp then 2 else 1) s = true → Answers (.firewallViolation sp addr) s (fun t =>
      t.sys.rdata = 0 ∧ t = (note 0x0109 0 0 s).answerRead 0 ∧ recordedOnly s { t with sys := s.sys }))
    ∧ (∀ (s : State) (who addr width : Nat) (w : Word), who = 1 ∨ who = 2 → agentRuns who s = true → ownChan who addr = none →
        Answers (.registerWrite ⟨who, addr⟩ width w) s (fun t => t = note 0x0109 0 0 s ∧ recordedOnly s t)
          ∧ Answers (.registerRead ⟨who, addr⟩ width) s (fun t => t.sys.rdata = 0 ∧ t = (note 0x0109 0 0 s).answerRead 0))
    ∧ ∀ (s : State) (sp : Bool) (addr : Nat), agentRuns (if sp then 2 else 1) s = false → Answers (.firewallViolation sp addr) s (fun t => t = s)

/-- An access of the triad outside the map reads 0, is ignored on write, and is recorded with 0x0107; nothing else changes. The same holds
of a register access at an address that lies in no block and no memory, where OBS also counts the access. -/
def Obligations.UnmappedAccess : Prop :=
  (∀ (s : State) (addr : Nat), Answers (.unmappedAccess true addr) s (fun t => t = note 0x0107 0 0 s ∧ recordedOnly s t)
      ∧ Answers (.unmappedAccess false addr) s (fun t => t.sys.rdata = 0 ∧ t = (note 0x0107 0 0 s).answerRead 0))
    ∧ ∀ (s : State) (a : Nat) (w : Word), blockAt a = none → inSram a 32 = false → inGd a 32 = false → inRom a 32 = false →
        Answers (.registerWrite ⟨0, a⟩ 32 w) s (fun t => t = note 0x0107 0 0 { s with obs := t.obs })
          ∧ Answers (.registerRead ⟨0, a⟩ 32) s (fun t => t.sys.rdata = 0 ∧ t = (note 0x0107 0 0 { s with obs := t.obs }).answerRead 0)

/-- Register accesses by their access codes: a 32-bit write of a plain read-write register, and of a configuration register whose lock is
clear, changes its writable bits to the written ones and nothing else in the module; a configuration register whose lock is set keeps every
register but the record and event of the refused access; a write-1-to-clear register loses the written bits; a write-only register reads 0;
a read of a plain register of a map answers its value as the map shows it. In all of them OBS counts the access. -/
def Obligations.RegisterAccessCodes : Prop :=
  ∀ (s : State) (a : Nat) (r : RegAt) (w : Word), regAt a = some r → r.block.base ≠ 0x40090000 → operationWrite r w s = none →
    (r.row.acc = .rw ∨ (r.row.acc = .lock ∧ locked r s = false) →
        Answers (.registerWrite ⟨0, a⟩ 32 w) s (fun t =>
          t = { s.setReg a ((s.reg a &&& ~~~r.wmask) ||| (w &&& r.wmask)) with obs := t.obs }))
      ∧ (r.row.acc = .lock → locked r s = true →
          Answers (.registerWrite ⟨0, a⟩ 32 w) s (fun t => t = accessNote r { s with obs := t.obs }))
      ∧ (r.row.acc = .w1c → Answers (.registerWrite ⟨0, a⟩ 32 w) s (fun t => t = { s.setReg a (s.reg a &&& ~~~w) with obs := t.obs }))
      ∧ (r.row.acc = .wo → r.block.base ≠ 0x400A1000 →
          Answers (.registerRead ⟨0, a⟩ 32) s (fun t => t = { s.answerRead 0 with obs := t.obs }))
      ∧ (r.row.acc = .rw → r.block.base ≠ 0x400A1000 → isHi r.row.lo = false → pairHi r.row.lo = false → openValue a = false →
          Answers (.registerRead ⟨0, a⟩ 32) s (fun t => t = { s.answerRead (regValue s a r) with obs := t.obs }))

/-- Geographic data RAM: a word write stores its four bytes, least significant first, and changes no other byte and nothing else but the
signatures of the regions that vote, which fold the store; once the lock is set, a write in a live state is refused with entry to SAFE, cause 0x0408, and every byte reads as before; and with or without the
lock no command but the resets, the boot, the end of an activation and the writes of the triad changes any byte of it. -/
def Obligations.GeographicDataRam : Prop :=
  (∀ (s : State) (addr : Nat) (w : Word), addr + 4 ≤ 0x200000 → s.regB Reg.ITE_LOCK 0 = false →
      Answers (.gdRamWrite addr w) s (fun t => Tbl.getList t.gd addr 4 = le4 w
        ∧ t = { s with gd := t.gd, vau := { s.vau with sigw := (storeFold ⟨0x30000000 + addr, w, 0xF#4⟩ s).vau.sigw } }
        ∧ ∀ a, a < addr ∨ addr + 4 ≤ a → Tbl.get t.gd a = Tbl.get s.gd a))
    ∧ (∀ (s : State) (addr : Nat) (w : Word), addr + 4 ≤ 0x200000 → s.regB Reg.ITE_LOCK 0 = true → s.live = true →
        Answers (.gdRamWrite addr w) s (fun t => enteredSafe 0x0408 s t ∧ t.gd = s.gd))
    ∧ (∀ (s : State) (w : Word), bitAt w 0 = true → Answers (.iteLock w) s (fun t => t.regB Reg.ITE_LOCK 0 = true ∧ t = { s with regs := t.regs }))
    ∧ ∀ (s t : State) (c : Instr), exec c s = .next t →
        (match c with
          | .gdRamWrite .. | .registerWrite .. | .votedTransaction .. | .alignWindowClose .. | .bootComplete .. | .selectorWriteDone
          | .logicSupplyValid | .logicSupplyPowerDown | .resetButtonRelease .. | .resetButtonFault | .resetButtonFaultCleared
          | .sorliaRestartRequest => True
          | _ => t.gd = s.gd)

/-- The canonical form of geographic data RAM, bytes at strictly rising addresses and none that equals what an unlisted byte reads as, is
kept by every step from every state that has it. -/
def Obligations.GeographicDataStaysCanonical : Prop :=
  ∀ s t : State, Tbl.wf s.gd = true → step s = .next t → Tbl.wf t.gd = true

/-! ### The vital cycle and the voter (chapters 02, 03 and 04) -/

/-- The boundaries of a VC, while the VC timer runs: the VC start begins P0 and steps VCN by 1 modulo 2^32, but for the first VC, which
keeps VCN 0; the other boundaries begin P1 to P5. While the timer does not run a boundary changes nothing (the model's convention). -/
def Obligations.PhaseBoundaries : Prop :=
  (∀ (s : State) (rb : BitVec 48) (meas : Nat), s.sys.vcOn = true →
      Answers (.vcStart ⟨rb, meas⟩) s (fun t => t.sys.phase = 0 ∧ t.sys.vcn = if s.sys.vcStarted then s.sys.vcn + 1 else s.sys.vcn))
    ∧ (∀ (s : State) (b : Bool), s.sys.vcOn = true →
        Answers (.evaluateStart b) s (fun t => t.sys.phase = 1) ∧ Answers .agreeStart s (fun t => t.sys.phase = 2)
          ∧ Answers (.commitStart b) s (fun t => t.sys.phase = 3) ∧ Answers (.backgroundStart b) s (fun t => t.sys.phase = 4)
          ∧ Answers .closeStart s (fun t => t.sys.phase = 5))
    ∧ ∀ (s : State) (rb : BitVec 48) (meas : Nat) (b : Bool), s.sys.vcOn = false →
        Answers (.vcStart ⟨rb, meas⟩) s (fun t => t = s) ∧ Answers (.evaluateStart b) s (fun t => t = s) ∧ Answers .agreeStart s (fun t => t = s)
          ∧ Answers (.commitStart b) s (fun t => t = s) ∧ Answers (.backgroundStart b) s (fun t => t = s)
          ∧ Answers .closeStart s (fun t => t = s)

/-- Mantle's check of the triad's vector: a vector received with right coding and consistent with the content becomes the standing vector
(the all-restrictive one instead where Mantle has taken that one since the freeze, the model's choice, log entry 142), and Mantle's own vector
is formed; a vector that does not arrive in RUN or HOLD is missed, and the second absence in a row takes Mantle to
MSAFE. The vector frozen at the start of P2 is the all-restrictive one in SAFE, else the staged one where both halves were written, else
none. -/
def Obligations.MantleTakesVector : Prop :=
  ((∀ (s : State) (v : BitVec 64), s.sys.vcOn = true → s.mnt.tfrozen = some v → s.mnt.tsetBad = false →
      consistent (takeVector true s) = true →
      Answers (.mantleVectorCheck true) s (fun t => t.mnt.tvec = (if s.mnt.restricted then setBit 0#64 63 true else v)
        ∧ t.mnt.vecOk = true ∧ t.mnt.vecAbsent = 0
        ∧ t.mnt.mvec = mVector s.vau.debug t.mnt))
    ∧ ∀ s : State, s.sys.vcOn = true → mWatches s.mnt = true → s.mnt.tsetBad = false →
        (s.mnt.vecAbsent = 0 → Answers (.mantleVectorCheck false) s (fun t => t.mnt.st = s.mnt.st ∧ t.mnt.vecOk = false ∧ t.mnt.vecAbsent = 1))
          ∧ (s.mnt.vecAbsent ≠ 0 → Answers (.mantleVectorCheck false) s (fun t => t.mnt.st = .msafe)))
    ∧ (∀ s : State, s.sys.vcOn = true → Answers .agreeStart s (fun t =>
    t.mnt.tfrozen = if t.sys.state = .safe then some (setBit 0#64 63 true)
      else if t.mnt.tsetLo && t.mnt.tsetHi then some t.mnt.tset else none))

/-- The triad's read of Mantle: what it reads of a vector that stands as sent is Mantle's vector and M_OK; a read that fails in JOIN, BANKED
or ACTIVE takes the module to SAFE with cause 0x030D. -/
def Obligations.MantleStatusRead : Prop :=
  (∀ (s : State) (echo : BitVec 64), s.sys.vcOn = true → s.mnt.tfrozen.getD echo = echo → s.mnt.st ≠ .msafe →
      Answers (.mantleStatusRead true echo) s (fun t => t.mnt.readVec = s.mnt.mvec ∧ t.mnt.readOk = mOk s.vau.debug s.mnt))
    ∧ ∀ (s : State) (echo : BitVec 64), s.sys.vcOn = true → s.live = true →
        Answers (.mantleStatusRead false echo) s (fun t => enteredSafe 0x030D s t ∧ t.mnt.readOk = false)

/-- Writes and inputs of Mantle: in P1 a half of the triad vector is staged, the other half staying. Outside P1 the two halves of the
all-restrictive vector, LO 0 and HI 0x80000000 in either order, take effect with the second: the all-restrictive vector stands at once and
every line is withdrawn, while the first half alone is only remembered for this VC (the model's choice for a vector of two halves, log entry
146); any other word is ignored but for the record 0x0307, and a badly coded write of any word takes Mantle to MSAFE with every line
withdrawn. A heartbeat is counted in P5, with the code 0x69 in SAFE, and is 0x0307 elsewhere. A filtered input stands at once and withdraws
the lines whose rule it makes false, energising none; a CAN FD report frame with the CRC of its bus sets the locks of a declared unit, any
other frame changes nothing. -/
def Obligations.MantleWritesAndInputs : Prop :=
  ((∀ (s : State) (w : Word), s.sys.phase = 1 →
      Answers (.mntTvecSet false w true) s (fun t => t.mnt.tsetLo = true ∧ t.mnt.tset.extractLsb' 0 32 = w
        ∧ t.mnt.tset.extractLsb' 32 32 = s.mnt.tset.extractLsb' 32 32)
      ∧ Answers (.mntTvecSet true w true) s (fun t => t.mnt.tsetHi = true ∧ t.mnt.tset.extractLsb' 32 32 = w
        ∧ t.mnt.tset.extractLsb' 0 32 = s.mnt.tset.extractLsb' 0 32))
    ∧ (∀ s : State, s.sys.phase ≠ 1 →
        (s.mnt.outLo = true → Answers (.mntTvecSet true 0x80000000 true) s (fun t => t.mnt.tvec = setBit 0#64 63 true
          ∧ t.mnt.ga = 0 ∧ t.mnt.sa = 0 ∧ t.mnt.da = 0))
        ∧ (s.mnt.outHi = true → Answers (.mntTvecSet false 0 true) s (fun t => t.mnt.tvec = setBit 0#64 63 true
          ∧ t.mnt.ga = 0 ∧ t.mnt.sa = 0 ∧ t.mnt.da = 0))
        ∧ (s.mnt.outLo = false → Answers (.mntTvecSet true 0x80000000 true) s (fun t => t = { s with mnt := { s.mnt with outHi := true } }))
        ∧ (s.mnt.outHi = false → Answers (.mntTvecSet false 0 true) s (fun t => t = { s with mnt := { s.mnt with outLo := true } }))
        ∧ (∀ w : Word, (w ≠ 0x80000000 → Answers (.mntTvecSet true w true) s (fun t => t = note 0x0307 0 0 s))
          ∧ (w ≠ 0 → Answers (.mntTvecSet false w true) s (fun t => t = note 0x0307 0 0 s)))
        ∧ ∀ (high : Bool) (w : Word), s.mnt.st ≠ .msafe → Answers (.mntTvecSet high w false) s (fun t => t.mnt.st = .msafe
          ∧ t.reg Reg.MNT_CAUSE = 0x0303 ∧ t.mnt.ga = 0 ∧ t.mnt.sa = 0 ∧ t.mnt.da = 0))
    ∧ (∀ (s : State) (w : Word), s.sys.phase = 5 → Answers (.mntHeartbeat w) s (fun t =>
        t = { s with mnt := { s.mnt with hbWrites := s.mnt.hbWrites + 1, hbWord := t.mnt.hbWord } }
          ∧ (s.sys.state ≠ .safe → t.mnt.hbWord = w) ∧ (s.sys.state = .safe → field t.mnt.hbWord 31 24 = 0x69 ∧ field t.mnt.hbWord 15 8 = 0x96)))
    ∧ ∀ (s : State) (w : Word), s.sys.phase ≠ 5 → Answers (.mntHeartbeat w) s (fun t => t = note 0x0307 0 0 s))
    ∧ ((∀ (s : State) (i : Nat) (v : Bool), i < 32 → Answers (.mantleInputFilterChange i v) s (fun t => bitAt t.mnt.filt i = v
      ∧ (∀ j, j ≠ i → bitAt t.mnt.filt j = bitAt s.mnt.filt j)
      ∧ let m : Mnt := { s.mnt with filt := t.mnt.filt, zsRun := t.mnt.zsRun }
        (∀ g, g < 12 → bitAt t.mnt.ga g = (bitAt s.mnt.ga g && gAg s.vau.debug m g))
          ∧ (∀ e, e < 8 → bitAt t.mnt.sa e = (bitAt s.mnt.sa e && stoAg s.vau.debug m m.filt e))
          ∧ ∀ e, e < 8 → bitAt t.mnt.da e = (bitAt s.mnt.da e && doeAg s.vau.debug m m.filt e)))
    ∧ (∀ (s : State) (bus u : Nat) (fd : Bool) (bs : List Byte), u < 16 →
        (let good : Bool := fd && bs.length == 16 && scrcOk bus (0x100 + u) bs && (mUnits s.mnt bus).testBit u
         (good = true → Answers (.mantleListenerFrame bus (0x100 + u) fd bs) s (fun t =>
            Tbl.get t.mnt.units (16 * bus + u) = { seen := true, lockL := (bs.getD 8 0).getLsbD 0, lockR := (bs.getD 8 0).getLsbD 1, age := 0 }
              ∧ (∀ x, x ≠ 16 * bus + u → Tbl.get t.mnt.units x = Tbl.get s.mnt.units x) ∧ t = { s with mnt := { s.mnt with units := t.mnt.units } }))
          ∧ (good = false → Answers (.mantleListenerFrame bus (0x100 + u) fd bs) s (fun t => t = s))))
    ∧ ∀ (s : State) (bus id : Nat) (fd : Bool) (bs : List Byte), id < 0x100 ∨ 0x10F < id →
        Answers (.mantleListenerFrame bus id fd bs) s (fun t => t = s))

/-- Mantle's parameter table and supply: a load in WAIT stands in the load port, unverified; elsewhere it is refused with 0x0307; the
verification in WAIT accepts the table where its signature verifies with a key of which Mantle holds the digest, programmed and not revoked,
and every range holds; a failed self-check and a lost strobe take Mantle to MSAFE;
the supply supervisor restarts it in WAIT with every line withdrawn, its one-time-programmable memory kept. -/
def Obligations.MantleTableAndFaults : Prop :=
  (∀ (s : State) (bs : List Byte), s.mnt.st = .wait → Answers (.mantleTableLoad bs) s (fun t => t.mnt.tabLen = bs.length ∧ t.mnt.tabOk = false
      ∧ (∀ i (h : i < bs.length), Tbl.get t.mnt.tab i = bs[i]) ∧ t = { s with mnt := t.mnt }))
    ∧ (∀ (s : State) (bs : List Byte), s.mnt.st ≠ .wait → Answers (.mantleTableLoad bs) s (fun t => t = note 0x0307 0 0 s))
    ∧ (∀ (s : State) (key : List Byte), s.mnt.st = .wait → Answers (.mantleTableVerified key) s (fun t =>
        t.mnt.tabOk = (tableSigned s.mnt key && tableOk s.mnt s.conf.configId.toNat)))
    ∧ (∀ (s : State) (l : Bool), s.mnt.st ≠ .msafe → Answers (.mantleSelfCheckFail l) s (fun t => t.mnt.st = .msafe ∧ t.mnt.ga = 0 ∧ t.mnt.sa = 0 ∧ t.mnt.da = 0)
        ∧ Answers .mantleVcTiming s (fun t => t.mnt.st = .msafe ∧ t.mnt.ga = 0 ∧ t.mnt.sa = 0 ∧ t.mnt.da = 0))
    ∧ ∀ s : State, Answers .mantleSupplyReset s (fun t => t.mnt = { (default : Mnt) with
        readVec := s.mnt.readVec, readOk := s.mnt.readOk, msafeRead := s.mnt.msafeRead
        ck := s.mnt.ck, ckProg := s.mnt.ckProg, ckRev := s.mnt.ckRev } ∧ t.mnt.st = .wait ∧ t.mnt.ga = 0 ∧ t.mnt.sa = 0 ∧ t.mnt.da = 0)

/-- A write of SYS_PHASE_DONE sets the mark of the present phase among its bits 0 to 3, and one of 0 sets none; a mark of another phase sets
none and is recorded with 0x0129; OBS counts the mark in each case. VCN is loaded once, by PCL, in JOIN; any other load is refused and recorded with 0x012A, and VCN stays. -/
def Obligations.PhaseMarksAndVcnLoad : Prop :=
  (∀ (s : State) (w : Word) (tick i : Nat), i < 4 → s.sys.phase = markPhase i →
    (w = (1#32 <<< i) → Answers (.phaseMark w tick) s (fun t => t.regB Reg.SYS_PHASE_DONE i = true))
      ∧ (w = 0 → Answers (.phaseMark w tick) s (fun t =>
          t = { s with sys := { s.sys with tick := tick }, obs := (obsCount 14 1 s).obs })))
    ∧ (∀ (s : State) (tick i : Nat), i < 4 → s.sys.phase ≠ markPhase i → Answers (.phaseMark (1#32 <<< i) tick) s (fun t =>
        t = note 0x0129 0 0 { s with sys := { s.sys with tick := tick }, obs := (obsCount 14 1 s).obs } ∧ t.reg Reg.SYS_PHASE_DONE = s.reg Reg.SYS_PHASE_DONE))
    ∧ (∀ (s : State) (byPcl : Bool) (v : Word),
    (byPcl = true ∧ s.sys.state = .join ∧ s.sys.vcnLoaded = false →
        Answers (.vcnLoad byPcl v) s (fun t => t = { s with sys := { s.sys with vcn := v, vcnLoaded := true } }))
      ∧ (¬ (byPcl = true ∧ s.sys.state = .join ∧ s.sys.vcnLoaded = false) →
          Answers (.vcnLoad byPcl v) s (fun t => t = note 0x012A 0 0 s ∧ t.sys = s.sys)))

/-- The signature comparison at 990 µs, while the VC timer runs and DEBUG is clear: where the three regions of the full triad vote and two
present the same captured pair, a third that differs or is missing is minority pending with code 5 in VAU_MIN_INFO and the event of 0x0205,
and with three equal pairs no region is pending anew (the census done, the injected mismatch detected in every step, no rejoin running);
where no two of the three are equal a live module enters SAFE with cause 0x0206, and where two regions vote and do not present the same
pair, with cause 0x0207. VAU_MIN_*, VAU_ST_RESULT, VAU_ST_AGEk and VAU_ECC_CORRk then show what the VAU holds; a VC without
its census takes a live module to SAFE. At the end of the VC a pending region of a full triad is fenced: mode T2F without it; and an
accepted split takes place: mode T2S. -/
def Obligations.SignatureCompareAndVcEnd : Prop :=
  ((∀ (s : State) (d : BitVec 7) (crcs : List Word), s.sys.vcOn = true → Answers (.signatureCompare ⟨d, crcs⟩) s (fun t =>
      t.reg Reg.VAU_MIN_INFO = t.vauReg Reg.VAU_MIN_INFO ∧ t.reg Reg.VAU_MIN_VCN = t.vauReg Reg.VAU_MIN_VCN
        ∧ t.reg Reg.VAU_MIN_ADDR = t.vauReg Reg.VAU_MIN_ADDR ∧ t.reg Reg.VAU_ST_RESULT = t.vauReg Reg.VAU_ST_RESULT
        ∧ ∀ k, k < 3 → t.reg (Reg.VAU_ST_AGE0 + 4 * k) = t.vauReg (Reg.VAU_ST_AGE0 + 4 * k)
          ∧ t.reg (Reg.VAU_ECC_CORR + 4 * k) = t.vauReg (Reg.VAU_ECC_CORR + 4 * k)))
    ∧ ∀ (s : State) (d : BitVec 7) (crcs : List Word), s.sys.vcOn = true → s.live = true → s.crd.censusDone = false →
        Answers (.signatureCompare ⟨d, crcs⟩) s (fun t => t.sys.state = .safe))
    ∧ ((∀ (s : State) (crcs : List Word) (i j k : Nat) (p : Word × Word), s.sys.vcOn = true → s.vau.debug = false → s.sys.mode = .t3 →
        s.sys.fenced = none → s.sys.split = none → s.vau.pending = 0 → s.vau.seqRegion = none → s.crd.censusDone = true →
        i < 3 → j < 3 → k < 3 → i ≠ j → j ≠ k → i ≠ k → sigOf s.vau i = some p → sigOf s.vau j = some p →
        (sigOf s.vau k ≠ some p → Answers (.signatureCompare ⟨0x7F, crcs⟩) s (fun t => t.vau.pending = setBit 0#3 k true
            ∧ field (t.reg Reg.VAU_MIN_INFO) 9 8 = k ∧ field (t.reg Reg.VAU_MIN_INFO) 7 0 = 5 ∧ t.reg Reg.VAU_MIN_VCN = s.sys.vcn
            ∧ t.regB Reg.VAU_EVENT 2 = true ∧ t.sys.state = s.sys.state))
          ∧ (sigOf s.vau k = some p → Answers (.signatureCompare ⟨0x7F, crcs⟩) s (fun t => t.vau.pending = 0 ∧ t.sys.state = s.sys.state)))
      ∧ (∀ (s : State) (d : BitVec 7) (crcs : List Word), s.sys.vcOn = true → s.live = true → s.vau.debug = false →
          s.sys.fenced = none → s.sys.split = none → s.vau.pending = 0 →
          (∀ i j, i < 3 → j < 3 → i ≠ j → sigOf s.vau i ≠ none → sigOf s.vau i ≠ sigOf s.vau j) →
          Answers (.signatureCompare ⟨d, crcs⟩) s (enteredSafe 0x0206 s))
      ∧ ∀ (s : State) (d : BitVec 7) (crcs : List Word) (i j : Nat), s.sys.vcOn = true → s.live = true → s.vau.debug = false →
          voters s = [i, j] → sigOf s.vau i = none ∨ sigOf s.vau i ≠ sigOf s.vau j →
          Answers (.signatureCompare ⟨d, crcs⟩) s (enteredSafe 0x0207 s))
    ∧ ((∀ (s : State) (k : Nat), s.sys.vcOn = true → s.regB Reg.SYS_PHASE_DONE 3 = true → s.sys.mode = .t3 → s.vau.seqRegion = none →
      k < 3 → bitAt s.vau.pending k = true → (∀ j, j < k → bitAt s.vau.pending j = false) →
      ∀ hb, Answers (.vcEnd hb) s (fun t => t.sys.mode = .t2f ∧ t.sys.fenced = some k ∧ t.sys.split = none ∧ t.vau.pending = 0))
    ∧ ∀ (s : State) (k : Nat), s.sys.vcOn = true → s.regB Reg.SYS_PHASE_DONE 3 = true → s.sys.mode = .t3 →
        s.vau.seqRegion = some k → s.vau.seqVc = 0 → s.vau.pending = 0 → s.sys.state = .active ∨ s.sys.state = .banked →
        ∀ hb, Answers (.vcEnd hb) s (fun t => t.sys.mode = .t2s ∧ t.sys.split = some k))
/-! ### The voter, the state signature, the regions (chapter 03) -/

/-- The vote of a full triad, none pending and DEBUG clear, with the entries that the cores write: three copies with the same voted part are
issued; of two with a different or an absent third the majority is issued, the third region becomes minority pending and 0x0201 or 0x0204 is
recorded with the majority's address (the model's choice, log entry 94); no two that agree issue nothing and take a live module to SAFE with
0x0202. The window's close decides in the same way on the copies present. Before the window closes an absent copy is waited for: nothing is
issued. -/
def Obligations.VoteOfThree : Prop :=
  ∀ (s : State) (x y : Txn) (spread : Nat), s.vau.debug = false → s.sys.fenced = none → s.sys.split = none → s.vau.pending = 0 →
    s.vau.parityBad = false → (∀ k, k < 3 → Tbl.get s.vau.queue k = [] ∧ Tbl.get s.vau.copy k = none ∧ Tbl.get s.vau.owed k = 0) → votedPart x ≠ votedPart y →
    (let q (t : Txn) : List QWrite := [⟨t, 0, 0, 0, 0⟩]
     let issued (p : State → Prop) (t : State) : Prop := ∃ u : State, u = { s with vau := u.vau, regs := u.regs, evr := u.evr, mram := u.mram }
       ∧ (∀ k, k < 3 → Tbl.get u.vau.queue k = [] ∧ Tbl.get u.vau.copy k = none) ∧ p u ∧ t = issue (votedPart x) u
     let minority (k code : Nat) (u : State) : Prop := u.vau.pending = setBit 0 k true ∧ u.vauReg Reg.VAU_MIN_INFO = word (k * 256 + code)
       ∧ u.vauReg Reg.VAU_MIN_VCN = s.sys.vcn ∧ u.vauReg Reg.VAU_MIN_ADDR = word x.addr
     let at_ (k : Nat) (a b : List QWrite) (i : Nat) : List QWrite := if i = k then a else b
     Answers (.votedTransaction (q x) (q x) (q x) spread false false) s (issued fun u => u.vau.pending = 0)
      ∧ Answers (.alignWindowClose (q x) (q x) (q x) spread) s (issued fun u => u.vau.pending = 0)
      ∧ (∀ k, k < 3 →
          Answers (.votedTransaction (at_ k (q y) (q x) 0) (at_ k (q y) (q x) 1) (at_ k (q y) (q x) 2) spread false false) s (issued (minority k 1))
            ∧ Answers (.alignWindowClose (at_ k [] (q x) 0) (at_ k [] (q x) 1) (at_ k [] (q x) 2) spread) s (issued (minority k 4))
            ∧ Answers (.votedTransaction (at_ k [] (q x) 0) (at_ k [] (q x) 1) (at_ k [] (q x) 2) spread false false) s (fun t => t = { s with vau := t.vau }))
      ∧ Answers (.alignWindowClose [] [] [] spread) s (fun t => t = { s with vau := t.vau })
      ∧ (s.live = true → ∀ z, votedPart z ≠ votedPart x → votedPart z ≠ votedPart y →
          Answers (.votedTransaction (q x) (q y) (q z) spread false false) s (enteredSafe 0x0202 s)
            ∧ Answers (.alignWindowClose (q x) [] [] spread) s (enteredSafe 0x0202 s)
            ∧ Answers (.alignWindowClose (q x) (q y) [] spread) s (enteredSafe 0x0202 s)))

/-- The vote of two: with region `k` fenced, split or pending, two equal copies of the others are issued whatever region `k` sends with right parity; two
different ones, or an absent one when the window closes, issue nothing and take a live module to SAFE with 0x0203. -/
def Obligations.VoteOfTwo : Prop :=
  ∀ (s : State) (x y : Txn) (wk : List QWrite) (k j spread : Nat), s.vau.debug = false → s.vau.parityBad = false → k < 3 → j < 3 → j ≠ k → votedPart y ≠ votedPart x →
    (∀ m, m < 3 → m ≠ k → Tbl.get s.vau.queue m = [] ∧ Tbl.get s.vau.copy m = none ∧ Tbl.get s.vau.owed m = 0) → Tbl.get s.vau.copy k = none →
    (∀ e ∈ Tbl.get s.vau.queue k, badParity e = false) → (∀ w ∈ wk, badParity (queueEntry w) = false) →
    (s.sys.fenced = some k ∧ s.sys.split = none ∧ s.vau.pending = 0 ∨ s.sys.fenced = none ∧ s.sys.split = some k ∧ s.vau.pending = 0
      ∨ s.sys.fenced = none ∧ s.sys.split = none ∧ s.vau.pending = setBit 0 k true) →
    (let at_ (b : List QWrite) (i : Nat) : List QWrite := if i = k then wk else if i = j then b else [⟨x, 0, 0, 0, 0⟩]
     let same := at_ [⟨x, 0, 0, 0, 0⟩]
     let diff := at_ [⟨y, 0, 0, 0, 0⟩]
     let issued (t : State) : Prop := ∃ u : State, u = { s with vau := u.vau, regs := u.regs } ∧ u.vau.pending = s.vau.pending ∧ t = issue (votedPart x) u
     Answers (.votedTransaction (same 0) (same 1) (same 2) spread false false) s issued
      ∧ Answers (.alignWindowClose (same 0) (same 1) (same 2) spread) s issued
      ∧ (s.live = true →
          Answers (.votedTransaction (diff 0) (diff 1) (diff 2) spread false false) s (enteredSafe 0x0203 s)
            ∧ Answers (.alignWindowClose (diff 0) (diff 1) (diff 2) spread) s (enteredSafe 0x0203 s)
            ∧ Answers (.alignWindowClose (at_ [] 0) (at_ [] 1) (at_ [] 2) spread) s (enteredSafe 0x0203 s)))

/-- A pair found equal by a checker of the dual-rail voter takes a live module to SAFE with cause 0x0209; an entry that the voter takes of any
region, and whose parity bits are not those of its content, with cause 0x0208, whether it is voted, comes late or is a pending region's; of
both at once the lower code is the cause. Nothing is issued: the memories stay. -/
def Obligations.VoterSelfChecks : Prop :=
  ∀ (s : State) (w0 w1 w2 : List QWrite) (spread : Nat), s.live = true →
    (let t := gatherCopies w0 w1 w2 s
     let entered (code : Word) (t : State) : Prop := enteredSafe code s t ∧ t.sram = s.sram ∧ t.gd = s.gd
     (t.vau.parityBad = false → ∀ b, Answers (.votedTransaction w0 w1 w2 spread true b) s (entered 0x0209)
          ∧ Answers (.votedTransaction w0 w1 w2 spread b true) s (entered 0x0209))
      ∧ (t.vau.parityBad = true → (∀ a b, Answers (.votedTransaction w0 w1 w2 spread a b) s (entered 0x0208))
          ∧ Answers (.alignWindowClose w0 w1 w2 spread) s (entered 0x0208))
      ∧ ∀ (k : Nat) (e : QWrite) (rest : List QWrite), [w0, w1, w2][k]? = some (e :: rest) → badParity (queueEntry e) = true →
          liveRegion s k = true → Tbl.get s.vau.queue k = [] → Tbl.get s.vau.copy k = none → t.vau.parityBad = true)

/-- Region events: the oldest entry of a full queue goes to a voter that holds none of its region, and the stalled core goes on; one
with wrong parity takes a live module to SAFE with cause 0x0208; an uncorrectable memory error of a voting region of a full triad makes it minority pending with 0x021A; a corrected one counts in
VAU_ECC_CORRk, saturating; the first write of CAPTURE in a VC marks every live region that presents its signature, no other, and a further
one in that VC changes nothing. -/
def Obligations.RegionEvents : Prop :=
  ((∀ (s : State) (k : Nat), k < 3 →
      (∀ e q, Tbl.get s.vau.queue k = e :: q → q.length = 7 → Tbl.get s.vau.copy k = none → badParity e = false → s.vau.parityBad = false →
          Answers (.alignQueueEntryLeaves k) s (fun t => Tbl.get t.vau.queue k = q ∧ Tbl.get t.vau.copy k = some e ∧ bitAt t.vau.stalled k = false
            ∧ t = { s with vau := { s.vau with queue := t.vau.queue, copy := t.vau.copy, stalled := t.vau.stalled } }))
        ∧ (∀ e q, Tbl.get s.vau.queue k = e :: q → q.length = 7 → Tbl.get s.vau.copy k = none → badParity e = true → s.live = true →
          Answers (.alignQueueEntryLeaves k) s (enteredSafe 0x0208 s))
        ∧ ((Tbl.get s.vau.queue k).length ≠ 8 → Answers (.alignQueueEntryLeaves k) s (fun t => t = s)))
    ∧ (∀ (s : State) (k : Nat), k < 3 → s.sys.fenced = none → s.sys.split = none → s.vau.pending = 0 →
        Answers (.memoryUncorrectable k) s (fun t => t.vau.pending = setBit 0 k true ∧ t.vauReg Reg.VAU_MIN_INFO = word (k * 256 + 0x1A)
          ∧ t.vauReg Reg.VAU_MIN_VCN = s.sys.vcn ∧ recordedOnly s { t with vau := s.vau }))
    ∧ ∀ (s : State) (k : Nat), k < 3 → Answers (.memoryCorrected k) s (fun t =>
        t.vauReg (Reg.VAU_ECC_CORR + 4 * k) = satInc (s.vauReg (Reg.VAU_ECC_CORR + 4 * k)) ∧ t.vau.pending = s.vau.pending ∧ t.sys = s.sys))
    ∧ (∀ (s : State) (w : Word) (c0 c1 c2 : CoreCapture), bitAt w 0 = true →
    (s.vau.captureWritten = false → s.vau.captured = 0 → Answers (.vauSigCapture w (some c0) (some c1) (some c2)) s (fun t => t.vau.captureWritten = true
        ∧ (∀ k, k < 3 → bitAt t.vau.captured k = liveRegion s k) ∧ t.sys = s.sys
        ∧ ∀ k c, [c0, c1, c2][k]? = some c → liveRegion s k = true →
            Tbl.get t.vau.sig (3 + k) = foldStores (Tbl.get s.vau.sigw k) c.stores ∧ Tbl.get t.vau.sigw k = 0
              ∧ Tbl.get t.vau.sig k = crc32cWords (c.core ++ stackWindow c.sp s ++ [t.reg Reg.ITE_DIGEST, t.reg Reg.CRD_CHECKSUM, t.reg Reg.PDS_DIGEST, t.reg Reg.DSU_DIGEST])))
      ∧ (s.vau.captureWritten = true → Answers (.vauSigCapture w (some c0) (some c1) (some c2)) s (fun t => t = s)))

/-- The region monitors: three samples after which no region is out of tolerance leave the regions as they are; one voting region that is out
of tolerance becomes minority pending with the code of the quantity (a quantity beyond its limit in all three samples; for the temperature
gradient the region is the farthest from the median in the last one, the model's choice, log entry 97); two or three at once, or one while another is pending or
fenced, take a live module to SAFE with 0x020E; and the last sample's readings stand in the registers. -/
def Obligations.RegionMonitors : Prop :=
  ∀ (s : State) (s0 s1 s2 : RegionSample) (tick : Nat),
    (let xs := [s0, s1, s2]
     let p := outOf beyondSupply xs
     let q := outOfTemp xs
     let r := outOf beyondPhase xs
     let a := outOf beyondVolt xs ||| outOf beyondHot xs
     let reads (t : State) : Prop := t.reg Reg.VAU_RM_STAT = word (a.toNat * 2 ^ 12 + r.toNat * 2 ^ 8 + q.toNat * 2 ^ 4 + p.toNat)
       ∧ ∀ k, k < 3 → t.reg (Reg.VAU_RM_SUPPLY + 4 * k) = word (Tbl.get s2.mv k % 65536)
     (p ||| q ||| r ||| a = 0 → Answers (.regionOutOfTolerance s0 s1 s2 tick) s (fun t => reads t ∧ t.vau.pending = s.vau.pending ∧ t.sys = s.sys ∧ t.evr = s.evr))
      ∧ (∀ k, k < 3 → s.sys.fenced = none → s.sys.split = none → s.vau.pending = 0 →
          let one (code : Nat) : Prop := Answers (.regionOutOfTolerance s0 s1 s2 tick) s (fun t => reads t ∧ t.vau.pending = setBit 0 k true
            ∧ t.vauReg Reg.VAU_MIN_INFO = word (k * 256 + code) ∧ t.vauReg Reg.VAU_MIN_VCN = s.sys.vcn ∧ t.sys = s.sys)
          (p = setBit 0 k true → q ||| r ||| a = 0 → one 0x0B) ∧ (q = setBit 0 k true → p ||| r ||| a = 0 → one 0x0C)
            ∧ (r = setBit 0 k true → p ||| q ||| a = 0 → one 0x0D) ∧ (a = setBit 0 k true → p ||| q ||| r = 0 → one 0x0F))
      ∧ (s.live = true →
          (∃ i j, i < 3 ∧ j < 3 ∧ i ≠ j ∧ bitAt (p ||| q ||| r ||| a) i = true ∧ (bitAt (p ||| q ||| r ||| a) j = true
            ∨ liveRegion s i = true ∧ (s.sys.fenced = some j ∨ bitAt s.vau.pending j = true))) →
          Answers (.regionOutOfTolerance s0 s1 s2 tick) s (fun t => t.sys.state = .safe ∧ t.reg Reg.SYS_SAFE_CAUSE = 0x020E)))

/-- The split: a request with the key for a region in T3, ACTIVE or BANKED, no monitor out of tolerance, 100 VC passed since the last fence,
split or rejoin (the tick of the change is the first of the 101 VC starts counted) and no other request waiting stands until the end of the
VC; any other is refused with 0x0213 and changes nothing else. The rolling self-test: a region whose age is 480 minutes is due; one that is
540 minutes old, or a further 60, is recorded with 0x0214 and OVERDUE is set; the region's own test moves the sequence on where it passes,
and where it fails a split region stays out, fenced. -/
def Obligations.SplitAndSelftest : Prop :=
  (∀ (s : State) (w : Word),
    let ok := field w 31 16 = 0x5B17 ∧ field w 1 0 < 3 ∧ s.sys.mode = .t3 ∧ (s.sys.state = .active ∨ s.sys.state = .banked)
      ∧ s.reg Reg.VAU_RM_STAT = 0 ∧ (∀ n, s.vau.sinceChange = some n → 101 ≤ n) ∧ s.vau.seqRegion = none
    (ok → Answers (.vauSplitReq w) s (fun t => t = { s with vau := { s.vau with seqRegion := some (field w 1 0), seqFence := false, seqVc := 0
                                                                                seqSelftestDone := false } }))
      ∧ (¬ ok → Answers (.vauSplitReq w) s (fun t => t = note 0x0213 1 (field w 1 0) s ∧ recordedOnly s t)))
    ∧ (∀ (s : State) (k : Nat), k < 3 →
        let age := (s.vauReg (Reg.VAU_ST_AGE0 + 4 * k)).toNat
        (480 ≤ age → Answers (.selftestDue k) s (fun t => bitAt (t.vauReg Reg.VAU_ST_DUE) k = true ∧ t = { s with vau := { s.vau with now := t.vau.now } }))
          ∧ (age < 480 → Answers (.selftestDue k) s (fun t => t = s))
          ∧ (540 ≤ age → (age - 540) % 60 = 0 → Answers (.selftestOverdue k) s (fun t => bitAt (t.vauReg Reg.VAU_ST_DUE) (4 + k) = true
              ∧ t.sys = s.sys ∧ ∃ s1, t = note 0x0214 1 k s1 ∧ s1 = { s with vau := s1.vau }))
          ∧ (age < 540 ∨ (age - 540) % 60 ≠ 0 → Answers (.selftestOverdue k) s (fun t => t = s)))
    ∧ ∀ (s : State) (k : Nat), s.sys.mode = .t2s → s.vau.seqRegion = some k → s.vau.seqVc ≤ 24 → s.vau.seqSelftestDone = false →
        Answers (.rejoinSelftestDone true) s (fun t => t = { s with vau := { s.vau with seqSelftestDone := true } })
          ∧ (s.vau.seqFence = false → Answers (.rejoinSelftestDone false) s (fun t =>
              t.sys.mode = .t2f ∧ t.sys.fenced = some k ∧ t.sys.split = none ∧ t.vau.seqRegion = none))

/-- A debugger that attaches sets DEBUG and withdraws every line of Mantle; in JOIN, BANKED and ACTIVE the module enters SAFE with cause
0x0215, in CONFIG_CHECK it goes to MAINT, elsewhere it stays in its state. DEBUG stays set under every later attachment. -/
def Obligations.DebuggerAttaches : Prop :=
  ∀ (s : State) (k : Nat), Answers (.debugAttach k) s (fun t => t.vau.debug = true ∧ t.mnt.ga = 0 ∧ t.mnt.sa = 0 ∧ t.mnt.da = 0
    ∧ (s.live = true → t.sys.state = .safe ∧ t.reg Reg.SYS_SAFE_CAUSE = 0x0215)
    ∧ (s.sys.state = .configCheck → t.sys.state = .maint ∧ t.reg Reg.SYS_SAFE_CAUSE = 0x0215)
    ∧ (s.live = false → s.sys.state ≠ .configCheck → t.sys = s.sys))

/-! ### The table engine and the Cord ledger (chapters 05 and 06) -/

/-- The table engine: GO in P1 copies every token and starts the evaluation, once per VC; outside P1 it is refused with 0x040B and changes
nothing else; while the engine is busy it takes a live module to SAFE with 0x040C. The end of the evaluation sets DONE; in a state that
sequences no sessions, and with every descriptor valid, every session not to be evaluated reads 0 and every other reads the result of its
list. -/
def Obligations.EngineEvaluation : Prop :=
  (∀ (s : State) (w : Word), s.ite.busy = false → bitAt w 0 = true →
      (s.sys.phase = 1 → s.ite.goTaken = false → Answers (.iteLaunch w) s (fun t =>
          t.ite = { s.ite with busy := true, copying := true, goTaken := true, done := false, frozen := s.crd.tok } ∧ t.crd = s.crd ∧ t.sys = s.sys))
        ∧ (s.sys.phase = 1 → s.ite.goTaken = true → Answers (.iteLaunch w) s (fun t => t = s))
        ∧ (s.sys.phase ≠ 1 → Answers (.iteLaunch w) s (fun t => t = note 0x040B 0 0 s)))
    ∧ (∀ (s : State) (w : Word), s.ite.busy = true → s.live = true → Answers (.iteLaunch w) s (enteredSafe 0x040C s))
    ∧ (∀ s : State, s.ite.busy = true → Answers .iteDone s (fun t => t.ite.done = true ∧ t.ite.busy = false))
    ∧ ∀ (s : State) (n : Nat), s.ite.busy = true → s.crd.heldOps = [] → sequences s = false → 1 ≤ n → n ≤ 255 →
        (evaluate (routeActive s) (crdResume s)).2 = false →
        Answers .iteDone s (fun t =>
          (s.regB (sesReg n) 31 = false → t.reg (resReg n) = 0)
            ∧ ∀ w, s.regB (sesReg n) 31 = true →
                evalSes { st := crdResume s, tok := Tbl.get s.ite.frozen, ses := n, rtActive := routeActive s } (s.reg (sesReg n)) = some w →
                t.reg (resReg n) = w)

/-- The ledger's operations on one token, where their precondition holds: the entry becomes the one of the table, no other entry changes,
and the status is 0. (RELEASE, TIMED, TRANSFER, BLOCK, UNBLOCK, LEND, UNLEND, RECLAIM, TAKE, GIVEBACK, START_TIMED.) -/
def Obligations.LedgerOperations : Prop :=
  ∀ (s : State) (i h : Nat), i < 1024 → ledgerOpen s i → 1 ≤ h → h ≤ 255 →
    (let w := s.tok i
     let own := posKind s i = 1
     let tOk := 1 ≤ s.opTimer ∧ s.opTimer ≤ 600000
     (own → tokSt w = 1 → tokHolder w = s.opSubj → Answers (.crdRelease i) s (ledgerSets i 0 s))
      ∧ (tokSt w = 1 ∨ tokSt w = 5 → tokHolder w = s.opSubj → tOk → Answers (.crdTimed i) s (ledgerSets i (mkTok 2 s.opTimer s.opSubj) s))
      ∧ (own → tokSt w = 1 → tokHolder w = s.opSubj → h ≠ s.opSubj → Answers (.crdTransfer i h) s (ledgerSets i (mkTok 1 0 h) s))
      ∧ (own → tokSt w = 0 → h ≤ 7 → Answers (.crdBlock i h) s (ledgerSets i (mkTok 3 0 h) s))
      ∧ (tokSt w = 3 → tokHolder w ≤ 7 → Answers (.crdUnblock i) s (ledgerSets i 0 s))
      ∧ (own → tokSt w = 0 → h ≤ 7 → h ≠ s.ownSlot → Answers (.crdLend i h) s (ledgerSets i (mkTok 4 0 h) s))
      ∧ (tokSt w = 4 → tokHolder w = s.opSubj → Answers (.crdUnlend i) s (ledgerSets i 0 s))
      ∧ (tokSt w = 4 → tokHolder w = s.opSubj → tOk → Answers (.crdReclaim i) s (ledgerSets i (mkTok 2 s.opTimer 0) s))
      ∧ (posKind s i = 2 → tokSt w = 0 → Answers (.crdTake i h) s (ledgerSets i (mkTok 5 0 h) s))
      ∧ (posKind s i = 2 → tokHolder w = s.opSubj → tokSt w = 5 ∨ tokSt w = 2 ∧ tokTimer w = 0 → Answers (.crdGiveback i) s (ledgerSets i 0 s))
      ∧ (tokSt w = 3 → tokHolder w = 0xF8 → tOk → Answers (.crdStartTimed i) s (ledgerSets i (mkTok 2 s.opTimer 0) s)))

/-- The ledger accepts operations 0x1 to 0xC only in P1 and only in JOIN, BANKED, ACTIVE and MAINT, and 0xD and 0xE only in P4; an operation
written at any other time is refused with status PHASE (9), changes no token, and is recorded with 0x0506. -/
def Obligations.LedgerPhases : Prop :=
  ∀ (s : State) (i h n : Nat), s.ite.copying = false → i < 1024 → n < 128 →
    (s.sys.phase ≠ 1 ∨ (s.live = false ∧ s.sys.state ≠ .maint) →
        (∀ c ∈ [Instr.crdRelease i, .crdTimed i, .crdTransfer i h, .crdBlock i h, .crdUnblock i, .crdLend i h, .crdUnlend i, .crdReclaim i,
            .crdTake i h, .crdGiveback i, .crdStartTimed i], Answers c s (fun t => ledgerRefuses 9 s t ∧ t.evr = (note 0x0506 5 i s).evr))
          ∧ Answers (.crdAcquire h n) s (fun t => ledgerRefuses 9 s t ∧ t.evr = (note 0x0506 5 0 s).evr))
      ∧ (s.sys.phase ≠ 4 → ∀ c ∈ [Instr.crdLoadBegin, .crdLoadEnd], Answers c s (fun t => ledgerRefuses 9 s t ∧ t.evr = (note 0x0506 5 0 s).evr))
      ∧ (s.sys.phase = 1 → s.live = true ∨ s.sys.state = .maint →
          (∀ c ∈ [Instr.crdRelease i, .crdTimed i, .crdTransfer i h, .crdBlock i h, .crdUnblock i, .crdLend i h, .crdUnlend i, .crdReclaim i,
              .crdTake i h, .crdGiveback i, .crdStartTimed i, .crdAcquire h n], Answers c s (fun t => t.regF Reg.CRD_RESULT 27 24 ≠ 9)))
      ∧ (s.sys.phase = 4 → s.sys.state = .join ∨ s.sys.state = .banked →
          ∀ c ∈ [Instr.crdLoadBegin, .crdLoadEnd], Answers c s (fun t => t.regF Reg.CRD_RESULT 27 24 ≠ 9))

/-- What the ledger refuses: a frozen element with status 7, an undeclared one with status 6, a token that is not free to a BLOCK, a LEND or
a TAKE with status 1, another holder than the subject with status 2; an opcode that names no operation with status 8. No entry changes.
ACQUIRE takes every token of its list or none: where every element is owned, not frozen and free, and none repeats, each becomes HELD by the
session and no other entry changes; where one is not, no entry changes. -/
def Obligations.LedgerRefusesAndAcquires : Prop :=
  ((∀ (s : State) (i h : Nat), i < 1024 → s.ite.copying = false → s.sys.phase = 1 → s.live = true →
      (tokFrozen s i = true → Answers (.crdRelease i) s (ledgerRefuses 7 s) ∧ Answers (.crdTake i h) s (ledgerRefuses 7 s)
        ∧ Answers (.crdBlock i h) s (ledgerRefuses 7 s))
      ∧ (tokFrozen s i = false → posKind s i = 0 → Answers (.crdTimed i) s (ledgerRefuses 6 s) ∧ Answers (.crdLend i h) s (ledgerRefuses 6 s)))
    ∧ (∀ (s : State) (i h : Nat), i < 1024 → ledgerOpen s i → 1 ≤ h → h ≤ 7 → tokSt (s.tok i) ≠ 0 →
        (posKind s i = 1 → Answers (.crdBlock i h) s (ledgerRefuses 1 s) ∧ (h ≠ s.ownSlot → Answers (.crdLend i h) s (ledgerRefuses 1 s)))
          ∧ (posKind s i = 2 → Answers (.crdTake i h) s (ledgerRefuses 1 s))
          ∧ (posKind s i = 1 → tokSt (s.tok i) = 1 → tokHolder (s.tok i) ≠ s.opSubj → Answers (.crdRelease i) s (ledgerRefuses 2 s)))
    ∧ ∀ (s : State) (n : Nat), s.ite.copying = false → Answers (.crdOpInvalid n) s (ledgerRefuses 8 s))
    ∧ (∀ (s : State) (h n : Nat), s.ite.copying = false → s.sys.phase = 1 → s.live = true → 1 ≤ h → h ≤ 255 → 1 ≤ n → n ≤ 64 →
    (let xs := (List.range n).map (listEntry s)
     (xs.Nodup → (∀ x ∈ xs, posKind s x = 1 ∧ tokFrozen s x = false ∧ s.tok x = 0) →
        Answers (.crdAcquire h n) s (fun t => (∀ x ∈ xs, t.tok x = mkTok 1 0 h) ∧ (∀ j, j ∉ xs → t.tok j = s.tok j)
          ∧ t.reg Reg.CRD_RESULT = 0x80000000 ∧ t.sys = s.sys))
      ∧ (¬ xs.Nodup ∨ (∃ x ∈ xs, posKind s x ≠ 1 ∨ tokFrozen s x = true ∨ s.tok x ≠ 0) →
          Answers (.crdAcquire h n) s (fun t => (∀ j, t.tok j = s.tok j) ∧ t.regF Reg.CRD_RESULT 27 24 ≠ 0))))

/-- The ledger's load window, census, held operations and locks: LOAD_BEGIN in P4 of JOIN and BANKED opens the window, LOAD_END in the same
VC closes it; a census GO in P5 starts once per VC, and its end shows COUNT, SUM and LAW and the checksum, a failed one taking a live module
to SAFE; an operation written while the engine copies the tokens waits and changes no token; CRD_FREEZE and the attribute lock hold what is
written. -/
def Obligations.LedgerCensusAndLocks : Prop :=
  (∀ s : State, s.ite.copying = false → s.sys.phase = 4 →
      (s.sys.state = .join ∨ s.sys.state = .banked → Answers .crdLoadBegin s (fun t => t.crd.loading = true ∧ t.crd.tok = s.crd.tok ∧ t.sys = s.sys))
        ∧ (s.crd.loadBegun = true → Answers .crdLoadEnd s (fun t => t.crd.loading = false ∧ t.crd.tok = s.crd.tok ∧ t.sys = s.sys)))
    ∧ (∀ (s : State) (w : Word), bitAt w 0 = true → s.sys.phase = 5 → s.crd.censusGo = false → s.crd.censusDone = false →
        Answers (.crdCensusGo w) s (fun t => t = { s with crd := { s.crd with censusGo := true } }))
    ∧ (∀ s : State, s.crd.censusGo = true →
        (censusCountOk s = true → censusSumOk s = true → censusUnlawful s = none → Answers .censusComplete s (fun t =>
            t.crd.censusDone = true ∧ t.reg Reg.CRD_CENSUS = 0xC0000000 ∧ t.reg Reg.CRD_CHECKSUM = tokChecksum s ∧ t.sys = s.sys))
          ∧ (s.live = true → censusCountOk s = false → Answers .censusComplete s (fun t => t.sys.state = .safe ∧ t.reg Reg.SYS_SAFE_CAUSE = 0x0501))
          ∧ (s.live = true → censusCountOk s = true → censusSumOk s = false → Answers .censusComplete s (fun t => t.sys.state = .safe ∧ t.reg Reg.SYS_SAFE_CAUSE = 0x0502)))
    ∧ (∀ (s : State) (i : Nat), s.ite.copying = true → Answers (.crdRelease i) s (fun t => t.crd.tok = s.crd.tok
        ∧ t.crd.heldOps.length = s.crd.heldOps.length + 1 ∧ t = { s with crd := t.crd }))
    ∧ (∀ s : State, s.crd.heldOps = [] → Answers .crdHeldOpResume s (fun t => t = { s with ite := { s.ite with copying := false } }))
    ∧ ∀ (s : State) (w : Word), Answers (.crdFreeze w) s (fun t => t = s.setReg Reg.CRD_FREEZE (w &&& 0xFF#32))
        ∧ Answers (.crdAttrLock w) s (fun t => t = { s with regs := t.regs } ∧ (bitAt w 0 = true → bitAt (t.reg Reg.CRD_ATTR_LOCK) 0 = true)
          ∧ (bitAt (s.reg Reg.CRD_ATTR_LOCK) 0 = true → bitAt (t.reg Reg.CRD_ATTR_LOCK) 0 = true))

/-! ### Lending (chapter 06), the host commands (chapter 10), sessions (chapters 05 and 07) -/

/-- The two-phase hand-over of a token: REQ of a free owned token lends it and answers GRANT, of any other token but one lent to the
requester REFUSE; GRANT for a locking session takes the token and answers TAKEN, for no such session it answers RETURN; TAKEN confirms the
loan; RETURN frees the token, which a block of the standing list then takes, removes the loan and answers RETURN_ACK; RETURN_ACK and REFUSE
remove the borrow entry. All this in P1 of an ACTIVE member before the launch, in no hand-over; at another time an ACTIVE member's message
waits for the next P1, and any other member drops it. -/
def Obligations.LendingHandOver : Prop :=
  (∀ (s : State) (m : LendMsg), lendOpen m s → m.elem < 1024 → tokFrozen s m.elem = false → m.from_ < 8 → m.from_ ≠ s.ownSlot →
    (let i := m.elem
     (posKind s i = 1 → s.tok i = 0 → Answers (.lendReq m) s (fun t => t.tok i = mkTok 4 0 m.from_
          ∧ ⟨i, m.from_, m.lseq, false, s.sys.vcn, s.sys.vcn⟩ ∈ t.lend.loans ∧ t.lend.out = s.lend.out ++ [mkLend s 2 m.from_ i false m.lseq]))
      ∧ (s.tok i ≠ 0 → ¬ (tokSt (s.tok i) = 4 ∧ tokHolder (s.tok i) = m.from_) → Answers (.lendReq m) s (fun t =>
          lendedOnly s t ∧ t.lend = { s.lend with out := s.lend.out ++ [mkLend s 3 m.from_ i false m.lseq] }))
      ∧ (∀ b, matchBorrow s m false = some b →
          (posKind s i = 2 → tokSt (s.tok i) = 0 → (s.ses b.ses).used = true → 1 ≤ b.ses → b.ses ≤ 255 → (s.ses b.ses).st = .locking →
              Answers (.lendGrant m) s (fun t => t.tok i = mkTok 5 0 b.ses ∧ b ∉ t.lend.borrows ∧ Tbl.get t.lend.remLseq i = m.lseq
                ∧ t.lend.out = s.lend.out ++ [mkLend s 4 m.from_ i false m.lseq]))
            ∧ ((s.ses b.ses).st ≠ .locking → Answers (.lendGrant m) s (fun t => t.tok i = s.tok i
                ∧ { b with isRet := true, ses := 0, sent := s.sys.vcn } ∈ t.lend.borrows ∧ t.lend.out = s.lend.out ++ [mkLend s 5 m.from_ i false m.lseq]))
            ∧ Answers (.lendRefuse m) s (fun t => b ∉ t.lend.borrows ∧ t.tok i = s.tok i))
      ∧ (∀ l, matchLoan s m = some l → Answers (.lendTaken m) s (fun t =>
          (∀ k ∈ t.lend.loans, k.elem = i → k.borrower = m.from_ → k.lseq = m.lseq → k.confirmed = true) ∧ lendedOnly s t))
      ∧ (∀ l, matchLoan s m = some l → posKind s i = 1 → tokSt (s.tok i) = 4 → tokHolder (s.tok i) = m.from_ → m.orphan = false →
          Answers (.lendReturn m) s (fun t =>
            t.tok i = (if (Tbl.get s.rt.standing i).block then mkTok 3 0 ((Tbl.get s.rt.standing i).host % 8) else 0) ∧ (∀ k ∈ t.lend.loans, k.elem ≠ i) ∧ t.lend.out = s.lend.out ++ [mkLend s 6 m.from_ i false m.lseq]))
      ∧ (matchLoan s m = none → Answers (.lendReturn m) s (fun t =>
          lendedOnly s t ∧ t.lend = { s.lend with out := s.lend.out ++ [mkLend s 6 m.from_ i false m.lseq] }))
      ∧ (∀ b, matchBorrow s m true = some b → Answers (.lendReturnAck m) s (fun t => b ∉ t.lend.borrows ∧ lendedOnly s t))))
    ∧ ∀ (s : State) (m : LendMsg),
      (s.sys.state = .active → s.pcl.handing = false → popsNow s = false →
          ∀ p ∈ [(1, Instr.lendReq m), (2, .lendGrant m), (3, .lendRefuse m), (4, .lendTaken m), (5, .lendReturn m), (6, .lendReturnAck m)],
            Answers p.2 s (fun t => { m with kind := p.1 } ∈ t.pcl.inbox ∧ t = { s with pcl := { s.pcl with inbox := t.pcl.inbox } }))
        ∧ (s.sys.state ≠ .active ∨ s.pcl.handing = true →
          ∀ c ∈ [Instr.lendReq m, .lendGrant m, .lendRefuse m, .lendTaken m, .lendReturn m, .lendReturnAck m], Answers c s (fun t => t = s))

/-- What is no match, audits, claims and repeats: a message of another epoch is discarded with 0x0514, one without a matching state with
0x0513, and neither changes any token; an AUDIT of an unknown element is answered with an orphan RETURN; a CLAIM of a start block makes it a
confirmed loan (set in P1, the model's choice, log entry 110); CLAIM_END bears the count; CLAIM_QUERY is answered with one CLAIM for each
held element and CLAIM_END; repeats and audits restart their times; complete claims end the claiming. Messages are applied by an ACTIVE member in P1 before the launch,
and an ACTIVE member in no hand-over repeats and audits. -/
def Obligations.LendingClaimsAndAudits : Prop :=
  (∀ (s : State) (m : LendMsg), lendsAtOnce s → epochOk s m = false →
      ∀ c ∈ [Instr.lendReq m, .lendGrant m, .lendRefuse m, .lendTaken m, .lendReturn m, .lendReturnAck m, .lendAudit m, .lendClaim m],
        Answers c s (fun t => t = note 0x0514 5 m.elem (markExt s) ∧ recordedOnly (markExt s) t))
    ∧ (∀ (s : State) (m : LendMsg), lendOpen m s →
        (matchLoan s m = none → Answers (.lendTaken m) s (fun t => t = note 0x0513 5 m.elem (markExt s) ∧ recordedOnly (markExt s) t))
          ∧ (matchBorrow s m false = none → Answers (.lendRefuse m) s (fun t => t = note 0x0513 5 m.elem (markExt s) ∧ recordedOnly (markExt s) t))
          ∧ (matchBorrow s m true = none → Answers (.lendReturnAck m) s (fun t => t = note 0x0513 5 m.elem (markExt s) ∧ recordedOnly (markExt s) t))
          ∧ (tokSt (s.tok m.elem) = 0 → matchBorrow s m false = none → matchBorrow s m true = none →
              Answers (.lendAudit m) s (fun t => lendedOnly s t
                ∧ t.lend = { s.lend with out := s.lend.out ++ [mkLend s 5 m.from_ m.elem true m.lseq] }))
          ∧ (s.lend.claiming = true → posKind s m.elem = 1 → s.tok m.elem = mkTok 3 0 0xF8 → Answers (.lendClaim m) s (fun t =>
              t.tok m.elem = mkTok 4 0 m.from_ ∧ ⟨m.elem, m.from_, m.lseq, true, s.sys.vcn, s.sys.vcn⟩ ∈ t.lend.loans
                ∧ Tbl.get t.lend.claims m.from_ = Tbl.get s.lend.claims m.from_ + 1)))
    ∧ (∀ (s : State) (m : LendMsg), lendsAtOnce s → Tbl.get s.lend.epochs m.from_ = m.epoch + 1 →
        (s.lend.claiming = true → Answers (.lendClaimEnd m) s (fun t => Tbl.get t.lend.claimEnds m.from_ = m.lseq.toNat + 1 ∧ lendedOnly s t))
          ∧ Answers (.lendClaimQuery m) s (fun t => t.lend.out = s.lend.out
              ++ (heldFrom s m.from_).map (fun i => mkLend s 8 m.from_ i false (Tbl.get s.lend.remLseq i))
              ++ [mkLend s 9 m.from_ 0 false (word (heldFrom s m.from_).length)] ∧ lendedOnly s t))
    ∧ (∀ s : State, lendsNow s = true →
        Answers .lendMessageRepeat s (fun t => (∀ l ∈ t.lend.loans, l.confirmed = false → since s.sys.vcn l.sent < 4) ∧ t = { s with lend := t.lend })
          ∧ Answers .auditDue s (fun t => (∀ l ∈ t.lend.loans, since s.sys.vcn l.audited < 1024) ∧ t = { s with lend := t.lend }))
    ∧ ∀ s : State, lendsNow s = true → s.lend.claiming = true →
        (100 ≤ since s.sys.vcn s.lend.queried → Answers .claimQueryRepeat s (fun t => t.lend.queried = s.sys.vcn ∧ t = { s with lend := t.lend }
            ∧ ∀ k ∈ otherSlots s, claimsFrom s k = false → mkLend s 10 k 0 false 0 ∈ t.lend.out))
          ∧ (since s.sys.vcn s.lend.queried < 100 → Answers .claimQueryRepeat s (fun t => t = s))
          ∧ (s.sys.phase = 1 → (otherSlots s).all (claimsFrom s) = true → Answers .claimsComplete s (fun t =>
              t.lend.claiming = false ∧ t.rt.startTimed = true
                ∧ ∀ i, posKind s i = 1 → tokFrozen s i = false → s.tok i = mkTok 3 0 0xF8 → 1 ≤ s.rt.startT → s.rt.startT ≤ 6000 →
                  t.tok i = mkTok 2 (s.rt.startT * 100) 0))
          ∧ (s.sys.phase ≠ 1 → Answers .claimsComplete s (fun t => t = s))

/-- A host command that passes every check, where the runtime pops no packets (outside P1, after its launch of the engine, in a hand-over):
its tag becomes QUEUED with its HSEQ and opcode, it joins the end of the hand-over queue, HELD falls and INFLIGHT rises by one, and the
host's HSEQ_LAST is its HSEQ. -/
def Obligations.HostCommandsQueued : Prop :=
  ∀ (s : State) (host tag ses : Nat) (hseq hvcn : Word) (a b c : Nat) (w : Word), s.sys.phase ≠ 1 ∨ s.ite.goTaken = true ∨ s.pcl.handing = true → host < 8 → tag < 256 → a < 65536 → b < 256 → c < 65536 →
    (let queued (p : Pkt) (t : State) : Prop :=
       (t.tag tag).st = .queued ∧ (t.tag tag).hseq = some hseq ∧ (t.tag tag).opc = p.opc ∧ t.cmd.queue = s.cmd.queue ++ [p]
         ∧ t.cmd.nHeld = s.cmd.nHeld - 1 ∧ t.cmd.nFlight = s.cmd.nFlight + 1 ∧ t.reg (Reg.CMD_HSEQ + 4 * host) = hseq
         ∧ (∀ j, j ≠ tag → t.tag j = s.tag j) ∧ t = { s with cmd := t.cmd, regs := t.regs }
     let ok (opc ses : Nat) (ps : List Byte) (i : Instr) : Prop :=
       packetAccepted (mkPkt opc host tag ses hseq hvcn ps) s → Answers i s (queued (mkPkt opc host tag ses hseq hvcn ps))
     ok 0x01 0 [] (.ping host tag 0 hseq hvcn)
      ∧ ok 0x10 0 (le2 a ++ [0, 0]) (.routeRequest host tag 0 hseq hvcn a)
      ∧ ok 0x11 ses (le2 a ++ [0, 0]) (.routeCancel host tag ses hseq hvcn a)
      ∧ ok 0x12 ses (le2 a ++ [0, 0]) (.routeReleaseTimed host tag ses hseq hvcn a)
      ∧ ok 0x18 0 (le2 a ++ [byte b, 0]) (.pointMove host tag 0 hseq hvcn a b)
      ∧ ok 0x19 0 (le2 a ++ [0, 0]) (.elementBlock host tag 0 hseq hvcn a)
      ∧ ok 0x1A 0 (le2 a ++ [0, 0]) (.elementUnblock host tag 0 hseq hvcn a)
      ∧ ok 0x20 0 (le2 a ++ [byte b, 0]) (.signalForceStop host tag 0 hseq hvcn a b)
      ∧ ok 0x30 0 [byte b, 0, 0, 0] (.doorEnable host tag 0 hseq hvcn b)
      ∧ ok 0x31 ses [byte b, 0, 0, 0] (.doorOpen host tag ses hseq hvcn b)
      ∧ ok 0x32 ses [byte b, 0, 0, 0] (.doorClose host tag ses hseq hvcn b)
      ∧ ok 0x32 ses [byte b, 1, 0, 0] (.doorCloseRestore host tag ses hseq hvcn b)
      ∧ ok 0x33 ses [byte b, 0, 0, 0] (.doorWithdrawEnable host tag ses hseq hvcn b)
      ∧ ok 0x34 0 [byte b, 0, 0, 0] (.leafIsolate host tag 0 hseq hvcn b)
      ∧ ok 0x35 0 [byte b, 0, 0, 0] (.leafRestore host tag 0 hseq hvcn b)
      ∧ (b < 4 → ok 0x38 0 ([byte c, byte b] ++ le2 a) (.trainBerth host tag 0 hseq hvcn c b a))
      ∧ ok 0x39 0 ([byte b, 0] ++ le2 a) (.trainDoors host tag 0 hseq hvcn b a)
      ∧ ok 0x40 0 ([byte b, 0] ++ le2 a) (.statusQuery host tag 0 hseq hvcn b a)
      ∧ ok 0x41 0 [byte b, 0, 0, 0] (.journalQuery host tag 0 hseq hvcn b)
      ∧ ok 0x42 0 ([byte b, 0] ++ le2 a) (.countQuery host tag 0 hseq hvcn b a)
      ∧ ok 0x48 0 (le4 w) (.updateConfirm host tag 0 hseq hvcn w))

/-- A host command that passes every check in its turn in P1 has its effect: the queries and PING end COMPLETED with their results; blocks,
marks and train data change what they name and end COMPLETED; a route, point or door request creates its session with the lowest free ID and
is answered ACCEPTED; a cancel of a waiting route ends it, and its ROUTE_REQUEST too
where that has no terminal reply yet, REFUSED_CONDITION with 0x041E; a timed release starts; a close or restore falls due for its edge; a withdraw
waits for its session's turn; a leaf command joins the door unit's; a confirm on trial starts the selector write. -/
def Obligations.HostCommandsApplied : Prop :=
  ∀ (s : State) (host tag ses : Nat) (hseq hvcn : Word) (a b : Nat), a < 65536 → b < 256 →
    (let ap (opc ses : Nat) (ps : List Byte) : Prop := packetApplied (mkPkt opc host tag ses hseq hvcn ps) s
     (ap 0x01 0 [] → Answers (.ping host tag 0 hseq hvcn) s (tagEnded tag 1))
      ∧ (ap 0x10 0 (le2 a ++ [0, 0]) → a ≤ 2047 → routeDefined s a = true → sesOf s .route a = none → ∀ n, freeSes s = some n →
          Answers (.routeRequest host tag 0 hseq hvcn a) s (fun t => sessionCreated n .route a tag t ∧ (t.tag tag).st = .active ∧ (t.tag tag).posted = [0]))
      ∧ (ap 0x18 0 (le2 a ++ [byte b, 0]) → a ≤ 1015 → elemKind s a = 2 → b = 1 ∨ b = 2 → (elemOf s a).owner = s.ownSlot → ∀ n, freeSes s = some n →
          Answers (.pointMove host tag 0 hseq hvcn a b) s (fun t => sessionCreated n .point a tag t ∧ (t.ses n).target = b ∧ (t.tag tag).posted = [0]))
      ∧ (ap 0x30 0 [byte b, 0, 0, 0] → b < 8 → edgeEquipped s b = true → (berthTrack s b).isSome = true → (s.edge b).st ≠ .localSafe →
          sesOf s .door b = none → ∀ n, freeSes s = some n →
          Answers (.doorEnable host tag 0 hseq hvcn b) s (fun t => sessionCreated n .door b tag t ∧ (t.tag tag).posted = [0]))
      ∧ (ap 0x19 0 (le2 a ++ [0, 0]) → a < 1024 → posKind s a = 1 → tokFrozen s a = false → s.tok a = 0 →
          Answers (.elementBlock host tag 0 hseq hvcn a) s (fun t => tagEnded tag 1 t ∧ t.tok a = mkTok 3 0 host ∧ (Tbl.get t.rt.standing a).block = true))
      ∧ (ap 0x1A 0 (le2 a ++ [0, 0]) → a < 1024 → posKind s a = 1 → tokFrozen s a = false → tokSt (s.tok a) = 3 → tokHolder (s.tok a) ≤ 7 →
          Answers (.elementUnblock host tag 0 hseq hvcn a) s (fun t => tagEnded tag 1 t ∧ t.tok a = 0 ∧ (Tbl.get t.rt.standing a).block = false))
      ∧ (ap 0x20 0 (le2 a ++ [byte b, 0]) → a ≤ 1015 → elemKind s a = 3 → (elemOf s a).owner = s.ownSlot → b ≤ 1 →
          Answers (.signalForceStop host tag 0 hseq hvcn a b) s (fun t => tagEnded tag 1 t ∧ (Tbl.get t.rt.standing a).fstop = (b == 1)))
      ∧ (ap 0x31 ses [byte b, 0, 0, 0] → b < 8 → edgeEquipped s b = true → sesFits s (mkPkt 0x31 host tag ses hseq hvcn [byte b, 0, 0, 0]) .door b = true →
          (s.ses ses).st = .set_ → (s.edge b).st = .enabled → bitAt s.mnt.da b = true → eF s Reg.DSU_EIN b 28 27 ≠ 1 →
          Answers (.doorOpen host tag ses hseq hvcn b) s (fun t => ⟨b, 2, ses, some tag⟩ ∈ t.rt.due))
      ∧ (ap 0x32 ses [byte b, 0, 0, 0] → b < 8 → edgeEquipped s b = true → sesFits s (mkPkt 0x32 host tag ses hseq hvcn [byte b, 0, 0, 0]) .door b = true →
          (s.edge b).st = .closing → Answers (.doorClose host tag ses hseq hvcn b) s (fun t => ⟨b, 3, ses, some tag⟩ ∈ t.rt.due))
      ∧ (ap 0x32 0 [byte b, 1, 0, 0] → b < 8 → edgeEquipped s b = true → restoreGuard s b = true →
          Answers (.doorCloseRestore host tag 0 hseq hvcn b) s (fun t => ⟨b, 5, 0, some tag⟩ ∈ t.rt.due))
      ∧ (ap 0x33 ses [byte b, 0, 0, 0] → b < 8 → edgeEquipped s b = true → sesFits s (mkPkt 0x33 host tag ses hseq hvcn [byte b, 0, 0, 0]) .door b = true →
          (s.ses ses).st = .set_ → (s.edge b).st ≠ .localSafe → (s.ses ses).endTag = none →
          Answers (.doorWithdrawEnable host tag ses hseq hvcn b) s (fun t => (t.ses ses).endTag = some tag))
      ∧ (unitDeclared s (b / 32) (b % 32 / 2) = true → leafDeclared s b = true → s.dsu.lcmds.length < 16 →
          (ap 0x34 0 [byte b, 0, 0, 0] → Answers (.leafIsolate host tag 0 hseq hvcn b) s (fun t => t.dsu.lcmds = s.dsu.lcmds ++ [word (2 ^ 28 + b)]))
            ∧ (ap 0x35 0 [byte b, 0, 0, 0] → Answers (.leafRestore host tag 0 hseq hvcn b) s (fun t => t.dsu.lcmds = s.dsu.lcmds ++ [word (2 ^ 29 + b)])))
      ∧ (bitAt (hostReg s host) 29 = true → b < 8 →
          (ap 0x39 0 ([byte b, 0] ++ le2 a) → edgeEquipped s b = true → eF s Reg.DSU_EIN b 28 27 = 1 →
              Answers (.trainDoors host tag 0 hseq hvcn b a) s (fun t => tagEnded tag 1 t ∧ t.reg (Reg.DSU_CORR + 4 * b) = word (2 ^ 31 + a)))
            ∧ (ap 0x38 0 ([byte b, 3] ++ le2 a) → field (s.reg (Reg.PDS_ECONF + 4 * b)) 19 18 = 2 →
              Answers (.trainBerth host tag 0 hseq hvcn b 3 a) s (fun t => Tbl.get t.rt.berth b = ⟨true, true, a, s.sys.vcn, host, true⟩)))
      ∧ (ap 0x40 0 ([byte b, 0] ++ le2 a) → (statusResult s b a).isSome = true → Answers (.statusQuery host tag 0 hseq hvcn b a) s (tagEnded tag 1))
      ∧ (ap 0x41 0 [byte b, 0, 0, 0] → inShare s host b = true → Answers (.journalQuery host tag 0 hseq hvcn b) s (tagEnded tag 1))
      ∧ (ap 0x42 0 ([byte b, 0] ++ le2 a) → (countResult s host b a).isSome = true → Answers (.countQuery host tag 0 hseq hvcn b a) s (tagEnded tag 1))
      ∧ (ap 0x11 ses (le2 a ++ [0, 0]) → a ≤ 2047 → sesFits s (mkPkt 0x11 host tag ses hseq hvcn (le2 a ++ [0, 0])) .route a = true →
          (s.ses ses).st = .requested ∨ (s.ses ses).st = .checking →
          ((s.ses ses).replied = true →
              Answers (.routeCancel host tag ses hseq hvcn a) s (fun t => tagEnded tag 1 t ∧ (t.ses ses).st = .cancelled))
            ∧ ((s.ses ses).replied = false → (s.ses ses).tag < 256 → (s.ses ses).tag ≠ tag → (s.tag (s.ses ses).tag).st = .active →
              (s.tag (s.ses ses).tag).replay = 0 →
              Answers (.routeCancel host tag ses hseq hvcn a) s (fun t => tagEnded tag 1 t ∧ (t.ses ses).st = .cancelled
                ∧ tagEnded (s.ses ses).tag 2 t ∧ (t.tag (s.ses ses).tag).fault = 0x041E)))
      ∧ (ap 0x12 ses (le2 a ++ [0, 0]) → a ≤ 2047 → sesFits s (mkPkt 0x12 host tag ses hseq hvcn (le2 a ++ [0, 0])) .route a = true →
          (s.ses ses).st = .set_ → (s.ses ses).replied = true →
          Answers (.routeReleaseTimed host tag ses hseq hvcn a) s (fun t =>
            (t.ses ses).st = .releasing ∧ (t.ses ses).relMode = .timed ((routeOf s a).relT * 100) ∧ (t.ses ses).endTag = some tag))
      ∧ ∀ w, ap 0x48 0 (le4 w) → bitAt (hostReg s host) 30 = true → onTrialWith w s.sui = true → s.sui.failed = false →
          s.sui.writing = none → Answers (.updateConfirm host tag 0 hseq hvcn w) s (fun t => t.sui.busy = 5 ∧ tag ∈ t.sui.confirmTags))


/-- The times of route, point and door requests and of tokens, where the runtime sequences sessions (P1 after DONE in ACTIVE and BANKED) and
the time has elapsed: LEND_T, SET_T and THROW_T end the session as CANCELLED; WAIT_T and DWAIT_T refuse a request whose conditions fail; a
cancelled route whose signal does not prove stop takes the approach-locked outcome; before its time each changes nothing. A RELEASING owned
token whose timer is at 0 is FREE, a foreign one stays with timer 0; the host source of a berth lapses. -/
def Obligations.RequestTimes : Prop :=
  (∀ (s : State) (n : Nat), turnNow s = true → (s.ses n).used = true →
      let x := s.ses n
      let r := routeOf s x.obj
      (x.kind = .route → x.st = .locking → (locksOf s r).all (fun l => frozenOwned s n l.elem) = false →
          (elapsed s x.acqVcn (r.lendT * 10) = true → Answers (.lendTimeout n) s (fun t => (t.ses n).st = .cancelled ∧ t.regB (sesReg n) 31 = false))
            ∧ (elapsed s x.acqVcn (r.lendT * 10) = false → Answers (.lendTimeout n) s (fun t => t = s)))
        ∧ (x.kind = .route → x.st = .setting → x.cleared = false → pOk s n = false → ∀ v, x.setVcn = some v →
            (elapsed s v (r.setT * 10) = true → Answers (.setTimeout n) s (fun t => (t.ses n).st = .cancelled ∧ t.regB (sesReg n) 31 = false))
              ∧ (elapsed s v (r.setT * 10) = false → Answers (.setTimeout n) s (fun t => t = s)))
        ∧ (x.kind = .point → x.st = .setting → estBit s x.obj (if x.target = 1 then 2 else 3) = false → ∀ v, x.setVcn = some v →
            (elapsed s v ((elemOf s x.obj).throwT * 10) = true → Answers (.throwTimeout n) s (fun t => (t.ses n).st = .cancelled ∧ t.regB (sesReg n) 31 = false))
              ∧ (elapsed s v ((elemOf s x.obj).throwT * 10) = false → Answers (.throwTimeout n) s (fun t => t = s)))
        ∧ (x.kind = .route → x.st = .checking → cOk s n = false →
            (elapsed s x.born (r.waitT * 100) = true → Answers (.routeWaitTimeout n) s (fun t => (t.ses n).st = .cancelled))
              ∧ (elapsed s x.born (r.waitT * 100) = false → Answers (.routeWaitTimeout n) s (fun t => t = s)))
        ∧ (x.kind = .route → x.st = .releasing → x.relMode = .atStop → sigStop s r.signal = false →
            (elapsed s x.endVcn 1000 = true → Answers (.signalStopTimeout n) s (fun t => (t.ses n).relMode = .timed (r.apprT * 100)))
              ∧ (elapsed s x.endVcn 1000 = false → Answers (.signalStopTimeout n) s (fun t => t = s))))
    ∧ (∀ (s : State) (e n : Nat), turnNow s = true → sesOf s .door e = some n →
        ((s.ses n).st = .checking → cOk s n = false → tokOwned (s.tok (1016 + e)) n = false →
            (elapsed s (s.ses n).born (eF s Reg.DSU_ECONF e 23 16 * 1000) = true → Answers (.doorWaitTimeout e) s (fun t => (t.ses n).st = .cancelled))
              ∧ (elapsed s (s.ses n).born (eF s Reg.DSU_ECONF e 23 16 * 1000) = false → Answers (.doorWaitTimeout e) s (fun t => t = s)))
          ∧ ((s.ses n).st = .proving → bitAt s.mnt.da e = false →
            (elapsed s (s.ses n).provVcn 10 = true → Answers (.enableGrantTimeout e) s (fun t => (t.ses n).st = .cancelled ∧ ⟨e, 4, n, none⟩ ∈ t.rt.due ∧ e ∈ t.rt.endDue))
              ∧ (elapsed s (s.ses n).provVcn 10 = false → Answers (.enableGrantTimeout e) s (fun t => t = s))))
    ∧ (∀ (s : State) (i : Nat), tokSt (s.tok i) = 2 → tokFrozen s i = false →
        (tokTimer (s.tok i) = 0 → posKind s i = 1 → Answers (.tokenTimerExpire i) s (fun t => t.tok i = 0 ∧ ∀ j, j ≠ i → t.tok j = s.tok j))
          ∧ (tokTimer (s.tok i) = 0 → posKind s i = 2 →
              Answers (.tokenTimerExpire i) s (fun t => t.tok i = mkTok 2 0 (tokHolder (s.tok i)) ∧ ∀ j, j ≠ i → t.tok j = s.tok j))
          ∧ (0 < tokTimer (s.tok i) → Answers (.tokenTimerExpire i) s (fun t => t = s)))
    ∧ ∀ (s : State) (e : Nat), (Tbl.get s.rt.berth e).live = true → s.regF Reg.CMD_CONF 3 0 ≤ since s.sys.vcn (Tbl.get s.rt.berth e).vcn →
        Answers (.trainBerthExpiry e) s (fun t => (Tbl.get t.rt.berth e).live = false ∧ (∀ x, x ≠ e → Tbl.get t.rt.berth x = Tbl.get s.rt.berth x)
          ∧ t = { s with rt := t.rt })

/-! ### The travel clock and the door supervision (chapters 07 and 08) -/

/-- The travel clock: PDS_TRACK tracks exactly the written leaves that are declared; a slot whose write is not refused has the written
configuration, and one written outside P1 is refused with 0x0607; PDS_BIN holds the berth source value; the configuration lock, once set,
stays; a tracked leaf that misses one report more than COAST_MAX is LOST. -/
def Obligations.TravelClock : Prop :=
  (∀ (s : State) (m : Nat) (w : Word), m < 8 → Answers (.pdsTrack m w) s (fun t => t.reg (Reg.PDS_TRACK + 4 * m) = w &&& s.reg (Reg.PDS_DECL + 4 * m)))
    ∧ (∀ (s : State) (i : Nat) (w : Word), i < 512 →
        (slotRefused false (slotConf false (w &&& 0xFCFFFFFF#32) (s.reg (Reg.PDS_SLOTA + 4 * i))) (s.sys.phase == 1) (leafTracked s (i / 2)) = false →
            Answers (.pdsSlotc i w) s (fun t => t.reg (Reg.PDS_SLOTC + 4 * i) = w &&& 0xFCFFFFFF#32))
          ∧ (s.sys.phase ≠ 1 → Answers (.pdsSlotc i w) s (fun t => t = note 0x0607 3 (i / 2) s)))
    ∧ (∀ (s : State) (i : Nat) (w : Word), i < 32 →
        (slotRefused true (slotConf true (w &&& 0xFCFFFFFF#32) (s.reg (Reg.PDS_BSLOTA + 4 * i))) (s.sys.phase == 1) true = false →
            Answers (.pdsBslotc i w) s (fun t => t.reg (Reg.PDS_BSLOTC + 4 * i) = w &&& 0xFCFFFFFF#32))
          ∧ (s.sys.phase ≠ 1 → Answers (.pdsBslotc i w) s (fun t => t = note 0x0607 2 (i / 4) s)))
    ∧ (∀ (s : State) (e : Nat) (w : Word), e < 8 → Answers (.pdsBin e w) s (fun t => t = s.setReg (Reg.PDS_BIN + 4 * e) (w &&& 0xFFFF0003#32)))
    ∧ (∀ (s : State) (w : Word), Answers (.pdsConfLock w) s (fun t => t = { s with regs := t.regs }
        ∧ (bitAt w 0 = true ∨ bitAt (s.reg Reg.PDS_CONF_LOCK) 0 = true → bitAt (t.reg Reg.PDS_CONF_LOCK) 0 = true)))
    ∧ ∀ (s : State) (l : Nat), leafTracked s l = true → (s.leaf l).st = .valid ∨ (s.leaf l).st = .coast →
        ((s.leaf l).miss = s.regF Reg.PDS_CONF 9 8 → Answers (.leafLost l) s (fun t => (t.leaf l).st = .lost))
          ∧ ((s.leaf l).miss ≠ s.regF Reg.PDS_CONF 9 8 → Answers (.leafLost l) s (fun t => t = s))

/-- Edge and leaf commands: in P1 each ECMD row leaves its command word for the edge in place of an earlier one, and each LCMD row, of which
a VC has 16, joins the leaf commands; elsewhere the write is recorded with 0x0711 and changes nothing else. -/
def Obligations.EdgeAndLeafCommands : Prop :=
  (∀ (s : State) (e ses code : Nat), e < 8 →
      (let left (w : Word) (t : State) : Prop :=
         t.edge e = { s.edge e with ecmd := w } ∧ (∀ x, x ≠ e → t.edge x = s.edge x) ∧ t = { s with dsu := t.dsu }
       let refused (t : State) : Prop := t = note 0x0711 2 e s ∧ recordedOnly s t
       (s.sys.phase = 1 → Answers (.ecmdEnable e ses) s (left (ecmdWord 1 ses 0)) ∧ Answers (.ecmdOpen e) s (left (ecmdWord 2 0 0))
          ∧ Answers (.ecmdClose e) s (left (ecmdWord 3 0 0)) ∧ Answers (.ecmdWithdraw e) s (left (ecmdWord 4 0 0))
          ∧ Answers (.ecmdRestore e) s (left (ecmdWord 5 0 0)) ∧ Answers (.ecmdSafeStop e code) s (left (ecmdWord 6 0 code))
          ∧ Answers (.ecmdLocal e code) s (left (ecmdWord 7 0 code)) ∧ Answers (.ecmdEnd e) s (left (ecmdWord 8 0 0)))
        ∧ (s.sys.phase ≠ 1 → Answers (.ecmdEnable e ses) s refused ∧ Answers (.ecmdOpen e) s refused ∧ Answers (.ecmdClose e) s refused
          ∧ Answers (.ecmdWithdraw e) s refused ∧ Answers (.ecmdRestore e) s refused ∧ Answers (.ecmdSafeStop e code) s refused
          ∧ Answers (.ecmdLocal e code) s refused ∧ Answers (.ecmdEnd e) s refused)))
    ∧ (∀ (s : State) (l : Nat), s.sys.phase = 1 → s.dsu.lcmds.length < 16 →
        Answers (.lcmdIsolate l) s (fun t => t = { s with dsu := { s.dsu with lcmds := s.dsu.lcmds ++ [word (2 ^ 28 + l % 256)] } })
          ∧ Answers (.lcmdRestore l) s (fun t => t = { s with dsu := { s.dsu with lcmds := s.dsu.lcmds ++ [word (2 ^ 29 + l % 256)] } }))
    ∧ (∀ (s : State) (l : Nat), s.sys.phase ≠ 1 ∨ 16 ≤ s.dsu.lcmds.length →
        Answers (.lcmdIsolate l) s (fun t => t = note 0x0711 3 l s) ∧ Answers (.lcmdRestore l) s (fun t => t = note 0x0711 3 l s))
    ∧ ∀ (s : State) (w : Word) (e : Nat), e < 8 →
        Answers (.dsuConfLock w) s (fun t => t = { s with regs := t.regs }
          ∧ (bitAt w 0 = true ∨ bitAt (s.reg Reg.DSU_CONF_LOCK) 0 = true → bitAt (t.reg Reg.DSU_CONF_LOCK) 0 = true))
        ∧ (5000 ≤ since s.sys.vcn (s.edge e).corrVcn → Answers (.corrExpiry e) s (fun t => t.regB (Reg.DSU_CORR + 4 * e) 31 = false
            ∧ ∀ a, a ≠ Reg.DSU_CORR + 4 * e → t.reg a = s.reg a))
        ∧ (since s.sys.vcn (s.edge e).corrVcn < 5000 → Answers (.corrExpiry e) s (fun t => t = s))

/-- The door step and its times: GO in P1 with every view written is taken once per VC; without a view it takes a live module to SAFE with
0x0713; the end of a step that has been started sets DONE; the load window opens in P4 of CONFIG_CHECK, JOIN and BANKED and closes with the
check of the counts, a wrong one taking a live module to SAFE with 0x0710; a ramp that has used up its time removes the unit's torque and
takes the edge to LOCAL_SAFE with 0x0703; the leaf's lock and open times, the edge's close time and the release of a restoration act while
their state stands and once their time has elapsed. -/
def Obligations.DoorStepAndTimes : Prop :=
  (∀ s : State, s.sys.phase = 1 → s.dsu.go = false →
      ((List.range 8).all (fun e => !edgeEquipped s e || evB s e 7) = true → Answers .dsuStep s (fun t => t.dsu.go = true ∧ t.dsu.lcmds = []))
        ∧ ((List.range 8).all (fun e => !edgeEquipped s e || evB s e 7) = false → s.live = true → Answers .dsuStep s (enteredSafe 0x0713 s)))
    ∧ (∀ s : State, s.dsu.go = true → s.dsu.done = false → Answers .dsuStepDone s (fun t => t.dsu.done = true))
    ∧ (∀ s : State, s.sys.phase = 4 → s.sys.state = .configCheck ∨ s.sys.state = .join ∨ s.sys.state = .banked →
        Answers .dsuLoadBegin s (fun t => t = { s with dsu := { s.dsu with loading := true } }))
    ∧ (∀ s : State, s.dsu.loading = true → s.sys.state = .configCheck →
        (countFail s = none → Answers .dsuLoadEnd s (fun t => t.dsu.loading = false ∧ t.reg Reg.DSU_COUNT_CHECK = 0xC0000000 ∧ t.sys = s.sys))
          ∧ (∀ l, countFail s = some l → Answers .dsuLoadEnd s (fun t => t.sys.state = .maint ∧ t.reg Reg.SYS_SAFE_CAUSE = 0x0710)))
    ∧ (∀ (s : State) (l : Nat), l < 256 → (s.dleaf l).st = .stopping → (s.edge (l / 32)).st ≠ .localSafe →
        (eF s Reg.DSU_ESSC (l / 32) 31 16 ≤ (s.dleaf l).stopT →
            Answers (.ssTimeout l) s (fun t => (t.dleaf l).st = .torqueOff ∧ (t.edge (l / 32)).st = .localSafe ∧ (t.edge (l / 32)).cause = 0x0703
              ∧ (t.edge (l / 32)).tDoe = false))
          ∧ ((s.dleaf l).stopT < eF s Reg.DSU_ESSC (l / 32) 31 16 → Answers (.ssTimeout l) s (fun t => t = s)))
    ∧ (∀ (s : State) (l : Nat), l < 256 → (s.dleaf l).st = .unlocking → flagLF s l = false → flagIS s l = false → (∀ x ∈ unitLeaves s (l / 2), (s.leaf x).vel = 0) →
        (let lkT := 10 * eF s Reg.DSU_ETIM (l / 32) 31 24
         let opT := 100 * eF s Reg.DSU_ETIM (l / 32) 23 16
         (flagLK s l = true → lkT ≤ (s.dleaf l).timer → Answers (.lockTimeout l) s (fun t => (t.dleaf l).st = .fault))
          ∧ ((s.dleaf l).timer < lkT → Answers (.lockTimeout l) s (fun t => t = s))
          ∧ (flagLK s l = false ∨ (s.dleaf l).timer < lkT → opT ≤ (s.dleaf l).openT → Answers (.openTimeout l) s (fun t => (t.dleaf l).st = .fault))
          ∧ ((s.dleaf l).openT < opT → Answers (.openTimeout l) s (fun t => t = s))))
    ∧ (∀ (s : State) (e n : Nat), (s.edge e).closeT = some n →
        (100 * eF s Reg.DSU_ETIM e 15 8 ≤ n → Answers (.closeTimeout e) s (fun t => (t.edge e).closeT = none))
          ∧ (n < 100 * eF s Reg.DSU_ETIM e 15 8 → Answers (.closeTimeout e) s (fun t => t = s)))
    ∧ ∀ (s : State) (e : Nat), e < 8 → (s.edge e).st = .localSafe → (s.edge e).restoring = true → later s.sys.vcn (s.edge e).restVcn = true →
        ((s.edge e).newCause = true ∨ evTrip s e = true ∨ evSA s e = false → Answers (.restorationRelease e) s (fun t =>
            (t.edge e).st = .localSafe ∧ (t.edge e).restoring = false))
          ∧ ((s.edge e).newCause = false → evTrip s e = false → evSA s e = true → Answers (.restorationRelease e) s (fun t =>
            (t.edge e).st = .closing ∧ (t.edge e).restoring = true ∧ (t.edge e).cause = 0))

/-! ### The door buses and the safety networks (chapters 08 and 09) -/

/-- The door bus channel as it sends: a pending reference, order or door command frame of a channel that may send goes onto the bus as the
frame of its content, with the error state of the channel in its ESI bit; a busy bus withdraws the reference; without the seal no door command frame goes out (0x0805); a frame that ends well
is SENT, one that lost arbitration LOST; nothing is repeated. -/
def Obligations.DoorBusSends : Prop :=
  (∀ (s : State) (b : Nat), (s.bus b).txRef = .pending → (s.bus b).st = .master ∨ (s.bus b).st = .safeTx ∨ (s.bus b).st = .backup → (s.bus b).err ≠ 2 →
      (s.bus b).fly = none →
      Answers (.referenceSend b false) s (fun t => (t.bus b).fly = some .reference ∧ (t.bus b).out = (s.bus b).out ++ [{ refFrame s b with esi := (s.bus b).err == 1 }]
          ∧ (∀ x, x ≠ b → t.bus x = s.bus x) ∧ t = { s with dbc := t.dbc })
        ∧ Answers (.referenceSend b true) s (fun t => t.bus b = { s.bus b with txRef := .busBusy } ∧ (∀ x, x ≠ b → t.bus x = s.bus x) ∧ t = { s with dbc := t.dbc }))
    ∧ (∀ (s : State) (b : Nat), (s.bus b).st = .master ∨ (s.bus b).st = .safeTx → (s.bus b).err ≠ 2 →
        ((s.bus b).txOrd = .pending → Answers (.orderFrameSend b) s (fun t =>
            (t.bus b).fly = some .order ∧ (t.bus b).out = (s.bus b).out ++ [{ orderFrame s b with esi := (s.bus b).err == 1 }] ∧ t = { s with dbc := t.dbc }))
          ∧ ((s.bus b).txCmd = .pending → (s.bus b).st = .safeTx ∨ (s.bus b).sending.hasSeal = true → Answers (.doorCommandFrameSend b) s (fun t =>
            (t.bus b).fly = some .command ∧ (t.bus b).out = (s.bus b).out ++ [{ commandFrame s b with esi := (s.bus b).err == 1 }] ∧ t = { s with dbc := t.dbc }))
          ∧ ((s.bus b).txCmd = .pending → (s.bus b).st = .master → (s.bus b).sending.hasSeal = false → Answers (.doorCommandFrameSend b) s (fun t =>
            (t.bus b).txCmd = .notSealed ∧ (t.bus b).out = (s.bus b).out)))
    ∧ ∀ (s : State) (b tdcv : Nat),
        ((s.bus b).fly = none → ∀ r, Answers (.frameTxEnd b ⟨r, tdcv⟩) s (fun t => t = s))
          ∧ ((s.bus b).fly = some .order → (s.bus b).txOrd = .pending → Answers (.frameTxEnd b ⟨0, tdcv⟩) s (fun t => (t.bus b).txOrd = .sent ∧ (t.bus b).fly = none)
            ∧ Answers (.frameTxEnd b ⟨7, tdcv⟩) s (fun t => (t.bus b).txOrd = .lostArb ∧ (t.bus b).fly = none ∧ (t.bus b).out = (s.bus b).out))
          ∧ ((s.bus b).fly = some .command → (s.bus b).txCmd = .pending → Answers (.frameTxEnd b ⟨0, tdcv⟩) s (fun t =>
              (t.bus b).txCmd = .sent ∧ (t.bus b).cmdSent = true ∧ (t.bus b).fly = none))
          ∧ ((s.bus b).fly = some .reference → Answers (.frameTxEnd b ⟨0, tdcv⟩) s (fun t =>
              (t.bus b).txRef = .sent ∧ (t.bus b).sinceRef = some 0 ∧ (t.bus b).unack = 0 ∧ (t.bus b).bc = s.sys.vcn.toNat / 2 % 8))

/-- The door bus channel as it receives: a valid reference synchronises a listening or backup channel, silences one in SAFE_TX, and a
foreign normal reference takes a live module in MASTER to SAFE with 0x080B; a report of a declared unit in its window is taken into the
buffer; of an undeclared unit it is discarded and recorded with 0x0809 (a frame received counts in REC); the module's own identifiers heard
from elsewhere as MASTER are recorded; what the channel is not to hear changes nothing. -/
def Obligations.DoorBusReceives : Prop :=
  (∀ (s : State) (b ofs id : Nat) (bs : List Byte), bs.length = 12 → scrcOk b id bs = true → aliveOk s.sys.vcn bs = true → id = 0x10 ∨ id = 0x11 →
      (s.bus b).err ≠ 2 →
      ((s.bus b).st = .listen ∨ (s.bus b).st = .backup → Answers (.referenceRx b ofs id bs) s (fun t =>
          (t.bus b).sinceRef = some 0 ∧ (t.bus b).refOther = true ∧ (t.bus b).st = (s.bus b).st))
        ∧ ((s.bus b).st = .safeTx → Answers (.referenceRx b ofs id bs) s (fun t => (t.bus b).st = .silent ∧ (t.bus b).txOrd ≠ .pending ∧ (t.bus b).txCmd ≠ .pending))
        ∧ ((s.bus b).st = .master → id = 0x10 → s.live = true → Answers (.referenceRx b ofs id bs) s (fun t =>
            t.sys.state = .safe ∧ t.reg Reg.SYS_SAFE_CAUSE = 0x080B)))
    ∧ (∀ (s : State) (b u sof : Nat) (bs : List Byte), (s.bus b).hears = true →
        (uwDecl (uwin s b u) = true → ofLe ((bs.drop 10).take 2) = uwIdent (uwin s b u) → inWindow s b u sof = true → (reportOf s (sofVcn s b u sof) b u bs).codeOk = true →
            Answers (.reportRx b u sof bs) s (fun t => Tbl.get (t.bus b).buf u = reportOf s (sofVcn s b u sof) b u bs ∧ (∀ x, x ≠ u → Tbl.get (t.bus b).buf x = Tbl.get (s.bus b).buf x)
              ∧ t = { s with dbc := t.dbc, regs := t.regs, freeCtr := t.freeCtr }))
          ∧ (uwDecl (uwin s b u) = false → Answers (.reportRx b u sof bs) s (fun t => t = noteBus b 0x0809 (countFd b (rxGood b s)) ∧ t.dbc = (rxGood b s).dbc)))
    ∧ ∀ (s : State) (b id sof : Nat),
        ((s.bus b).hears = false → ∀ fd, Answers (.foreignFrameRx b id sof fd) s (fun t => t = s))
          ∧ ((s.bus b).hears = true → Answers (.foreignFrameRx b id sof false) s (fun t => t = countOther b (rxGood b s)))
          ∧ ((s.bus b).hears = true → (s.bus b).st = .master → Answers (.foreignFrameRx b 0x20 sof true) s (fun t => t = noteBus b 0x0809 (countFd b (rxGood b s))))

/-- The door bus channel's states and controls: error-passive and bus-off as they are reported, bus-off ending every pending frame and
calling for the edge's LOCAL_SAFE; the recovery resumes error-active; CANCEL withdraws pending frames; SLEEP is accepted of a master, and
the end of the matrix cycle sends the channel to sleep; WAKE sends the first of three wake frames from a channel that may send, the third
wakes a sleeping one (when it wakes is the model's reading, log entry 99), and a wake-up wakes a sleeping channel of an equipped bus; the
loading copy, with a new seal where it bore one, READY and the lock hold what is written. -/
def Obligations.DoorBusControls : Prop :=
  (∀ (s : State) (b : Nat),
      ((s.bus b).err = 0 → Answers (.dbcErrorPassive b) s (fun t => (t.bus b).err = 1))
        ∧ ((s.bus b).err ≠ 2 → Answers (.dbcBusOff b) s (fun t => (t.bus b).err = 2 ∧ (t.bus b).fly = none ∧ (t.bus b).txRef ≠ .pending
            ∧ (t.bus b).txOrd ≠ .pending ∧ (t.bus b).txCmd ≠ .pending ∧ (t.edge b).localReq = some ((s.edge b).localReq.getD 0x0804)))
        ∧ ((s.bus b).err = 2 → Answers (.busOffRecovery b) s (fun t => (t.bus b).err = 0 ∧ (t.bus b).st = (s.bus b).st
            ∧ t.regF (busReg Reg.DBC_ERR b) 31 24 = 0 ∧ t.regF (busReg Reg.DBC_ERR b) 23 15 = 0))
        ∧ ((s.bus b).fly = none → (s.bus b).txOrd = .pending → Answers (.dbcCancel b) s (fun t => (t.bus b).txOrd = .cancelled ∧ t = { s with dbc := t.dbc }))
        ∧ (sleepOk s b = true → (s.bus b).st = .master → Answers (.dbcSleep b) s (fun t => (t.bus b).sleepReq = true))
        ∧ (sleepOk s b = false → Answers (.dbcSleep b) s (fun t => t = noteBus b 0x080D s))
        ∧ ((s.bus b).sleepNext = true → (s.bus b).st = .master ∨ (s.bus b).st = .backup ∨ (s.bus b).st = .listen →
            Answers (.sleepEnter b) s (fun t => (t.bus b).st = .sleep ∧ (t.bus b).txRef = .none ∧ (t.bus b).txOrd = .none ∧ (t.bus b).txCmd = .none))
        ∧ ((s.bus b).mayWake = true → Answers (.dbcWake b) s (fun t => (t.bus b).wakes = 2 ∧ (t.bus b).out.length = (s.bus b).out.length + 1 ∧ (t.bus b).st = (s.bus b).st))
        ∧ ((s.bus b).mayWake = false → Answers (.dbcWake b) s (fun t => t = s) ∧ Answers (.wakeFrameRepeat b) s (fun t => t = s))
        ∧ ((s.bus b).mayWake = true → 0 < (s.bus b).wakes → Answers (.wakeFrameRepeat b) s (fun t => (t.bus b).wakes = (s.bus b).wakes - 1
            ∧ (t.bus b).out.length = (s.bus b).out.length + 1
            ∧ ((s.bus b).wakes = 1 → (s.bus b).st = .sleep → busEquipped s b = true → (t.bus b).st = wakeState s.sys.state)
            ∧ ((s.bus b).wakes ≠ 1 ∨ (s.bus b).st ≠ .sleep → (t.bus b).st = (s.bus b).st))))
    ∧ (∀ (s : State) (b id dlc : Nat) (d : Byte), (s.bus b).st = .sleep → s.regF (busReg Reg.DBC_CONF b) 29 28 = 0 →
        (busEquipped s b = true → Answers (.wakeDetect b true id dlc d) s (fun t => (t.bus b).st = wakeState s.sys.state))
          ∧ (busEquipped s b = false → Answers (.wakeDetect b true id dlc d) s (fun t => t = s)))
    ∧ ∀ (s : State) (b i : Nat) (w : Word), b < 8 →
        (bitAt w 0 = true → Answers (.dbcCready b w) s (fun t => t.regB (busReg Reg.DBC_CREADY b) 0 = true ∧ t = { s with regs := t.regs }))
          ∧ (i < 6 → Answers (.dbcLoadingCopyWrite b i w) s (fun t => t.reg (busReg Reg.DBC_CBLK_LO b + 4 * i) = w ∧ sealedOnly s t
              ∧ (s.regB (busReg Reg.DBC_CREADY b) 1 = false → t = { s with regs := t.regs })))
          ∧ (bitAt w 0 = true → Answers (.dbcLock b w) s (fun t => bitAt (t.reg (busReg Reg.DBC_LOCK b)) 0 = true ∧ t = { s with regs := t.regs }))

/-- The safety networks: a datagram from a declared source to the module's own address joins the port's staging memory; one from elsewhere
is counted and recorded with 0x0901, with the network in ARG; traffic that is not plain is counted alone; the A/B window's end counts a MISS; a lost base is dropped;
a connection whose content is RX_TMAX old is no longer fresh; a lost network is LOST, and the second takes a live module to SAFE with
0x0909; a restored one is UP; a slot marked READY in P1 holds its telegram but for the seal field, which is Mantle's; each acts only where
its time has elapsed; the lock, once set, stays. -/
def Obligations.SafetyNetworks : Prop :=
  (∀ (s : State) (pb : Bool) (ip dst : Word) (sp dp arr : Nat) (bs : List Byte), s.sys.cp.reset = false →
      Answers (.datagramRx pb false ip sp dst dp arr bs) s (fun t => t = countDrop pb s)
        ∧ (sourceCon s pb ip sp = none → Answers (.datagramRx pb true ip sp dst dp arr bs) s (fun t => t = note 0x0901 15 (bit pb) (countDrop pb s)))
        ∧ (∀ c, sourceCon s pb ip sp = some c → dst = s.reg (if pb then Reg.SNI_IPB else Reg.SNI_IPA) → dp = s.regF Reg.SNI_CONF 31 16 →
            (if pb then s.sni.stageB else s.sni.stageA).length < 128 → Answers (.datagramRx pb true ip sp dst dp arr bs) s (fun t =>
              (if pb then t.sni.stageB else t.sni.stageA) = (if pb then s.sni.stageB else s.sni.stageA) ++ [⟨c, bs, arr⟩] ∧ t = { s with sni := t.sni })))
    ∧ (∀ (s : State) (c : Nat),
        ((s.con c).owed = true → abWin s < since s.sys.vcn (s.con c).baseVcn → Answers (.abWindowExpiry c) s (fun t => (t.con c).owed = false
            ∧ (if (s.con c).basePortB then (t.con c).cntA.miss = min 0xFFFF ((s.con c).cntA.miss + 1) else (t.con c).cntB.miss = min 0xFFFF ((s.con c).cntB.miss + 1))))
          ∧ (since s.sys.vcn (s.con c).baseVcn ≤ abWin s → Answers (.abWindowExpiry c) s (fun t => t = s))
          ∧ (∀ h, (s.con c).heard = some h →
              ((s.con c).base.isSome = true → (s.con c).resyncT ≤ since s.sys.vcn h → Answers (.seqBaseDrop c) s (fun t => (t.con c).base = none ∧ (t.con c).owed = false))
                ∧ (since s.sys.vcn h < (s.con c).resyncT → Answers (.seqBaseDrop c) s (fun t => t = s)))
          ∧ Answers (.connectionStale c) s (fun t => (t.con c).fresh = freshNow s (s.con c) ∧ (∀ x, x ≠ c → t.con x = s.con x)
              ∧ (∀ d, contentAge s (s.con c) = some d → (s.con c).rxTmax ≤ d → (t.con c).fresh = false)))
    ∧ (∀ (s : State) (up : Bool),
        Answers (.phyLinkChange false up) s (fun t => t.sni.netA.link = up ∧ t.sni.netB = s.sni.netB)
          ∧ Answers (.phyLinkChange true up) s (fun t => t.sni.netB.link = up ∧ t.sni.netA = s.sni.netA)
          ∧ Answers .networkStateStart s (fun t => t.sni.netA.on = true ∧ t.sni.netB.on = true)
          ∧ (s.live = true → s.sni.netA.on = true → s.sni.netA.lost = false → netFails (s.regF Reg.SNI_NETT 15 0) s.sni.netA s.sni.netB = true →
              Answers (.networkLost false) s (fun t => t.sni.netA.lost = true ∧ (s.sni.netB.lost = false → t.sys = s.sys)
                ∧ (s.sni.netB.lost = true → t.sys.state = .safe ∧ t.reg Reg.SYS_SAFE_CAUSE = 0x0909)))
          ∧ (s.sni.netA.on = false ∨ netFails (s.regF Reg.SNI_NETT 15 0) s.sni.netA s.sni.netB = false → Answers (.networkLost false) s (fun t => t = s))
          ∧ (s.sni.netB.good < 1000 → Answers (.networkRestored true) s (fun t => t = s))
          ∧ (s.sni.netB.lost = true → 1000 ≤ s.sni.netB.good → Answers (.networkRestored true) s (fun t => t.sni.netB.lost = false ∧ t.sni.netA = s.sni.netA))
          ∧ (s.live = true → s.sni.netA.on = true ∨ s.sni.netB.on = true → s.sni.silentNoted = false → s.regF Reg.SNI_NETT 15 0 < silence s → Answers .netsSilent s (fun t => t.sni.silentNoted = true ∧ t.sys = s.sys)))
    ∧ ∀ (s : State) (m c : Nat) (bs : List Byte) (w : Word), m < 64 →
        (s.sys.phase = 1 → bs.length ≤ 320 → c < 136 → Answers (.sniTxcReady m c bs) s (fun t =>
            (∀ i, i < bs.length → i < 28 ∨ 32 ≤ i → (Tbl.get t.sni.tx m)[i]? = bs[i]?)
            ∧ t.reg (Reg.SNI_TXC + 4 * m) = word (2 ^ 31 + bs.length * 2 ^ 16 + c * 256)))
          ∧ (s.sys.phase ≠ 1 → Answers (.sniTxcReady m c bs) s (fun t => t = note 0x0910 0 0 s))
          ∧ (bitAt w 0 = true → Answers (.sniLock w) s (fun t => bitAt (t.reg Reg.SNI_LOCK) 0 = true ∧ t = { s with regs := t.regs }))

/-! ### The command front end and the field inputs and outputs (chapters 10 and 11) -/

/-- The command front end: a fed telegram outside P1 is recorded with 0x100C and changes nothing else, and one in P1 of another state than
ACTIVE changes nothing; POP, where the runtime pops packets (P1 before its launch, no hand-over), takes the head packet, whose tag becomes
ACTIVE, up to 32 in a VC, and it is applied, and elsewhere it changes nothing; a posted reply of an
ACTIVE tag is queued for its host; OUTSEL selects, OUTPOP removes the head reply; the load window opens in P4 of CONFIG_CHECK, JOIN and
BANKED, its end recounts the credits; the recount keeps the state where the counts hold, and takes a live module to SAFE with 0x1008 where
they do not; the lock stands. -/
def Obligations.CommandFrontEnd : Prop :=
  (∀ (s : State) (pb : Bool) (k h : Nat),
      (s.sys.phase ≠ 1 → Answers (.cmdFeed pb k h) s (fun t => t = note 0x100C 0 0 s ∧ recordedOnly s t))
        ∧ (s.sys.phase = 1 → s.sys.state ≠ .active → Answers (.cmdFeed pb k h) s (fun t => t = s))
        ∧ (s.sys.phase = 1 → s.sys.state = .active → Answers (.cmdFeed pb k h) s (fun t =>
            t = feedBody 20 (h % 8) (((feedCopy pb k s).drop 32).take ((feedCopy pb k s).length - 36)) s)))
    ∧ (∀ (s : State) (w : Word) (p : Pkt) (ps : List Pkt), s.cmd.queue = p :: ps → (s.tag p.tag).st = .queued → s.cmd.handed < 32 → s.sys.state = .active →
        (popsNow s = false → Answers (.cmdPop w) s (fun t => t = s)) ∧ (popsNow s = true →
        (bitAt w 0 = true → Answers (.cmdPop w) s (fun t => ∃ u : State, t = applyPacket p u ∧ (u.tag p.tag).st = .active ∧ u.cmd.queue = ps
            ∧ u.cmd.handed = s.cmd.handed + 1 ∧ u = { s with cmd := u.cmd }))
          ∧ (bitAt w 0 = false → Answers (.cmdPop w) s (fun t => t = s))))
    ∧ (∀ (s : State) (w : Word), bitAt w 0 = true → replyHeaderOk (Tbl.getList s.cmd.rbuf 0 256) = true →
        Answers (.cmdRply w) s (fun t => t = postBytes ((Tbl.getList s.cmd.rbuf 0 256).take (16 + halfAt (Tbl.getList s.cmd.rbuf 0 256) 6)) s))
    ∧ (∀ (s : State) (w : Word), bitAt w 0 = true → replyHeaderOk (Tbl.getList s.cmd.rbuf 0 256) = false →
        Answers (.cmdRply w) s (fun t => t.regF Reg.CMD_RSTAT 27 24 = 2 ∧ t = { s with regs := t.regs }))
    ∧ (∀ (s : State) (h : Nat), h < 8 → Answers (.cmdOutsel h) s (fun t => t = { s with cmd := { s.cmd with outSel := h } }))
    ∧ (∀ (s : State) (w : Word), bitAt w 0 = true → Answers (.cmdOutpop w) s (fun t =>
        Tbl.get t.cmd.out s.cmd.outSel = (Tbl.get s.cmd.out s.cmd.outSel).drop 1 ∧ (∀ x, x ≠ s.cmd.outSel → Tbl.get t.cmd.out x = Tbl.get s.cmd.out x)))
    ∧ (∀ s : State, (s.sys.phase = 4 → s.sys.state = .configCheck ∨ s.sys.state = .join ∨ s.sys.state = .banked →
          Answers .cmdLoadBegin s (fun t => t = { s with cmd := { s.cmd with loading := true } }))
        ∧ (s.cmd.loading = true → creditsOk (recountCredits s) = true → Answers .cmdLoadEnd s (fun t => t.cmd.loading = false ∧ t.cmd.creditOk = true
            ∧ t.cmd.nHeld = countTags s (· == .held) ∧ t = { s with cmd := t.cmd })))
    ∧ (∀ s : State, (creditsOk s = true → Answers .creditRecount s (fun t => t = { s with cmd := { s.cmd with creditOk := true } }))
        ∧ (creditsOk s = false → s.live = true → Answers .creditRecount s (enteredSafe 0x1008 s)))
    ∧ ∀ (s : State) (w : Word), bitAt w 0 = true → Answers (.cmdLock w) s (fun t => t.regB Reg.CMD_LOCK 0 = true
        ∧ ∀ i, i < 256 → inAnyShare t i = true → (t.tag i).st ≠ .free)

/-- The field inputs: a filtered value of path A or B stands at once, and an undeclared input that is energised is recorded with 0x0A06 on
path A; an input whose paths have differed for DISC_T VC has its discrepancy bit and 0x0A05; a feed that leaves OK for a state other than
LOW opens both its groups; LOW is recorded alone; a recovered feed is OK; a contact supply's limit and recovery set and clear the supply's own bit. -/
def Obligations.FieldInputs : Prop :=
  (∀ (s : State) (i : Nat) (v : Bool),
      (i < 64 → Answers (.inputFilterChange true i v) s (fun t => bitAt t.fio.filtB i = v ∧ t = { s with fio := { s.fio with filtB := t.fio.filtB } }))
        ∧ (i < 96 → inDeclared i s = true → Answers (.inputFilterChange false i v) s (fun t =>
            bitAt t.fio.filtA i = v ∧ t = { s with fio := { s.fio with filtA := t.fio.filtA } }))
        ∧ (i < 96 → inDeclared i s = false → v = true → bitAt s.fio.undeclared i = false → Answers (.inputFilterChange false i v) s (fun t =>
            bitAt t.fio.undeclared i = true ∧ bitAt t.fio.filtA i = v ∧ t.evr = (note 0x0A06 9 i { s with fio := t.fio }).evr)))
    ∧ (∀ (s : State) (i : Nat), i < 64 → discT s ≤ Tbl.get s.fio.differ i → inDiffers i s = true → bitAt s.fio.disc i = false →
        Answers (.inputDiscrepancy i) s (fun t => bitAt t.fio.disc i = true ∧ t.sys = s.sys))
    ∧ (∀ (s : State) (f st : Nat), f < 6 → Tbl.get s.fio.feed f = 0 →
        (Answers (.feedStateChange f 1) s (fun t => Tbl.get t.fio.feed f = 1 ∧ t.fio.feedOpen = s.fio.feedOpen))
          ∧ (2 ≤ st → st < 5 → Answers (.feedStateChange f st) s (fun t => Tbl.get t.fio.feed f = st ∧ bitAt t.fio.feedOpen (2 * f) = true
              ∧ bitAt t.fio.feedOpen (2 * f + 1) = true ∧ (∀ n, n < 8 → bitAt t.fio.on (8 * f + n) = false ∧ bitAt t.fio.nextOn (8 * f + n) = false))))
    ∧ (∀ (s : State) (f : Nat), f < 6 →
        Answers (.feedRecovery f) s (fun t => Tbl.get t.fio.feed f = 0 ∧ t = { s with fio := { s.fio with feed := t.fio.feed } }))
    ∧ ∀ (s : State) (k : Nat), k < 8 →
        (let others (t : State) : Prop := (∀ j, j ≠ k → bitAt t.fio.contact j = bitAt s.fio.contact j)
           ∧ t = { s with fio := { s.fio with contact := t.fio.contact } }
         Answers (.contactSupplyLimit k) s (fun t => bitAt t.fio.contact k = true ∧ others t)
          ∧ Answers (.contactSupplyRecovery k) s (fun t => bitAt t.fio.contact k = false ∧ others t))

/-- The field outputs: in P3 of ACTIVE the first commit with its code is taken (off at once, on at the next VC start), with the STO pairs as
the runtime commands them (the model's reading, log entry 119); one with a wrong code or a second one takes the module to SAFE with 0x0A0F;
outside ACTIVE the outputs stay as they are; the on delay switches what is due; a detection on an output that has none opens its group and
stands with its code; three VC in ACTIVE without a commit are the silent state; a group that is held for no fault is restored on the key. -/
def Obligations.FieldOutputs : Prop :=
  (∀ (s : State) (w0 w1 code : Word), s.sys.state = .active → s.sys.phase = 3 →
      (code = commitCode s.sys.vcn w0 (w1 &&& 0x0FFFFFFF#32) → s.fio.commits = 0 → Answers (.outputCommit w0 w1 code) s (fun t =>
          t.fio.committed = true ∧ t.fio.nextOn = takenOn (commitWords w0 w1 s).1 ((commitWords w0 w1 s).2 &&& 0x0FFFFFFF#32) s
            ∧ t.fio.nextGrp = takenGrp ((commitWords w0 w1 s).2 &&& 0x0FFFFFFF#32) s ∧ t.fio.on = s.fio.on &&& t.fio.nextOn ∧ t.sys = s.sys))
        ∧ (code ≠ commitCode s.sys.vcn w0 (w1 &&& 0x0FFFFFFF#32) ∨ 0 < s.fio.commits → Answers (.outputCommit w0 w1 code) s (fun t =>
            t.sys.state = .safe ∧ t.reg Reg.SYS_SAFE_CAUSE = 0x0A0F ∧ t.fio.grp = 0 ∧ (s.fio.silent = false → t.fio.on = 0))))
    ∧ (∀ (s : State) (w0 w1 code : Word), s.sys.state ≠ .active → Answers (.outputCommit w0 w1 code) s (fun t => t.fio = s.fio ∧ t = { s with regs := t.regs }))
    ∧ (∀ s : State, Answers .outputOnDelay s (fun t => t.fio.on = s.fio.on ||| s.fio.dueOn ∧ t.fio.dueOn = 0 ∧ t = { s with fio := t.fio }))
    ∧ (∀ s : State, s.sys.state = .active → 3 ≤ s.fio.idle → s.fio.silent = false → Answers .silentState s (fun t =>
        t.fio.silent = true ∧ t.sys.state = .safe ∧ t.reg Reg.SYS_SAFE_CAUSE = 0x0A10))
    ∧ (∀ s : State, Answers (.testPulse false) s (fun t => t.fio.pulse = 0 ∧ t = { s with fio := t.fio })
        ∧ Answers (.testPulse true) s (fun t => t = { s with fio := t.fio } ∧ ∀ n, n < 48 → bitAt t.fio.pulse n = true → pinOn n s = true ∧ bitAt (oConf n s) 22 = true))
    ∧ (∀ (s : State) (n : Nat), n < 48 → field (oFlt (parLow n s) s) 27 24 = 0 →
        (let opened (t : State) : Prop := bitAt t.fio.faultOpen (parLow n s / 4) = true ∧ bitAt t.fio.grp (parLow n s / 4) = false
         (bitAt s.fio.pulse n = true → pinOn n s = true → Answers (.pulseMissing n) s (fun t => opened t ∧ field (oFlt (parLow n s) t) 31 24 = 0x11))
          ∧ (bitAt s.fio.pulse n = false ∨ pinOn n s = false → Answers (.pulseMissing n) s (fun t => t = s))
          ∧ (oDeclared n s = true → expected n s = false → Answers (.offReadsHigh n) s (fun t => opened t ∧ field (oFlt (parLow n s) t) 31 24 = 0x21))
          ∧ (expected n s = true → Answers (.outputLow n) s (fun t => opened t ∧ field (oFlt (parLow n s) t) 31 24 = 0x35))))
    ∧ (∀ (s : State) (n : Nat), oDeclared n s = false → Answers (.undeclaredOutputEnergised n) s (fun t => t = note 0x0A0E 10 n s))
    ∧ (∀ (s : State) (n p : Nat), n < 48 → p < 48 → field (oFlt (parLow n s) s) 27 24 = 1 →
        Answers (.classificationResult n 2 p) s (fun t => field (oFlt (parLow n s) t) 27 24 = 2 ∧ field (oFlt (parLow n s) t) 21 16 = 0x3F)
          ∧ Answers (.classificationResult n 3 p) s (fun t => field (oFlt (parLow n s) t) 27 24 = 3 ∧ field (oFlt (parLow n s) t) 21 16 = p
            ∧ bitAt t.fio.faultOpen (p / 4) = true))
    ∧ ∀ (s : State) (w : Word),
        (field w 31 16 = 0x6A0C → ∀ g, g < 12 → bitAt w g = true → bitAt s.fio.held g = true → bitAt s.fio.faultOpen g = false → Tbl.get s.fio.feed (g / 2) = 0 →
            Answers (.fioGrestore w) s (fun t => bitAt t.fio.restore g = true))
          ∧ (field w 31 16 ≠ 0x6A0C → Answers (.fioGrestore w) s (fun t => t = note 0x0A16 0 0 s ∧ recordedOnly s t))
          ∧ (bitAt w 0 = true → Answers (.fioLock w) s (fun t => t.regB Reg.FIO_LOCK 0 = true ∧ t = { s with regs := t.regs }))

/-! ### Check-value units, mailboxes, observation (chapters 12, 13 and 18) -/

/-- The check-value units. START opens a stream with the folds fed from INIT; a data write feeds its bytes to the CRC register, and in CHECK
mode withholds the last ones of the check length; FINISH reflects and XORs, forms the check bytes in APPEND and compares them in CHECK;
ABORT discards; a control or data write to a closed stream, or with no single bit, is 0x0B03; a write of a parameter or of a valid CONF
takes effect and discards an open stream with 0x0B02, an invalid CONF is refused with 0x0B01; a failed unit ignores every write; and no
command changes another unit. -/
def Obligations.CheckUnits : Prop :=
  (∀ (s : State) (u : Nat) (w : Word) (p : Nat), (s.unitC u).failed = true →
      ∀ c ∈ [Instr.cvuStart u, .cvuFinish u, .cvuAbort u, .cvuCtrlInvalid u, .cvuData8 u w, .cvuData16 u w, .cvuData32 u w, .cvuConf u w,
        .cvuParamWrite u p w], Answers c s (fun t => t = s))
    ∧ (∀ (s : State) (u : Nat), (s.unitC u).failed = false →
        let s' := if (s.unitC u).open_ then cvuNote u 0x0B02 s else s
        Answers (.cvuStart u) s (fun t => (t.unitC u).open_ = true ∧ (t.unitC u).done = false ∧ (t.unitC u).count = 0 ∧ (t.unitC u).held = []
          ∧ (t.unitC u).crc = (cvuFold u s').foldl (cvuFeed u s') (lowBits (cvuW u s') (cvuPair u Reg.CVU_INIT_LO s'))
          ∧ (∀ j, j ≠ u → t.unitC j = s.unitC j) ∧ t.regs = s'.regs ∧ t.sys = s.sys))
    ∧ (∀ (s : State) (u : Nat) (w : Word), (s.unitC u).failed = false → (s.unitC u).open_ = false →
        ∀ c ∈ [Instr.cvuFinish u, .cvuAbort u, .cvuCtrlInvalid u, .cvuData8 u w, .cvuData16 u w, .cvuData32 u w],
          Answers c s (fun t => t = cvuNote u 0x0B03 s))
    ∧ (∀ (s : State) (u : Nat), (s.unitC u).failed = false → Answers (.cvuCtrlInvalid u) s (fun t => t = cvuNote u 0x0B03 s))
    ∧ (∀ (s : State) (u : Nat) (w : Word), (s.unitC u).failed = false → (s.unitC u).open_ = true →
        let bs (len : Nat) : List Byte := foldBytes (bitAt (cvuConf u s) 26) len w
        let only (t : State) : Prop := (∀ j, j ≠ u → t.unitC j = s.unitC j) ∧ t = { s with cvu := t.cvu }
        let fed (len : Nat) (t : State) : Prop :=
          (t.unitC u).crc = (bs len).foldl (cvuFeed u s) (s.unitC u).crc ∧ (t.unitC u).held = (s.unitC u).held ∧ only t
        let withheld (len : Nat) (t : State) : Prop :=
          let all := (s.unitC u).held ++ bs len
          (t.unitC u).crc = (all.take (all.length - checkLen u s)).foldl (cvuFeed u s) (s.unitC u).crc
            ∧ (t.unitC u).held = all.drop (all.length - checkLen u s) ∧ only t
        (field (cvuConf u s) 31 30 ≠ 2 → Answers (.cvuData8 u w) s (fed 1) ∧ Answers (.cvuData16 u w) s (fed 2)
            ∧ Answers (.cvuData32 u w) s (fed 4))
          ∧ (field (cvuConf u s) 31 30 = 2 → (s.unitC u).held.length ≤ checkLen u s → Answers (.cvuData8 u w) s (withheld 1)
            ∧ Answers (.cvuData16 u w) s (withheld 2) ∧ Answers (.cvuData32 u w) s (withheld 4)))
    ∧ (∀ (s : State) (u : Nat), (s.unitC u).failed = false → (s.unitC u).open_ = true →
        let crc := (s.unitC u).crc
        let r := (if bitAt (cvuConf u s) 27 then reflect (cvuW u s) crc else crc) ^^^ lowBits (cvuW u s) (cvuPair u Reg.CVU_XOR_LO s)
        Answers (.cvuFinish u) s (fun t => (t.unitC u).result = r ∧ (t.unitC u).done = true ∧ (t.unitC u).open_ = false
          ∧ (field (cvuConf u s) 31 30 = 1 → (t.unitC u).append = packBytes (checkBytes u s r))
          ∧ (field (cvuConf u s) 31 30 = 2 → (s.unitC u).held.length < checkLen u s → (t.unitC u).short = true ∧ (t.unitC u).matched = false)
          ∧ (field (cvuConf u s) 31 30 = 2 → checkLen u s ≤ (s.unitC u).held.length →
              (t.unitC u).check = packBytes (if bitAt (cvuConf u s) 29 then (s.unitC u).held.reverse else (s.unitC u).held)
                ∧ (t.unitC u).matched = ((t.unitC u).check == r))
          ∧ (bitAt (cvuConf u s) 20 = false → t.regs = s.regs)
          ∧ (bitAt (cvuConf u s) 20 = true →
              cvuReg u Reg.CVU_FALIVE t = putField (cvuReg u Reg.CVU_FALIVE s) (if bitAt (cvuConf u s) 21 then 15 else 7) 0
                (field (cvuReg u Reg.CVU_FALIVE s) (if bitAt (cvuConf u s) 21 then 15 else 7) 0 + 1))
          ∧ (∀ j, j ≠ u → t.unitC j = s.unitC j))
        ∧ Answers (.cvuAbort u) s (fun t => t = cvuDiscard u s ∧ (t.unitC u).open_ = false ∧ (t.unitC u).done = false))
    ∧ ∀ (s : State) (u : Nat) (w : Word), (s.unitC u).failed = false →
        let s' := if (s.unitC u).open_ then cvuDiscard u s else s
        (field w 6 0 = 0 ∨ 64 < field w 6 0 ∨ field w 31 30 = 3 → Answers (.cvuConf u w) s (fun t => t = cvuNote u 0x0B01 s))
          ∧ (field w 6 0 ≠ 0 → field w 6 0 ≤ 64 → field w 31 30 ≠ 3 → Answers (.cvuConf u w) s (fun t => cvuConf u t = w &&& 0xFFF0007F#32
              ∧ t = s'.setReg (Reg.CVU_CONF + 0x100 * u) (w &&& 0xFFF0007F#32)))
          ∧ (∀ p, p < 7 → Answers (.cvuParamWrite u p w) s (fun t => cvuReg u (Reg.CVU_POLY_LO + 4 * p) t = w
              ∧ t = s'.setReg (Reg.CVU_POLY_LO + 4 * p + 0x100 * u) w))
          ∧ Answers (.cvuParamWrite u 7 w) s (fun t => cvuReg u Reg.CVU_FALIVE t = w &&& 0xFFFF#32
              ∧ t = s'.setReg (Reg.CVU_FALIVE + 0x100 * u) (w &&& 0xFFFF#32))

/-- Mailboxes: the sender's post replaces what stands in the channel, marks it POSTED with the current sender epoch and clears the
acknowledgement, and a post over an unread message counts a collision with 0x0C02; the receiver's take empties the channel, TAKEN on a long
mailbox, and answers the doorbell or the last word; the return code is accepted in TAKEN alone, otherwise 0x0C04; a length out of range and
an access of the wrong endpoint are 0x0C01 with no message changed, and the firewall blocks a processor's access to a channel of which it is
no endpoint with 0x0109. A processor that is held in reset makes no access. -/
def Obligations.Mailboxes : Prop :=
  (let runs (s : State) : Prop := s.sys.cp.reset = false ∧ s.sys.sp.reset = false
   let denied (who c : Nat) (s t : State) : Prop := t.mbx = s.mbx ∧ (mbReaches who c = true → t = mbRefused c s)
     ∧ (mbReaches who c = false → t = (note 0x0109 0 0 s).answerRead 0)
   (∀ (s : State) (c : Nat) (v : Word), runs s → c < 8 →
      (Answers (.mbxDbellPost (mbSender c) c v) s (fun t => (t.chan c).st = .posted ∧ (t.chan c).full = true ∧ (t.chan c).dbell = v
          ∧ (t.chan c).mepoch = (s.chan c).sepoch ∧ (t.chan c).coll = (if (s.chan c).full then min 0xFFFF ((s.chan c).coll + 1) else (s.chan c).coll)
          ∧ (∀ j, j ≠ c → t.chan j = s.chan j) ∧ ((s.chan c).full = false → t = { s with mbx := t.mbx })
          ∧ (t.chan c).len = 1 ∧ ((s.chan c).full = true → (t.chan c).torn = ((s.chan c).torn || (s.chan c).partRead))
          ∧ ((s.chan c).full = true → t.regB (Reg.MBX_CEVENT + 0x400 * c) 0 = true ∧ ∃ s1, t = mbNote c 0x0C02 s1)))
        ∧ (∀ who, who ≠ mbSender c → Answers (.mbxDbellPost who c v) s (denied who c s))
        ∧ Answers (.mbxDbellTake (mbReceiver c) c) s (fun t => t.sys.rdata = (s.chan c).dbell ∧ (t.chan c).dbell = 0
            ∧ ((s.chan c).full = true → (t.chan c).full = false ∧ (t.chan c).st = .empty ∧ (t.chan c).torn = false) ∧ (∀ j, j ≠ c → t.chan j = s.chan j))
        ∧ ∀ who, who ≠ mbReceiver c → Answers (.mbxDbellTake who c) s (denied who c s))
    ∧ (∀ (s : State) (c len : Nat) (ws : List Word), runs s → 8 ≤ c → c < 16 →
        (1 ≤ len → len ≤ ws.length → ws.length ≤ mbLimit c → Answers (.mbxSend (mbSender c) c len ws) s (fun t =>
            (t.chan c).st = .posted ∧ (t.chan c).full = true ∧ (t.chan c).len = len ∧ Tbl.getList (t.chan c).rx 0 len = ws.take len
              ∧ (t.chan c).ackTaken = false ∧ (t.chan c).ackDone = false ∧ (t.chan c).rcode = 0
              ∧ (t.chan c).mepoch = (s.chan c).sepoch
              ∧ ((s.chan c).full = true → (t.chan c).torn = ((s.chan c).torn || (s.chan c).partRead) ∧ (t.chan c).coll = min 0xFFFF ((s.chan c).coll + 1)
                ∧ t.regB (Reg.MBX_CEVENT + 0x400 * c) 0 = true ∧ ∃ s1, t = mbNote c 0x0C02 s1)))
          ∧ (len = 0 ∨ mbLimit c < len → Answers (.mbxSend (mbSender c) c len ws) s (fun t => (t.chan c).rx = (s.chan c).rx
              ∧ (t.chan c).full = (s.chan c).full ∧ ∃ s1, t = note 0x0C01 13 c s1))
          ∧ (∀ who, who ≠ mbSender c → Answers (.mbxSend who c len ws) s (denied who c s)))
    ∧ (∀ (s : State) (c : Nat), runs s → 8 ≤ c → c < 16 →
        ((s.chan c).full = true → Answers (.mbxTake (mbReceiver c) c) s (fun t => (t.chan c).full = false ∧ (t.chan c).torn = false
            ∧ (t.chan c).st = (if 12 ≤ c then .taken else .empty) ∧ ((t.chan c).ackTaken = ((s.chan c).ackTaken || decide (12 ≤ c)))
            ∧ t.sys.rdata = Tbl.get (s.chan c).rx ((s.chan c).len - 1) ∧ (∀ j, j ≠ c → t.chan j = s.chan j)))
          ∧ ∀ who, who ≠ mbReceiver c → Answers (.mbxTake who c) s (denied who c s))
    ∧ (∀ (s : State) (c r : Nat), runs s → 12 ≤ c → c < 16 →
        ((s.chan c).st = .taken → Answers (.mbxRcodeWrite (mbReceiver c) c r) s (fun t =>
            (t.chan c).st = .acked ∧ (t.chan c).ackDone = true ∧ (t.chan c).rcode = r % 65536 ∧ t = { s with mbx := t.mbx }))
          ∧ ((s.chan c).st ≠ .taken → Answers (.mbxRcodeWrite (mbReceiver c) c r) s (fun t => t = note 0x0C04 13 c s ∧ t.mbx = s.mbx))
          ∧ ∀ who, who ≠ mbReceiver c → Answers (.mbxRcodeWrite who c r) s (denied who c s))
    ∧ ∀ (s : State) (who c len r : Nat) (v : Word) (ws : List Word), agentRuns who s = false →
        Answers (.mbxDbellPost who c v) s (fun t => t = s) ∧ Answers (.mbxDbellTake who c) s (fun t => t = s)
          ∧ Answers (.mbxSend who c len ws) s (fun t => t = s) ∧ Answers (.mbxTake who c) s (fun t => t = s)
          ∧ Answers (.mbxRcodeWrite who c r) s (fun t => t = s))

/-- Observation: at a write of a selection the counters move on to the present; the selection then names an event up to 71, its counter cleared
on CLR and kept without it, and every other counter stays; above 71 the write is refused with 0x1101. A mark of 1–15 in P1 opens its segment,
any other is 0x1102; the tagging control is refused for an exponent out of 4–20, and draws an interval where it enables; the generator takes
a seed, of which 0 reads 1, and draws. A tagged instruction leaves its record while tagging is on, one that the link has not carried is
counted as lost, and the generator moves on. A wrap of a class A event clears the counter in every live region and sets its overflow bit
there, one of a class T event in one region (which one is free, the model's choice, log entry 47); a programmable counter wraps only while it
is enabled, and of an event that is a command of this model the counter wraps as it counts. -/
def Obligations.ObservationBlock : Prop :=
  (∀ (s : State) (k : Nat) (w : Word), k < 8 →
      (field w 6 0 ≤ 71 → Answers (.obsPsel k w) s (fun t => psel t k = w &&& 0x8000007F#32
          ∧ (∀ r, r < 3 → (t.obsOf r).prg.getD k 0 = (if bitAt w 30 then 0 else ((obsRun s).obsOf r).prg.getD k 0)
            ∧ (∀ j, j ≠ k → (t.obsOf r).prg.getD j 0 = ((obsRun s).obsOf r).prg.getD j 0) ∧ (t.obsOf r).fix = ((obsRun s).obsOf r).fix)
          ∧ (∀ a, a ≠ Reg.OBS_PSEL + 4 * k → t.reg a = s.reg a) ∧ t = { obsRun s with obs := t.obs, regs := t.regs }))
        ∧ (71 < field w 6 0 → Answers (.obsPsel k w) s (fun t => t = note 0x1101 0 0 s ∧ recordedOnly s t)))
    ∧ (∀ (s : State) (w : Word),
        (s.sys.phase = 1 → 1 ≤ field w 3 0 → Answers (.obsMark w) s (fun t => t = { s with obs := { s.obs with seg := field w 3 0, segs := setBit s.obs.segs (field w 3 0) true } }))
          ∧ (s.sys.phase ≠ 1 ∨ field w 3 0 = 0 → Answers (.obsMark w) s (fun t => t = note 0x1102 0 0 s ∧ recordedOnly s t))
          ∧ (4 ≤ field w 12 8 → field w 12 8 ≤ 20 → Answers (.obsTagctl w) s (fun t => t.regB Reg.OBS_TAGCTL 0 = bitAt w 0
              ∧ t.regF Reg.OBS_TAGCTL 12 8 = field w 12 8 ∧ t.regF Reg.OBS_TAGCTL 31 16 = s.regF Reg.OBS_TAGCTL 31 16
              ∧ t.obs.tagLeft = (if bitAt w 0 then Config.tagInterval s.obs.tagGen (field w 12 8) else s.obs.tagLeft)
              ∧ t = { s with regs := t.regs, obs := { s.obs with tagLeft := t.obs.tagLeft } }))
          ∧ (field w 12 8 < 4 ∨ 20 < field w 12 8 → Answers (.obsTagctl w) s (fun t => t = note 0x1101 0 0 s))
          ∧ Answers (.obsTagseed w) s (fun t => t.reg Reg.OBS_TAGSEED = (if w = 0 then 1 else w)
              ∧ t = { s with regs := t.regs, obs := { s.obs with
                tagGen := t.reg Reg.OBS_TAGSEED, tagLeft := Config.tagInterval (t.reg Reg.OBS_TAGSEED) (s.regF Reg.OBS_TAGCTL 12 8) } }))
    ∧ (∀ (s : State) (pc : Word) (cl sl fi ir st : Nat),
        (s.regB Reg.OBS_TAGCTL 0 = false → Answers (.instructionTag pc cl sl fi ir st) s (fun t => t = s))
          ∧ (s.regB Reg.OBS_TAGCTL 0 = true → Answers (.instructionTag pc cl sl fi ir st) s (fun t =>
              t.reg Reg.OBS_TAGREC = pc ∧ t.reg (Reg.OBS_TAGREC + 12) = s.sys.vcn &&& 0xFFFF#32 ∧ t.obs.tagValid = true ∧ t.obs.tagRead = false
                ∧ (s.obs.tagValid = true → s.obs.tagRead = false → t.regF Reg.OBS_TAGCTL 31 16 = min 0xFFFF (s.regF Reg.OBS_TAGCTL 31 16 + 1))
                ∧ t.obs.tagGen = Config.tagNext s.obs.tagGen ∧ t = { s with obs := t.obs, regs := t.regs })))
    ∧ ∀ (s : State) (n : Nat),
        let e := if n < 48 then n else field (psel s (n - 48)) 6 0
        let counts : Bool := decide (n < 48) || bitAt (psel s (n - 48)) 31
        (n < 56 → obsOwn e = false → counts = true →
            (obsClassT e = false → Answers (.counterWrap n) s (fun t =>
              (∀ r, r < 3 → t.obsOf r = if obsOut s r then s.obsOf r else (s.obsOf r).wrapped n)
                ∧ (∀ r, r < 3 → obsOut s r = false → bitAt (t.obsOf r).ovf n = true
                  ∧ (n < 48 → (t.obsOf r).fix.getD n 0 = 0) ∧ (48 ≤ n → (t.obsOf r).prg.getD (n - 48) 0 = 0))
                ∧ t = { s with obs := t.obs, freeCtr := s.freeCtr + 1 }))
            ∧ (obsClassT e = true → Answers (.counterWrap n) s (fun t => (∃ r, r < 3 ∧ t.obsOf r = (s.obsOf r).wrapped n
                ∧ ∀ q, q < 3 → q ≠ r → t.obsOf q = s.obsOf q) ∧ t = { s with obs := t.obs, freeCtr := s.freeCtr + 1 })))
          ∧ (56 ≤ n ∨ obsOwn e = true ∨ counts = false → Answers (.counterWrap n) s (fun t => t = s))

/-! ### The recorder and the journal (chapter 14) -/

/-- Low-level records. A request that repeats the newest record takes no slot and no RSEQ: word 5 alone is rewritten with REPEAT + 1 and its
complement. Any other takes the next slot, modulo 98,304, and the next RSEQ, and its eight words stand there; an open newest record is first
staged as a LOWCOPY. While the start scan runs a request is held, or dropped where its writer's places are taken; EVR's own requests are held. A runtime record beyond 64
in a VC is dropped and counted. At the end of REP_WIN the newest record is closed and its RSEQ is the copied mark. The time checkpoint goes,
1,000 ms after the last, to the next of its slots with its mark; the scan ends with the count of invalid slots and no request held; the lock
stands. -/
def Obligations.LowLevelRecords : Prop :=
  (∀ (s : State) (n : LowRec) (src code : Nat) (arg : Word), s.evr.scanDone = true → s.evr.newest = some n → n.open_ = true →
      n.code = code → n.src = src → n.arg = arg → n.rep + 1 < 0xFFFF → s.evr.ms - n.ms < s.regF Reg.EVR_CONF 31 16 →
      1 ≤ src → src ≤ 3 → Tbl.get s.evr.drops src = 0 → n.slot < 98304 →
      Answers (.recordRequest src code arg) s (fun t =>
        t.mramGet (ringOff n.slot + 20) 4 = le2 (n.rep + 1) ++ le2 (0xFFFF - (n.rep + 1))
          ∧ (∀ a, a < ringOff n.slot + 20 ∨ ringOff n.slot + 24 ≤ a → Tbl.get t.mram a = Tbl.get s.mram a)
          ∧ t.evr = { s.evr with newest := some { n with rep := n.rep + 1 } } ∧ t = { s with evr := t.evr, mram := t.mram }))
    ∧ (∀ (s : State) (src code : Nat) (arg : Word), s.evr.scanDone = true → repeats ⟨src, code, arg⟩ s = false →
        1 ≤ src → src ≤ 3 → Tbl.get s.evr.drops src = 0 → s.evr.lostCnt = 0 → s.evr.fill + 56 ≤ 262144 → s.evr.slot < 98304 →
        Answers (.recordRequest src code arg) s (fun t =>
          t.mramGet (ringOff s.evr.slot) 32 = (lowWords s.evr ⟨src, code, arg⟩ s.sys.vcn).flatMap le4
            ∧ (∀ a, a < 0x20 ∨ (0x40 ≤ a ∧ a < ringOff s.evr.slot) ∨ ringOff s.evr.slot + 32 ≤ a → Tbl.get t.mram a = Tbl.get s.mram a)
            ∧ t.evr.rseq = s.evr.rseq + 1 ∧ t.evr.slot = (s.evr.slot + 1) % 98304
            ∧ t.evr.newest = some { rseq := s.evr.rseq, slot := s.evr.slot, code := code, src := src, arg := arg, ms := s.evr.ms, rep := 0, open_ := true }
            ∧ (∀ n, s.evr.newest = some n → n.open_ = true → t.evr.staged = s.evr.staged ++
                [⟨s.evr.nseq, nandBytes 1 s.evr.nseq s.evr s.sys.vcn (s.mramGet (ringOff n.slot) 32)⟩] ∧ t.reg Reg.EVR_COPIED = n.rseq)))
    ∧ (∀ (s : State) (src code : Nat) (arg : Word), s.evr.scanDone = false → src ≠ 0 →
        (src = 4 ∨ (s.evr.held.filter fun h => h.src == src).length < holdPlaces src → Answers (.recordRequest src code arg) s (fun t =>
            t = { s with evr := { s.evr with held := s.evr.held ++ [⟨src, code, arg⟩] } }))
          ∧ (src ≠ 4 → holdPlaces src ≤ (s.evr.held.filter fun h => h.src == src).length → Answers (.recordRequest src code arg) s (fun t =>
              t.regF Reg.EVR_LDROP 31 16 = min 0xFFFF (s.regF Reg.EVR_LDROP 31 16 + 1) ∧ t.mram = s.mram
                ∧ t.evr = { s.evr with drops := Tbl.set s.evr.drops src (Tbl.get s.evr.drops src + 1) })))
    ∧ (∀ (s : State) (w : Word), bitAt w 0 = true → s.evr.scanDone = true →
        (repeats ⟨0, s.regF Reg.EVR_LOGA 15 0, s.reg Reg.EVR_LOGB⟩ s = false → 64 ≤ s.evr.rtThisVc → Answers (.evrLog w) s (fun t =>
            t.reg Reg.EVR_LOGSTAT = 0xA0000000#32 ∧ t.regF Reg.EVR_LDROP 15 0 = min 0xFFFF (s.regF Reg.EVR_LDROP 15 0 + 1) ∧ t.mram = s.mram))
          ∧ (repeats ⟨0, s.regF Reg.EVR_LOGA 15 0, s.reg Reg.EVR_LOGB⟩ s = false → s.evr.rtThisVc < 64 → Tbl.get s.evr.drops 0 = 0 → s.evr.lostCnt = 0 →
              s.evr.fill + 56 ≤ 262144 → Answers (.evrLog w) s (fun t => t.reg Reg.EVR_LOGSTAT = 0x80000000#32 ∧ t.reg Reg.EVR_LOGSEQ = s.evr.rseq
                ∧ t.evr.rtThisVc = s.evr.rtThisVc + 1 ∧ t.evr.rseq = s.evr.rseq + 1)))
    ∧ (∀ (s : State) (n : LowRec), s.evr.newest = some n → n.open_ = true →
        (s.evr.ms - n.ms < s.regF Reg.EVR_CONF 31 16 → Answers .recordClose s (fun t => t = s))
          ∧ (s.regF Reg.EVR_CONF 31 16 ≤ s.evr.ms - n.ms → s.evr.lostCnt = 0 → s.evr.fill + 56 ≤ 262144 → Answers .recordClose s (fun t =>
              t.evr.newest = some { n with open_ := false } ∧ t.reg Reg.EVR_COPIED = n.rseq ∧ t.evr.staged.length = s.evr.staged.length + 1
                ∧ t.evr.rseq = s.evr.rseq ∧ recordedOnly s t)))
    ∧ (∀ (s : State) (ms : Nat), s.evr.cyc ≠ 0 → s.evr.satNoted = true →
        let now := min (2 ^ 42 - 1) (max s.evr.ms ms)
        (now < s.evr.ckMs + 1000 → Answers (.timeCheckpoint ms) s (fun t => t = { s with evr := { s.evr with ms := now } }))
          ∧ (s.evr.ckMs + 1000 ≤ now → Answers (.timeCheckpoint ms) s (fun t => t.evr = { s.evr with ms := now, ckTime := !s.evr.ckTime, ckMs := now }
          ∧ t.mramGet (16 * bit s.evr.ckTime) 8 = t.evr.tagBytes ∧ t.mramGet (16 * bit s.evr.ckTime + 12) 4 = le4 0xA5C3#32
          ∧ (∀ a, a < 16 * bit s.evr.ckTime ∨ 16 * bit s.evr.ckTime + 16 ≤ a → Tbl.get t.mram a = Tbl.get s.mram a) ∧ t = { s with evr := t.evr, mram := t.mram })))
    ∧ (∀ s : State, s.evr.cyc ≠ 0 → s.evr.scanDone = false → Answers .ringScanDone s (fun t => t.evr.scanDone = true ∧ t.evr.held = []
        ∧ t.reg Reg.EVR_SCAN = word (2 ^ 31 + (98304 - (ringRecords s).length)) ∧ recordedOnly s t))
    ∧ ∀ (s : State) (w : Word), bitAt w 0 = true → Answers (.evrLock w) s (fun t => t.regB Reg.EVR_LOCK 0 = true ∧ t = { s with regs := t.regs })

/-- NAND records and journal cells. A post of TYPE 2–8 in P4 that fits joins the staging ring with the next NSEQ; one that does not fit is
counted and recorded with 0x0D03; one outside P4 is 0x0D0A, one of a bad TYPE or LEN is refused. A page that is full or 100 ms old takes
whole records and leaves them staged; a confirmation frees the records up to its NSEQ; a gap in the start report stages a LOST record with
0x0D04. A cell write in P4 puts JNL_EBUF with the commit mark into the copy and touches no other byte of MRAM; a readback difference enters
SAFE with 0x0D0D; a read brings the copy with its precheck; above cell 4,079 an operation is refused. A correlation that is due is formed from
the fresh host connection and waits for P4 (log entry 136). -/
def Obligations.NandAndJournal : Prop :=
  (∀ (s : State) (w : Word),
      (s.sys.phase ≠ 4 → Answers (.evrNpost w) s (fun t => t = note 0x0D0A 0 0 s))
        ∧ (s.sys.phase = 4 → field w 31 24 < 2 ∨ 8 < field w 31 24 ∨ field w 11 0 < 24 ∨ 2048 < field w 11 0 ∨ field w 11 0 % 4 ≠ 0 →
            Answers (.evrNpost w) s (fun t => t = s.setReg Reg.EVR_NSTAT 0xB0000000#32))
        ∧ (s.sys.phase = 4 → 2 ≤ field w 31 24 → field w 31 24 ≤ 8 → 24 ≤ field w 11 0 → field w 11 0 ≤ 2048 → field w 11 0 % 4 = 0 →
            (s.evr.lostCnt = 0 → s.evr.fill + field w 11 0 ≤ 262144 → Answers (.evrNpost w) s (fun t =>
                t.evr.staged.length = s.evr.staged.length + 1 ∧ t.evr.nseq = s.evr.nseq + 1 ∧ t.evr.fill = s.evr.fill + field w 11 0
                  ∧ t.reg Reg.EVR_NSTAT = 0x80000000#32 ∧ recordedOnly s t))
              ∧ (262144 < s.evr.fill + field w 11 0 → Answers (.evrNpost w) s (fun t => t.reg Reg.EVR_NSTAT = 0xA0000000#32
                  ∧ recordedOnly s t ∧ ∃ s1, t = note 0x0D03 0 0 s1 ∧ s1.evr.staged = s.evr.staged ∧ s1.evr.nseq = s.evr.nseq + 1
                    ∧ s1.reg Reg.EVR_NDROP = satInc (s.reg Reg.EVR_NDROP)))))
    ∧ (∀ (s : State), pageDue s.evr = false → ∀ ok, Answers (.nandPageProgram ok) s (fun t => t = s))
    ∧ (∀ (s : State), pageDue s.evr = true → pageTake 4080 (s.evr.staged.drop s.evr.programmed) ≠ [] →
        Answers (.nandPageProgram true) s (fun t => t.evr.staged = s.evr.staged ∧ t.evr.nand.getLast? = some (pageBytes s.evr.pseq (pageTake 4080 (s.evr.staged.drop s.evr.programmed)))
            ∧ t.evr.pseq = s.evr.pseq + 1 ∧ t = { s with evr := t.evr })
          ∧ Answers (.nandPageProgram false) s (fun t => t = note 0x0D0F 0 0 { s with evr := { s.evr with retired := min 382 (s.evr.retired + 1) } }))
    ∧ (∀ (s : State) (n : Word), Answers (.nandConfirm n) s (fun t => t.evr.staged = s.evr.staged.dropWhile (fun r => !later r.nseq n)
        ∧ t = { s with evr := { s.evr with staged := t.evr.staged, programmed := t.evr.programmed } })
        ∧ (later s.evr.nseqStart (n + 1) = true → Answers (.nandStartReport n) s (fun t =>
            t = note 0x0D04 0 0 (stageFit 0 (le4 (n + 1) ++ le4 (s.evr.nseqStart - (n + 1))) s)))
        ∧ (later s.evr.nseqStart (n + 1) = false → Answers (.nandStartReport n) s (fun t => t = s)))
    ∧ (∀ s : State,
        (s.evr.ms < s.evr.corrMs + 1000 * s.regF Reg.EVR_CONF 15 8 → Answers .correlationDue s (fun t => t = s))
          ∧ (s.evr.corrMs + 1000 * s.regF Reg.EVR_CONF 15 8 ≤ s.evr.ms → (∀ c ∈ connections s, (conHost s c && (s.con c).fresh) = false) →
              Answers .correlationDue s (fun t => t = { s with evr := { s.evr with corrMs := s.evr.ms } })))
    ∧ (∀ (s : State) (c : Nat), s.evr.corrMs + 1000 * s.regF Reg.EVR_CONF 15 8 ≤ s.evr.ms → ((connections s).filter fun c => conHost s c && (s.con c).fresh) = [c] →
        Answers .correlationDue s (fun t => t = { s with evr := { s.evr with corrMs := s.evr.ms, posts := s.evr.posts ++ [(2,
          [byte (conNumber s c), 0#8, 0#8, 0#8] ++ le4 (tSeq (s.con c).content) ++ le4 ((s.con c).contentVcn.getD 0))] } }))
    ∧ (∀ (s : State) (cell copy : Nat), copy < 2 →
        (s.sys.phase ≠ 4 ∨ jnlOpen s = false → Answers (.jnlWrite cell copy true) s (fun t => t = note 0x0D0B 15 cell s)
            ∧ Answers (.jnlRead cell copy) s (fun t => t = note 0x0D0B 15 cell s))
          ∧ (s.sys.phase = 4 → jnlOpen s = true → cell < 4080 →
              Answers (.jnlWrite cell copy true) s (fun t =>
                  t.mramGet (cellOff cell copy + 124) 4 = le4 commitMark ∧ (∀ k, k < 31 → t.mramGet (cellOff cell copy + 4 * k) 4 = le4 (s.reg (Reg.JNL_EBUF + 4 * k)))
                    ∧ (∀ a, a < cellOff cell copy ∨ cellOff cell copy + 128 ≤ a → Tbl.get t.mram a = Tbl.get s.mram a)
                    ∧ t.reg Reg.JNL_WCOUNT = s.reg Reg.JNL_WCOUNT + 1 ∧ t.regF Reg.JNL_RESULT 30 28 = 0 ∧ t.sys = s.sys)
                ∧ (s.live = true → Answers (.jnlWrite cell copy false) s (enteredSafe 0x0D0D s))
                ∧ Answers (.jnlRead cell copy) s (fun t => t.regF Reg.JNL_RESULT 30 28 = copyCheck (s.mramGet (cellOff cell copy) 128)
                    ∧ (∀ k, k < 32 → t.reg (Reg.JNL_EBUF + 4 * k) = wordAt (s.mramGet (cellOff cell copy) 128) (4 * k)) ∧ recordedOnly s t))
          ∧ (s.sys.phase = 4 → jnlOpen s = true → 4080 ≤ cell →
              Answers (.jnlWrite cell copy true) s (fun t => t = s.setReg Reg.JNL_RESULT (word (2 ^ 31 + 4 * 2 ^ 28 + copy % 2 * 2 ^ 12 + cell % 4096)))
                ∧ Answers (.jnlRead cell copy) s (fun t => t = s.setReg Reg.JNL_RESULT (word (2 ^ 31 + 4 * 2 ^ 28 + copy % 2 * 2 ^ 12 + cell % 4096)))))

/-! ### The pair and the cascade (chapter 15) -/

/-- The frames of the pair. GO in P4, once in a VC and after the background work that waits, sends the mirror of an ACTIVE member, the response
of a BANKED one and the report of one in SAFE; in any other phase it is 0x0E11. The frame closes with the CRC under PAIR_ID; a word on which two
regions differ is left out and makes the mirror INVALID with 0x0E14. A mirror that meets R427 is loaded: ledger, books and sessions are the
sender's and ACK_VCN names its VC; one that does not leaves them; one whose counts are not conserved takes the member to SAFE with 0x0710. A
frame of a wrong CRC does nothing; one of the own member is 0x0E0A in JOIN; a second ACTIVE member is 0x0E10. A VC without a mirror is 0x0E06 and
one VC behind. A response brings the peer's acknowledgement and readiness; bulk cells are taken in BANKED and JOIN alone. -/
def Obligations.PairFrames : Prop :=
  (∀ (s : State) (w : Word) (df : List Nat),
      (bitAt w 0 = false → Answers (.pclMctrlGo w df) s (fun t => t = s))
        ∧ (bitAt w 0 = true → s.sys.phase ≠ 4 → Answers (.pclMctrlGo w df) s (fun t => t = note 0x0E11 0 0 s))
        ∧ (bitAt w 0 = true → s.sys.phase = 4 → Answers (.pclMctrlGo w df) s (fun t => t = pairSend (bitAt w 1) df (bgFinish s)))
        ∧ (bitAt w 0 = true → s.sys.phase = 4 → s.rt.bg = [] → s.pcl.sent = true → Answers (.pclMctrlGo w df) s (fun t => t = s))
        ∧ (bitAt w 0 = true → s.sys.phase = 4 → s.rt.bg = [] → s.pcl.sent = false → s.sys.state = .active → Answers (.pclMctrlGo w df) s (fun t =>
            t.pcl.sent = true ∧ t.sys = s.sys ∧ t.crd = s.crd ∧ t.rt = s.rt ∧ ∃ m, t.pcl.mirrorOut = some m ∧ m.kind = 1 ∧ m.slot = s.ownSlot
              ∧ m.member = ownMember s ∧ m.vcn = s.sys.vcn ∧ m.epoch = s.sys.epoch ∧ m.crdPrev = s.pcl.lastSum ∧ m.ext = (bitAt w 1 || s.rt.ext)
              ∧ m.invalid = df.any (fun k => decide (k < ((mirrorSegs s).map (·.words.length)).sum)) ∧ m.segs = segsSent df 0 (mirrorSegs s)
              ∧ m.srec = shadowRecord s ∧ m.swapVcn = s.reg Reg.PCL_SWAP_VCN ∧ m.crc = linkCrc s m
              ∧ m.body.ledger = s.crd.tok ∧ m.body.lend = s.lend ∧ m.body.ses = s.rt.ses))
        ∧ (bitAt w 0 = true → s.sys.phase = 4 → s.rt.bg = [] → s.pcl.sent = false → s.sys.state = .banked ∨ s.sys.state = .safe → Answers (.pclMctrlGo w df) s (fun t =>
            t.pcl.sent = true ∧ t = { s with pcl := t.pcl } ∧ ∃ r, t.pcl.respOut = some r ∧ r.kind = 2
              ∧ r.ready = (decide (s.sys.state = .banked) && readyNow s) ∧ r.safe = decide (s.sys.state = .safe) ∧ r.vcn = s.sys.vcn
              ∧ r.ackVcn = s.pcl.ackVcn ∧ r.takeover = s.pcl.trigger.isSome ∧ r.srec = shadowRecord s ∧ r.crc = linkCrc s r)))
    ∧ (∀ (s : State) (m : PairFrame), s.sys.state = .banked ∨ s.sys.state = .join → (∀ c ∈ m.body.journal, c.1 < 4080) →
        (s.sys.phase = 4 → mirrorOk s m = true → s.pcl.trigger = none → countFail { s with dsu := m.body.dsu } = none → Answers (.mirrorRx m) s (fun t =>
            t.crd.tok = m.body.ledger ∧ t.lend = { m.body.lend with out := [] } ∧ t.rt.ses = m.body.ses ∧ t.rt.standing = m.body.standing
              ∧ t.sys = { s.sys with epoch := m.epoch } ∧ t.pcl.ackVcn = m.vcn ∧ t.pcl.gap = 0 ∧ t.pcl.linkAge = 0
              ∧ t.pcl.run = (if s.pcl.gap = 0 ∧ (s.pcl.run = 0 ∨ m.vcn = s.pcl.ackVcn + 1) then s.pcl.run + 1 else 1)))
          ∧ (s.sys.phase = 4 → mirrorOk s m = true → s.pcl.trigger = none → countFail { s with dsu := m.body.dsu } ≠ none →
              Answers (.mirrorRx m) s (enteredSafe 0x0710 s))
          ∧ (mirrorOk s m = false ∨ s.pcl.trigger.isSome = true ∨ s.sys.phase ≠ 4 → Answers (.mirrorRx m) s (fun t =>
              t.crd = s.crd ∧ t.lend = s.lend ∧ t.rt = s.rt ∧ t.pcl.ackVcn = s.pcl.ackVcn ∧ t.sys = s.sys)))
    ∧ (∀ (s : State) (m : PairFrame), (m.kind ≠ 1 ∨ m.crc ≠ linkCrc s m → Answers (.mirrorRx m) s (fun t => t = s))
        ∧ (s.sys.state ≠ .join → fromPeer s m.slot m.member = false → Answers (.mirrorRx m) s (fun t => t = s))
        ∧ (linkOk s 1 m = true → s.sys.state = .join → m.slot = s.ownSlot → m.member = ownMember s → Answers (.mirrorRx m) s (fun t =>
            t.pcl.mismatch = 3 ∧ t.pcl.mismatchNoted = true ∧ (s.pcl.mismatchNoted = false → t = note 0x0E0A 0 0 { s with pcl := t.pcl })))
        ∧ (linkOk s 1 m = true → s.sys.state = .active → fromPeer s m.slot m.member = true → m.safe = false → inHandover s = false →
            Answers (.mirrorRx m) s (enteredSafe 0x0E10 s)))
    ∧ (∀ s : State, (s.sys.state = .banked → s.pcl.takenNow = false → s.pcl.trigger = none → Answers .mirrorMissed s (fun t =>
          t.pcl.gap = s.pcl.gap + 1 ∧ t = note 0x0E06 0 0 { s with pcl := t.pcl }))
        ∧ (s.sys.state ≠ .banked ∨ s.pcl.takenNow = true ∨ s.pcl.trigger.isSome = true → Answers .mirrorMissed s (fun t => t = s)))
    ∧ (∀ (s : State) (r : PairFrame),
        (r.kind ≠ 2 ∨ r.crc ≠ linkCrc s r → Answers (.responseRx r) s (fun t => t = s))
          ∧ (s.sys.state ≠ .join → fromPeer s r.slot r.member = false → Answers (.responseRx r) s (fun t => t = s))
          ∧ (linkOk s 2 r = true → fromPeer s r.slot r.member = true → s.sys.state = .active → Answers (.responseRx r) s (fun t =>
              t.reg Reg.PCL_MACK = r.ackVcn ∧ peerBanked t = r.ready ∧ peerState t = (if r.safe then 7 else 5) ∧ t.pcl.linkAge = 0 ∧ t.sys = s.sys
                ∧ t = { s with regs := t.regs, pcl := t.pcl })))
    ∧ ∀ (s : State) (f : PairFrame),
        (f.kind ≠ 3 ∨ f.crc ≠ linkCrc s f → Answers (.bulkRx f) s (fun t => t = s))
          ∧ (s.sys.state ≠ .join → fromPeer s f.slot f.member = false → Answers (.bulkRx f) s (fun t => t = s))
          ∧ (s.sys.state ≠ .banked → s.sys.state ≠ .join → Answers (.bulkRx f) s (fun t => Tbl.get t.mram = Tbl.get s.mram ∨ t.sys.state = .safe))
          ∧ (linkOk s 3 f = true → fromPeer s f.slot f.member = true → s.sys.state = .banked ∨ s.sys.state = .join →
              Answers (.bulkRx f) s (fun t => t = { s with mram := t.mram, pcl := t.pcl, regs := t.regs } ∧ t.mram = ((bulkCells f).foldl bulkCell s).mram
                ∧ t.pcl.linkAge = 0 ∧ (∀ c ∈ bulkCells f, c.1 ∈ t.pcl.bulkCells) ∧ (s.pcl.bulk = false → t.pcl.bulk = false)))

/-- Roles and the cascade. A swap that is asked for on any of its paths is announced in a paired ACTIVE member whose peer is ready and both
in T3 or T2F, for a VC 32 to 47 ahead with VCN mod 16 = 1, and waits otherwise. In the hand-over VC the old ACTIVE hands over and the
prepared BANKED member is ACTIVE. A trigger starts the take-over of an eligible member and takes any other to SAFE with 0x0E05; three VC
later the member is ACTIVE with the replay and the edges due. A cold start is ACTIVE with the next epoch and the owned positions under the
start block. Timing markers set the phases, and the trim of the running VC in a member that follows them; a cascade frame is sent once in P4,
and one received is taken, or discarded with 0x0E0B or 0x0E0C. -/
def Obligations.RolesAndCascade : Prop :=
  (∀ (s : State) (w : Word) (ok : Bool), s.sys.state = .active → isPaired s = true → s.reg Reg.PCL_SWAP_VCN = 0 →
      let may : Prop := peerBanked s = true ∧ (s.sys.mode = .t3 ∨ s.sys.mode = .t2f) ∧ ok = true ∧ s.pcl.trigger = none
      let mayNot : Prop := peerBanked s = false ∨ ok = false ∨ s.sys.mode = .t2s ∨ s.pcl.trigger.isSome = true
      let announced (t : State) : Prop :=
        (t.reg Reg.PCL_SWAP_VCN).toNat % 16 = 1 ∧ 32 ≤ (t.reg Reg.PCL_SWAP_VCN - s.sys.vcn).toNat ∧ (t.reg Reg.PCL_SWAP_VCN - s.sys.vcn).toNat < 48
          ∧ t.pcl.swapWanted = false ∧ t = { s with regs := t.regs, pcl := t.pcl }
      let waits (t : State) : Prop := t = { s with pcl := { s.pcl with swapWanted := true, swapTried := s.sys.vcn } }
      (field w 31 16 = 0x3C5A → bitAt w 0 = true → (may → Answers (.pclSwap w ok) s announced) ∧ (mayNot → Answers (.pclSwap w ok) s waits))
        ∧ (field w 31 16 ≠ 0x3C5A → Answers (.pclSwap w ok) s (fun t => t = note 0x0E11 0 0 s))
        ∧ (s.regF Reg.PCL_CONF 15 8 * 3600000 ≤ s.evr.ms - s.pcl.roleMs →
            (may → Answers (.swapDue ok) s announced) ∧ (mayNot → Answers (.swapDue ok) s waits))
        ∧ (s.evr.ms - s.pcl.roleMs < s.regF Reg.PCL_CONF 15 8 * 3600000 → Answers (.swapDue ok) s (fun t => t = s))
        ∧ (s.pcl.swapWanted = true → 1000 ≤ since s.sys.vcn s.pcl.swapTried →
            (may → Answers (.swapRetry ok) s announced) ∧ (mayNot → Answers (.swapRetry ok) s waits))
        ∧ (s.pcl.swapWanted = false ∨ since s.sys.vcn s.pcl.swapTried < 1000 → Answers (.swapRetry ok) s (fun t => t = s))
        ∧ (may → Answers (.sorliaSwapRequest ok) s announced) ∧ (mayNot → Answers (.sorliaSwapRequest ok) s waits))
    ∧ (∀ s : State, inHandover s = true →
        (s.sys.state = .active → Answers .handoverVc s (fun t => t.pcl.handing = true ∧ t = { s with pcl := t.pcl })
            ∧ (s.pcl.handing = true → s.pcl.confirmed = true → Answers .swapConfirmCheck s (fun t => t = note 0x0E09 0 0 s))
            ∧ (s.pcl.handing = true → s.pcl.confirmed = false → Answers .swapConfirmCheck s (fun t =>
                t.sys.state = .active ∧ t.pcl.handing = false ∧ t.reg Reg.PCL_SWAP_VCN = 0)))
          ∧ (s.sys.state = .banked → s.pcl.ackVcn = s.sys.vcn - 1 → s.pcl.ready = true → s.pcl.respVcn = some (s.sys.vcn - 1) → 16 ≤ s.pcl.run →
              s.pcl.gap = 0 → Answers .handoverVc s (fun t => t.sys.state = .active ∧ t.pcl.replay = .switched))
          ∧ (s.sys.state = .banked → s.pcl.ready = false ∨ s.pcl.respVcn ≠ some (s.sys.vcn - 1) → Answers .handoverVc s (fun t => t = s)))
    ∧ (∀ s : State, s.sys.state = .banked → s.pcl.trigger = none →
        s.pcl.peerBad = true ∨ (2 ≤ s.pcl.linkAge ∧ 2 ≤ s.pcl.oxfenAge) →
        (eligible s = true → Answers .switchoverTrigger s (fun t => t.pcl.trigger = some s.sys.vcn ∧ t.sys = s.sys))
          ∧ (eligible s = false → Answers .switchoverTrigger s (enteredSafe 0x0E05 s)))
    ∧ (∀ (s : State) (v : Word), s.sys.state = .banked → s.pcl.trigger = some v →
        (since s.sys.vcn v = 3 → Answers .takeoverActive s (fun t => t.sys.state = .active ∧ t.pcl.trigger = none ∧ t.pcl.edgesDue = true
            ∧ t.pcl.replay = .switched ∧ t.sys.epoch = s.sys.epoch))
          ∧ (since s.sys.vcn v ≠ 3 → Answers .takeoverActive s (fun t => t = s)))
    ∧ (∀ s : State, s.sys.state = .join → joinOver s = true → peerState s ≠ 6 → peerState s ≠ 4 ∨ ownMember s = 0 → s.pcl.mismatch = 0 →
        Answers .joinTimeout s (fun t => t.sys.state = .active ∧ t.sys.epoch = (max s.sys.epoch s.pcl.seenOwn + 1) % 256 ∧ t.pcl.replay = .cold
          ∧ t.lend.claiming = true ∧ ∀ i, i < 1024 → t.tok i = (if posKind s i = 1 then mkTok 3 0 0xF8 else 0)))
    ∧ (∀ (s : State) (frm : Nat) (ph : Int),
        let trims (t : State) : Prop := ∃ d : Int, t.sys = { s.sys with trimNow := d } ∧ -4 ≤ d ∧ d ≤ 4 ∧ (0 < ph → d ≤ 0) ∧ (ph < 0 → 0 ≤ d)
          ∧ (s.ownSlot = 0 ∨ timingMaster s = true → d = 0)
        Answers (.timingMarkerRx true frm ph) s (fun t => t.regF Reg.PCL_PHASE 15 0 = unsigned 16 ph
            ∧ (followsPeer s = true → trims t) ∧ (followsPeer s = false → t.sys = s.sys))
          ∧ Answers (.timingMarkerRx false frm ph) s (fun t => t.regF Reg.PCL_PHASE 31 16 = unsigned 16 ph ∧ t.pcl.master = some frm
            ∧ (followsPeer s = true → t.sys = s.sys) ∧ (followsPeer s = false → trims t)))
    ∧ (∀ (s : State) (w : Word),
        (s.sys.phase ≠ 4 → Answers (.pclCtx w) s (fun t => t = note 0x0E11 0 0 s))
          ∧ (s.sys.phase = 4 → s.pcl.ctxSent = true → Answers (.pclCtx w) s (fun t => t = s))
          ∧ (s.sys.phase = 4 → s.pcl.ctxSent = false → Answers (.pclCtx w) s (fun t => t.pcl.ctxSent = true ∧ t = { s with pcl := t.pcl, lend := t.lend, regs := t.regs }
              ∧ (∀ a, a < Reg.PCL_CTXBUF ∨ Reg.PCL_CTXBUF + 1024 ≤ a → t.reg a = s.reg a) ∧ (s.sys.state ≠ .active → t.regs = s.regs)
              ∧ ∃ f, t.pcl.cascOut = s.pcl.cascOut ++ [f] ∧ f.slot = s.ownSlot ∧ f.vcn = s.sys.vcn ∧ f.epoch = s.sys.epoch ∧ f.configId = s.conf.configId
                ∧ f.msgs = (List.range (if lendSends s then min (field w 6 0) 64 else 0)).map (ctxMsg t)))
          ∧ (s.sys.state = .join → Answers (.pclEpoch w) s (fun t => t.sys = { s.sys with epoch := field w 7 0 } ∧ t.reg Reg.PCL_EPOCH = w &&& 0xFF#32))
          ∧ (s.sys.state ≠ .join → Answers (.pclEpoch w) s (fun t => t = note 0x0E11 0 0 s))
          ∧ (bitAt w 0 = true → Answers (.pclLock w) s (fun t => t.regB Reg.PCL_LOCK 0 = true ∧ t = { s with regs := t.regs })))
    ∧ ∀ (s : State) (f : CascFrame),
        (cascIndex s f.slot f.member = none → Answers (.cascadeFrameRx f) s (fun t => t = note 0x0E0B 0 0 s))
          ∧ ∀ q, cascIndex s f.slot f.member = some q → s.sys.state ≠ .join ∨ mismatched s f.slot f.member f.configId = false →
              (cascOk s f = false → Answers (.cascadeFrameRx f) s (fun t => t = note 0x0E0C 0 0 s))
                ∧ (cascOk s f = true → fromPeer s f.slot f.member = false → Answers (.cascadeFrameRx f) s (fun t => Tbl.get t.pcl.crx q = f
                    ∧ (∀ m ∈ f.msgs, m.to_ = s.ownSlot → m ∈ t.pcl.inbox) ∧ t = { s with pcl := t.pcl, regs := t.regs }))

/-! ### Service sessions, update, retention (chapter 17) -/

/-- Service sessions. While the SP runs its requests are served, and have no effect otherwise (the model's reading, log entry 74). A challenge
opens a session, which a good signature by a declared maintainer key authenticates and any other ends with
0x0F12. The first session that may takes the update lock in MAINT. An update request is answered AUTH from a session that may not, STATE
outside MAINT or with no lock taken, BUSY under another's lock or while SUI works, STATE after a failed self-check, and changes no byte of the
NOR and no key then. RELEASE, the session's end and 600 s without a request free the lock. JOURNAL_CLEAR makes every journal copy invalid. The
first key goes into an empty table of SUI and of Mantle; a revocation needs another live key; an entry that the devices do not both take is
unusable with 0x0F11. A report is 376 bytes, signed with the identity key. -/
def Obligations.ServiceSessions : Prop :=
  (∀ (s : State) (h : SorliaHead),
      (sorliaServed s = true → s.sui.recovery = false → Answers (.sorliaChallenge h) s (fun t => (t.sui.session h.session).open_ = true
          ∧ t.sui.answer.status = 0 ∧ t.sui.answer.head = h ∧ (t.sui.session h.session).challenge = some t.sui.answer.body ∧ t.sui.answer.body.length = 32
          ∧ t.sui.lock = s.sui.lock ∧ t.sys = s.sys))
        ∧ (sorliaServed s = false ∨ s.sui.recovery = true → Answers (.sorliaChallenge h) s (fun t => t = s)))
    ∧ (∀ (s : State) (h : SorliaHead) (k : Nat) (body : AuthBody), sorliaServed s = true → s.sui.recovery = false →
        (∀ c, (s.sui.session h.session).challenge = some c → authOk s c k body = true → Answers (.sorliaAuthenticate h k body) s (fun t =>
            (t.sui.session h.session).authed = true ∧ t.sui.answer = ⟨h, 0, []⟩ ∧ (t.sui.session h.session).challenge = none))
          ∧ ((s.sui.session h.session).challenge.any (fun c => authOk s c k body) = false → Answers (.sorliaAuthenticate h k body) s (fun t =>
            (t.sui.session h.session).open_ = false ∧ t.sui.answer = ⟨h, 3, []⟩
              ∧ t = suiAnswer 3 [] (endSession h.session (note 0x0F12 0 0 { s with sui := { s.sui with req := h } })))))
    ∧ (∀ (s : State) (h : SorliaHead), sorliaServed s = true →
        (sessionOk s h.session = false → Answers (.sorliaLock h) s (fun t => t.sui.lock = s.sui.lock ∧ t.sui.answer = ⟨h, 3, []⟩))
          ∧ (sessionOk s h.session = true → s.sys.state = .maint → s.sui.lock = none → Answers (.sorliaLock h) s (fun t =>
            t.sui.lock = some h.session ∧ t.sui.answer = ⟨h, 0, []⟩))
          ∧ (∀ m, m ≠ h.session → sessionOk s h.session = true → s.sys.state = .maint → s.sui.lock = some m → Answers (.sorliaLock h) s (fun t =>
            t.sui.lock = some m ∧ t.sui.answer = ⟨h, 1, []⟩))
          ∧ (sessionOk s h.session = true → s.sys.state ≠ .maint → Answers (.sorliaLock h) s (fun t => t.sui.lock = s.sui.lock ∧ t.sui.answer = ⟨h, 4, []⟩)))
    ∧ (∀ (s : State) (h : SorliaHead) (m d : List Byte) (j : Nat) (a b : Bool) (rq : KeyRequest) (sg : Option Nat),
        ∀ c ∈ [Instr.sorliaPrepare h m, .sorliaBlock h j d a, .sorliaVerify h a b, .sorliaActivate h, .sorliaRelease h, .sorliaKeyEnrol h rq sg a,
            .sorliaJournalClear h],
          let kept (status : Nat) (t : State) : Prop := t.sui.answer.status = status ∧ t.sui.answer.head = h ∧ t.sui.nor = s.sui.nor
            ∧ t.sui.lock = s.sui.lock ∧ t.sui.ckProg = s.sui.ckProg ∧ t.sui.ckRev = s.sui.ckRev ∧ t.mnt = s.mnt ∧ t.sui.xfer = s.sui.xfer
          (sorliaServed s = false → Answers c s (fun t => t = s))
            ∧ (sorliaServed s = true → sessionOk s h.session = false → Answers c s (kept 3))
            ∧ (sorliaServed s = true → sessionOk s h.session = true → s.sys.state ≠ .maint ∨ s.sui.lock = none → Answers c s (kept 4))
            ∧ (∀ n, sorliaServed s = true → sessionOk s h.session = true → s.sys.state = .maint → s.sui.lock = some n →
                (n ≠ h.session ∨ s.sui.busy ≠ 0 → Answers c s (kept 1))
                  ∧ (n = h.session → s.sui.busy = 0 → s.sui.failed = true → Answers c s (kept 4))))
    ∧ (∀ (s : State) (h : SorliaHead), sorliaServed s = true → sessionOk s h.session = true → s.sys.state = .maint → s.sui.lock = some h.session →
        s.sui.busy = 0 → s.sui.failed = false →
        let done (status : Nat) (t : State) : Prop := t.sui.answer = ⟨h, status, []⟩ ∧ t.sui.nor = s.sui.nor
        Answers (.sorliaRelease h) s (fun t => t.sui.lock = none ∧ done 0 t)
          ∧ Answers (.sorliaJournalClear h) s (fun t => done 0 t ∧ t.sui.xfer = default ∧ t.jnl.due = []
            ∧ (∀ c k, c < 4080 → k < 2 → copyCheck (t.mramGet (cellOff c k) 128) = 1)
            ∧ ∀ a, a < 0x1000 ∨ 0x100000 ≤ a → Tbl.get t.mram a = Tbl.get s.mram a)
          ∧ (∀ (key : List Byte) (sg : Option Nat), s.sui.ckProg = 0 →
            Answers (.sorliaKeyEnrol h (.enrol key) sg true) s (fun t => t.sui.ckProg = 1 ∧ t.sui.ckRev = s.sui.ckRev ∧ Tbl.get t.sui.ck 0 = sha384 key
                ∧ bitAt t.mnt.ckProg 0 = true ∧ Tbl.get t.mnt.ck 0 = sha384 key ∧ done 0 t)
              ∧ Answers (.sorliaKeyEnrol h (.enrol key) sg false) s (fun t => t.sui.ckProg = 1 ∧ bitAt t.sui.ckRev 0 = true ∧ bitAt t.mnt.ckRev 0 = true
                ∧ t.reg Reg.SUI_RESULT = 0x80070F11#32 ∧ done 2 t))
          ∧ (∀ (key : List Byte) (a : Bool), s.sui.ckProg ≠ 0 → Answers (.sorliaKeyEnrol h (.enrol key) none a) s (fun t =>
            t.sui.ckProg = s.sui.ckProg ∧ t.sui.ck = s.sui.ck ∧ t.mnt = s.mnt ∧ done 2 t))
          ∧ (∀ k, Answers (.sorliaKeyEnrol h (.revoke k) (some k) true) s (fun t => t.sui.ckProg = s.sui.ckProg ∧ t.sui.ckRev = s.sui.ckRev
              ∧ t.mnt = s.mnt ∧ done 2 t))
          ∧ (∀ k j, j ≠ k → ckLive s k = true → ckLive s j = true →
              Answers (.sorliaKeyEnrol h (.revoke k) (some j) true) s (fun t => t.sui.ckRev = setBit s.sui.ckRev k true
                ∧ t.mnt.ckRev = setBit s.mnt.ckRev k true ∧ t.sui.ckProg = s.sui.ckProg ∧ done 0 t)))
    ∧ (∀ (s : State) (h : SorliaHead) (x : List Byte), sorliaServed s = true →
        (sessionOk s h.session = true → s.sui.failed = false → Answers (.sorliaAttest h x) s (fun t => t.sui.answer.status = 0 ∧ t.sui.answer.head = h
            ∧ t.sui.answer.body.length = 376 ∧ t.sui.answer.body.take 4 = le4 0x41545354#32 ∧ (x.length = 32 → (t.sui.answer.body.drop 20).take 32 = x)
            ∧ ∃ k, t.sui.answer.body.drop 280 = ecdsaSign s.sui.idKey k (sha384 (t.sui.answer.body.take 280))))
          ∧ (sessionOk s h.session = true → s.sui.failed = true → Answers (.sorliaAttest h x) s (fun t => t.sui.answer.status = 4))
          ∧ (sessionOk s h.session = false → Answers (.sorliaAttest h x) s (fun t => t.sui.answer = ⟨h, 3, []⟩)))
    ∧ ∀ (s : State) (n : Nat),
        (s.sui.lock = some n → Answers (.sorliaSessionEnd n) s (fun t => t.sui.lock = none ∧ (t.sui.session n).authed = false ∧ t = { s with sui := t.sui })
          ∧ ((s.sui.session n).last + 600000 ≤ s.evr.ms → Answers .updateLockTimeout s (fun t => t = { s with sui := { s.sui with lock := none } }))
          ∧ (s.evr.ms < (s.sui.session n).last + 600000 → Answers .updateLockTimeout s (fun t => t = s)))
        ∧ (s.sui.lock = none → Answers (.sorliaSessionEnd n) s (fun t => (t.sui.session n).authed = false ∧ t = { s with sui := t.sui })
          ∧ Answers .updateLockTimeout s (fun t => t = s))

/-- The storage and update unit. An operation with a wrong key, or while SUI works or has failed, is 0x0F0F and nothing else. PREPARE checks
the manifest and erases the slot that is not running, or resumes; its end leaves the slot with the copies and the new manifest. A block is taken
in its order with its tag and programmed in its place, and refused otherwise; VERIFY commits the target with the next SLOT_SEQ, or names the
check that failed; ACTIVATE writes the selector to TRIAL, whose copy is erased first, and the write's end restarts the module with it in force. A
trial is confirmed in ACTIVE and reverted at its deadline, tested in P4. Re-verification goes block by block and then over the manifests, through
both slots; a refreshed block holds what it held; both are due at their times. -/
def Obligations.ImageUpdate : Prop :=
  (∀ (s : State) (key j n : Nat) (a b : Bool) (d x : List Byte) (rq : KeyRequest) (sg : Option Nat), suiFree key s = false →
      ∀ c ∈ [Instr.suiPrepare key, .suiBlock key j d a, .suiVerify key a b, .suiActivate key, .suiConfirm key, .suiRevert key, .suiAttest key x,
        .suiReverifyStep key a, .suiRefreshStep key n, .suiEnrol key rq sg a, .suiRelease key], Answers c s (fun t => t = note 0x0F0F 0 0 s))
    ∧ (∀ (s : State) (h : SorliaHead) (bs : List Byte), suiFree 0x5E1F s = true → sorliaServed s = true → s.sys.state = .maint →
        s.sui.lock = some h.session → sessionOk s h.session = true → ∀ m, manifestOf bs = some m → (selNow s.sui).st ≠ 2 →
        let x := s.sui.xfer
        let good : Prop := sigOk m = true
          ∧ (s.sui.recovery = true ∨ (keyOk s.sui m = true ∧ fitsBoard s.sui m = true ∧ compatible (s.sui.manifests s.sui.running) m = true))
        let begun (t : State) : Prop := t.sui.busy = 1 ∧ t.sui.xfer = { st := 1, target := otherSlot s.sui.running, group := m.group, bundle := m.bundle
                                                                        next := 0, total := blockCount m, digest := sha384 bs }
          ∧ t.sui.nor = (s.sui.norErase (slotOff (otherSlot s.sui.running)) 0x2000000).nor
        let resumed (t : State) : Prop := t.sui.nor = s.sui.nor ∧ t.sui.xfer = x ∧ t.sui.busy = 0 ∧ t.sui.answer.status = 0
          ∧ t.sui.answer.body = le4 (word x.next) ∧ t.reg Reg.SUI_RESULT = 0x80000F09#32
        let refused (t : State) : Prop := t.sui.nor = s.sui.nor ∧ t.sui.xfer = x ∧ t.sui.busy = 0 ∧ t.sui.answer.status = 2
          ∧ t.reg Reg.SUI_RESULT = 0x80010F07#32
        (good → ¬ (x.st = 2 ∧ x.digest = sha384 bs) → Answers (.sorliaPrepare h bs) s begun)
          ∧ (good → x.st = 2 → x.digest = sha384 bs → Answers (.sorliaPrepare h bs) s resumed)
          ∧ (sigOk m = false → Answers (.sorliaPrepare h bs) s refused)
          ∧ (s.sui.staged = some bs → good → ¬ (x.st = 2 ∧ x.digest = sha384 bs) → Answers (.suiPrepare 0x5E1F) s begun)
          ∧ (s.sui.staged = some bs → good → x.st = 2 → x.digest = sha384 bs → Answers (.suiPrepare 0x5E1F) s resumed)
          ∧ (s.sui.staged = some bs → sigOk m = false → Answers (.suiPrepare 0x5E1F) s refused))
    ∧ (∀ (s : State) (h : SorliaHead) (j : Nat) (d : List Byte) (a b : Bool), suiFree 0x5E1F s = true → sorliaServed s = true → s.sys.state = .maint →
        s.sui.lock = some h.session → sessionOk s h.session = true →
        let x := s.sui.xfer
        let leaves (status : Nat) (result : Word) (t : State) : Prop := t.sui.nor = s.sui.nor ∧ t.sui.xfer = x ∧ t.sui.busy = 0
          ∧ t.sui.writing = s.sui.writing ∧ t.sui.answer.status = status ∧ t.reg Reg.SUI_RESULT = result
        let taken (off : Nat) (bs : List Byte) (t : State) : Prop := t.sui.nor = (s.sui.program off bs).nor ∧ t.sui.xfer = { x with next := j + 1 }
          ∧ t.sui.answer.status = 0 ∧ t.reg Reg.SUI_RESULT = 0x80000000#32
        let verified (t : State) : Prop := t.sui.xfer = { x with st := 3 } ∧ t.sui.answer.status = 0 ∧ t.sui.nor = (commitSlot x.target s.sui).nor
          ∧ committed t.sui x.target = true ∧ slotSeq t.sui x.target = slotSeq s.sui (otherSlot x.target) + 1
        let activating (t : State) : Prop := t.sui.busy = 4 ∧ t.sui.nor = (eraseSel s.sui).nor ∧ t.sui.writing = some { selNow s.sui with
          slot := x.target, st := 2, boots := 0, group := x.group, bundle := x.bundle, trialMs := 0, activeMs := none }
        (x.st = 2 → j = x.next → j < x.total →
            (∀ off bs, blockWrite s.sui j d = some (off, bs) → off + bs.length ≤ slotOff (x.target + 1) →
                Answers (.suiBlock 0x5E1F j d true) s (taken off bs) ∧ Answers (.sorliaBlock h j d true) s (taken off bs)
                  ∧ Answers (.suiBlock 0x5E1F j d false) s (leaves 2 0x80070000#32) ∧ Answers (.sorliaBlock h j d false) s (leaves 2 0x80070000#32))
              ∧ (blockWrite s.sui j d = none →
                Answers (.suiBlock 0x5E1F j d a) s (leaves 2 0x80040F08#32) ∧ Answers (.sorliaBlock h j d a) s (leaves 2 0x80040F08#32)))
          ∧ (x.st = 2 → j ≠ x.next →
            Answers (.suiBlock 0x5E1F j d a) s (fun t => leaves 4 0x80080000#32 t ∧ t.sui.answer.body = le4 (word x.next))
              ∧ Answers (.sorliaBlock h j d a) s (fun t => leaves 4 0x80080000#32 t ∧ t.sui.answer.body = le4 (word x.next)))
          ∧ (x.st = 2 ∨ x.st = 3 → x.next = x.total →
            (verifyFault s.sui = none → Answers (.suiVerify 0x5E1F true true) s verified ∧ Answers (.sorliaVerify h true true) s verified
                ∧ Answers (.suiVerify 0x5E1F true false) s (leaves 2 0x80070000#32) ∧ Answers (.sorliaVerify h true false) s (leaves 2 0x80070000#32))
              ∧ (∀ st code, verifyFault s.sui = some (st, code) →
                Answers (.suiVerify 0x5E1F true b) s (leaves 2 (word (2 ^ 31 + st * 2 ^ 16 + code)))
                  ∧ Answers (.sorliaVerify h true b) s (leaves 2 (word (2 ^ 31 + st * 2 ^ 16 + code)))))
          ∧ (x.st = 3 → s.sui.writing = none → committed s.sui x.target = true →
            Answers (.suiActivate 0x5E1F) s activating ∧ Answers (.sorliaActivate h) s activating)
          ∧ (x.st ≠ 3 → Answers (.suiActivate 0x5E1F) s (leaves 4 0x80060F0F#32) ∧ Answers (.sorliaActivate h) s (leaves 4 0x80060F0F#32))
          ∧ Answers (.suiRelease 0x5E1F) s (fun t => t.sui.lock = none ∧ t.sui.answer.status = 0 ∧ t.sui.nor = s.sui.nor)
          ∧ (∀ key, s.sui.ckProg = 0 → Answers (.suiEnrol 0x5E1F (.enrol key) none true) s (fun t => t.sui.ckProg = 1 ∧ t.sui.answer.status = 0
            ∧ Tbl.get t.sui.ck 0 = sha384 key ∧ Tbl.get t.mnt.ck 0 = sha384 key)))
    ∧ (∀ (s : State) (bs : List Byte) (m : Manifest), s.sui.busy = 1 → s.sui.staged = some bs → manifestOf bs = some m →
        (copiesOk s.sui m = true → Answers (.suiOpComplete true) s (fun t => t.sui.busy = 0 ∧ t.sui.xfer = { s.sui.xfer with st := 2, next := 0 }
            ∧ t.sui.answer = ⟨s.sui.workReq, 0, le4 0#32⟩ ∧ t.sui.nor = (prepareSlot s.sui.xfer.target m s.sui).nor))
          ∧ (copiesOk s.sui m = false → Answers (.suiOpComplete true) s (fun t => t.sui.busy = 0 ∧ t.sui.xfer = s.sui.xfer ∧ t.sui.answer = ⟨s.sui.workReq, 2, []⟩
            ∧ t.sui.nor = s.sui.nor ∧ t.reg Reg.SUI_RESULT = 0x80050000#32))
          ∧ Answers (.suiOpComplete false) s (fun t => t.sui.busy = 0 ∧ t.sui.xfer = s.sui.xfer ∧ t.sui.answer = ⟨s.sui.workReq, 2, []⟩
            ∧ t.sui.nor = s.sui.nor ∧ t.reg Reg.SUI_RESULT = 0x80070000#32))
    ∧ (∀ (s : State) (x : Sel), s.sui.writing = some x →
        (1 ≤ x.st → x.st ≤ 3 → x.slot < 256 → x.boots < 256 → x.group < 256 → x.trialMs < 2 ^ 64 → x.activeMs.getD 0 < 2 ^ 64 - 1 →
          (s.sui.busy = 4 → Answers .selectorWriteDone s (fun t => t.sys.state = .kindling ∧ selNow t.sui = withSeq x s.sui))
            ∧ (s.sui.busy = 5 → s.sui.confirmTags = [] → Answers .selectorWriteDone s (fun t => t.sui.writing = none ∧ t.sui.busy = 0
                ∧ selNow t.sui = withSeq x s.sui ∧ t.reg Reg.SUI_RESULT = 0x80000F0B#32 ∧ t.sys = s.sys))
            ∧ (s.sui.busy = 6 → Answers .selectorWriteDone s (fun t => t.sui.revertPending = true ∧ t.sui.busy = 0
                ∧ selNow t.sui = withSeq x s.sui ∧ t.sys = s.sys))))
    ∧ (∀ s : State, (s.sui.writing = none → Answers .selectorWriteDone s (fun t => t = s)) ∧ (s.sui.busy ≠ 1 → ∀ ok, Answers (.suiOpComplete ok) s (fun t => t = s)))
    ∧ (∀ s : State, suiFree 0x5E1F s = true →
        (onTrial s.sui = true → s.sui.writing = none → s.sys.state = .active → Answers (.suiConfirm 0x5E1F) s (fun t => t.sui.busy = 5
            ∧ t.sui.writing = some { selNow s.sui with st := 1 } ∧ t.sui.nor = (eraseSel s.sui).nor ∧ t = { s with sui := t.sui }))
          ∧ (onTrial s.sui = false ∨ s.sys.state ≠ .active → Answers (.suiConfirm 0x5E1F) s (fun t => t.sui.writing = s.sui.writing ∧ t.sui.nor = s.sui.nor
            ∧ t.sui.answer.status = 4 ∧ t.reg Reg.SUI_RESULT = 0x80060F0F#32))
          ∧ (∀ a, revertWhy s = some a → s.sui.confirmTags = [] → s.sui.writing = none →
              let reverting (t : State) : Prop := t.sui.writing = some { selNow s.sui with slot := otherSlot s.sui.running, st := 3 } ∧ t.sui.busy = 6
                ∧ t.sui.nor = (eraseSel s.sui).nor ∧ t.sys = s.sys
              Answers (.suiRevert 0x5E1F) s reverting ∧ (s.sys.phase = 4 → Answers .trialDeadline s reverting))
          ∧ (revertWhy s = none → Answers (.suiRevert 0x5E1F) s (fun t => t.sui.writing = s.sui.writing ∧ t.sui.nor = s.sui.nor
            ∧ t.reg Reg.SUI_RESULT = 0x80060F0F#32)))
    ∧ (∀ s : State, revertWhy s = none ∨ s.sys.phase ≠ 4 ∨ s.sui.confirmTags ≠ [] → Answers .trialDeadline s (fun t => t = s))
    ∧ (∀ (s : State) (x : List Byte), suiFree 0x5E1F s = true →
        Answers (.suiAttest 0x5E1F x) s (fun t => t.sui.answer.status = 0 ∧ t.sui.answer.body.length = 376
          ∧ ∃ k, t.sui.answer.body.drop 280 = ecdsaSign s.sui.idKey k (sha384 (t.sui.answer.body.take 280))))
    ∧ (∀ (s : State) (sl bl : Nat) (good ok : Bool), suiFree 0x5E1F s = true → reverifyOpen s = true → s.sui.verifying = some (sl, bl, good) →
        (bl < 512 → Answers (.suiReverifyStep 0x5E1F ok) s (fun t => t.sui = { s.sui with
            verifying := some (sl, bl + 1, good && (ok && (decide (bl < 511) || slotHashes s.sui sl))) } ∧ t = { s with sui := t.sui, regs := t.regs }))
          ∧ (bl = 512 → sl = 0 → Answers (.suiReverifyStep 0x5E1F ok) s (fun t => t.sui.verifying = some (1, 0, true)
              ∧ (good = true → ok = true → manifestsOk s.sui 0 = true → t.sui.nor = s.sui.nor)
              ∧ ((good && (ok && manifestsOk s.sui 0)) = false → s.sui.running = 1 → committed s.sui 0 = true → t.sui.nor = (uncommit 0 s.sui).nor
                ∧ committed t.sui 0 = false)
              ∧ (s.sui.running = 0 → t.sui.nor = s.sui.nor)))
          ∧ (bl = 512 → sl = 1 → Answers (.suiReverifyStep 0x5E1F ok) s (fun t => t.sui.verifying = none ∧ t.sui.verifyMs = s.evr.ms)))
    ∧ (∀ (s : State) (sl bl n : Nat), suiFree 0x5E1F s = true → s.sui.lock = none → s.sui.refreshing = some (sl, bl) →
        (4 ≤ n → bl + 1 < 512 → Answers (.suiRefreshStep 0x5E1F n) s (fun t => t.sui.refreshing = some (sl, bl + 1) ∧ refWork t.sui = none
            ∧ (refWork s.sui = none → sl < 2 → t.sui.norGet (blockOff sl bl) 0x10000 = s.sui.norGet (blockOff sl bl) 0x10000)))
          ∧ (n < 4 → Answers (.suiRefreshStep 0x5E1F n) s (fun t => t.sui.refreshing = some (sl, bl) ∧ t.sui.nor = (refreshBlock sl bl n (refComplete s.sui)).nor
            ∧ t.reg Reg.SUI_RESULT = 0x80070000#32))
          ∧ (4 ≤ n → bl = 511 → sl = s.sui.running → Answers (.suiRefreshStep 0x5E1F n) s (fun t => t.sui.refreshing = none ∧ t.sui.refreshMs = s.evr.ms)))
    ∧ ∀ s : State,
        (s.sui.verifyMs + 2592000000 ≤ s.evr.ms → s.sui.verifying = none → reverifyOpen s = true →
            Answers .reverifyDue s (fun t => t = { s with sui := { s.sui with verifying := some (0, 0, true) } }))
          ∧ (s.evr.ms < s.sui.verifyMs + 2592000000 → Answers .reverifyDue s (fun t => t = s))
          ∧ (s.sui.refreshMs + 126230400000 ≤ s.evr.ms → s.sui.refreshing = none → s.sui.lock = none →
            Answers .refreshDue s (fun t => t = { s with sui := { s.sui with refreshing := some (otherSlot s.sui.running, 0) } }))
          ∧ (s.evr.ms < s.sui.refreshMs + 126230400000 → Answers .refreshDue s (fun t => t = s))
end

