-- ==== Sys2Proof/Laws/Bits.lean ====
section
/-!
SUPPORT. What single bits of a bit vector read as after an update, and the bits of a vector built bit by bit.
-/
namespace Sys2Proof

theorem setBit_getLsbD {n : Nat} (w : BitVec n) (i j : Nat) (b : Bool) :
    (setBit w i b).getLsbD j = if j = i ∧ j < n then b else w.getLsbD j := by
  unfold setBit
  split <;> rename_i h
  · by_cases e : j = i <;> by_cases k : j < n
    · subst e
      simp [k, h]
    · subst e
      simp [k]
    · by_cases l : j < i
      · simp [k, e, l]
      · have : j - i ≠ 0 := by omega
        simp [e, l, this]
    · simp [k]
  · have h' : b = false := by simpa using h
    subst h'
    by_cases e : j = i <;> by_cases k : j < n
    · subst e
      simp [k]
    · subst e
      simp [k, BitVec.getLsbD_of_ge _ _ (Nat.le_of_not_lt k)]
    · by_cases l : j < i
      · simp [k, e, l]
      · have : j - i ≠ 0 := by omega
        simp [k, e, l, this]
    · simp [k, BitVec.getLsbD_of_ge _ _ (Nat.le_of_not_lt k)]

theorem foldl_setBit_getLsbD {n : Nat} (f : Nat → Bool) (l : List Nat) (w : BitVec n) (j : Nat) (hj : j < n) :
    (l.foldl (fun w i => setBit w i (f i)) w).getLsbD j = if j ∈ l then f j else w.getLsbD j := by
  induction l generalizing w with
  | nil => simp
  | cons a l ih =>
    rw [List.foldl_cons, ih, setBit_getLsbD]
    by_cases e : j = a
    · subst e
      simp [hj]
    · simp [e]

@[simp] theorem bitsOf_getLsbD (n : Nat) (f : Nat → Bool) (j : Nat) : (bitsOf n f).getLsbD j = (decide (j < n) && f j) := by
  by_cases h : j < n
  · unfold bitsOf
    rw [foldl_setBit_getLsbD f _ _ _ h]
    simp [h]
  · simp [h, BitVec.getLsbD_of_ge _ _ (Nat.le_of_not_lt h)]

@[simp] theorem bitAt_bitsOf (n : Nat) (f : Nat → Bool) (j : Nat) : bitAt (bitsOf n f) j = (decide (j < n) && f j) := bitsOf_getLsbD ..

theorem bitAt_setBit_same {n : Nat} (w : BitVec n) (i : Nat) (b : Bool) (h : i < n) : bitAt (setBit w i b) i = b := by
  unfold bitAt
  rw [setBit_getLsbD]
  simp [h]

/-- A vector of bits that each stood before adds none. -/
theorem bitsOf_and_sub {n : Nat} (w : BitVec n) (f : Nat → Bool) : (bitsOf n fun i => bitAt w i && f i) &&& ~~~w = 0 := by
  apply BitVec.eq_of_getLsbD_eq
  intro i hi
  simp only [BitVec.getLsbD_and, bitsOf_getLsbD, BitVec.getLsbD_not, bitAt]
  cases w.getLsbD i <;> simp [hi]

end Sys2Proof
end

