-- ==== Sys2Proof/Laws/Table.lean ====
section
/-!
SUPPORT. Laws of the sparse tables: what a read gives after a write, and that writes keep the canonical form.
-/
namespace Sys2Proof

variable {α : Type} [Inhabited α]

@[simp] theorem Tbl.get_nil (k : Nat) : Tbl.get ([] : Tbl α) k = default := rfl

@[simp] theorem Tbl.get_put_same (t : Tbl α) (k : Nat) (v : α) : Tbl.get (Tbl.put k v t) k = v := by
  induction t with
  | nil => simp [Tbl.put, Tbl.get]
  | cons p t ih =>
    obtain ⟨j, w⟩ := p
    unfold Tbl.put
    split
    · simp [Tbl.get]
    · split
      · simp [Tbl.get]
      · rename_i h
        simp only [Tbl.get]
        rw [if_neg (fun e => h e.symm)]
        exact ih

theorem Tbl.get_put_ne (t : Tbl α) {k a : Nat} (v : α) (h : k ≠ a) : Tbl.get (Tbl.put k v t) a = Tbl.get t a := by
  induction t with
  | nil => simp [Tbl.put, Tbl.get, h]
  | cons p t ih =>
    obtain ⟨j, w⟩ := p
    unfold Tbl.put
    split
    · simp [Tbl.get, h]
    · split
      · rename_i e
        subst e
        simp [Tbl.get, h]
      · simp [Tbl.get, ih]

@[simp] theorem Tbl.get_del_same (t : Tbl α) (k : Nat) : Tbl.get (Tbl.del k t) k = default := by
  induction t with
  | nil => simp [Tbl.del]
  | cons p t ih =>
    obtain ⟨j, w⟩ := p
    unfold Tbl.del
    split
    · exact ih
    · rename_i h
      simp only [Tbl.get]
      rw [if_neg (fun e => h e.symm)]
      exact ih

theorem Tbl.get_del_ne (t : Tbl α) {k a : Nat} (h : k ≠ a) : Tbl.get (Tbl.del k t) a = Tbl.get t a := by
  induction t with
  | nil => simp [Tbl.del]
  | cons p t ih =>
    obtain ⟨j, w⟩ := p
    unfold Tbl.del
    split
    · rename_i e
      subst e
      simp [Tbl.get, h, ih]
    · simp [Tbl.get, ih]

variable [DecidableEq α]

/-- A read at the written key gives the written value. -/
@[simp] theorem Tbl.get_set_same (t : Tbl α) (k : Nat) (v : α) : Tbl.get (Tbl.set t k v) k = v := by
  unfold Tbl.set
  split
  · rename_i h
    rw [Tbl.get_del_same, h]
  · exact Tbl.get_put_same t k v

/-- A read at another key gives what stood there. -/
theorem Tbl.get_set_ne (t : Tbl α) {k a : Nat} (v : α) (h : k ≠ a) : Tbl.get (Tbl.set t k v) a = Tbl.get t a := by
  unfold Tbl.set
  split
  · exact Tbl.get_del_ne t h
  · exact Tbl.get_put_ne t v h

/-- Both cases at once. -/
theorem Tbl.get_set (t : Tbl α) (k a : Nat) (v : α) : Tbl.get (Tbl.set t k v) a = if k = a then v else Tbl.get t a := by
  split
  · rename_i h
    subst h
    exact Tbl.get_set_same t k v
  · rename_i h
    exact Tbl.get_set_ne t v h

/-- A read after an update. -/
theorem Tbl.get_upd (t : Tbl α) (k a : Nat) (f : α → α) : Tbl.get (Tbl.upd t k f) a = if k = a then f (Tbl.get t k) else Tbl.get t a :=
  Tbl.get_set t k a _

/-- A read below or above a written range gives what stood there. -/
theorem Tbl.get_setList_out (vs : List α) (t : Tbl α) (k a : Nat) (h : a < k ∨ k + vs.length ≤ a) :
    Tbl.get (Tbl.setList t k vs) a = Tbl.get t a := by
  induction vs generalizing t k with
  | nil => rfl
  | cons v vs ih =>
    simp only [List.length_cons] at h
    rw [Tbl.setList, ih _ _ (by omega), Tbl.get_set_ne _ _ (by omega)]

/-- A read within a written range gives the written value. -/
theorem Tbl.get_setList_in (vs : List α) (t : Tbl α) (k i : Nat) (h : i < vs.length) :
    Tbl.get (Tbl.setList t k vs) (k + i) = vs[i]'h := by
  induction vs generalizing t k i with
  | nil => simp at h
  | cons v vs ih =>
    cases i with
    | zero => rw [Tbl.setList, Tbl.get_setList_out _ _ _ _ (by omega), Nat.add_zero, Tbl.get_set_same]; rfl
    | succ i =>
      have h' : i < vs.length := by simpa using h
      rw [Tbl.setList, show k + (i + 1) = k + 1 + i by omega, ih _ _ _ h']
      rfl

/-! ### The canonical form -/

theorem Tbl.wfFrom_mono (t : Tbl α) {lo lo' : Nat} (h : lo' ≤ lo) (w : Tbl.wfFrom lo t = true) : Tbl.wfFrom lo' t = true := by
  cases t with
  | nil => rfl
  | cons p t =>
    obtain ⟨j, v⟩ := p
    simp only [Tbl.wfFrom, Bool.and_eq_true, decide_eq_true_eq] at w ⊢
    exact ⟨⟨by omega, w.1.2⟩, w.2⟩

theorem Tbl.wfFrom_put (t : Tbl α) (lo k : Nat) (v : α) (hv : v ≠ default) (hk : lo ≤ k) (w : Tbl.wfFrom lo t = true) :
    Tbl.wfFrom lo (Tbl.put k v t) = true := by
  induction t generalizing lo with
  | nil => simp [Tbl.put, Tbl.wfFrom, hv, hk]
  | cons p t ih =>
    obtain ⟨j, u⟩ := p
    simp only [Tbl.wfFrom, Bool.and_eq_true, decide_eq_true_eq] at w
    unfold Tbl.put
    split
    · simp only [Tbl.wfFrom, Bool.and_eq_true, decide_eq_true_eq]
      exact ⟨⟨hk, hv⟩, ⟨by omega, w.1.2⟩, w.2⟩
    · split
      · rename_i e
        subst e
        simp only [Tbl.wfFrom, Bool.and_eq_true, decide_eq_true_eq]
        exact ⟨⟨hk, hv⟩, w.2⟩
      · simp only [Tbl.wfFrom, Bool.and_eq_true, decide_eq_true_eq]
        exact ⟨w.1, ih _ (by omega) w.2⟩

theorem Tbl.wfFrom_del (t : Tbl α) (lo k : Nat) (w : Tbl.wfFrom lo t = true) : Tbl.wfFrom lo (Tbl.del k t) = true := by
  induction t generalizing lo with
  | nil => rfl
  | cons p t ih =>
    obtain ⟨j, u⟩ := p
    simp only [Tbl.wfFrom, Bool.and_eq_true, decide_eq_true_eq] at w
    unfold Tbl.del
    split
    · exact Tbl.wfFrom_mono _ (by omega) (ih _ w.2)
    · simp only [Tbl.wfFrom, Bool.and_eq_true, decide_eq_true_eq]
      exact ⟨w.1, ih _ w.2⟩

/-- A write keeps the canonical form. -/
theorem Tbl.wf_set (t : Tbl α) (k : Nat) (v : α) (w : Tbl.wf t = true) : Tbl.wf (Tbl.set t k v) = true := by
  unfold Tbl.set Tbl.wf
  split
  · exact Tbl.wfFrom_del t 0 k w
  · rename_i hv
    exact Tbl.wfFrom_put t 0 k v hv (Nat.zero_le k) w

/-- A write of successive values keeps the canonical form. -/
theorem Tbl.wf_setList (vs : List α) (t : Tbl α) (k : Nat) (w : Tbl.wf t = true) : Tbl.wf (Tbl.setList t k vs) = true := by
  induction vs generalizing t k with
  | nil => exact w
  | cons v vs ih => exact ih _ _ (Tbl.wf_set t k v w)

end Sys2Proof
end

