-- ==== Sys2Proof/Laws/State.lean ====
section
/-!
SUPPORT. What each named update of State leaves: one lemma per field per update, and what a register and a numbered resource read as
after its own update.
-/
namespace Sys2Proof.Machine

theorem State.ite_sys (c : Prop) [Decidable c] (a b : State) : (if c then a else b).sys = if c then a.sys else b.sys := by split <;> rfl
theorem State.ite_vau (c : Prop) [Decidable c] (a b : State) : (if c then a else b).vau = if c then a.vau else b.vau := by split <;> rfl
theorem State.ite_mnt (c : Prop) [Decidable c] (a b : State) : (if c then a else b).mnt = if c then a.mnt else b.mnt := by split <;> rfl
theorem State.ite_ite (c : Prop) [Decidable c] (a b : State) : (if c then a else b).ite = if c then a.ite else b.ite := by split <;> rfl
theorem State.ite_crd (c : Prop) [Decidable c] (a b : State) : (if c then a else b).crd = if c then a.crd else b.crd := by split <;> rfl
theorem State.ite_lend (c : Prop) [Decidable c] (a b : State) : (if c then a else b).lend = if c then a.lend else b.lend := by split <;> rfl
theorem State.ite_pds (c : Prop) [Decidable c] (a b : State) : (if c then a else b).pds = if c then a.pds else b.pds := by split <;> rfl
theorem State.ite_dsu (c : Prop) [Decidable c] (a b : State) : (if c then a else b).dsu = if c then a.dsu else b.dsu := by split <;> rfl
theorem State.ite_dbc (c : Prop) [Decidable c] (a b : State) : (if c then a else b).dbc = if c then a.dbc else b.dbc := by split <;> rfl
theorem State.ite_sni (c : Prop) [Decidable c] (a b : State) : (if c then a else b).sni = if c then a.sni else b.sni := by split <;> rfl
theorem State.ite_cmd (c : Prop) [Decidable c] (a b : State) : (if c then a else b).cmd = if c then a.cmd else b.cmd := by split <;> rfl
theorem State.ite_rt (c : Prop) [Decidable c] (a b : State) : (if c then a else b).rt = if c then a.rt else b.rt := by split <;> rfl
theorem State.ite_fio (c : Prop) [Decidable c] (a b : State) : (if c then a else b).fio = if c then a.fio else b.fio := by split <;> rfl
theorem State.ite_cvu (c : Prop) [Decidable c] (a b : State) : (if c then a else b).cvu = if c then a.cvu else b.cvu := by split <;> rfl
theorem State.ite_mbx (c : Prop) [Decidable c] (a b : State) : (if c then a else b).mbx = if c then a.mbx else b.mbx := by split <;> rfl
theorem State.ite_pcl (c : Prop) [Decidable c] (a b : State) : (if c then a else b).pcl = if c then a.pcl else b.pcl := by split <;> rfl
theorem State.ite_sui (c : Prop) [Decidable c] (a b : State) : (if c then a else b).sui = if c then a.sui else b.sui := by split <;> rfl
theorem State.ite_obs (c : Prop) [Decidable c] (a b : State) : (if c then a else b).obs = if c then a.obs else b.obs := by split <;> rfl
theorem State.ite_conf (c : Prop) [Decidable c] (a b : State) : (if c then a else b).conf = if c then a.conf else b.conf := by split <;> rfl
theorem State.ite_evr (c : Prop) [Decidable c] (a b : State) : (if c then a else b).evr = if c then a.evr else b.evr := by split <;> rfl
theorem State.ite_jnl (c : Prop) [Decidable c] (a b : State) : (if c then a else b).jnl = if c then a.jnl else b.jnl := by split <;> rfl
theorem State.ite_regs (c : Prop) [Decidable c] (a b : State) : (if c then a else b).regs = if c then a.regs else b.regs := by split <;> rfl
theorem State.ite_hi (c : Prop) [Decidable c] (a b : State) : (if c then a else b).hi = if c then a.hi else b.hi := by split <;> rfl
theorem State.ite_mram (c : Prop) [Decidable c] (a b : State) : (if c then a else b).mram = if c then a.mram else b.mram := by split <;> rfl
theorem State.ite_gd (c : Prop) [Decidable c] (a b : State) : (if c then a else b).gd = if c then a.gd else b.gd := by split <;> rfl
theorem State.ite_sram (c : Prop) [Decidable c] (a b : State) : (if c then a else b).sram = if c then a.sram else b.sram := by split <;> rfl
theorem State.ite_pending (c : Prop) [Decidable c] (a b : State) : (if c then a else b).pending = if c then a.pending else b.pending := by split <;> rfl
theorem State.ite_freeCtr (c : Prop) [Decidable c] (a b : State) : (if c then a else b).freeCtr = if c then a.freeCtr else b.freeCtr := by split <;> rfl

@[simp] theorem State.setReg_sys (s : State) (a : Nat) (w : Word) : (s.setReg a w).sys = s.sys := id rfl
@[simp] theorem State.setReg_vau (s : State) (a : Nat) (w : Word) : (s.setReg a w).vau = s.vau := id rfl
@[simp] theorem State.setReg_mnt (s : State) (a : Nat) (w : Word) : (s.setReg a w).mnt = s.mnt := id rfl
@[simp] theorem State.setReg_ite (s : State) (a : Nat) (w : Word) : (s.setReg a w).ite = s.ite := id rfl
@[simp] theorem State.setReg_crd (s : State) (a : Nat) (w : Word) : (s.setReg a w).crd = s.crd := id rfl
@[simp] theorem State.setReg_lend (s : State) (a : Nat) (w : Word) : (s.setReg a w).lend = s.lend := id rfl
@[simp] theorem State.setReg_pds (s : State) (a : Nat) (w : Word) : (s.setReg a w).pds = s.pds := id rfl
@[simp] theorem State.setReg_dsu (s : State) (a : Nat) (w : Word) : (s.setReg a w).dsu = s.dsu := id rfl
@[simp] theorem State.setReg_dbc (s : State) (a : Nat) (w : Word) : (s.setReg a w).dbc = s.dbc := id rfl
@[simp] theorem State.setReg_sni (s : State) (a : Nat) (w : Word) : (s.setReg a w).sni = s.sni := id rfl
@[simp] theorem State.setReg_cmd (s : State) (a : Nat) (w : Word) : (s.setReg a w).cmd = s.cmd := id rfl
@[simp] theorem State.setReg_rt (s : State) (a : Nat) (w : Word) : (s.setReg a w).rt = s.rt := id rfl
@[simp] theorem State.setReg_fio (s : State) (a : Nat) (w : Word) : (s.setReg a w).fio = s.fio := id rfl
@[simp] theorem State.setReg_cvu (s : State) (a : Nat) (w : Word) : (s.setReg a w).cvu = s.cvu := id rfl
@[simp] theorem State.setReg_mbx (s : State) (a : Nat) (w : Word) : (s.setReg a w).mbx = s.mbx := id rfl
@[simp] theorem State.setReg_pcl (s : State) (a : Nat) (w : Word) : (s.setReg a w).pcl = s.pcl := id rfl
@[simp] theorem State.setReg_sui (s : State) (a : Nat) (w : Word) : (s.setReg a w).sui = s.sui := id rfl
@[simp] theorem State.setReg_obs (s : State) (a : Nat) (w : Word) : (s.setReg a w).obs = s.obs := id rfl
@[simp] theorem State.setReg_conf (s : State) (a : Nat) (w : Word) : (s.setReg a w).conf = s.conf := id rfl
@[simp] theorem State.setReg_evr (s : State) (a : Nat) (w : Word) : (s.setReg a w).evr = s.evr := id rfl
@[simp] theorem State.setReg_jnl (s : State) (a : Nat) (w : Word) : (s.setReg a w).jnl = s.jnl := id rfl
@[simp] theorem State.setReg_hi (s : State) (a : Nat) (w : Word) : (s.setReg a w).hi = s.hi := id rfl
@[simp] theorem State.setReg_mram (s : State) (a : Nat) (w : Word) : (s.setReg a w).mram = s.mram := id rfl
@[simp] theorem State.setReg_gd (s : State) (a : Nat) (w : Word) : (s.setReg a w).gd = s.gd := id rfl
@[simp] theorem State.setReg_sram (s : State) (a : Nat) (w : Word) : (s.setReg a w).sram = s.sram := id rfl
@[simp] theorem State.setReg_pending (s : State) (a : Nat) (w : Word) : (s.setReg a w).pending = s.pending := id rfl
@[simp] theorem State.setReg_freeCtr (s : State) (a : Nat) (w : Word) : (s.setReg a w).freeCtr = s.freeCtr := id rfl

@[simp] theorem State.setRegF_sys (s : State) (a hi lo v : Nat) : (s.setRegF a hi lo v).sys = s.sys := id rfl
@[simp] theorem State.setRegF_vau (s : State) (a hi lo v : Nat) : (s.setRegF a hi lo v).vau = s.vau := id rfl
@[simp] theorem State.setRegF_mnt (s : State) (a hi lo v : Nat) : (s.setRegF a hi lo v).mnt = s.mnt := id rfl
@[simp] theorem State.setRegF_ite (s : State) (a hi lo v : Nat) : (s.setRegF a hi lo v).ite = s.ite := id rfl
@[simp] theorem State.setRegF_crd (s : State) (a hi lo v : Nat) : (s.setRegF a hi lo v).crd = s.crd := id rfl
@[simp] theorem State.setRegF_lend (s : State) (a hi lo v : Nat) : (s.setRegF a hi lo v).lend = s.lend := id rfl
@[simp] theorem State.setRegF_pds (s : State) (a hi lo v : Nat) : (s.setRegF a hi lo v).pds = s.pds := id rfl
@[simp] theorem State.setRegF_dsu (s : State) (a hi lo v : Nat) : (s.setRegF a hi lo v).dsu = s.dsu := id rfl
@[simp] theorem State.setRegF_dbc (s : State) (a hi lo v : Nat) : (s.setRegF a hi lo v).dbc = s.dbc := id rfl
@[simp] theorem State.setRegF_sni (s : State) (a hi lo v : Nat) : (s.setRegF a hi lo v).sni = s.sni := id rfl
@[simp] theorem State.setRegF_cmd (s : State) (a hi lo v : Nat) : (s.setRegF a hi lo v).cmd = s.cmd := id rfl
@[simp] theorem State.setRegF_rt (s : State) (a hi lo v : Nat) : (s.setRegF a hi lo v).rt = s.rt := id rfl
@[simp] theorem State.setRegF_fio (s : State) (a hi lo v : Nat) : (s.setRegF a hi lo v).fio = s.fio := id rfl
@[simp] theorem State.setRegF_cvu (s : State) (a hi lo v : Nat) : (s.setRegF a hi lo v).cvu = s.cvu := id rfl
@[simp] theorem State.setRegF_mbx (s : State) (a hi lo v : Nat) : (s.setRegF a hi lo v).mbx = s.mbx := id rfl
@[simp] theorem State.setRegF_pcl (s : State) (a hi lo v : Nat) : (s.setRegF a hi lo v).pcl = s.pcl := id rfl
@[simp] theorem State.setRegF_sui (s : State) (a hi lo v : Nat) : (s.setRegF a hi lo v).sui = s.sui := id rfl
@[simp] theorem State.setRegF_obs (s : State) (a hi lo v : Nat) : (s.setRegF a hi lo v).obs = s.obs := id rfl
@[simp] theorem State.setRegF_conf (s : State) (a hi lo v : Nat) : (s.setRegF a hi lo v).conf = s.conf := id rfl
@[simp] theorem State.setRegF_evr (s : State) (a hi lo v : Nat) : (s.setRegF a hi lo v).evr = s.evr := id rfl
@[simp] theorem State.setRegF_jnl (s : State) (a hi lo v : Nat) : (s.setRegF a hi lo v).jnl = s.jnl := id rfl
@[simp] theorem State.setRegF_hi (s : State) (a hi lo v : Nat) : (s.setRegF a hi lo v).hi = s.hi := id rfl
@[simp] theorem State.setRegF_mram (s : State) (a hi lo v : Nat) : (s.setRegF a hi lo v).mram = s.mram := id rfl
@[simp] theorem State.setRegF_gd (s : State) (a hi lo v : Nat) : (s.setRegF a hi lo v).gd = s.gd := id rfl
@[simp] theorem State.setRegF_sram (s : State) (a hi lo v : Nat) : (s.setRegF a hi lo v).sram = s.sram := id rfl
@[simp] theorem State.setRegF_pending (s : State) (a hi lo v : Nat) : (s.setRegF a hi lo v).pending = s.pending := id rfl
@[simp] theorem State.setRegF_freeCtr (s : State) (a hi lo v : Nat) : (s.setRegF a hi lo v).freeCtr = s.freeCtr := id rfl

@[simp] theorem State.setRegB_sys (s : State) (a i : Nat) (b : Bool) : (s.setRegB a i b).sys = s.sys := id rfl
@[simp] theorem State.setRegB_vau (s : State) (a i : Nat) (b : Bool) : (s.setRegB a i b).vau = s.vau := id rfl
@[simp] theorem State.setRegB_mnt (s : State) (a i : Nat) (b : Bool) : (s.setRegB a i b).mnt = s.mnt := id rfl
@[simp] theorem State.setRegB_ite (s : State) (a i : Nat) (b : Bool) : (s.setRegB a i b).ite = s.ite := id rfl
@[simp] theorem State.setRegB_crd (s : State) (a i : Nat) (b : Bool) : (s.setRegB a i b).crd = s.crd := id rfl
@[simp] theorem State.setRegB_lend (s : State) (a i : Nat) (b : Bool) : (s.setRegB a i b).lend = s.lend := id rfl
@[simp] theorem State.setRegB_pds (s : State) (a i : Nat) (b : Bool) : (s.setRegB a i b).pds = s.pds := id rfl
@[simp] theorem State.setRegB_dsu (s : State) (a i : Nat) (b : Bool) : (s.setRegB a i b).dsu = s.dsu := id rfl
@[simp] theorem State.setRegB_dbc (s : State) (a i : Nat) (b : Bool) : (s.setRegB a i b).dbc = s.dbc := id rfl
@[simp] theorem State.setRegB_sni (s : State) (a i : Nat) (b : Bool) : (s.setRegB a i b).sni = s.sni := id rfl
@[simp] theorem State.setRegB_cmd (s : State) (a i : Nat) (b : Bool) : (s.setRegB a i b).cmd = s.cmd := id rfl
@[simp] theorem State.setRegB_rt (s : State) (a i : Nat) (b : Bool) : (s.setRegB a i b).rt = s.rt := id rfl
@[simp] theorem State.setRegB_fio (s : State) (a i : Nat) (b : Bool) : (s.setRegB a i b).fio = s.fio := id rfl
@[simp] theorem State.setRegB_cvu (s : State) (a i : Nat) (b : Bool) : (s.setRegB a i b).cvu = s.cvu := id rfl
@[simp] theorem State.setRegB_mbx (s : State) (a i : Nat) (b : Bool) : (s.setRegB a i b).mbx = s.mbx := id rfl
@[simp] theorem State.setRegB_pcl (s : State) (a i : Nat) (b : Bool) : (s.setRegB a i b).pcl = s.pcl := id rfl
@[simp] theorem State.setRegB_sui (s : State) (a i : Nat) (b : Bool) : (s.setRegB a i b).sui = s.sui := id rfl
@[simp] theorem State.setRegB_obs (s : State) (a i : Nat) (b : Bool) : (s.setRegB a i b).obs = s.obs := id rfl
@[simp] theorem State.setRegB_conf (s : State) (a i : Nat) (b : Bool) : (s.setRegB a i b).conf = s.conf := id rfl
@[simp] theorem State.setRegB_evr (s : State) (a i : Nat) (b : Bool) : (s.setRegB a i b).evr = s.evr := id rfl
@[simp] theorem State.setRegB_jnl (s : State) (a i : Nat) (b : Bool) : (s.setRegB a i b).jnl = s.jnl := id rfl
@[simp] theorem State.setRegB_hi (s : State) (a i : Nat) (b : Bool) : (s.setRegB a i b).hi = s.hi := id rfl
@[simp] theorem State.setRegB_mram (s : State) (a i : Nat) (b : Bool) : (s.setRegB a i b).mram = s.mram := id rfl
@[simp] theorem State.setRegB_gd (s : State) (a i : Nat) (b : Bool) : (s.setRegB a i b).gd = s.gd := id rfl
@[simp] theorem State.setRegB_sram (s : State) (a i : Nat) (b : Bool) : (s.setRegB a i b).sram = s.sram := id rfl
@[simp] theorem State.setRegB_pending (s : State) (a i : Nat) (b : Bool) : (s.setRegB a i b).pending = s.pending := id rfl
@[simp] theorem State.setRegB_freeCtr (s : State) (a i : Nat) (b : Bool) : (s.setRegB a i b).freeCtr = s.freeCtr := id rfl

@[simp] theorem State.mramPut_sys (s : State) (o : Nat) (bs : List Byte) : (s.mramPut o bs).sys = s.sys := id rfl
@[simp] theorem State.mramPut_vau (s : State) (o : Nat) (bs : List Byte) : (s.mramPut o bs).vau = s.vau := id rfl
@[simp] theorem State.mramPut_mnt (s : State) (o : Nat) (bs : List Byte) : (s.mramPut o bs).mnt = s.mnt := id rfl
@[simp] theorem State.mramPut_ite (s : State) (o : Nat) (bs : List Byte) : (s.mramPut o bs).ite = s.ite := id rfl
@[simp] theorem State.mramPut_crd (s : State) (o : Nat) (bs : List Byte) : (s.mramPut o bs).crd = s.crd := id rfl
@[simp] theorem State.mramPut_lend (s : State) (o : Nat) (bs : List Byte) : (s.mramPut o bs).lend = s.lend := id rfl
@[simp] theorem State.mramPut_pds (s : State) (o : Nat) (bs : List Byte) : (s.mramPut o bs).pds = s.pds := id rfl
@[simp] theorem State.mramPut_dsu (s : State) (o : Nat) (bs : List Byte) : (s.mramPut o bs).dsu = s.dsu := id rfl
@[simp] theorem State.mramPut_dbc (s : State) (o : Nat) (bs : List Byte) : (s.mramPut o bs).dbc = s.dbc := id rfl
@[simp] theorem State.mramPut_sni (s : State) (o : Nat) (bs : List Byte) : (s.mramPut o bs).sni = s.sni := id rfl
@[simp] theorem State.mramPut_cmd (s : State) (o : Nat) (bs : List Byte) : (s.mramPut o bs).cmd = s.cmd := id rfl
@[simp] theorem State.mramPut_rt (s : State) (o : Nat) (bs : List Byte) : (s.mramPut o bs).rt = s.rt := id rfl
@[simp] theorem State.mramPut_fio (s : State) (o : Nat) (bs : List Byte) : (s.mramPut o bs).fio = s.fio := id rfl
@[simp] theorem State.mramPut_cvu (s : State) (o : Nat) (bs : List Byte) : (s.mramPut o bs).cvu = s.cvu := id rfl
@[simp] theorem State.mramPut_mbx (s : State) (o : Nat) (bs : List Byte) : (s.mramPut o bs).mbx = s.mbx := id rfl
@[simp] theorem State.mramPut_pcl (s : State) (o : Nat) (bs : List Byte) : (s.mramPut o bs).pcl = s.pcl := id rfl
@[simp] theorem State.mramPut_sui (s : State) (o : Nat) (bs : List Byte) : (s.mramPut o bs).sui = s.sui := id rfl
@[simp] theorem State.mramPut_obs (s : State) (o : Nat) (bs : List Byte) : (s.mramPut o bs).obs = s.obs := id rfl
@[simp] theorem State.mramPut_conf (s : State) (o : Nat) (bs : List Byte) : (s.mramPut o bs).conf = s.conf := id rfl
@[simp] theorem State.mramPut_evr (s : State) (o : Nat) (bs : List Byte) : (s.mramPut o bs).evr = s.evr := id rfl
@[simp] theorem State.mramPut_jnl (s : State) (o : Nat) (bs : List Byte) : (s.mramPut o bs).jnl = s.jnl := id rfl
@[simp] theorem State.mramPut_regs (s : State) (o : Nat) (bs : List Byte) : (s.mramPut o bs).regs = s.regs := id rfl
@[simp] theorem State.mramPut_hi (s : State) (o : Nat) (bs : List Byte) : (s.mramPut o bs).hi = s.hi := id rfl
@[simp] theorem State.mramPut_gd (s : State) (o : Nat) (bs : List Byte) : (s.mramPut o bs).gd = s.gd := id rfl
@[simp] theorem State.mramPut_sram (s : State) (o : Nat) (bs : List Byte) : (s.mramPut o bs).sram = s.sram := id rfl
@[simp] theorem State.mramPut_pending (s : State) (o : Nat) (bs : List Byte) : (s.mramPut o bs).pending = s.pending := id rfl
@[simp] theorem State.mramPut_freeCtr (s : State) (o : Nat) (bs : List Byte) : (s.mramPut o bs).freeCtr = s.freeCtr := id rfl

@[simp] theorem State.takeFree_sys (s : State) : (s.takeFree.2).sys = s.sys := id rfl
@[simp] theorem State.takeFree_vau (s : State) : (s.takeFree.2).vau = s.vau := id rfl
@[simp] theorem State.takeFree_mnt (s : State) : (s.takeFree.2).mnt = s.mnt := id rfl
@[simp] theorem State.takeFree_ite (s : State) : (s.takeFree.2).ite = s.ite := id rfl
@[simp] theorem State.takeFree_crd (s : State) : (s.takeFree.2).crd = s.crd := id rfl
@[simp] theorem State.takeFree_lend (s : State) : (s.takeFree.2).lend = s.lend := id rfl
@[simp] theorem State.takeFree_pds (s : State) : (s.takeFree.2).pds = s.pds := id rfl
@[simp] theorem State.takeFree_dsu (s : State) : (s.takeFree.2).dsu = s.dsu := id rfl
@[simp] theorem State.takeFree_dbc (s : State) : (s.takeFree.2).dbc = s.dbc := id rfl
@[simp] theorem State.takeFree_sni (s : State) : (s.takeFree.2).sni = s.sni := id rfl
@[simp] theorem State.takeFree_cmd (s : State) : (s.takeFree.2).cmd = s.cmd := id rfl
@[simp] theorem State.takeFree_rt (s : State) : (s.takeFree.2).rt = s.rt := id rfl
@[simp] theorem State.takeFree_fio (s : State) : (s.takeFree.2).fio = s.fio := id rfl
@[simp] theorem State.takeFree_cvu (s : State) : (s.takeFree.2).cvu = s.cvu := id rfl
@[simp] theorem State.takeFree_mbx (s : State) : (s.takeFree.2).mbx = s.mbx := id rfl
@[simp] theorem State.takeFree_pcl (s : State) : (s.takeFree.2).pcl = s.pcl := id rfl
@[simp] theorem State.takeFree_sui (s : State) : (s.takeFree.2).sui = s.sui := id rfl
@[simp] theorem State.takeFree_obs (s : State) : (s.takeFree.2).obs = s.obs := id rfl
@[simp] theorem State.takeFree_conf (s : State) : (s.takeFree.2).conf = s.conf := id rfl
@[simp] theorem State.takeFree_evr (s : State) : (s.takeFree.2).evr = s.evr := id rfl
@[simp] theorem State.takeFree_jnl (s : State) : (s.takeFree.2).jnl = s.jnl := id rfl
@[simp] theorem State.takeFree_regs (s : State) : (s.takeFree.2).regs = s.regs := id rfl
@[simp] theorem State.takeFree_hi (s : State) : (s.takeFree.2).hi = s.hi := id rfl
@[simp] theorem State.takeFree_mram (s : State) : (s.takeFree.2).mram = s.mram := id rfl
@[simp] theorem State.takeFree_gd (s : State) : (s.takeFree.2).gd = s.gd := id rfl
@[simp] theorem State.takeFree_sram (s : State) : (s.takeFree.2).sram = s.sram := id rfl
@[simp] theorem State.takeFree_pending (s : State) : (s.takeFree.2).pending = s.pending := id rfl

@[simp] theorem State.setTag_sys (s : State) (n : Nat) (x : Tag) : (s.setTag n x).sys = s.sys := id rfl
@[simp] theorem State.setTag_vau (s : State) (n : Nat) (x : Tag) : (s.setTag n x).vau = s.vau := id rfl
@[simp] theorem State.setTag_mnt (s : State) (n : Nat) (x : Tag) : (s.setTag n x).mnt = s.mnt := id rfl
@[simp] theorem State.setTag_ite (s : State) (n : Nat) (x : Tag) : (s.setTag n x).ite = s.ite := id rfl
@[simp] theorem State.setTag_crd (s : State) (n : Nat) (x : Tag) : (s.setTag n x).crd = s.crd := id rfl
@[simp] theorem State.setTag_lend (s : State) (n : Nat) (x : Tag) : (s.setTag n x).lend = s.lend := id rfl
@[simp] theorem State.setTag_pds (s : State) (n : Nat) (x : Tag) : (s.setTag n x).pds = s.pds := id rfl
@[simp] theorem State.setTag_dsu (s : State) (n : Nat) (x : Tag) : (s.setTag n x).dsu = s.dsu := id rfl
@[simp] theorem State.setTag_dbc (s : State) (n : Nat) (x : Tag) : (s.setTag n x).dbc = s.dbc := id rfl
@[simp] theorem State.setTag_sni (s : State) (n : Nat) (x : Tag) : (s.setTag n x).sni = s.sni := id rfl
@[simp] theorem State.setTag_rt (s : State) (n : Nat) (x : Tag) : (s.setTag n x).rt = s.rt := id rfl
@[simp] theorem State.setTag_fio (s : State) (n : Nat) (x : Tag) : (s.setTag n x).fio = s.fio := id rfl
@[simp] theorem State.setTag_cvu (s : State) (n : Nat) (x : Tag) : (s.setTag n x).cvu = s.cvu := id rfl
@[simp] theorem State.setTag_mbx (s : State) (n : Nat) (x : Tag) : (s.setTag n x).mbx = s.mbx := id rfl
@[simp] theorem State.setTag_pcl (s : State) (n : Nat) (x : Tag) : (s.setTag n x).pcl = s.pcl := id rfl
@[simp] theorem State.setTag_sui (s : State) (n : Nat) (x : Tag) : (s.setTag n x).sui = s.sui := id rfl
@[simp] theorem State.setTag_obs (s : State) (n : Nat) (x : Tag) : (s.setTag n x).obs = s.obs := id rfl
@[simp] theorem State.setTag_conf (s : State) (n : Nat) (x : Tag) : (s.setTag n x).conf = s.conf := id rfl
@[simp] theorem State.setTag_evr (s : State) (n : Nat) (x : Tag) : (s.setTag n x).evr = s.evr := id rfl
@[simp] theorem State.setTag_jnl (s : State) (n : Nat) (x : Tag) : (s.setTag n x).jnl = s.jnl := id rfl
@[simp] theorem State.setTag_regs (s : State) (n : Nat) (x : Tag) : (s.setTag n x).regs = s.regs := id rfl
@[simp] theorem State.setTag_hi (s : State) (n : Nat) (x : Tag) : (s.setTag n x).hi = s.hi := id rfl
@[simp] theorem State.setTag_mram (s : State) (n : Nat) (x : Tag) : (s.setTag n x).mram = s.mram := id rfl
@[simp] theorem State.setTag_gd (s : State) (n : Nat) (x : Tag) : (s.setTag n x).gd = s.gd := id rfl
@[simp] theorem State.setTag_sram (s : State) (n : Nat) (x : Tag) : (s.setTag n x).sram = s.sram := id rfl
@[simp] theorem State.setTag_pending (s : State) (n : Nat) (x : Tag) : (s.setTag n x).pending = s.pending := id rfl
@[simp] theorem State.setTag_freeCtr (s : State) (n : Nat) (x : Tag) : (s.setTag n x).freeCtr = s.freeCtr := id rfl

@[simp] theorem State.setBus_sys (s : State) (n : Nat) (x : Dbc) : (s.setBus n x).sys = s.sys := id rfl
@[simp] theorem State.setBus_vau (s : State) (n : Nat) (x : Dbc) : (s.setBus n x).vau = s.vau := id rfl
@[simp] theorem State.setBus_mnt (s : State) (n : Nat) (x : Dbc) : (s.setBus n x).mnt = s.mnt := id rfl
@[simp] theorem State.setBus_ite (s : State) (n : Nat) (x : Dbc) : (s.setBus n x).ite = s.ite := id rfl
@[simp] theorem State.setBus_crd (s : State) (n : Nat) (x : Dbc) : (s.setBus n x).crd = s.crd := id rfl
@[simp] theorem State.setBus_lend (s : State) (n : Nat) (x : Dbc) : (s.setBus n x).lend = s.lend := id rfl
@[simp] theorem State.setBus_pds (s : State) (n : Nat) (x : Dbc) : (s.setBus n x).pds = s.pds := id rfl
@[simp] theorem State.setBus_dsu (s : State) (n : Nat) (x : Dbc) : (s.setBus n x).dsu = s.dsu := id rfl
@[simp] theorem State.setBus_sni (s : State) (n : Nat) (x : Dbc) : (s.setBus n x).sni = s.sni := id rfl
@[simp] theorem State.setBus_cmd (s : State) (n : Nat) (x : Dbc) : (s.setBus n x).cmd = s.cmd := id rfl
@[simp] theorem State.setBus_rt (s : State) (n : Nat) (x : Dbc) : (s.setBus n x).rt = s.rt := id rfl
@[simp] theorem State.setBus_fio (s : State) (n : Nat) (x : Dbc) : (s.setBus n x).fio = s.fio := id rfl
@[simp] theorem State.setBus_cvu (s : State) (n : Nat) (x : Dbc) : (s.setBus n x).cvu = s.cvu := id rfl
@[simp] theorem State.setBus_mbx (s : State) (n : Nat) (x : Dbc) : (s.setBus n x).mbx = s.mbx := id rfl
@[simp] theorem State.setBus_pcl (s : State) (n : Nat) (x : Dbc) : (s.setBus n x).pcl = s.pcl := id rfl
@[simp] theorem State.setBus_sui (s : State) (n : Nat) (x : Dbc) : (s.setBus n x).sui = s.sui := id rfl
@[simp] theorem State.setBus_obs (s : State) (n : Nat) (x : Dbc) : (s.setBus n x).obs = s.obs := id rfl
@[simp] theorem State.setBus_conf (s : State) (n : Nat) (x : Dbc) : (s.setBus n x).conf = s.conf := id rfl
@[simp] theorem State.setBus_evr (s : State) (n : Nat) (x : Dbc) : (s.setBus n x).evr = s.evr := id rfl
@[simp] theorem State.setBus_jnl (s : State) (n : Nat) (x : Dbc) : (s.setBus n x).jnl = s.jnl := id rfl
@[simp] theorem State.setBus_regs (s : State) (n : Nat) (x : Dbc) : (s.setBus n x).regs = s.regs := id rfl
@[simp] theorem State.setBus_hi (s : State) (n : Nat) (x : Dbc) : (s.setBus n x).hi = s.hi := id rfl
@[simp] theorem State.setBus_mram (s : State) (n : Nat) (x : Dbc) : (s.setBus n x).mram = s.mram := id rfl
@[simp] theorem State.setBus_gd (s : State) (n : Nat) (x : Dbc) : (s.setBus n x).gd = s.gd := id rfl
@[simp] theorem State.setBus_sram (s : State) (n : Nat) (x : Dbc) : (s.setBus n x).sram = s.sram := id rfl
@[simp] theorem State.setBus_pending (s : State) (n : Nat) (x : Dbc) : (s.setBus n x).pending = s.pending := id rfl
@[simp] theorem State.setBus_freeCtr (s : State) (n : Nat) (x : Dbc) : (s.setBus n x).freeCtr = s.freeCtr := id rfl

@[simp] theorem State.setEdge_sys (s : State) (n : Nat) (x : DEdge) : (s.setEdge n x).sys = s.sys := id rfl
@[simp] theorem State.setEdge_vau (s : State) (n : Nat) (x : DEdge) : (s.setEdge n x).vau = s.vau := id rfl
@[simp] theorem State.setEdge_mnt (s : State) (n : Nat) (x : DEdge) : (s.setEdge n x).mnt = s.mnt := id rfl
@[simp] theorem State.setEdge_ite (s : State) (n : Nat) (x : DEdge) : (s.setEdge n x).ite = s.ite := id rfl
@[simp] theorem State.setEdge_crd (s : State) (n : Nat) (x : DEdge) : (s.setEdge n x).crd = s.crd := id rfl
@[simp] theorem State.setEdge_lend (s : State) (n : Nat) (x : DEdge) : (s.setEdge n x).lend = s.lend := id rfl
@[simp] theorem State.setEdge_pds (s : State) (n : Nat) (x : DEdge) : (s.setEdge n x).pds = s.pds := id rfl
@[simp] theorem State.setEdge_dbc (s : State) (n : Nat) (x : DEdge) : (s.setEdge n x).dbc = s.dbc := id rfl
@[simp] theorem State.setEdge_sni (s : State) (n : Nat) (x : DEdge) : (s.setEdge n x).sni = s.sni := id rfl
@[simp] theorem State.setEdge_cmd (s : State) (n : Nat) (x : DEdge) : (s.setEdge n x).cmd = s.cmd := id rfl
@[simp] theorem State.setEdge_rt (s : State) (n : Nat) (x : DEdge) : (s.setEdge n x).rt = s.rt := id rfl
@[simp] theorem State.setEdge_fio (s : State) (n : Nat) (x : DEdge) : (s.setEdge n x).fio = s.fio := id rfl
@[simp] theorem State.setEdge_cvu (s : State) (n : Nat) (x : DEdge) : (s.setEdge n x).cvu = s.cvu := id rfl
@[simp] theorem State.setEdge_mbx (s : State) (n : Nat) (x : DEdge) : (s.setEdge n x).mbx = s.mbx := id rfl
@[simp] theorem State.setEdge_pcl (s : State) (n : Nat) (x : DEdge) : (s.setEdge n x).pcl = s.pcl := id rfl
@[simp] theorem State.setEdge_sui (s : State) (n : Nat) (x : DEdge) : (s.setEdge n x).sui = s.sui := id rfl
@[simp] theorem State.setEdge_obs (s : State) (n : Nat) (x : DEdge) : (s.setEdge n x).obs = s.obs := id rfl
@[simp] theorem State.setEdge_conf (s : State) (n : Nat) (x : DEdge) : (s.setEdge n x).conf = s.conf := id rfl
@[simp] theorem State.setEdge_evr (s : State) (n : Nat) (x : DEdge) : (s.setEdge n x).evr = s.evr := id rfl
@[simp] theorem State.setEdge_jnl (s : State) (n : Nat) (x : DEdge) : (s.setEdge n x).jnl = s.jnl := id rfl
@[simp] theorem State.setEdge_regs (s : State) (n : Nat) (x : DEdge) : (s.setEdge n x).regs = s.regs := id rfl
@[simp] theorem State.setEdge_hi (s : State) (n : Nat) (x : DEdge) : (s.setEdge n x).hi = s.hi := id rfl
@[simp] theorem State.setEdge_mram (s : State) (n : Nat) (x : DEdge) : (s.setEdge n x).mram = s.mram := id rfl
@[simp] theorem State.setEdge_gd (s : State) (n : Nat) (x : DEdge) : (s.setEdge n x).gd = s.gd := id rfl
@[simp] theorem State.setEdge_sram (s : State) (n : Nat) (x : DEdge) : (s.setEdge n x).sram = s.sram := id rfl
@[simp] theorem State.setEdge_pending (s : State) (n : Nat) (x : DEdge) : (s.setEdge n x).pending = s.pending := id rfl
@[simp] theorem State.setEdge_freeCtr (s : State) (n : Nat) (x : DEdge) : (s.setEdge n x).freeCtr = s.freeCtr := id rfl

@[simp] theorem State.setChan_sys (s : State) (n : Nat) (x : Mbx) : (s.setChan n x).sys = s.sys := id rfl
@[simp] theorem State.setChan_vau (s : State) (n : Nat) (x : Mbx) : (s.setChan n x).vau = s.vau := id rfl
@[simp] theorem State.setChan_mnt (s : State) (n : Nat) (x : Mbx) : (s.setChan n x).mnt = s.mnt := id rfl
@[simp] theorem State.setChan_ite (s : State) (n : Nat) (x : Mbx) : (s.setChan n x).ite = s.ite := id rfl
@[simp] theorem State.setChan_crd (s : State) (n : Nat) (x : Mbx) : (s.setChan n x).crd = s.crd := id rfl
@[simp] theorem State.setChan_lend (s : State) (n : Nat) (x : Mbx) : (s.setChan n x).lend = s.lend := id rfl
@[simp] theorem State.setChan_pds (s : State) (n : Nat) (x : Mbx) : (s.setChan n x).pds = s.pds := id rfl
@[simp] theorem State.setChan_dsu (s : State) (n : Nat) (x : Mbx) : (s.setChan n x).dsu = s.dsu := id rfl
@[simp] theorem State.setChan_dbc (s : State) (n : Nat) (x : Mbx) : (s.setChan n x).dbc = s.dbc := id rfl
@[simp] theorem State.setChan_sni (s : State) (n : Nat) (x : Mbx) : (s.setChan n x).sni = s.sni := id rfl
@[simp] theorem State.setChan_cmd (s : State) (n : Nat) (x : Mbx) : (s.setChan n x).cmd = s.cmd := id rfl
@[simp] theorem State.setChan_rt (s : State) (n : Nat) (x : Mbx) : (s.setChan n x).rt = s.rt := id rfl
@[simp] theorem State.setChan_fio (s : State) (n : Nat) (x : Mbx) : (s.setChan n x).fio = s.fio := id rfl
@[simp] theorem State.setChan_cvu (s : State) (n : Nat) (x : Mbx) : (s.setChan n x).cvu = s.cvu := id rfl
@[simp] theorem State.setChan_pcl (s : State) (n : Nat) (x : Mbx) : (s.setChan n x).pcl = s.pcl := id rfl
@[simp] theorem State.setChan_sui (s : State) (n : Nat) (x : Mbx) : (s.setChan n x).sui = s.sui := id rfl
@[simp] theorem State.setChan_obs (s : State) (n : Nat) (x : Mbx) : (s.setChan n x).obs = s.obs := id rfl
@[simp] theorem State.setChan_conf (s : State) (n : Nat) (x : Mbx) : (s.setChan n x).conf = s.conf := id rfl
@[simp] theorem State.setChan_evr (s : State) (n : Nat) (x : Mbx) : (s.setChan n x).evr = s.evr := id rfl
@[simp] theorem State.setChan_jnl (s : State) (n : Nat) (x : Mbx) : (s.setChan n x).jnl = s.jnl := id rfl
@[simp] theorem State.setChan_regs (s : State) (n : Nat) (x : Mbx) : (s.setChan n x).regs = s.regs := id rfl
@[simp] theorem State.setChan_hi (s : State) (n : Nat) (x : Mbx) : (s.setChan n x).hi = s.hi := id rfl
@[simp] theorem State.setChan_mram (s : State) (n : Nat) (x : Mbx) : (s.setChan n x).mram = s.mram := id rfl
@[simp] theorem State.setChan_gd (s : State) (n : Nat) (x : Mbx) : (s.setChan n x).gd = s.gd := id rfl
@[simp] theorem State.setChan_sram (s : State) (n : Nat) (x : Mbx) : (s.setChan n x).sram = s.sram := id rfl
@[simp] theorem State.setChan_pending (s : State) (n : Nat) (x : Mbx) : (s.setChan n x).pending = s.pending := id rfl
@[simp] theorem State.setChan_freeCtr (s : State) (n : Nat) (x : Mbx) : (s.setChan n x).freeCtr = s.freeCtr := id rfl

@[simp] theorem State.setCon_sys (s : State) (n : Nat) (x : Conn) : (s.setCon n x).sys = s.sys := id rfl
@[simp] theorem State.setCon_vau (s : State) (n : Nat) (x : Conn) : (s.setCon n x).vau = s.vau := id rfl
@[simp] theorem State.setCon_mnt (s : State) (n : Nat) (x : Conn) : (s.setCon n x).mnt = s.mnt := id rfl
@[simp] theorem State.setCon_ite (s : State) (n : Nat) (x : Conn) : (s.setCon n x).ite = s.ite := id rfl
@[simp] theorem State.setCon_crd (s : State) (n : Nat) (x : Conn) : (s.setCon n x).crd = s.crd := id rfl
@[simp] theorem State.setCon_lend (s : State) (n : Nat) (x : Conn) : (s.setCon n x).lend = s.lend := id rfl
@[simp] theorem State.setCon_pds (s : State) (n : Nat) (x : Conn) : (s.setCon n x).pds = s.pds := id rfl
@[simp] theorem State.setCon_dsu (s : State) (n : Nat) (x : Conn) : (s.setCon n x).dsu = s.dsu := id rfl
@[simp] theorem State.setCon_dbc (s : State) (n : Nat) (x : Conn) : (s.setCon n x).dbc = s.dbc := id rfl
@[simp] theorem State.setCon_cmd (s : State) (n : Nat) (x : Conn) : (s.setCon n x).cmd = s.cmd := id rfl
@[simp] theorem State.setCon_rt (s : State) (n : Nat) (x : Conn) : (s.setCon n x).rt = s.rt := id rfl
@[simp] theorem State.setCon_fio (s : State) (n : Nat) (x : Conn) : (s.setCon n x).fio = s.fio := id rfl
@[simp] theorem State.setCon_cvu (s : State) (n : Nat) (x : Conn) : (s.setCon n x).cvu = s.cvu := id rfl
@[simp] theorem State.setCon_mbx (s : State) (n : Nat) (x : Conn) : (s.setCon n x).mbx = s.mbx := id rfl
@[simp] theorem State.setCon_pcl (s : State) (n : Nat) (x : Conn) : (s.setCon n x).pcl = s.pcl := id rfl
@[simp] theorem State.setCon_sui (s : State) (n : Nat) (x : Conn) : (s.setCon n x).sui = s.sui := id rfl
@[simp] theorem State.setCon_obs (s : State) (n : Nat) (x : Conn) : (s.setCon n x).obs = s.obs := id rfl
@[simp] theorem State.setCon_conf (s : State) (n : Nat) (x : Conn) : (s.setCon n x).conf = s.conf := id rfl
@[simp] theorem State.setCon_evr (s : State) (n : Nat) (x : Conn) : (s.setCon n x).evr = s.evr := id rfl
@[simp] theorem State.setCon_jnl (s : State) (n : Nat) (x : Conn) : (s.setCon n x).jnl = s.jnl := id rfl
@[simp] theorem State.setCon_regs (s : State) (n : Nat) (x : Conn) : (s.setCon n x).regs = s.regs := id rfl
@[simp] theorem State.setCon_hi (s : State) (n : Nat) (x : Conn) : (s.setCon n x).hi = s.hi := id rfl
@[simp] theorem State.setCon_mram (s : State) (n : Nat) (x : Conn) : (s.setCon n x).mram = s.mram := id rfl
@[simp] theorem State.setCon_gd (s : State) (n : Nat) (x : Conn) : (s.setCon n x).gd = s.gd := id rfl
@[simp] theorem State.setCon_sram (s : State) (n : Nat) (x : Conn) : (s.setCon n x).sram = s.sram := id rfl
@[simp] theorem State.setCon_pending (s : State) (n : Nat) (x : Conn) : (s.setCon n x).pending = s.pending := id rfl
@[simp] theorem State.setCon_freeCtr (s : State) (n : Nat) (x : Conn) : (s.setCon n x).freeCtr = s.freeCtr := id rfl

@[simp] theorem State.setUnitC_sys (s : State) (n : Nat) (x : Cvu) : (s.setUnitC n x).sys = s.sys := id rfl
@[simp] theorem State.setUnitC_vau (s : State) (n : Nat) (x : Cvu) : (s.setUnitC n x).vau = s.vau := id rfl
@[simp] theorem State.setUnitC_mnt (s : State) (n : Nat) (x : Cvu) : (s.setUnitC n x).mnt = s.mnt := id rfl
@[simp] theorem State.setUnitC_ite (s : State) (n : Nat) (x : Cvu) : (s.setUnitC n x).ite = s.ite := id rfl
@[simp] theorem State.setUnitC_crd (s : State) (n : Nat) (x : Cvu) : (s.setUnitC n x).crd = s.crd := id rfl
@[simp] theorem State.setUnitC_lend (s : State) (n : Nat) (x : Cvu) : (s.setUnitC n x).lend = s.lend := id rfl
@[simp] theorem State.setUnitC_pds (s : State) (n : Nat) (x : Cvu) : (s.setUnitC n x).pds = s.pds := id rfl
@[simp] theorem State.setUnitC_dsu (s : State) (n : Nat) (x : Cvu) : (s.setUnitC n x).dsu = s.dsu := id rfl
@[simp] theorem State.setUnitC_dbc (s : State) (n : Nat) (x : Cvu) : (s.setUnitC n x).dbc = s.dbc := id rfl
@[simp] theorem State.setUnitC_sni (s : State) (n : Nat) (x : Cvu) : (s.setUnitC n x).sni = s.sni := id rfl
@[simp] theorem State.setUnitC_cmd (s : State) (n : Nat) (x : Cvu) : (s.setUnitC n x).cmd = s.cmd := id rfl
@[simp] theorem State.setUnitC_rt (s : State) (n : Nat) (x : Cvu) : (s.setUnitC n x).rt = s.rt := id rfl
@[simp] theorem State.setUnitC_fio (s : State) (n : Nat) (x : Cvu) : (s.setUnitC n x).fio = s.fio := id rfl
@[simp] theorem State.setUnitC_mbx (s : State) (n : Nat) (x : Cvu) : (s.setUnitC n x).mbx = s.mbx := id rfl
@[simp] theorem State.setUnitC_pcl (s : State) (n : Nat) (x : Cvu) : (s.setUnitC n x).pcl = s.pcl := id rfl
@[simp] theorem State.setUnitC_sui (s : State) (n : Nat) (x : Cvu) : (s.setUnitC n x).sui = s.sui := id rfl
@[simp] theorem State.setUnitC_obs (s : State) (n : Nat) (x : Cvu) : (s.setUnitC n x).obs = s.obs := id rfl
@[simp] theorem State.setUnitC_conf (s : State) (n : Nat) (x : Cvu) : (s.setUnitC n x).conf = s.conf := id rfl
@[simp] theorem State.setUnitC_evr (s : State) (n : Nat) (x : Cvu) : (s.setUnitC n x).evr = s.evr := id rfl
@[simp] theorem State.setUnitC_jnl (s : State) (n : Nat) (x : Cvu) : (s.setUnitC n x).jnl = s.jnl := id rfl
@[simp] theorem State.setUnitC_regs (s : State) (n : Nat) (x : Cvu) : (s.setUnitC n x).regs = s.regs := id rfl
@[simp] theorem State.setUnitC_hi (s : State) (n : Nat) (x : Cvu) : (s.setUnitC n x).hi = s.hi := id rfl
@[simp] theorem State.setUnitC_mram (s : State) (n : Nat) (x : Cvu) : (s.setUnitC n x).mram = s.mram := id rfl
@[simp] theorem State.setUnitC_gd (s : State) (n : Nat) (x : Cvu) : (s.setUnitC n x).gd = s.gd := id rfl
@[simp] theorem State.setUnitC_sram (s : State) (n : Nat) (x : Cvu) : (s.setUnitC n x).sram = s.sram := id rfl
@[simp] theorem State.setUnitC_pending (s : State) (n : Nat) (x : Cvu) : (s.setUnitC n x).pending = s.pending := id rfl
@[simp] theorem State.setUnitC_freeCtr (s : State) (n : Nat) (x : Cvu) : (s.setUnitC n x).freeCtr = s.freeCtr := id rfl

@[simp] theorem State.setDleaf_sys (s : State) (n : Nat) (x : DLeaf) : (s.setDleaf n x).sys = s.sys := id rfl
@[simp] theorem State.setDleaf_vau (s : State) (n : Nat) (x : DLeaf) : (s.setDleaf n x).vau = s.vau := id rfl
@[simp] theorem State.setDleaf_mnt (s : State) (n : Nat) (x : DLeaf) : (s.setDleaf n x).mnt = s.mnt := id rfl
@[simp] theorem State.setDleaf_ite (s : State) (n : Nat) (x : DLeaf) : (s.setDleaf n x).ite = s.ite := id rfl
@[simp] theorem State.setDleaf_crd (s : State) (n : Nat) (x : DLeaf) : (s.setDleaf n x).crd = s.crd := id rfl
@[simp] theorem State.setDleaf_lend (s : State) (n : Nat) (x : DLeaf) : (s.setDleaf n x).lend = s.lend := id rfl
@[simp] theorem State.setDleaf_pds (s : State) (n : Nat) (x : DLeaf) : (s.setDleaf n x).pds = s.pds := id rfl
@[simp] theorem State.setDleaf_dbc (s : State) (n : Nat) (x : DLeaf) : (s.setDleaf n x).dbc = s.dbc := id rfl
@[simp] theorem State.setDleaf_sni (s : State) (n : Nat) (x : DLeaf) : (s.setDleaf n x).sni = s.sni := id rfl
@[simp] theorem State.setDleaf_cmd (s : State) (n : Nat) (x : DLeaf) : (s.setDleaf n x).cmd = s.cmd := id rfl
@[simp] theorem State.setDleaf_rt (s : State) (n : Nat) (x : DLeaf) : (s.setDleaf n x).rt = s.rt := id rfl
@[simp] theorem State.setDleaf_fio (s : State) (n : Nat) (x : DLeaf) : (s.setDleaf n x).fio = s.fio := id rfl
@[simp] theorem State.setDleaf_cvu (s : State) (n : Nat) (x : DLeaf) : (s.setDleaf n x).cvu = s.cvu := id rfl
@[simp] theorem State.setDleaf_mbx (s : State) (n : Nat) (x : DLeaf) : (s.setDleaf n x).mbx = s.mbx := id rfl
@[simp] theorem State.setDleaf_pcl (s : State) (n : Nat) (x : DLeaf) : (s.setDleaf n x).pcl = s.pcl := id rfl
@[simp] theorem State.setDleaf_sui (s : State) (n : Nat) (x : DLeaf) : (s.setDleaf n x).sui = s.sui := id rfl
@[simp] theorem State.setDleaf_obs (s : State) (n : Nat) (x : DLeaf) : (s.setDleaf n x).obs = s.obs := id rfl
@[simp] theorem State.setDleaf_conf (s : State) (n : Nat) (x : DLeaf) : (s.setDleaf n x).conf = s.conf := id rfl
@[simp] theorem State.setDleaf_evr (s : State) (n : Nat) (x : DLeaf) : (s.setDleaf n x).evr = s.evr := id rfl
@[simp] theorem State.setDleaf_jnl (s : State) (n : Nat) (x : DLeaf) : (s.setDleaf n x).jnl = s.jnl := id rfl
@[simp] theorem State.setDleaf_regs (s : State) (n : Nat) (x : DLeaf) : (s.setDleaf n x).regs = s.regs := id rfl
@[simp] theorem State.setDleaf_hi (s : State) (n : Nat) (x : DLeaf) : (s.setDleaf n x).hi = s.hi := id rfl
@[simp] theorem State.setDleaf_mram (s : State) (n : Nat) (x : DLeaf) : (s.setDleaf n x).mram = s.mram := id rfl
@[simp] theorem State.setDleaf_gd (s : State) (n : Nat) (x : DLeaf) : (s.setDleaf n x).gd = s.gd := id rfl
@[simp] theorem State.setDleaf_sram (s : State) (n : Nat) (x : DLeaf) : (s.setDleaf n x).sram = s.sram := id rfl
@[simp] theorem State.setDleaf_pending (s : State) (n : Nat) (x : DLeaf) : (s.setDleaf n x).pending = s.pending := id rfl
@[simp] theorem State.setDleaf_freeCtr (s : State) (n : Nat) (x : DLeaf) : (s.setDleaf n x).freeCtr = s.freeCtr := id rfl

@[simp] theorem State.setSes_sys (s : State) (n : Nat) (x : Session) : (s.setSes n x).sys = s.sys := id rfl
@[simp] theorem State.setSes_vau (s : State) (n : Nat) (x : Session) : (s.setSes n x).vau = s.vau := id rfl
@[simp] theorem State.setSes_mnt (s : State) (n : Nat) (x : Session) : (s.setSes n x).mnt = s.mnt := id rfl
@[simp] theorem State.setSes_ite (s : State) (n : Nat) (x : Session) : (s.setSes n x).ite = s.ite := id rfl
@[simp] theorem State.setSes_crd (s : State) (n : Nat) (x : Session) : (s.setSes n x).crd = s.crd := id rfl
@[simp] theorem State.setSes_lend (s : State) (n : Nat) (x : Session) : (s.setSes n x).lend = s.lend := id rfl
@[simp] theorem State.setSes_pds (s : State) (n : Nat) (x : Session) : (s.setSes n x).pds = s.pds := id rfl
@[simp] theorem State.setSes_dsu (s : State) (n : Nat) (x : Session) : (s.setSes n x).dsu = s.dsu := id rfl
@[simp] theorem State.setSes_dbc (s : State) (n : Nat) (x : Session) : (s.setSes n x).dbc = s.dbc := id rfl
@[simp] theorem State.setSes_sni (s : State) (n : Nat) (x : Session) : (s.setSes n x).sni = s.sni := id rfl
@[simp] theorem State.setSes_cmd (s : State) (n : Nat) (x : Session) : (s.setSes n x).cmd = s.cmd := id rfl
@[simp] theorem State.setSes_fio (s : State) (n : Nat) (x : Session) : (s.setSes n x).fio = s.fio := id rfl
@[simp] theorem State.setSes_cvu (s : State) (n : Nat) (x : Session) : (s.setSes n x).cvu = s.cvu := id rfl
@[simp] theorem State.setSes_mbx (s : State) (n : Nat) (x : Session) : (s.setSes n x).mbx = s.mbx := id rfl
@[simp] theorem State.setSes_pcl (s : State) (n : Nat) (x : Session) : (s.setSes n x).pcl = s.pcl := id rfl
@[simp] theorem State.setSes_sui (s : State) (n : Nat) (x : Session) : (s.setSes n x).sui = s.sui := id rfl
@[simp] theorem State.setSes_obs (s : State) (n : Nat) (x : Session) : (s.setSes n x).obs = s.obs := id rfl
@[simp] theorem State.setSes_conf (s : State) (n : Nat) (x : Session) : (s.setSes n x).conf = s.conf := id rfl
@[simp] theorem State.setSes_evr (s : State) (n : Nat) (x : Session) : (s.setSes n x).evr = s.evr := id rfl
@[simp] theorem State.setSes_jnl (s : State) (n : Nat) (x : Session) : (s.setSes n x).jnl = s.jnl := id rfl
@[simp] theorem State.setSes_regs (s : State) (n : Nat) (x : Session) : (s.setSes n x).regs = s.regs := id rfl
@[simp] theorem State.setSes_hi (s : State) (n : Nat) (x : Session) : (s.setSes n x).hi = s.hi := id rfl
@[simp] theorem State.setSes_mram (s : State) (n : Nat) (x : Session) : (s.setSes n x).mram = s.mram := id rfl
@[simp] theorem State.setSes_gd (s : State) (n : Nat) (x : Session) : (s.setSes n x).gd = s.gd := id rfl
@[simp] theorem State.setSes_sram (s : State) (n : Nat) (x : Session) : (s.setSes n x).sram = s.sram := id rfl
@[simp] theorem State.setSes_pending (s : State) (n : Nat) (x : Session) : (s.setSes n x).pending = s.pending := id rfl
@[simp] theorem State.setSes_freeCtr (s : State) (n : Nat) (x : Session) : (s.setSes n x).freeCtr = s.freeCtr := id rfl

@[simp] theorem State.setLeaf_sys (s : State) (n : Nat) (x : PLeaf) : (s.setLeaf n x).sys = s.sys := id rfl
@[simp] theorem State.setLeaf_vau (s : State) (n : Nat) (x : PLeaf) : (s.setLeaf n x).vau = s.vau := id rfl
@[simp] theorem State.setLeaf_mnt (s : State) (n : Nat) (x : PLeaf) : (s.setLeaf n x).mnt = s.mnt := id rfl
@[simp] theorem State.setLeaf_ite (s : State) (n : Nat) (x : PLeaf) : (s.setLeaf n x).ite = s.ite := id rfl
@[simp] theorem State.setLeaf_crd (s : State) (n : Nat) (x : PLeaf) : (s.setLeaf n x).crd = s.crd := id rfl
@[simp] theorem State.setLeaf_lend (s : State) (n : Nat) (x : PLeaf) : (s.setLeaf n x).lend = s.lend := id rfl
@[simp] theorem State.setLeaf_dsu (s : State) (n : Nat) (x : PLeaf) : (s.setLeaf n x).dsu = s.dsu := id rfl
@[simp] theorem State.setLeaf_dbc (s : State) (n : Nat) (x : PLeaf) : (s.setLeaf n x).dbc = s.dbc := id rfl
@[simp] theorem State.setLeaf_sni (s : State) (n : Nat) (x : PLeaf) : (s.setLeaf n x).sni = s.sni := id rfl
@[simp] theorem State.setLeaf_cmd (s : State) (n : Nat) (x : PLeaf) : (s.setLeaf n x).cmd = s.cmd := id rfl
@[simp] theorem State.setLeaf_rt (s : State) (n : Nat) (x : PLeaf) : (s.setLeaf n x).rt = s.rt := id rfl
@[simp] theorem State.setLeaf_fio (s : State) (n : Nat) (x : PLeaf) : (s.setLeaf n x).fio = s.fio := id rfl
@[simp] theorem State.setLeaf_cvu (s : State) (n : Nat) (x : PLeaf) : (s.setLeaf n x).cvu = s.cvu := id rfl
@[simp] theorem State.setLeaf_mbx (s : State) (n : Nat) (x : PLeaf) : (s.setLeaf n x).mbx = s.mbx := id rfl
@[simp] theorem State.setLeaf_pcl (s : State) (n : Nat) (x : PLeaf) : (s.setLeaf n x).pcl = s.pcl := id rfl
@[simp] theorem State.setLeaf_sui (s : State) (n : Nat) (x : PLeaf) : (s.setLeaf n x).sui = s.sui := id rfl
@[simp] theorem State.setLeaf_obs (s : State) (n : Nat) (x : PLeaf) : (s.setLeaf n x).obs = s.obs := id rfl
@[simp] theorem State.setLeaf_conf (s : State) (n : Nat) (x : PLeaf) : (s.setLeaf n x).conf = s.conf := id rfl
@[simp] theorem State.setLeaf_evr (s : State) (n : Nat) (x : PLeaf) : (s.setLeaf n x).evr = s.evr := id rfl
@[simp] theorem State.setLeaf_jnl (s : State) (n : Nat) (x : PLeaf) : (s.setLeaf n x).jnl = s.jnl := id rfl
@[simp] theorem State.setLeaf_regs (s : State) (n : Nat) (x : PLeaf) : (s.setLeaf n x).regs = s.regs := id rfl
@[simp] theorem State.setLeaf_hi (s : State) (n : Nat) (x : PLeaf) : (s.setLeaf n x).hi = s.hi := id rfl
@[simp] theorem State.setLeaf_mram (s : State) (n : Nat) (x : PLeaf) : (s.setLeaf n x).mram = s.mram := id rfl
@[simp] theorem State.setLeaf_gd (s : State) (n : Nat) (x : PLeaf) : (s.setLeaf n x).gd = s.gd := id rfl
@[simp] theorem State.setLeaf_sram (s : State) (n : Nat) (x : PLeaf) : (s.setLeaf n x).sram = s.sram := id rfl
@[simp] theorem State.setLeaf_pending (s : State) (n : Nat) (x : PLeaf) : (s.setLeaf n x).pending = s.pending := id rfl
@[simp] theorem State.setLeaf_freeCtr (s : State) (n : Nat) (x : PLeaf) : (s.setLeaf n x).freeCtr = s.freeCtr := id rfl

@[simp] theorem updPcl_sys (s : State) (f : Pcl → Pcl) : (updPcl f s).sys = s.sys := id rfl
@[simp] theorem updPcl_vau (s : State) (f : Pcl → Pcl) : (updPcl f s).vau = s.vau := id rfl
@[simp] theorem updPcl_mnt (s : State) (f : Pcl → Pcl) : (updPcl f s).mnt = s.mnt := id rfl
@[simp] theorem updPcl_ite (s : State) (f : Pcl → Pcl) : (updPcl f s).ite = s.ite := id rfl
@[simp] theorem updPcl_crd (s : State) (f : Pcl → Pcl) : (updPcl f s).crd = s.crd := id rfl
@[simp] theorem updPcl_lend (s : State) (f : Pcl → Pcl) : (updPcl f s).lend = s.lend := id rfl
@[simp] theorem updPcl_pds (s : State) (f : Pcl → Pcl) : (updPcl f s).pds = s.pds := id rfl
@[simp] theorem updPcl_dsu (s : State) (f : Pcl → Pcl) : (updPcl f s).dsu = s.dsu := id rfl
@[simp] theorem updPcl_dbc (s : State) (f : Pcl → Pcl) : (updPcl f s).dbc = s.dbc := id rfl
@[simp] theorem updPcl_sni (s : State) (f : Pcl → Pcl) : (updPcl f s).sni = s.sni := id rfl
@[simp] theorem updPcl_cmd (s : State) (f : Pcl → Pcl) : (updPcl f s).cmd = s.cmd := id rfl
@[simp] theorem updPcl_rt (s : State) (f : Pcl → Pcl) : (updPcl f s).rt = s.rt := id rfl
@[simp] theorem updPcl_fio (s : State) (f : Pcl → Pcl) : (updPcl f s).fio = s.fio := id rfl
@[simp] theorem updPcl_cvu (s : State) (f : Pcl → Pcl) : (updPcl f s).cvu = s.cvu := id rfl
@[simp] theorem updPcl_mbx (s : State) (f : Pcl → Pcl) : (updPcl f s).mbx = s.mbx := id rfl
@[simp] theorem updPcl_sui (s : State) (f : Pcl → Pcl) : (updPcl f s).sui = s.sui := id rfl
@[simp] theorem updPcl_obs (s : State) (f : Pcl → Pcl) : (updPcl f s).obs = s.obs := id rfl
@[simp] theorem updPcl_conf (s : State) (f : Pcl → Pcl) : (updPcl f s).conf = s.conf := id rfl
@[simp] theorem updPcl_evr (s : State) (f : Pcl → Pcl) : (updPcl f s).evr = s.evr := id rfl
@[simp] theorem updPcl_jnl (s : State) (f : Pcl → Pcl) : (updPcl f s).jnl = s.jnl := id rfl
@[simp] theorem updPcl_regs (s : State) (f : Pcl → Pcl) : (updPcl f s).regs = s.regs := id rfl
@[simp] theorem updPcl_hi (s : State) (f : Pcl → Pcl) : (updPcl f s).hi = s.hi := id rfl
@[simp] theorem updPcl_mram (s : State) (f : Pcl → Pcl) : (updPcl f s).mram = s.mram := id rfl
@[simp] theorem updPcl_gd (s : State) (f : Pcl → Pcl) : (updPcl f s).gd = s.gd := id rfl
@[simp] theorem updPcl_sram (s : State) (f : Pcl → Pcl) : (updPcl f s).sram = s.sram := id rfl
@[simp] theorem updPcl_pending (s : State) (f : Pcl → Pcl) : (updPcl f s).pending = s.pending := id rfl
@[simp] theorem updPcl_freeCtr (s : State) (f : Pcl → Pcl) : (updPcl f s).freeCtr = s.freeCtr := id rfl

@[simp] theorem updSui_sys (s : State) (f : Sui → Sui) : (updSui f s).sys = s.sys := id rfl
@[simp] theorem updSui_vau (s : State) (f : Sui → Sui) : (updSui f s).vau = s.vau := id rfl
@[simp] theorem updSui_mnt (s : State) (f : Sui → Sui) : (updSui f s).mnt = s.mnt := id rfl
@[simp] theorem updSui_ite (s : State) (f : Sui → Sui) : (updSui f s).ite = s.ite := id rfl
@[simp] theorem updSui_crd (s : State) (f : Sui → Sui) : (updSui f s).crd = s.crd := id rfl
@[simp] theorem updSui_lend (s : State) (f : Sui → Sui) : (updSui f s).lend = s.lend := id rfl
@[simp] theorem updSui_pds (s : State) (f : Sui → Sui) : (updSui f s).pds = s.pds := id rfl
@[simp] theorem updSui_dsu (s : State) (f : Sui → Sui) : (updSui f s).dsu = s.dsu := id rfl
@[simp] theorem updSui_dbc (s : State) (f : Sui → Sui) : (updSui f s).dbc = s.dbc := id rfl
@[simp] theorem updSui_sni (s : State) (f : Sui → Sui) : (updSui f s).sni = s.sni := id rfl
@[simp] theorem updSui_cmd (s : State) (f : Sui → Sui) : (updSui f s).cmd = s.cmd := id rfl
@[simp] theorem updSui_rt (s : State) (f : Sui → Sui) : (updSui f s).rt = s.rt := id rfl
@[simp] theorem updSui_fio (s : State) (f : Sui → Sui) : (updSui f s).fio = s.fio := id rfl
@[simp] theorem updSui_cvu (s : State) (f : Sui → Sui) : (updSui f s).cvu = s.cvu := id rfl
@[simp] theorem updSui_mbx (s : State) (f : Sui → Sui) : (updSui f s).mbx = s.mbx := id rfl
@[simp] theorem updSui_pcl (s : State) (f : Sui → Sui) : (updSui f s).pcl = s.pcl := id rfl
@[simp] theorem updSui_obs (s : State) (f : Sui → Sui) : (updSui f s).obs = s.obs := id rfl
@[simp] theorem updSui_conf (s : State) (f : Sui → Sui) : (updSui f s).conf = s.conf := id rfl
@[simp] theorem updSui_evr (s : State) (f : Sui → Sui) : (updSui f s).evr = s.evr := id rfl
@[simp] theorem updSui_jnl (s : State) (f : Sui → Sui) : (updSui f s).jnl = s.jnl := id rfl
@[simp] theorem updSui_regs (s : State) (f : Sui → Sui) : (updSui f s).regs = s.regs := id rfl
@[simp] theorem updSui_hi (s : State) (f : Sui → Sui) : (updSui f s).hi = s.hi := id rfl
@[simp] theorem updSui_mram (s : State) (f : Sui → Sui) : (updSui f s).mram = s.mram := id rfl
@[simp] theorem updSui_gd (s : State) (f : Sui → Sui) : (updSui f s).gd = s.gd := id rfl
@[simp] theorem updSui_sram (s : State) (f : Sui → Sui) : (updSui f s).sram = s.sram := id rfl
@[simp] theorem updSui_pending (s : State) (f : Sui → Sui) : (updSui f s).pending = s.pending := id rfl
@[simp] theorem updSui_freeCtr (s : State) (f : Sui → Sui) : (updSui f s).freeCtr = s.freeCtr := id rfl

@[simp] theorem updVau_sys (s : State) (f : Vau → Vau) : (updVau f s).sys = s.sys := id rfl
@[simp] theorem updVau_mnt (s : State) (f : Vau → Vau) : (updVau f s).mnt = s.mnt := id rfl
@[simp] theorem updVau_ite (s : State) (f : Vau → Vau) : (updVau f s).ite = s.ite := id rfl
@[simp] theorem updVau_crd (s : State) (f : Vau → Vau) : (updVau f s).crd = s.crd := id rfl
@[simp] theorem updVau_lend (s : State) (f : Vau → Vau) : (updVau f s).lend = s.lend := id rfl
@[simp] theorem updVau_pds (s : State) (f : Vau → Vau) : (updVau f s).pds = s.pds := id rfl
@[simp] theorem updVau_dsu (s : State) (f : Vau → Vau) : (updVau f s).dsu = s.dsu := id rfl
@[simp] theorem updVau_dbc (s : State) (f : Vau → Vau) : (updVau f s).dbc = s.dbc := id rfl
@[simp] theorem updVau_sni (s : State) (f : Vau → Vau) : (updVau f s).sni = s.sni := id rfl
@[simp] theorem updVau_cmd (s : State) (f : Vau → Vau) : (updVau f s).cmd = s.cmd := id rfl
@[simp] theorem updVau_rt (s : State) (f : Vau → Vau) : (updVau f s).rt = s.rt := id rfl
@[simp] theorem updVau_fio (s : State) (f : Vau → Vau) : (updVau f s).fio = s.fio := id rfl
@[simp] theorem updVau_cvu (s : State) (f : Vau → Vau) : (updVau f s).cvu = s.cvu := id rfl
@[simp] theorem updVau_mbx (s : State) (f : Vau → Vau) : (updVau f s).mbx = s.mbx := id rfl
@[simp] theorem updVau_pcl (s : State) (f : Vau → Vau) : (updVau f s).pcl = s.pcl := id rfl
@[simp] theorem updVau_sui (s : State) (f : Vau → Vau) : (updVau f s).sui = s.sui := id rfl
@[simp] theorem updVau_obs (s : State) (f : Vau → Vau) : (updVau f s).obs = s.obs := id rfl
@[simp] theorem updVau_conf (s : State) (f : Vau → Vau) : (updVau f s).conf = s.conf := id rfl
@[simp] theorem updVau_evr (s : State) (f : Vau → Vau) : (updVau f s).evr = s.evr := id rfl
@[simp] theorem updVau_jnl (s : State) (f : Vau → Vau) : (updVau f s).jnl = s.jnl := id rfl
@[simp] theorem updVau_regs (s : State) (f : Vau → Vau) : (updVau f s).regs = s.regs := id rfl
@[simp] theorem updVau_hi (s : State) (f : Vau → Vau) : (updVau f s).hi = s.hi := id rfl
@[simp] theorem updVau_mram (s : State) (f : Vau → Vau) : (updVau f s).mram = s.mram := id rfl
@[simp] theorem updVau_gd (s : State) (f : Vau → Vau) : (updVau f s).gd = s.gd := id rfl
@[simp] theorem updVau_sram (s : State) (f : Vau → Vau) : (updVau f s).sram = s.sram := id rfl
@[simp] theorem updVau_pending (s : State) (f : Vau → Vau) : (updVau f s).pending = s.pending := id rfl
@[simp] theorem updVau_freeCtr (s : State) (f : Vau → Vau) : (updVau f s).freeCtr = s.freeCtr := id rfl

@[simp] theorem State.setVau_sys (s : State) (a : Nat) (w : Word) : (s.setVau a w).sys = s.sys := id rfl
@[simp] theorem State.setVau_mnt (s : State) (a : Nat) (w : Word) : (s.setVau a w).mnt = s.mnt := id rfl
@[simp] theorem State.setVau_ite (s : State) (a : Nat) (w : Word) : (s.setVau a w).ite = s.ite := id rfl
@[simp] theorem State.setVau_crd (s : State) (a : Nat) (w : Word) : (s.setVau a w).crd = s.crd := id rfl
@[simp] theorem State.setVau_lend (s : State) (a : Nat) (w : Word) : (s.setVau a w).lend = s.lend := id rfl
@[simp] theorem State.setVau_pds (s : State) (a : Nat) (w : Word) : (s.setVau a w).pds = s.pds := id rfl
@[simp] theorem State.setVau_dsu (s : State) (a : Nat) (w : Word) : (s.setVau a w).dsu = s.dsu := id rfl
@[simp] theorem State.setVau_dbc (s : State) (a : Nat) (w : Word) : (s.setVau a w).dbc = s.dbc := id rfl
@[simp] theorem State.setVau_sni (s : State) (a : Nat) (w : Word) : (s.setVau a w).sni = s.sni := id rfl
@[simp] theorem State.setVau_cmd (s : State) (a : Nat) (w : Word) : (s.setVau a w).cmd = s.cmd := id rfl
@[simp] theorem State.setVau_rt (s : State) (a : Nat) (w : Word) : (s.setVau a w).rt = s.rt := id rfl
@[simp] theorem State.setVau_fio (s : State) (a : Nat) (w : Word) : (s.setVau a w).fio = s.fio := id rfl
@[simp] theorem State.setVau_cvu (s : State) (a : Nat) (w : Word) : (s.setVau a w).cvu = s.cvu := id rfl
@[simp] theorem State.setVau_mbx (s : State) (a : Nat) (w : Word) : (s.setVau a w).mbx = s.mbx := id rfl
@[simp] theorem State.setVau_pcl (s : State) (a : Nat) (w : Word) : (s.setVau a w).pcl = s.pcl := id rfl
@[simp] theorem State.setVau_sui (s : State) (a : Nat) (w : Word) : (s.setVau a w).sui = s.sui := id rfl
@[simp] theorem State.setVau_obs (s : State) (a : Nat) (w : Word) : (s.setVau a w).obs = s.obs := id rfl
@[simp] theorem State.setVau_conf (s : State) (a : Nat) (w : Word) : (s.setVau a w).conf = s.conf := id rfl
@[simp] theorem State.setVau_evr (s : State) (a : Nat) (w : Word) : (s.setVau a w).evr = s.evr := id rfl
@[simp] theorem State.setVau_jnl (s : State) (a : Nat) (w : Word) : (s.setVau a w).jnl = s.jnl := id rfl
@[simp] theorem State.setVau_regs (s : State) (a : Nat) (w : Word) : (s.setVau a w).regs = s.regs := id rfl
@[simp] theorem State.setVau_hi (s : State) (a : Nat) (w : Word) : (s.setVau a w).hi = s.hi := id rfl
@[simp] theorem State.setVau_mram (s : State) (a : Nat) (w : Word) : (s.setVau a w).mram = s.mram := id rfl
@[simp] theorem State.setVau_gd (s : State) (a : Nat) (w : Word) : (s.setVau a w).gd = s.gd := id rfl
@[simp] theorem State.setVau_sram (s : State) (a : Nat) (w : Word) : (s.setVau a w).sram = s.sram := id rfl
@[simp] theorem State.setVau_pending (s : State) (a : Nat) (w : Word) : (s.setVau a w).pending = s.pending := id rfl
@[simp] theorem State.setVau_freeCtr (s : State) (a : Nat) (w : Word) : (s.setVau a w).freeCtr = s.freeCtr := id rfl

@[simp] theorem updLeaf_sys (s : State) (n : Nat) (f : DLeaf → DLeaf) : (updLeaf n f s).sys = s.sys := id rfl
@[simp] theorem updLeaf_vau (s : State) (n : Nat) (f : DLeaf → DLeaf) : (updLeaf n f s).vau = s.vau := id rfl
@[simp] theorem updLeaf_mnt (s : State) (n : Nat) (f : DLeaf → DLeaf) : (updLeaf n f s).mnt = s.mnt := id rfl
@[simp] theorem updLeaf_ite (s : State) (n : Nat) (f : DLeaf → DLeaf) : (updLeaf n f s).ite = s.ite := id rfl
@[simp] theorem updLeaf_crd (s : State) (n : Nat) (f : DLeaf → DLeaf) : (updLeaf n f s).crd = s.crd := id rfl
@[simp] theorem updLeaf_lend (s : State) (n : Nat) (f : DLeaf → DLeaf) : (updLeaf n f s).lend = s.lend := id rfl
@[simp] theorem updLeaf_pds (s : State) (n : Nat) (f : DLeaf → DLeaf) : (updLeaf n f s).pds = s.pds := id rfl
@[simp] theorem updLeaf_dbc (s : State) (n : Nat) (f : DLeaf → DLeaf) : (updLeaf n f s).dbc = s.dbc := id rfl
@[simp] theorem updLeaf_sni (s : State) (n : Nat) (f : DLeaf → DLeaf) : (updLeaf n f s).sni = s.sni := id rfl
@[simp] theorem updLeaf_cmd (s : State) (n : Nat) (f : DLeaf → DLeaf) : (updLeaf n f s).cmd = s.cmd := id rfl
@[simp] theorem updLeaf_rt (s : State) (n : Nat) (f : DLeaf → DLeaf) : (updLeaf n f s).rt = s.rt := id rfl
@[simp] theorem updLeaf_fio (s : State) (n : Nat) (f : DLeaf → DLeaf) : (updLeaf n f s).fio = s.fio := id rfl
@[simp] theorem updLeaf_cvu (s : State) (n : Nat) (f : DLeaf → DLeaf) : (updLeaf n f s).cvu = s.cvu := id rfl
@[simp] theorem updLeaf_mbx (s : State) (n : Nat) (f : DLeaf → DLeaf) : (updLeaf n f s).mbx = s.mbx := id rfl
@[simp] theorem updLeaf_pcl (s : State) (n : Nat) (f : DLeaf → DLeaf) : (updLeaf n f s).pcl = s.pcl := id rfl
@[simp] theorem updLeaf_sui (s : State) (n : Nat) (f : DLeaf → DLeaf) : (updLeaf n f s).sui = s.sui := id rfl
@[simp] theorem updLeaf_obs (s : State) (n : Nat) (f : DLeaf → DLeaf) : (updLeaf n f s).obs = s.obs := id rfl
@[simp] theorem updLeaf_conf (s : State) (n : Nat) (f : DLeaf → DLeaf) : (updLeaf n f s).conf = s.conf := id rfl
@[simp] theorem updLeaf_evr (s : State) (n : Nat) (f : DLeaf → DLeaf) : (updLeaf n f s).evr = s.evr := id rfl
@[simp] theorem updLeaf_jnl (s : State) (n : Nat) (f : DLeaf → DLeaf) : (updLeaf n f s).jnl = s.jnl := id rfl
@[simp] theorem updLeaf_regs (s : State) (n : Nat) (f : DLeaf → DLeaf) : (updLeaf n f s).regs = s.regs := id rfl
@[simp] theorem updLeaf_hi (s : State) (n : Nat) (f : DLeaf → DLeaf) : (updLeaf n f s).hi = s.hi := id rfl
@[simp] theorem updLeaf_mram (s : State) (n : Nat) (f : DLeaf → DLeaf) : (updLeaf n f s).mram = s.mram := id rfl
@[simp] theorem updLeaf_gd (s : State) (n : Nat) (f : DLeaf → DLeaf) : (updLeaf n f s).gd = s.gd := id rfl
@[simp] theorem updLeaf_sram (s : State) (n : Nat) (f : DLeaf → DLeaf) : (updLeaf n f s).sram = s.sram := id rfl
@[simp] theorem updLeaf_pending (s : State) (n : Nat) (f : DLeaf → DLeaf) : (updLeaf n f s).pending = s.pending := id rfl
@[simp] theorem updLeaf_freeCtr (s : State) (n : Nat) (f : DLeaf → DLeaf) : (updLeaf n f s).freeCtr = s.freeCtr := id rfl

@[simp] theorem updEdge_sys (s : State) (n : Nat) (f : DEdge → DEdge) : (updEdge n f s).sys = s.sys := id rfl
@[simp] theorem updEdge_vau (s : State) (n : Nat) (f : DEdge → DEdge) : (updEdge n f s).vau = s.vau := id rfl
@[simp] theorem updEdge_mnt (s : State) (n : Nat) (f : DEdge → DEdge) : (updEdge n f s).mnt = s.mnt := id rfl
@[simp] theorem updEdge_ite (s : State) (n : Nat) (f : DEdge → DEdge) : (updEdge n f s).ite = s.ite := id rfl
@[simp] theorem updEdge_crd (s : State) (n : Nat) (f : DEdge → DEdge) : (updEdge n f s).crd = s.crd := id rfl
@[simp] theorem updEdge_lend (s : State) (n : Nat) (f : DEdge → DEdge) : (updEdge n f s).lend = s.lend := id rfl
@[simp] theorem updEdge_pds (s : State) (n : Nat) (f : DEdge → DEdge) : (updEdge n f s).pds = s.pds := id rfl
@[simp] theorem updEdge_dbc (s : State) (n : Nat) (f : DEdge → DEdge) : (updEdge n f s).dbc = s.dbc := id rfl
@[simp] theorem updEdge_sni (s : State) (n : Nat) (f : DEdge → DEdge) : (updEdge n f s).sni = s.sni := id rfl
@[simp] theorem updEdge_cmd (s : State) (n : Nat) (f : DEdge → DEdge) : (updEdge n f s).cmd = s.cmd := id rfl
@[simp] theorem updEdge_rt (s : State) (n : Nat) (f : DEdge → DEdge) : (updEdge n f s).rt = s.rt := id rfl
@[simp] theorem updEdge_fio (s : State) (n : Nat) (f : DEdge → DEdge) : (updEdge n f s).fio = s.fio := id rfl
@[simp] theorem updEdge_cvu (s : State) (n : Nat) (f : DEdge → DEdge) : (updEdge n f s).cvu = s.cvu := id rfl
@[simp] theorem updEdge_mbx (s : State) (n : Nat) (f : DEdge → DEdge) : (updEdge n f s).mbx = s.mbx := id rfl
@[simp] theorem updEdge_pcl (s : State) (n : Nat) (f : DEdge → DEdge) : (updEdge n f s).pcl = s.pcl := id rfl
@[simp] theorem updEdge_sui (s : State) (n : Nat) (f : DEdge → DEdge) : (updEdge n f s).sui = s.sui := id rfl
@[simp] theorem updEdge_obs (s : State) (n : Nat) (f : DEdge → DEdge) : (updEdge n f s).obs = s.obs := id rfl
@[simp] theorem updEdge_conf (s : State) (n : Nat) (f : DEdge → DEdge) : (updEdge n f s).conf = s.conf := id rfl
@[simp] theorem updEdge_evr (s : State) (n : Nat) (f : DEdge → DEdge) : (updEdge n f s).evr = s.evr := id rfl
@[simp] theorem updEdge_jnl (s : State) (n : Nat) (f : DEdge → DEdge) : (updEdge n f s).jnl = s.jnl := id rfl
@[simp] theorem updEdge_regs (s : State) (n : Nat) (f : DEdge → DEdge) : (updEdge n f s).regs = s.regs := id rfl
@[simp] theorem updEdge_hi (s : State) (n : Nat) (f : DEdge → DEdge) : (updEdge n f s).hi = s.hi := id rfl
@[simp] theorem updEdge_mram (s : State) (n : Nat) (f : DEdge → DEdge) : (updEdge n f s).mram = s.mram := id rfl
@[simp] theorem updEdge_gd (s : State) (n : Nat) (f : DEdge → DEdge) : (updEdge n f s).gd = s.gd := id rfl
@[simp] theorem updEdge_sram (s : State) (n : Nat) (f : DEdge → DEdge) : (updEdge n f s).sram = s.sram := id rfl
@[simp] theorem updEdge_pending (s : State) (n : Nat) (f : DEdge → DEdge) : (updEdge n f s).pending = s.pending := id rfl
@[simp] theorem updEdge_freeCtr (s : State) (n : Nat) (f : DEdge → DEdge) : (updEdge n f s).freeCtr = s.freeCtr := id rfl

@[simp] theorem updSes_sys (s : State) (n : Nat) (f : Session → Session) : (updSes n f s).sys = s.sys := id rfl
@[simp] theorem updSes_vau (s : State) (n : Nat) (f : Session → Session) : (updSes n f s).vau = s.vau := id rfl
@[simp] theorem updSes_mnt (s : State) (n : Nat) (f : Session → Session) : (updSes n f s).mnt = s.mnt := id rfl
@[simp] theorem updSes_ite (s : State) (n : Nat) (f : Session → Session) : (updSes n f s).ite = s.ite := id rfl
@[simp] theorem updSes_crd (s : State) (n : Nat) (f : Session → Session) : (updSes n f s).crd = s.crd := id rfl
@[simp] theorem updSes_lend (s : State) (n : Nat) (f : Session → Session) : (updSes n f s).lend = s.lend := id rfl
@[simp] theorem updSes_pds (s : State) (n : Nat) (f : Session → Session) : (updSes n f s).pds = s.pds := id rfl
@[simp] theorem updSes_dsu (s : State) (n : Nat) (f : Session → Session) : (updSes n f s).dsu = s.dsu := id rfl
@[simp] theorem updSes_dbc (s : State) (n : Nat) (f : Session → Session) : (updSes n f s).dbc = s.dbc := id rfl
@[simp] theorem updSes_sni (s : State) (n : Nat) (f : Session → Session) : (updSes n f s).sni = s.sni := id rfl
@[simp] theorem updSes_cmd (s : State) (n : Nat) (f : Session → Session) : (updSes n f s).cmd = s.cmd := id rfl
@[simp] theorem updSes_fio (s : State) (n : Nat) (f : Session → Session) : (updSes n f s).fio = s.fio := id rfl
@[simp] theorem updSes_cvu (s : State) (n : Nat) (f : Session → Session) : (updSes n f s).cvu = s.cvu := id rfl
@[simp] theorem updSes_mbx (s : State) (n : Nat) (f : Session → Session) : (updSes n f s).mbx = s.mbx := id rfl
@[simp] theorem updSes_pcl (s : State) (n : Nat) (f : Session → Session) : (updSes n f s).pcl = s.pcl := id rfl
@[simp] theorem updSes_sui (s : State) (n : Nat) (f : Session → Session) : (updSes n f s).sui = s.sui := id rfl
@[simp] theorem updSes_obs (s : State) (n : Nat) (f : Session → Session) : (updSes n f s).obs = s.obs := id rfl
@[simp] theorem updSes_conf (s : State) (n : Nat) (f : Session → Session) : (updSes n f s).conf = s.conf := id rfl
@[simp] theorem updSes_evr (s : State) (n : Nat) (f : Session → Session) : (updSes n f s).evr = s.evr := id rfl
@[simp] theorem updSes_jnl (s : State) (n : Nat) (f : Session → Session) : (updSes n f s).jnl = s.jnl := id rfl
@[simp] theorem updSes_regs (s : State) (n : Nat) (f : Session → Session) : (updSes n f s).regs = s.regs := id rfl
@[simp] theorem updSes_hi (s : State) (n : Nat) (f : Session → Session) : (updSes n f s).hi = s.hi := id rfl
@[simp] theorem updSes_mram (s : State) (n : Nat) (f : Session → Session) : (updSes n f s).mram = s.mram := id rfl
@[simp] theorem updSes_gd (s : State) (n : Nat) (f : Session → Session) : (updSes n f s).gd = s.gd := id rfl
@[simp] theorem updSes_sram (s : State) (n : Nat) (f : Session → Session) : (updSes n f s).sram = s.sram := id rfl
@[simp] theorem updSes_pending (s : State) (n : Nat) (f : Session → Session) : (updSes n f s).pending = s.pending := id rfl
@[simp] theorem updSes_freeCtr (s : State) (n : Nat) (f : Session → Session) : (updSes n f s).freeCtr = s.freeCtr := id rfl

@[simp] theorem updCon_sys (s : State) (n : Nat) (f : Conn → Conn) : (updCon n f s).sys = s.sys := id rfl
@[simp] theorem updCon_vau (s : State) (n : Nat) (f : Conn → Conn) : (updCon n f s).vau = s.vau := id rfl
@[simp] theorem updCon_mnt (s : State) (n : Nat) (f : Conn → Conn) : (updCon n f s).mnt = s.mnt := id rfl
@[simp] theorem updCon_ite (s : State) (n : Nat) (f : Conn → Conn) : (updCon n f s).ite = s.ite := id rfl
@[simp] theorem updCon_crd (s : State) (n : Nat) (f : Conn → Conn) : (updCon n f s).crd = s.crd := id rfl
@[simp] theorem updCon_lend (s : State) (n : Nat) (f : Conn → Conn) : (updCon n f s).lend = s.lend := id rfl
@[simp] theorem updCon_pds (s : State) (n : Nat) (f : Conn → Conn) : (updCon n f s).pds = s.pds := id rfl
@[simp] theorem updCon_dsu (s : State) (n : Nat) (f : Conn → Conn) : (updCon n f s).dsu = s.dsu := id rfl
@[simp] theorem updCon_dbc (s : State) (n : Nat) (f : Conn → Conn) : (updCon n f s).dbc = s.dbc := id rfl
@[simp] theorem updCon_cmd (s : State) (n : Nat) (f : Conn → Conn) : (updCon n f s).cmd = s.cmd := id rfl
@[simp] theorem updCon_rt (s : State) (n : Nat) (f : Conn → Conn) : (updCon n f s).rt = s.rt := id rfl
@[simp] theorem updCon_fio (s : State) (n : Nat) (f : Conn → Conn) : (updCon n f s).fio = s.fio := id rfl
@[simp] theorem updCon_cvu (s : State) (n : Nat) (f : Conn → Conn) : (updCon n f s).cvu = s.cvu := id rfl
@[simp] theorem updCon_mbx (s : State) (n : Nat) (f : Conn → Conn) : (updCon n f s).mbx = s.mbx := id rfl
@[simp] theorem updCon_pcl (s : State) (n : Nat) (f : Conn → Conn) : (updCon n f s).pcl = s.pcl := id rfl
@[simp] theorem updCon_sui (s : State) (n : Nat) (f : Conn → Conn) : (updCon n f s).sui = s.sui := id rfl
@[simp] theorem updCon_obs (s : State) (n : Nat) (f : Conn → Conn) : (updCon n f s).obs = s.obs := id rfl
@[simp] theorem updCon_conf (s : State) (n : Nat) (f : Conn → Conn) : (updCon n f s).conf = s.conf := id rfl
@[simp] theorem updCon_evr (s : State) (n : Nat) (f : Conn → Conn) : (updCon n f s).evr = s.evr := id rfl
@[simp] theorem updCon_jnl (s : State) (n : Nat) (f : Conn → Conn) : (updCon n f s).jnl = s.jnl := id rfl
@[simp] theorem updCon_regs (s : State) (n : Nat) (f : Conn → Conn) : (updCon n f s).regs = s.regs := id rfl
@[simp] theorem updCon_hi (s : State) (n : Nat) (f : Conn → Conn) : (updCon n f s).hi = s.hi := id rfl
@[simp] theorem updCon_mram (s : State) (n : Nat) (f : Conn → Conn) : (updCon n f s).mram = s.mram := id rfl
@[simp] theorem updCon_gd (s : State) (n : Nat) (f : Conn → Conn) : (updCon n f s).gd = s.gd := id rfl
@[simp] theorem updCon_sram (s : State) (n : Nat) (f : Conn → Conn) : (updCon n f s).sram = s.sram := id rfl
@[simp] theorem updCon_pending (s : State) (n : Nat) (f : Conn → Conn) : (updCon n f s).pending = s.pending := id rfl
@[simp] theorem updCon_freeCtr (s : State) (n : Nat) (f : Conn → Conn) : (updCon n f s).freeCtr = s.freeCtr := id rfl

@[simp] theorem updBus_sys (s : State) (n : Nat) (f : Dbc → Dbc) : (updBus n f s).sys = s.sys := id rfl
@[simp] theorem updBus_vau (s : State) (n : Nat) (f : Dbc → Dbc) : (updBus n f s).vau = s.vau := id rfl
@[simp] theorem updBus_mnt (s : State) (n : Nat) (f : Dbc → Dbc) : (updBus n f s).mnt = s.mnt := id rfl
@[simp] theorem updBus_ite (s : State) (n : Nat) (f : Dbc → Dbc) : (updBus n f s).ite = s.ite := id rfl
@[simp] theorem updBus_crd (s : State) (n : Nat) (f : Dbc → Dbc) : (updBus n f s).crd = s.crd := id rfl
@[simp] theorem updBus_lend (s : State) (n : Nat) (f : Dbc → Dbc) : (updBus n f s).lend = s.lend := id rfl
@[simp] theorem updBus_pds (s : State) (n : Nat) (f : Dbc → Dbc) : (updBus n f s).pds = s.pds := id rfl
@[simp] theorem updBus_dsu (s : State) (n : Nat) (f : Dbc → Dbc) : (updBus n f s).dsu = s.dsu := id rfl
@[simp] theorem updBus_sni (s : State) (n : Nat) (f : Dbc → Dbc) : (updBus n f s).sni = s.sni := id rfl
@[simp] theorem updBus_cmd (s : State) (n : Nat) (f : Dbc → Dbc) : (updBus n f s).cmd = s.cmd := id rfl
@[simp] theorem updBus_rt (s : State) (n : Nat) (f : Dbc → Dbc) : (updBus n f s).rt = s.rt := id rfl
@[simp] theorem updBus_fio (s : State) (n : Nat) (f : Dbc → Dbc) : (updBus n f s).fio = s.fio := id rfl
@[simp] theorem updBus_cvu (s : State) (n : Nat) (f : Dbc → Dbc) : (updBus n f s).cvu = s.cvu := id rfl
@[simp] theorem updBus_mbx (s : State) (n : Nat) (f : Dbc → Dbc) : (updBus n f s).mbx = s.mbx := id rfl
@[simp] theorem updBus_pcl (s : State) (n : Nat) (f : Dbc → Dbc) : (updBus n f s).pcl = s.pcl := id rfl
@[simp] theorem updBus_sui (s : State) (n : Nat) (f : Dbc → Dbc) : (updBus n f s).sui = s.sui := id rfl
@[simp] theorem updBus_obs (s : State) (n : Nat) (f : Dbc → Dbc) : (updBus n f s).obs = s.obs := id rfl
@[simp] theorem updBus_conf (s : State) (n : Nat) (f : Dbc → Dbc) : (updBus n f s).conf = s.conf := id rfl
@[simp] theorem updBus_evr (s : State) (n : Nat) (f : Dbc → Dbc) : (updBus n f s).evr = s.evr := id rfl
@[simp] theorem updBus_jnl (s : State) (n : Nat) (f : Dbc → Dbc) : (updBus n f s).jnl = s.jnl := id rfl
@[simp] theorem updBus_regs (s : State) (n : Nat) (f : Dbc → Dbc) : (updBus n f s).regs = s.regs := id rfl
@[simp] theorem updBus_hi (s : State) (n : Nat) (f : Dbc → Dbc) : (updBus n f s).hi = s.hi := id rfl
@[simp] theorem updBus_mram (s : State) (n : Nat) (f : Dbc → Dbc) : (updBus n f s).mram = s.mram := id rfl
@[simp] theorem updBus_gd (s : State) (n : Nat) (f : Dbc → Dbc) : (updBus n f s).gd = s.gd := id rfl
@[simp] theorem updBus_sram (s : State) (n : Nat) (f : Dbc → Dbc) : (updBus n f s).sram = s.sram := id rfl
@[simp] theorem updBus_pending (s : State) (n : Nat) (f : Dbc → Dbc) : (updBus n f s).pending = s.pending := id rfl
@[simp] theorem updBus_freeCtr (s : State) (n : Nat) (f : Dbc → Dbc) : (updBus n f s).freeCtr = s.freeCtr := id rfl

@[simp] theorem State.answerRead_vau (s : State) (w : Word) : (s.answerRead w).vau = s.vau := id rfl
@[simp] theorem State.answerRead_mnt (s : State) (w : Word) : (s.answerRead w).mnt = s.mnt := id rfl
@[simp] theorem State.answerRead_ite (s : State) (w : Word) : (s.answerRead w).ite = s.ite := id rfl
@[simp] theorem State.answerRead_crd (s : State) (w : Word) : (s.answerRead w).crd = s.crd := id rfl
@[simp] theorem State.answerRead_lend (s : State) (w : Word) : (s.answerRead w).lend = s.lend := id rfl
@[simp] theorem State.answerRead_pds (s : State) (w : Word) : (s.answerRead w).pds = s.pds := id rfl
@[simp] theorem State.answerRead_dsu (s : State) (w : Word) : (s.answerRead w).dsu = s.dsu := id rfl
@[simp] theorem State.answerRead_dbc (s : State) (w : Word) : (s.answerRead w).dbc = s.dbc := id rfl
@[simp] theorem State.answerRead_sni (s : State) (w : Word) : (s.answerRead w).sni = s.sni := id rfl
@[simp] theorem State.answerRead_cmd (s : State) (w : Word) : (s.answerRead w).cmd = s.cmd := id rfl
@[simp] theorem State.answerRead_rt (s : State) (w : Word) : (s.answerRead w).rt = s.rt := id rfl
@[simp] theorem State.answerRead_fio (s : State) (w : Word) : (s.answerRead w).fio = s.fio := id rfl
@[simp] theorem State.answerRead_cvu (s : State) (w : Word) : (s.answerRead w).cvu = s.cvu := id rfl
@[simp] theorem State.answerRead_mbx (s : State) (w : Word) : (s.answerRead w).mbx = s.mbx := id rfl
@[simp] theorem State.answerRead_pcl (s : State) (w : Word) : (s.answerRead w).pcl = s.pcl := id rfl
@[simp] theorem State.answerRead_sui (s : State) (w : Word) : (s.answerRead w).sui = s.sui := id rfl
@[simp] theorem State.answerRead_obs (s : State) (w : Word) : (s.answerRead w).obs = s.obs := id rfl
@[simp] theorem State.answerRead_conf (s : State) (w : Word) : (s.answerRead w).conf = s.conf := id rfl
@[simp] theorem State.answerRead_evr (s : State) (w : Word) : (s.answerRead w).evr = s.evr := id rfl
@[simp] theorem State.answerRead_jnl (s : State) (w : Word) : (s.answerRead w).jnl = s.jnl := id rfl
@[simp] theorem State.answerRead_regs (s : State) (w : Word) : (s.answerRead w).regs = s.regs := id rfl
@[simp] theorem State.answerRead_hi (s : State) (w : Word) : (s.answerRead w).hi = s.hi := id rfl
@[simp] theorem State.answerRead_mram (s : State) (w : Word) : (s.answerRead w).mram = s.mram := id rfl
@[simp] theorem State.answerRead_gd (s : State) (w : Word) : (s.answerRead w).gd = s.gd := id rfl
@[simp] theorem State.answerRead_sram (s : State) (w : Word) : (s.answerRead w).sram = s.sram := id rfl
@[simp] theorem State.answerRead_pending (s : State) (w : Word) : (s.answerRead w).pending = s.pending := id rfl
@[simp] theorem State.answerRead_freeCtr (s : State) (w : Word) : (s.answerRead w).freeCtr = s.freeCtr := id rfl

@[simp] theorem State.withCommand_sys (s : State) (i : Instr) : (s.withCommand i).sys = s.sys := id rfl
@[simp] theorem State.withCommand_vau (s : State) (i : Instr) : (s.withCommand i).vau = s.vau := id rfl
@[simp] theorem State.withCommand_mnt (s : State) (i : Instr) : (s.withCommand i).mnt = s.mnt := id rfl
@[simp] theorem State.withCommand_ite (s : State) (i : Instr) : (s.withCommand i).ite = s.ite := id rfl
@[simp] theorem State.withCommand_crd (s : State) (i : Instr) : (s.withCommand i).crd = s.crd := id rfl
@[simp] theorem State.withCommand_lend (s : State) (i : Instr) : (s.withCommand i).lend = s.lend := id rfl
@[simp] theorem State.withCommand_pds (s : State) (i : Instr) : (s.withCommand i).pds = s.pds := id rfl
@[simp] theorem State.withCommand_dsu (s : State) (i : Instr) : (s.withCommand i).dsu = s.dsu := id rfl
@[simp] theorem State.withCommand_dbc (s : State) (i : Instr) : (s.withCommand i).dbc = s.dbc := id rfl
@[simp] theorem State.withCommand_sni (s : State) (i : Instr) : (s.withCommand i).sni = s.sni := id rfl
@[simp] theorem State.withCommand_cmd (s : State) (i : Instr) : (s.withCommand i).cmd = s.cmd := id rfl
@[simp] theorem State.withCommand_rt (s : State) (i : Instr) : (s.withCommand i).rt = s.rt := id rfl
@[simp] theorem State.withCommand_fio (s : State) (i : Instr) : (s.withCommand i).fio = s.fio := id rfl
@[simp] theorem State.withCommand_cvu (s : State) (i : Instr) : (s.withCommand i).cvu = s.cvu := id rfl
@[simp] theorem State.withCommand_mbx (s : State) (i : Instr) : (s.withCommand i).mbx = s.mbx := id rfl
@[simp] theorem State.withCommand_pcl (s : State) (i : Instr) : (s.withCommand i).pcl = s.pcl := id rfl
@[simp] theorem State.withCommand_sui (s : State) (i : Instr) : (s.withCommand i).sui = s.sui := id rfl
@[simp] theorem State.withCommand_obs (s : State) (i : Instr) : (s.withCommand i).obs = s.obs := id rfl
@[simp] theorem State.withCommand_conf (s : State) (i : Instr) : (s.withCommand i).conf = s.conf := id rfl
@[simp] theorem State.withCommand_evr (s : State) (i : Instr) : (s.withCommand i).evr = s.evr := id rfl
@[simp] theorem State.withCommand_jnl (s : State) (i : Instr) : (s.withCommand i).jnl = s.jnl := id rfl
@[simp] theorem State.withCommand_regs (s : State) (i : Instr) : (s.withCommand i).regs = s.regs := id rfl
@[simp] theorem State.withCommand_hi (s : State) (i : Instr) : (s.withCommand i).hi = s.hi := id rfl
@[simp] theorem State.withCommand_mram (s : State) (i : Instr) : (s.withCommand i).mram = s.mram := id rfl
@[simp] theorem State.withCommand_gd (s : State) (i : Instr) : (s.withCommand i).gd = s.gd := id rfl
@[simp] theorem State.withCommand_sram (s : State) (i : Instr) : (s.withCommand i).sram = s.sram := id rfl
@[simp] theorem State.withCommand_freeCtr (s : State) (i : Instr) : (s.withCommand i).freeCtr = s.freeCtr := id rfl

theorem State.reg_setReg (s : State) (a b : Nat) (w : Word) : (s.setReg a w).reg b = if a = b then w else s.reg b := Tbl.get_set s.regs a b w
@[simp] theorem State.reg_setReg_same (s : State) (a : Nat) (w : Word) : (s.setReg a w).reg a = w := by simp [State.reg_setReg]
theorem State.reg_setReg_ne (s : State) {a b : Nat} (w : Word) (h : a ≠ b) : (s.setReg a w).reg b = s.reg b := by simp [State.reg_setReg, h]
@[simp] theorem State.bus_setBus (s : State) (n : Nat) (x : Dbc) : (s.setBus n x).bus n = x := Tbl.get_set_same ..
@[simp] theorem State.edge_setEdge (s : State) (n : Nat) (x : DEdge) : (s.setEdge n x).edge n = x := Tbl.get_set_same ..
@[simp] theorem State.chan_setChan (s : State) (n : Nat) (x : Mbx) : (s.setChan n x).chan n = x := Tbl.get_set_same ..
@[simp] theorem State.con_setCon (s : State) (n : Nat) (x : Conn) : (s.setCon n x).con n = x := Tbl.get_set_same ..
@[simp] theorem State.unitC_setUnitC (s : State) (n : Nat) (x : Cvu) : (s.setUnitC n x).unitC n = x := Tbl.get_set_same ..
@[simp] theorem State.dleaf_setDleaf (s : State) (n : Nat) (x : DLeaf) : (s.setDleaf n x).dleaf n = x := Tbl.get_set_same ..
@[simp] theorem State.ses_setSes (s : State) (n : Nat) (x : Session) : (s.setSes n x).ses n = x := Tbl.get_set_same ..
@[simp] theorem State.leaf_setLeaf (s : State) (n : Nat) (x : PLeaf) : (s.setLeaf n x).leaf n = x := Tbl.get_set_same ..
@[simp] theorem State.tag_setTag (s : State) (n : Nat) (x : Tag) : (s.setTag n x).tag n = x := Tbl.get_set_same ..

/-- The state a check leaves. -/
def Checked.state (x : Checked) : State :=
  match x with
  | .ok s => s
  | .error p => p.1

@[simp] theorem landing_next (s u : State) : landing (.next s) u = s := id rfl
@[simp] theorem landing_ite (c : Prop) [Decidable c] (a b : Host.Outcome State Fault Refusal) (u : State) :
    landing (if c then a else b) u = if c then landing a u else landing b u := by split <;> rfl

end Sys2Proof.Machine
end

