-- ==== Sys2Proof/Laws/Recorder.lean ====
section
/-!
SUPPORT. What recording changes: EVR's own data, the register table and MRAM, and nothing else; the event bit it sets; and the fields a
record leaves, one lemma per field.
-/
namespace Sys2Proof.Machine

theorem recordedOnly_refl (s : State) : recordedOnly s s := rfl
theorem recordedOnly_trans {s t u : State} (h : recordedOnly s t) (k : recordedOnly t u) : recordedOnly s u := by
  unfold recordedOnly at *
  rw [k, h]
theorem setReg_recordedOnly (s : State) (a : Nat) (w : Word) : recordedOnly s (s.setReg a w) := rfl
theorem setRegF_recordedOnly (s : State) (a hi lo v : Nat) : recordedOnly s (s.setRegF a hi lo v) := rfl
theorem setRegB_recordedOnly (s : State) (a i : Nat) (b : Bool) : recordedOnly s (s.setRegB a i b) := rfl
theorem mramPut_recordedOnly (s : State) (o : Nat) (bs : List Byte) : recordedOnly s (s.mramPut o bs) := rfl
theorem evr_recordedOnly (s : State) (e : Evr) : recordedOnly s { s with evr := e } := rfl

/-- Composition in the order in which the operations are written. -/
theorem recordedOnly_then {s t : State} (f : State → State) (hf : ∀ u, recordedOnly u (f u)) (h : recordedOnly s t) : recordedOnly s (f t) :=
  recordedOnly_trans h (hf t)

theorem putDual_recordedOnly (a : Nat) (b : Bool) (w : Word) (s : State) : recordedOnly s (putDual a b w s) := rfl
theorem timeCheckpoint_recordedOnly (s : State) : recordedOnly s (timeCheckpoint s) := rfl
theorem stageFit_recordedOnly (ty : Nat) (b : List Byte) (s : State) : recordedOnly s (stageFit ty b s) := rfl
theorem stageLost_recordedOnly (s : State) : recordedOnly s (stageLost s) := by
  unfold stageLost
  split
  · rfl
  · exact recordedOnly_trans (evr_recordedOnly ..) (stageFit_recordedOnly ..)
theorem stage_recordedOnly (ty : Nat) (b : List Byte) (s : State) : recordedOnly s (stage ty b s).1 := by
  unfold stage
  extract_lets need e u
  split
  · exact recordedOnly_trans (stageLost_recordedOnly s) (stageFit_recordedOnly ..)
  · rfl
theorem setEvent_recordedOnly (c o : Nat) (s : State) : recordedOnly s (setEvent c o s) := by
  unfold setEvent
  (repeat' split) <;> rfl
theorem evrClose_recordedOnly (s : State) : recordedOnly s (evrClose s).1 := by
  unfold evrClose
  split
  · rfl
  · split
    · exact recordedOnly_trans (evr_recordedOnly ..) (recordedOnly_trans (stage_recordedOnly ..) rfl)
    · rfl
theorem evrAllocate_recordedOnly (r : LowReq) (s : State) : recordedOnly s (evrAllocate r s) := rfl
theorem evrRepeat_recordedOnly (s : State) : recordedOnly s (evrRepeat s) := by
  unfold evrRepeat
  split <;> rfl
theorem evrTake_recordedOnly (k : Nat) (r : LowReq) (s : State) : recordedOnly s (evrTake k r s) := by
  induction k generalizing r s with
  | zero => rfl
  | succ k ih =>
    unfold evrTake
    split
    · have h := evrRepeat_recordedOnly s
      extract_lets u
      split
      · split
        · have k := recordedOnly_trans h (evrClose_recordedOnly u)
          dsimp only
          split
          · exact k
          · exact recordedOnly_trans k (recordedOnly_trans (setEvent_recordedOnly ..) (ih _ _))
        · exact h
      · exact h
    · have h := recordedOnly_trans (evrClose_recordedOnly s) (evrAllocate_recordedOnly r _)
      dsimp only
      split
      · exact h
      · exact recordedOnly_trans h (recordedOnly_trans (setEvent_recordedOnly ..) (ih _ _))
theorem evrDrop_recordedOnly (b : Nat) (s : State) : recordedOnly s (evrDrop b s) := by
  unfold evrDrop
  split <;> rfl
theorem evrAnnounce_recordedOnly (n : Nat) (s : State) : recordedOnly s (evrAnnounce n s) := by
  unfold evrAnnounce
  dsimp only
  generalize (if n = 0 then 0x0D01 else 0x0D02) = c
  split
  · rfl
  · exact recordedOnly_trans (evr_recordedOnly ..) (recordedOnly_trans (setEvent_recordedOnly ..) (evrTake_recordedOnly ..))
theorem evrRequest_recordedOnly (r : LowReq) (s : State) : recordedOnly s (evrRequest r s) := by
  unfold evrRequest
  (repeat' split)
  · exact recordedOnly_trans (evrTake_recordedOnly ..) rfl
  · exact recordedOnly_trans (evrAnnounce_recordedOnly ..) (recordedOnly_trans (evrTake_recordedOnly ..) rfl)
  · exact recordedOnly_trans (evrDrop_recordedOnly ..) rfl
  · exact recordedOnly_trans (evrAnnounce_recordedOnly ..) (evrTake_recordedOnly ..)
  · rfl
  · exact recordedOnly_trans (evrDrop_recordedOnly ..) rfl
  · exact evrDrop_recordedOnly ..
theorem evrFlag_recordedOnly (r : LowReq) (s : State) : recordedOnly s (evrFlag r s) := by
  unfold evrFlag
  split <;> rfl
theorem noteAt_recordedOnly (o c k v : Nat) (s : State) : recordedOnly s (noteAt o c k v s) := by
  unfold noteAt
  dsimp only
  split
  · exact recordedOnly_trans (evrFlag_recordedOnly ..) (setEvent_recordedOnly ..)
  · exact recordedOnly_trans (evrRequest_recordedOnly ..) (setEvent_recordedOnly ..)
theorem note_recordedOnly (c k v : Nat) (s : State) : recordedOnly s (note c k v s) := noteAt_recordedOnly ..
theorem noteIf_recordedOnly (b : Bool) (c k v : Nat) (s : State) : recordedOnly s (noteIf b c k v s) := by
  unfold noteIf
  split
  · exact note_recordedOnly ..
  · rfl
theorem setRegs_recordedOnly (a : Nat) (ws : List Word) (s : State) : recordedOnly s (setRegs a ws s) := by
  unfold setRegs
  generalize ws.zip (List.range ws.length) = l
  induction l generalizing s with
  | nil => rfl
  | cons p l ih => exact recordedOnly_trans (setReg_recordedOnly ..) (ih _)
theorem postNand_recordedOnly (ty : Nat) (b : List Byte) (s : State) : recordedOnly s (postNand ty b s) := by
  unfold postNand
  have h := recordedOnly_trans (setRegs_recordedOnly Reg.EVR_NWIN (wordsOfBytes b) s) (stage_recordedOnly ty b _)
  dsimp only
  split
  · exact recordedOnly_trans h (setReg_recordedOnly ..)
  · exact recordedOnly_trans h (recordedOnly_trans (setReg_recordedOnly ..) (note_recordedOnly ..))

/-! Every field that recording leaves. -/
theorem recordedOnly_sys {s t : State} (h : recordedOnly s t) : t.sys = s.sys := by rw [h]
theorem recordedOnly_vau {s t : State} (h : recordedOnly s t) : t.vau = s.vau := by rw [h]
theorem recordedOnly_mnt {s t : State} (h : recordedOnly s t) : t.mnt = s.mnt := by rw [h]
theorem recordedOnly_ite {s t : State} (h : recordedOnly s t) : t.ite = s.ite := by rw [h]
theorem recordedOnly_crd {s t : State} (h : recordedOnly s t) : t.crd = s.crd := by rw [h]
theorem recordedOnly_lend {s t : State} (h : recordedOnly s t) : t.lend = s.lend := by rw [h]
theorem recordedOnly_pds {s t : State} (h : recordedOnly s t) : t.pds = s.pds := by rw [h]
theorem recordedOnly_dsu {s t : State} (h : recordedOnly s t) : t.dsu = s.dsu := by rw [h]
theorem recordedOnly_dbc {s t : State} (h : recordedOnly s t) : t.dbc = s.dbc := by rw [h]
theorem recordedOnly_sni {s t : State} (h : recordedOnly s t) : t.sni = s.sni := by rw [h]
theorem recordedOnly_cmd {s t : State} (h : recordedOnly s t) : t.cmd = s.cmd := by rw [h]
theorem recordedOnly_rt {s t : State} (h : recordedOnly s t) : t.rt = s.rt := by rw [h]
theorem recordedOnly_fio {s t : State} (h : recordedOnly s t) : t.fio = s.fio := by rw [h]
theorem recordedOnly_cvu {s t : State} (h : recordedOnly s t) : t.cvu = s.cvu := by rw [h]
theorem recordedOnly_mbx {s t : State} (h : recordedOnly s t) : t.mbx = s.mbx := by rw [h]
theorem recordedOnly_pcl {s t : State} (h : recordedOnly s t) : t.pcl = s.pcl := by rw [h]
theorem recordedOnly_sui {s t : State} (h : recordedOnly s t) : t.sui = s.sui := by rw [h]
theorem recordedOnly_obs {s t : State} (h : recordedOnly s t) : t.obs = s.obs := by rw [h]
theorem recordedOnly_conf {s t : State} (h : recordedOnly s t) : t.conf = s.conf := by rw [h]
theorem recordedOnly_jnl {s t : State} (h : recordedOnly s t) : t.jnl = s.jnl := by rw [h]
theorem recordedOnly_hi {s t : State} (h : recordedOnly s t) : t.hi = s.hi := by rw [h]
theorem recordedOnly_gd {s t : State} (h : recordedOnly s t) : t.gd = s.gd := by rw [h]
theorem recordedOnly_sram {s t : State} (h : recordedOnly s t) : t.sram = s.sram := by rw [h]
theorem recordedOnly_pending {s t : State} (h : recordedOnly s t) : t.pending = s.pending := by rw [h]
theorem recordedOnly_freeCtr {s t : State} (h : recordedOnly s t) : t.freeCtr = s.freeCtr := by rw [h]
@[simp] theorem noteAt_sys (o c k v : Nat) (s : State) : (noteAt o c k v s).sys = s.sys := recordedOnly_sys (noteAt_recordedOnly ..)
@[simp] theorem noteAt_vau (o c k v : Nat) (s : State) : (noteAt o c k v s).vau = s.vau := recordedOnly_vau (noteAt_recordedOnly ..)
@[simp] theorem noteAt_mnt (o c k v : Nat) (s : State) : (noteAt o c k v s).mnt = s.mnt := recordedOnly_mnt (noteAt_recordedOnly ..)
@[simp] theorem noteAt_ite (o c k v : Nat) (s : State) : (noteAt o c k v s).ite = s.ite := recordedOnly_ite (noteAt_recordedOnly ..)
@[simp] theorem noteAt_crd (o c k v : Nat) (s : State) : (noteAt o c k v s).crd = s.crd := recordedOnly_crd (noteAt_recordedOnly ..)
@[simp] theorem noteAt_lend (o c k v : Nat) (s : State) : (noteAt o c k v s).lend = s.lend := recordedOnly_lend (noteAt_recordedOnly ..)
@[simp] theorem noteAt_pds (o c k v : Nat) (s : State) : (noteAt o c k v s).pds = s.pds := recordedOnly_pds (noteAt_recordedOnly ..)
@[simp] theorem noteAt_dsu (o c k v : Nat) (s : State) : (noteAt o c k v s).dsu = s.dsu := recordedOnly_dsu (noteAt_recordedOnly ..)
@[simp] theorem noteAt_dbc (o c k v : Nat) (s : State) : (noteAt o c k v s).dbc = s.dbc := recordedOnly_dbc (noteAt_recordedOnly ..)
@[simp] theorem noteAt_sni (o c k v : Nat) (s : State) : (noteAt o c k v s).sni = s.sni := recordedOnly_sni (noteAt_recordedOnly ..)
@[simp] theorem noteAt_cmd (o c k v : Nat) (s : State) : (noteAt o c k v s).cmd = s.cmd := recordedOnly_cmd (noteAt_recordedOnly ..)
@[simp] theorem noteAt_rt (o c k v : Nat) (s : State) : (noteAt o c k v s).rt = s.rt := recordedOnly_rt (noteAt_recordedOnly ..)
@[simp] theorem noteAt_fio (o c k v : Nat) (s : State) : (noteAt o c k v s).fio = s.fio := recordedOnly_fio (noteAt_recordedOnly ..)
@[simp] theorem noteAt_cvu (o c k v : Nat) (s : State) : (noteAt o c k v s).cvu = s.cvu := recordedOnly_cvu (noteAt_recordedOnly ..)
@[simp] theorem noteAt_mbx (o c k v : Nat) (s : State) : (noteAt o c k v s).mbx = s.mbx := recordedOnly_mbx (noteAt_recordedOnly ..)
@[simp] theorem noteAt_pcl (o c k v : Nat) (s : State) : (noteAt o c k v s).pcl = s.pcl := recordedOnly_pcl (noteAt_recordedOnly ..)
@[simp] theorem noteAt_sui (o c k v : Nat) (s : State) : (noteAt o c k v s).sui = s.sui := recordedOnly_sui (noteAt_recordedOnly ..)
@[simp] theorem noteAt_obs (o c k v : Nat) (s : State) : (noteAt o c k v s).obs = s.obs := recordedOnly_obs (noteAt_recordedOnly ..)
@[simp] theorem noteAt_conf (o c k v : Nat) (s : State) : (noteAt o c k v s).conf = s.conf := recordedOnly_conf (noteAt_recordedOnly ..)
@[simp] theorem noteAt_jnl (o c k v : Nat) (s : State) : (noteAt o c k v s).jnl = s.jnl := recordedOnly_jnl (noteAt_recordedOnly ..)
@[simp] theorem noteAt_hi (o c k v : Nat) (s : State) : (noteAt o c k v s).hi = s.hi := recordedOnly_hi (noteAt_recordedOnly ..)
@[simp] theorem noteAt_gd (o c k v : Nat) (s : State) : (noteAt o c k v s).gd = s.gd := recordedOnly_gd (noteAt_recordedOnly ..)
@[simp] theorem noteAt_sram (o c k v : Nat) (s : State) : (noteAt o c k v s).sram = s.sram := recordedOnly_sram (noteAt_recordedOnly ..)
@[simp] theorem noteAt_pending (o c k v : Nat) (s : State) : (noteAt o c k v s).pending = s.pending := recordedOnly_pending (noteAt_recordedOnly ..)
@[simp] theorem noteAt_freeCtr (o c k v : Nat) (s : State) : (noteAt o c k v s).freeCtr = s.freeCtr := recordedOnly_freeCtr (noteAt_recordedOnly ..)
@[simp] theorem note_sys (c k v : Nat) (s : State) : (note c k v s).sys = s.sys := recordedOnly_sys (note_recordedOnly ..)
@[simp] theorem note_vau (c k v : Nat) (s : State) : (note c k v s).vau = s.vau := recordedOnly_vau (note_recordedOnly ..)
@[simp] theorem note_mnt (c k v : Nat) (s : State) : (note c k v s).mnt = s.mnt := recordedOnly_mnt (note_recordedOnly ..)
@[simp] theorem note_ite (c k v : Nat) (s : State) : (note c k v s).ite = s.ite := recordedOnly_ite (note_recordedOnly ..)
@[simp] theorem note_crd (c k v : Nat) (s : State) : (note c k v s).crd = s.crd := recordedOnly_crd (note_recordedOnly ..)
@[simp] theorem note_lend (c k v : Nat) (s : State) : (note c k v s).lend = s.lend := recordedOnly_lend (note_recordedOnly ..)
@[simp] theorem note_pds (c k v : Nat) (s : State) : (note c k v s).pds = s.pds := recordedOnly_pds (note_recordedOnly ..)
@[simp] theorem note_dsu (c k v : Nat) (s : State) : (note c k v s).dsu = s.dsu := recordedOnly_dsu (note_recordedOnly ..)
@[simp] theorem note_dbc (c k v : Nat) (s : State) : (note c k v s).dbc = s.dbc := recordedOnly_dbc (note_recordedOnly ..)
@[simp] theorem note_sni (c k v : Nat) (s : State) : (note c k v s).sni = s.sni := recordedOnly_sni (note_recordedOnly ..)
@[simp] theorem note_cmd (c k v : Nat) (s : State) : (note c k v s).cmd = s.cmd := recordedOnly_cmd (note_recordedOnly ..)
@[simp] theorem note_rt (c k v : Nat) (s : State) : (note c k v s).rt = s.rt := recordedOnly_rt (note_recordedOnly ..)
@[simp] theorem note_fio (c k v : Nat) (s : State) : (note c k v s).fio = s.fio := recordedOnly_fio (note_recordedOnly ..)
@[simp] theorem note_cvu (c k v : Nat) (s : State) : (note c k v s).cvu = s.cvu := recordedOnly_cvu (note_recordedOnly ..)
@[simp] theorem note_mbx (c k v : Nat) (s : State) : (note c k v s).mbx = s.mbx := recordedOnly_mbx (note_recordedOnly ..)
@[simp] theorem note_pcl (c k v : Nat) (s : State) : (note c k v s).pcl = s.pcl := recordedOnly_pcl (note_recordedOnly ..)
@[simp] theorem note_sui (c k v : Nat) (s : State) : (note c k v s).sui = s.sui := recordedOnly_sui (note_recordedOnly ..)
@[simp] theorem note_obs (c k v : Nat) (s : State) : (note c k v s).obs = s.obs := recordedOnly_obs (note_recordedOnly ..)
@[simp] theorem note_conf (c k v : Nat) (s : State) : (note c k v s).conf = s.conf := recordedOnly_conf (note_recordedOnly ..)
@[simp] theorem note_jnl (c k v : Nat) (s : State) : (note c k v s).jnl = s.jnl := recordedOnly_jnl (note_recordedOnly ..)
@[simp] theorem note_hi (c k v : Nat) (s : State) : (note c k v s).hi = s.hi := recordedOnly_hi (note_recordedOnly ..)
@[simp] theorem note_gd (c k v : Nat) (s : State) : (note c k v s).gd = s.gd := recordedOnly_gd (note_recordedOnly ..)
@[simp] theorem note_sram (c k v : Nat) (s : State) : (note c k v s).sram = s.sram := recordedOnly_sram (note_recordedOnly ..)
@[simp] theorem note_pending (c k v : Nat) (s : State) : (note c k v s).pending = s.pending := recordedOnly_pending (note_recordedOnly ..)
@[simp] theorem note_freeCtr (c k v : Nat) (s : State) : (note c k v s).freeCtr = s.freeCtr := recordedOnly_freeCtr (note_recordedOnly ..)
@[simp] theorem noteIf_sys (b : Bool) (c k v : Nat) (s : State) : (noteIf b c k v s).sys = s.sys := recordedOnly_sys (noteIf_recordedOnly ..)
@[simp] theorem noteIf_vau (b : Bool) (c k v : Nat) (s : State) : (noteIf b c k v s).vau = s.vau := recordedOnly_vau (noteIf_recordedOnly ..)
@[simp] theorem noteIf_mnt (b : Bool) (c k v : Nat) (s : State) : (noteIf b c k v s).mnt = s.mnt := recordedOnly_mnt (noteIf_recordedOnly ..)
@[simp] theorem noteIf_ite (b : Bool) (c k v : Nat) (s : State) : (noteIf b c k v s).ite = s.ite := recordedOnly_ite (noteIf_recordedOnly ..)
@[simp] theorem noteIf_crd (b : Bool) (c k v : Nat) (s : State) : (noteIf b c k v s).crd = s.crd := recordedOnly_crd (noteIf_recordedOnly ..)
@[simp] theorem noteIf_lend (b : Bool) (c k v : Nat) (s : State) : (noteIf b c k v s).lend = s.lend := recordedOnly_lend (noteIf_recordedOnly ..)
@[simp] theorem noteIf_pds (b : Bool) (c k v : Nat) (s : State) : (noteIf b c k v s).pds = s.pds := recordedOnly_pds (noteIf_recordedOnly ..)
@[simp] theorem noteIf_dsu (b : Bool) (c k v : Nat) (s : State) : (noteIf b c k v s).dsu = s.dsu := recordedOnly_dsu (noteIf_recordedOnly ..)
@[simp] theorem noteIf_dbc (b : Bool) (c k v : Nat) (s : State) : (noteIf b c k v s).dbc = s.dbc := recordedOnly_dbc (noteIf_recordedOnly ..)
@[simp] theorem noteIf_sni (b : Bool) (c k v : Nat) (s : State) : (noteIf b c k v s).sni = s.sni := recordedOnly_sni (noteIf_recordedOnly ..)
@[simp] theorem noteIf_cmd (b : Bool) (c k v : Nat) (s : State) : (noteIf b c k v s).cmd = s.cmd := recordedOnly_cmd (noteIf_recordedOnly ..)
@[simp] theorem noteIf_rt (b : Bool) (c k v : Nat) (s : State) : (noteIf b c k v s).rt = s.rt := recordedOnly_rt (noteIf_recordedOnly ..)
@[simp] theorem noteIf_fio (b : Bool) (c k v : Nat) (s : State) : (noteIf b c k v s).fio = s.fio := recordedOnly_fio (noteIf_recordedOnly ..)
@[simp] theorem noteIf_cvu (b : Bool) (c k v : Nat) (s : State) : (noteIf b c k v s).cvu = s.cvu := recordedOnly_cvu (noteIf_recordedOnly ..)
@[simp] theorem noteIf_mbx (b : Bool) (c k v : Nat) (s : State) : (noteIf b c k v s).mbx = s.mbx := recordedOnly_mbx (noteIf_recordedOnly ..)
@[simp] theorem noteIf_pcl (b : Bool) (c k v : Nat) (s : State) : (noteIf b c k v s).pcl = s.pcl := recordedOnly_pcl (noteIf_recordedOnly ..)
@[simp] theorem noteIf_sui (b : Bool) (c k v : Nat) (s : State) : (noteIf b c k v s).sui = s.sui := recordedOnly_sui (noteIf_recordedOnly ..)
@[simp] theorem noteIf_obs (b : Bool) (c k v : Nat) (s : State) : (noteIf b c k v s).obs = s.obs := recordedOnly_obs (noteIf_recordedOnly ..)
@[simp] theorem noteIf_conf (b : Bool) (c k v : Nat) (s : State) : (noteIf b c k v s).conf = s.conf := recordedOnly_conf (noteIf_recordedOnly ..)
@[simp] theorem noteIf_jnl (b : Bool) (c k v : Nat) (s : State) : (noteIf b c k v s).jnl = s.jnl := recordedOnly_jnl (noteIf_recordedOnly ..)
@[simp] theorem noteIf_hi (b : Bool) (c k v : Nat) (s : State) : (noteIf b c k v s).hi = s.hi := recordedOnly_hi (noteIf_recordedOnly ..)
@[simp] theorem noteIf_gd (b : Bool) (c k v : Nat) (s : State) : (noteIf b c k v s).gd = s.gd := recordedOnly_gd (noteIf_recordedOnly ..)
@[simp] theorem noteIf_sram (b : Bool) (c k v : Nat) (s : State) : (noteIf b c k v s).sram = s.sram := recordedOnly_sram (noteIf_recordedOnly ..)
@[simp] theorem noteIf_pending (b : Bool) (c k v : Nat) (s : State) : (noteIf b c k v s).pending = s.pending := recordedOnly_pending (noteIf_recordedOnly ..)
@[simp] theorem noteIf_freeCtr (b : Bool) (c k v : Nat) (s : State) : (noteIf b c k v s).freeCtr = s.freeCtr := recordedOnly_freeCtr (noteIf_recordedOnly ..)
@[simp] theorem evrRequest_sys (r : LowReq) (s : State) : (evrRequest r s).sys = s.sys := recordedOnly_sys (evrRequest_recordedOnly ..)
@[simp] theorem evrRequest_vau (r : LowReq) (s : State) : (evrRequest r s).vau = s.vau := recordedOnly_vau (evrRequest_recordedOnly ..)
@[simp] theorem evrRequest_mnt (r : LowReq) (s : State) : (evrRequest r s).mnt = s.mnt := recordedOnly_mnt (evrRequest_recordedOnly ..)
@[simp] theorem evrRequest_ite (r : LowReq) (s : State) : (evrRequest r s).ite = s.ite := recordedOnly_ite (evrRequest_recordedOnly ..)
@[simp] theorem evrRequest_crd (r : LowReq) (s : State) : (evrRequest r s).crd = s.crd := recordedOnly_crd (evrRequest_recordedOnly ..)
@[simp] theorem evrRequest_lend (r : LowReq) (s : State) : (evrRequest r s).lend = s.lend := recordedOnly_lend (evrRequest_recordedOnly ..)
@[simp] theorem evrRequest_pds (r : LowReq) (s : State) : (evrRequest r s).pds = s.pds := recordedOnly_pds (evrRequest_recordedOnly ..)
@[simp] theorem evrRequest_dsu (r : LowReq) (s : State) : (evrRequest r s).dsu = s.dsu := recordedOnly_dsu (evrRequest_recordedOnly ..)
@[simp] theorem evrRequest_dbc (r : LowReq) (s : State) : (evrRequest r s).dbc = s.dbc := recordedOnly_dbc (evrRequest_recordedOnly ..)
@[simp] theorem evrRequest_sni (r : LowReq) (s : State) : (evrRequest r s).sni = s.sni := recordedOnly_sni (evrRequest_recordedOnly ..)
@[simp] theorem evrRequest_cmd (r : LowReq) (s : State) : (evrRequest r s).cmd = s.cmd := recordedOnly_cmd (evrRequest_recordedOnly ..)
@[simp] theorem evrRequest_rt (r : LowReq) (s : State) : (evrRequest r s).rt = s.rt := recordedOnly_rt (evrRequest_recordedOnly ..)
@[simp] theorem evrRequest_fio (r : LowReq) (s : State) : (evrRequest r s).fio = s.fio := recordedOnly_fio (evrRequest_recordedOnly ..)
@[simp] theorem evrRequest_cvu (r : LowReq) (s : State) : (evrRequest r s).cvu = s.cvu := recordedOnly_cvu (evrRequest_recordedOnly ..)
@[simp] theorem evrRequest_mbx (r : LowReq) (s : State) : (evrRequest r s).mbx = s.mbx := recordedOnly_mbx (evrRequest_recordedOnly ..)
@[simp] theorem evrRequest_pcl (r : LowReq) (s : State) : (evrRequest r s).pcl = s.pcl := recordedOnly_pcl (evrRequest_recordedOnly ..)
@[simp] theorem evrRequest_sui (r : LowReq) (s : State) : (evrRequest r s).sui = s.sui := recordedOnly_sui (evrRequest_recordedOnly ..)
@[simp] theorem evrRequest_obs (r : LowReq) (s : State) : (evrRequest r s).obs = s.obs := recordedOnly_obs (evrRequest_recordedOnly ..)
@[simp] theorem evrRequest_conf (r : LowReq) (s : State) : (evrRequest r s).conf = s.conf := recordedOnly_conf (evrRequest_recordedOnly ..)
@[simp] theorem evrRequest_jnl (r : LowReq) (s : State) : (evrRequest r s).jnl = s.jnl := recordedOnly_jnl (evrRequest_recordedOnly ..)
@[simp] theorem evrRequest_hi (r : LowReq) (s : State) : (evrRequest r s).hi = s.hi := recordedOnly_hi (evrRequest_recordedOnly ..)
@[simp] theorem evrRequest_gd (r : LowReq) (s : State) : (evrRequest r s).gd = s.gd := recordedOnly_gd (evrRequest_recordedOnly ..)
@[simp] theorem evrRequest_sram (r : LowReq) (s : State) : (evrRequest r s).sram = s.sram := recordedOnly_sram (evrRequest_recordedOnly ..)
@[simp] theorem evrRequest_pending (r : LowReq) (s : State) : (evrRequest r s).pending = s.pending := recordedOnly_pending (evrRequest_recordedOnly ..)
@[simp] theorem evrRequest_freeCtr (r : LowReq) (s : State) : (evrRequest r s).freeCtr = s.freeCtr := recordedOnly_freeCtr (evrRequest_recordedOnly ..)
@[simp] theorem postNand_sys (ty : Nat) (b : List Byte) (s : State) : (postNand ty b s).sys = s.sys := recordedOnly_sys (postNand_recordedOnly ..)
@[simp] theorem postNand_vau (ty : Nat) (b : List Byte) (s : State) : (postNand ty b s).vau = s.vau := recordedOnly_vau (postNand_recordedOnly ..)
@[simp] theorem postNand_mnt (ty : Nat) (b : List Byte) (s : State) : (postNand ty b s).mnt = s.mnt := recordedOnly_mnt (postNand_recordedOnly ..)
@[simp] theorem postNand_ite (ty : Nat) (b : List Byte) (s : State) : (postNand ty b s).ite = s.ite := recordedOnly_ite (postNand_recordedOnly ..)
@[simp] theorem postNand_crd (ty : Nat) (b : List Byte) (s : State) : (postNand ty b s).crd = s.crd := recordedOnly_crd (postNand_recordedOnly ..)
@[simp] theorem postNand_lend (ty : Nat) (b : List Byte) (s : State) : (postNand ty b s).lend = s.lend := recordedOnly_lend (postNand_recordedOnly ..)
@[simp] theorem postNand_pds (ty : Nat) (b : List Byte) (s : State) : (postNand ty b s).pds = s.pds := recordedOnly_pds (postNand_recordedOnly ..)
@[simp] theorem postNand_dsu (ty : Nat) (b : List Byte) (s : State) : (postNand ty b s).dsu = s.dsu := recordedOnly_dsu (postNand_recordedOnly ..)
@[simp] theorem postNand_dbc (ty : Nat) (b : List Byte) (s : State) : (postNand ty b s).dbc = s.dbc := recordedOnly_dbc (postNand_recordedOnly ..)
@[simp] theorem postNand_sni (ty : Nat) (b : List Byte) (s : State) : (postNand ty b s).sni = s.sni := recordedOnly_sni (postNand_recordedOnly ..)
@[simp] theorem postNand_cmd (ty : Nat) (b : List Byte) (s : State) : (postNand ty b s).cmd = s.cmd := recordedOnly_cmd (postNand_recordedOnly ..)
@[simp] theorem postNand_rt (ty : Nat) (b : List Byte) (s : State) : (postNand ty b s).rt = s.rt := recordedOnly_rt (postNand_recordedOnly ..)
@[simp] theorem postNand_fio (ty : Nat) (b : List Byte) (s : State) : (postNand ty b s).fio = s.fio := recordedOnly_fio (postNand_recordedOnly ..)
@[simp] theorem postNand_cvu (ty : Nat) (b : List Byte) (s : State) : (postNand ty b s).cvu = s.cvu := recordedOnly_cvu (postNand_recordedOnly ..)
@[simp] theorem postNand_mbx (ty : Nat) (b : List Byte) (s : State) : (postNand ty b s).mbx = s.mbx := recordedOnly_mbx (postNand_recordedOnly ..)
@[simp] theorem postNand_pcl (ty : Nat) (b : List Byte) (s : State) : (postNand ty b s).pcl = s.pcl := recordedOnly_pcl (postNand_recordedOnly ..)
@[simp] theorem postNand_sui (ty : Nat) (b : List Byte) (s : State) : (postNand ty b s).sui = s.sui := recordedOnly_sui (postNand_recordedOnly ..)
@[simp] theorem postNand_obs (ty : Nat) (b : List Byte) (s : State) : (postNand ty b s).obs = s.obs := recordedOnly_obs (postNand_recordedOnly ..)
@[simp] theorem postNand_conf (ty : Nat) (b : List Byte) (s : State) : (postNand ty b s).conf = s.conf := recordedOnly_conf (postNand_recordedOnly ..)
@[simp] theorem postNand_jnl (ty : Nat) (b : List Byte) (s : State) : (postNand ty b s).jnl = s.jnl := recordedOnly_jnl (postNand_recordedOnly ..)
@[simp] theorem postNand_hi (ty : Nat) (b : List Byte) (s : State) : (postNand ty b s).hi = s.hi := recordedOnly_hi (postNand_recordedOnly ..)
@[simp] theorem postNand_gd (ty : Nat) (b : List Byte) (s : State) : (postNand ty b s).gd = s.gd := recordedOnly_gd (postNand_recordedOnly ..)
@[simp] theorem postNand_sram (ty : Nat) (b : List Byte) (s : State) : (postNand ty b s).sram = s.sram := recordedOnly_sram (postNand_recordedOnly ..)
@[simp] theorem postNand_pending (ty : Nat) (b : List Byte) (s : State) : (postNand ty b s).pending = s.pending := recordedOnly_pending (postNand_recordedOnly ..)
@[simp] theorem postNand_freeCtr (ty : Nat) (b : List Byte) (s : State) : (postNand ty b s).freeCtr = s.freeCtr := recordedOnly_freeCtr (postNand_recordedOnly ..)

end Sys2Proof.Machine
end

