-- ==== Sys2Proof/Laws/GeoData.lean ====
section
/-!
SUPPORT. Which operations leave geographic data RAM, one lemma per operation.
-/
namespace Sys2Proof.Machine
set_option linter.all false

@[simp] theorem ite_gd (c : Prop) [Decidable c] (a b : State) : (if c then a else b).gd = if c then a.gd else b.gd := by
  split <;> rfl

@[simp] theorem foldl_gd {β : Type} (l : List β) (f : State → β → State) (s : State) (h : ∀ s b, (f s b).gd = s.gd) :
    (l.foldl f s).gd = s.gd := by
  induction l generalizing s with
  | nil => rfl
  | cons b l ih => rw [List.foldl_cons, ih, h]

theorem foldlFst_gd {α β : Type} (l : List β) (f : State × α → β → State × α) (p : State × α) (h : ∀ p b, (f p b).1.gd = p.1.gd) :
    (l.foldl f p).1.gd = p.1.gd := by
  induction l generalizing p with
  | nil => rfl
  | cons b l ih => rw [List.foldl_cons, ih, h]

@[simp] theorem putDual_gd (base : Nat) (slotB : Bool) (w : Word) (s : State) : (putDual base slotB w s).gd = s.gd := by
  unfold putDual
  simp

@[simp] theorem timeCheckpoint_gd (s : State) : (timeCheckpoint s).gd = s.gd := by
  unfold timeCheckpoint
  simp

@[simp] theorem nseqCheckpoint_gd (s : State) : (nseqCheckpoint s).gd = s.gd := by
  unfold nseqCheckpoint
  simp

@[simp] theorem stageFit_gd (ty : Nat) (body : List Byte) (s : State) : (stageFit ty body s).gd = s.gd := by
  unfold stageFit
  simp

@[simp] theorem stageLost_gd (s : State) : (stageLost s).gd = s.gd := by
  unfold stageLost
  simp

@[simp] theorem stage_gd (ty : Nat) (body : List Byte) (s : State) : (stage ty body s).1.gd = s.gd := by
  unfold stage
  try dsimp only
  (repeat' split) <;> simp

@[simp] theorem setEvent_gd (code off : Nat) (s : State) : (setEvent code off s).gd = s.gd := by
  unfold setEvent
  (repeat' split) <;> simp

@[simp] theorem evrClose_gd (s : State) : (evrClose s).1.gd = s.gd := by
  unfold evrClose
  try dsimp only
  (repeat' split) <;> simp

@[simp] theorem evrAllocate_gd (r : LowReq) (s : State) : (evrAllocate r s).gd = s.gd := by
  unfold evrAllocate
  simp

@[simp] theorem evrRepeat_gd (s : State) : (evrRepeat s).gd = s.gd := by
  unfold evrRepeat
  (repeat' split) <;> simp

@[simp] theorem evrTake_gd (k : Nat) (r : LowReq) (s : State) : (evrTake k r s).gd = s.gd := by
  induction k generalizing r s with
  | zero => rfl
  | succ k ih =>
    unfold evrTake
    dsimp only
    (repeat' split) <;> simp [ih]

@[simp] theorem evrDrop_gd (src : Nat) (s : State) : (evrDrop src s).gd = s.gd := by
  unfold evrDrop
  simp

@[simp] theorem evrAnnounce_gd (src : Nat) (s : State) : (evrAnnounce src s).gd = s.gd := by
  unfold evrAnnounce
  simp

@[simp] theorem evrFlag_gd (r : LowReq) (s : State) : (evrFlag r s).gd = s.gd := by
  unfold evrFlag
  simp

@[simp] theorem readFlags_gd (s : State) : (readFlags s).gd = s.gd := by
  unfold readFlags
  simp

@[simp] theorem setRegs_gd (a : Nat) (ws : List Word) (s : State) : (setRegs a ws s).gd = s.gd := by
  unfold setRegs
  simp

@[simp] theorem recordLater_gd (ty : Nat) (body : List Byte) (s : State) : (recordLater ty body s).gd = s.gd := by
  unfold recordLater
  simp

@[simp] theorem mSafe_gd (code : Nat) (s : State) : (mSafe code s).gd = s.gd := by
  unfold mSafe
  simp

@[simp] theorem mFault_gd (code : Nat) (s : State) : (mFault code s).gd = s.gd := by
  unfold mFault
  simp

@[simp] theorem heartbeatCheck_gd (received : Bool) (s : State) : (heartbeatCheck received s).gd = s.gd := by
  unfold heartbeatCheck
  try dsimp only
  (repeat' split) <;> simp

@[simp] theorem sealBus_gd (b : Nat) (s : State) : (sealBus b s).gd = s.gd := by
  unfold sealBus
  simp

@[simp] theorem countMasked_gd (n : Nat) (s : State) : (countMasked n s).gd = s.gd := by
  unfold countMasked
  simp

@[simp] theorem resealBus_gd (b : Nat) (s : State) : (resealBus b s).gd = s.gd := by
  unfold resealBus
  simp

@[simp] theorem resealAfter_gd (before : Mnt) (s : State) : (resealAfter before s).gd = s.gd := by
  unfold resealAfter
  simp

@[simp] theorem outPush_gd (host : Nat) (noncons : Bool) (r : List Byte) (s : State) : (outPush host noncons r s).gd = s.gd := by
  unfold outPush
  simp

@[simp] theorem writeRbuf_gd (r : List Byte) (s : State) : (writeRbuf r s).gd = s.gd := by
  unfold writeRbuf
  simp

@[simp] theorem recordCommand_gd (t : Nat) (g : Tag) (r : List Byte) (s : State) : (recordCommand t g r s).gd = s.gd := by
  unfold recordCommand
  simp

@[simp] theorem tagDirty_gd (t : Nat) (s : State) : (tagDirty t s).gd = s.gd := by
  unfold tagDirty
  simp

@[simp] theorem storeReply_gd (r : List Byte) (s : State) : (storeReply r s).gd = s.gd := by
  unfold storeReply
  simp

@[simp] theorem abortAll_gd (cause : Nat) (s : State) : (abortAll cause s).gd = s.gd := by
  unfold abortAll
  simp

@[simp] theorem busCancel_gd (b : Nat) (s : State) : (busCancel b s).gd = s.gd := by
  unfold busCancel
  simp

@[simp] theorem clearReady_gd (s : State) : (clearReady s).gd = s.gd := by
  unfold clearReady
  simp

@[simp] theorem enterSafe_gd (code : Nat) (mantle : Bool) (s : State) : (enterSafe code mantle s).gd = s.gd := by
  unfold enterSafe
  simp

@[simp] theorem enterMaint_gd (code : Nat) (mantle : Bool) (s : State) : (enterMaint code mantle s).gd = s.gd := by
  unfold enterMaint
  simp

@[simp] theorem safeOn_gd (code : Nat) (mantle : Bool) (s : State) : (safeOn code mantle s).gd = s.gd := by
  unfold safeOn
  (repeat' split) <;> simp

@[simp] theorem raiseSAt_gd (off code obj val : Nat) (s : State) : (raiseSAt off code obj val s).gd = s.gd := by
  unfold raiseSAt
  simp

@[simp] theorem raiseS_gd (code obj val : Nat) (s : State) : (raiseS code obj val s).gd = s.gd := by
  unfold raiseS
  simp

@[simp] theorem raiseAll_gd (codes : List Nat) (s : State) : (raiseAll codes s).gd = s.gd := by
  unfold raiseAll
  (repeat' split) <;> simp

@[simp] theorem localSafeEdge_gd (e code : Nat) (s : State) : (localSafeEdge e code s).gd = s.gd := by
  unfold localSafeEdge
  simp

@[simp] theorem raiseEdge_gd (e code obj val : Nat) (s : State) : (raiseEdge e code obj val s).gd = s.gd := by
  unfold raiseEdge
  simp

@[simp] theorem obsAdd_gd (inc : Nat → Nat → Nat) (s : State) : (obsAdd inc s).gd = s.gd := by
  unfold obsAdd
  simp

@[simp] theorem obsCount_gd (i n : Nat) (s : State) : (obsCount i n s).gd = s.gd := by
  unfold obsCount
  simp

@[simp] theorem obsCountT_gd (k i n : Nat) (s : State) : (obsCountT k i n s).gd = s.gd := by
  unfold obsCountT
  simp

@[simp] theorem obsRun_gd (s : State) : (obsRun s).gd = s.gd := by
  unfold obsRun
  simp

@[simp] theorem pselWrite_gd (k : Nat) (w : Word) (s : State) : (pselWrite k w s).gd = s.gd := by
  unfold pselWrite
  simp

@[simp] theorem ovfWrite_gd (j : Nat) (w : Word) (s : State) : (ovfWrite j w s).gd = s.gd := by
  unfold ovfWrite
  simp

@[simp] theorem markWrite_gd (w : Word) (s : State) : (markWrite w s).gd = s.gd := by
  unfold markWrite
  simp

@[simp] theorem tagDraw_gd (s : State) : (tagDraw s).gd = s.gd := by
  unfold tagDraw
  simp

@[simp] theorem tagctlWrite_gd (w : Word) (s : State) : (tagctlWrite w s).gd = s.gd := by
  unfold tagctlWrite
  simp

@[simp] theorem seedWrite_gd (w : Word) (s : State) : (seedWrite w s).gd = s.gd := by
  unfold seedWrite
  simp

@[simp] theorem tagRetire_gd (pc : Word) (slotClass issueSlot fetchToIssue issueToRetire stall : Nat) (s : State) : (tagRetire pc slotClass issueSlot fetchToIssue issueToRetire stall s).gd = s.gd := by
  unfold tagRetire
  simp

@[simp] theorem counterWrap_gd (n : Nat) (s : State) : (counterWrap n s).gd = s.gd := by
  unfold counterWrap
  simp

@[simp] theorem linkSend_gd (s : State) : (linkSend s).gd = s.gd := by
  unfold linkSend
  simp

@[simp] theorem segStart_gd (s : State) : (segStart s).gd = s.gd := by
  unfold segStart
  simp

@[simp] theorem obsStart_gd (s : State) : (obsStart s).gd = s.gd := by
  unfold obsStart
  simp

@[simp] theorem segmentLatch_gd (s : State) : (segmentLatch s).gd = s.gd := by
  unfold segmentLatch
  simp

@[simp] theorem obsRejoin_gd (k : Nat) (s : State) : (obsRejoin k s).gd = s.gd := by
  unfold obsRejoin
  simp

@[simp] theorem onSlot_gd (cB rB tB : Nat) (berth : Bool) (f : SlotConf → Word → Word → Word × Word) (s : State) (i : Nat) : (onSlot cB rB tB berth f s i).gd = s.gd := by
  unfold onSlot
  simp

@[simp] theorem onLeafSlots_gd (l : Nat) (f : SlotConf → Word → Word → Word × Word) (s : State) : (onLeafSlots l f s).gd = s.gd := by
  unfold onLeafSlots
  simp

@[simp] theorem onBerthSlots_gd (e : Nat) (f : SlotConf → Word → Word → Word × Word) (s : State) : (onBerthSlots e f s).gd = s.gd := by
  unfold onBerthSlots
  simp

@[simp] theorem leafTake_gd (l trv : Nat) (vel : Int) (r : UnitRep) (s : State) : (leafTake l trv vel r s).gd = s.gd := by
  unfold leafTake
  simp

@[simp] theorem leafMissing_gd (l : Nat) (s : State) : (leafMissing l s).gd = s.gd := by
  unfold leafMissing
  simp

@[simp] theorem unitIntake_gd (u : Nat) (r : UnitRep) (due : Bool) (s : State) : (unitIntake u r due s).gd = s.gd := by
  unfold unitIntake
  simp

@[simp] theorem latchLeaves_gd (s : State) : (latchLeaves s).gd = s.gd := by
  unfold latchLeaves
  simp

@[simp] theorem clearNew_gd (s : State) : (clearNew s).gd = s.gd := by
  unfold clearNew
  simp

@[simp] theorem berthCompute_gd (s : State) (e : Nat) : (berthCompute s e).gd = s.gd := by
  unfold berthCompute
  simp

@[simp] theorem slotPut_gd (phaseOk berth : Bool) (i : Nat) (w : Word) (s : State) : (slotPut phaseOk berth i w s).gd = s.gd := by
  unfold slotPut
  simp

@[simp] theorem slotWrite_gd (berth : Bool) (i : Nat) (w : Word) (s : State) : (slotWrite berth i w s).gd = s.gd := by
  unfold slotWrite
  simp

@[simp] theorem trackWrite_gd (m : Nat) (w : Word) (s : State) : (trackWrite m w s).gd = s.gd := by
  unfold trackWrite
  simp

@[simp] theorem dsuIntake_gd (u : Nat) (r : UnitRep) (taken due : Bool) (s : State) : (dsuIntake u r taken due s).gd = s.gd := by
  unfold dsuIntake
  simp

@[simp] theorem dsuSlot_gd (i : Nat) (w : Word) (arg : Nat) (s : State) : (dsuSlot i w arg s).gd = s.gd := by
  unfold dsuSlot
  simp

@[simp] theorem armFor_gd (l : Nat) (st : LeafSt) (creep dirOpen : Bool) (s : State) : (armFor l st creep dirOpen s).gd = s.gd := by
  unfold armFor
  (repeat' split) <;> simp

@[simp] theorem enterLeaf_gd (l : Nat) (st : LeafSt) (s : State) : (enterLeaf l st s).gd = s.gd := by
  unfold enterLeaf
  simp

@[simp] theorem doorEvent_gd (v : DoorEvent) (s : State) : (doorEvent v s).gd = s.gd := by
  unfold doorEvent
  simp

@[simp] theorem logReport_gd (s : State) (l : Nat) : (logReport s l).gd = s.gd := by
  unfold logReport
  simp

@[simp] theorem logCycle_gd (l endState : Nat) (s : State) : (logCycle l endState s).gd = s.gd := by
  unfold logCycle
  simp

@[simp] theorem abortCycle_gd (l endState : Nat) (s : State) : (abortCycle l endState s).gd = s.gd := by
  unfold abortCycle
  simp

@[simp] theorem enterLocal_gd (e code : Nat) (s : State) : (enterLocal e code s).gd = s.gd := by
  unfold enterLocal
  try dsimp only
  (repeat' split) <;>
    first | (simp; done) | (refine Eq.trans (foldl_gd _ _ _ (fun s b => ?_)) ?_ <;> (repeat' split) <;> simp)

@[simp] theorem localCause_gd (e code obj val : Nat) (s : State) : (localCause e code obj val s).gd = s.gd := by
  unfold localCause
  simp

@[simp] theorem setTracked_gd (l : Nat) (b : Bool) (s : State) : (setTracked l b s).gd = s.gd := by
  unfold setTracked
  simp

@[simp] theorem startLeaf_gd (s : State) (l : Nat) : (startLeaf s l).gd = s.gd := by
  unfold startLeaf
  simp

@[simp] theorem plunger_gd (s : State) (e : Nat) : (plunger s e).gd = s.gd := by
  unfold plunger
  simp

@[simp] theorem stoInput_gd (s : State) (u : Nat) : (stoInput s u).gd = s.gd := by
  unfold stoInput
  simp

@[simp] theorem creepCheck_gd (s : State) (l : Nat) : (creepCheck s l).gd = s.gd := by
  unfold creepCheck
  simp

@[simp] theorem stepLocal_gd (s : State) (e : Nat) : (stepLocal s e).gd = s.gd := by
  unfold stepLocal
  try dsimp only
  (repeat' split) <;> simp

@[simp] theorem rampFault_gd (l code : Nat) (s : State) : (rampFault l code s).gd = s.gd := by
  unfold rampFault
  simp

@[simp] theorem stepRamp_gd (s : State) (l : Nat) : (stepRamp s l).gd = s.gd := by
  unfold stepRamp
  simp

@[simp] theorem stopLeaf_gd (unitLevel : Bool) (s : State) (l : Nat) : (stopLeaf unitLevel s l).gd = s.gd := by
  unfold stopLeaf
  simp

@[simp] theorem edgeStop_gd (e code : Nat) (s : State) : (edgeStop e code s).gd = s.gd := by
  unfold edgeStop
  simp

@[simp] theorem stepStop_gd (s : State) (e : Nat) : (stepStop s e).gd = s.gd := by
  unfold stepStop
  try dsimp only
  (repeat' split) <;> simp

@[simp] theorem setStoAtOnce_gd (u : Nat) (b : Bool) (s : State) : (setStoAtOnce u b s).gd = s.gd := by
  unfold setStoAtOnce
  simp

@[simp] theorem faultAction_gd (l : Nat) (s : State) : (faultAction l s).gd = s.gd := by
  unfold faultAction
  simp

@[simp] theorem leafFails_gd (code l : Nat) (s : State) : (leafFails code l s).gd = s.gd := by
  unfold leafFails
  simp

@[simp] theorem stepFault_gd (s : State) (l : Nat) : (stepFault s l).gd = s.gd := by
  unfold stepFault
  (repeat' split) <;> simp

@[simp] theorem leavesToClosing_gd (e : Nat) (s : State) : (leavesToClosing e s).gd = s.gd := by
  unfold leavesToClosing
  try dsimp only
  (repeat' split) <;>
    first | (simp; done) | (refine Eq.trans (foldl_gd _ _ _ (fun s b => ?_)) ?_ <;> (repeat' split) <;> simp)

@[simp] theorem edgeToClosing_gd (e : Nat) (s : State) : (edgeToClosing e s).gd = s.gd := by
  unfold edgeToClosing
  simp

@[simp] theorem liftHolds_gd (e : Nat) (s : State) : (liftHolds e s).gd = s.gd := by
  unfold liftHolds
  simp

@[simp] theorem leafRestore_gd (l : Nat) (s : State) : (leafRestore l s).gd = s.gd := by
  unfold leafRestore
  simp

@[simp] theorem edgeOpen_gd (e : Nat) (s : State) : (edgeOpen e s).gd = s.gd := by
  unfold edgeOpen
  simp

@[simp] theorem edgeCommand_gd (e : Nat) (s : State) : (edgeCommand e s).1.gd = s.gd := by
  unfold edgeCommand
  try dsimp only
  (repeat' split) <;> simp

@[simp] theorem restorationRelease_gd (e : Nat) (s : State) : (restorationRelease e s).gd = s.gd := by
  unfold restorationRelease
  try dsimp only
  (repeat' split) <;>
    first | (simp; done) | (refine Eq.trans (foldl_gd _ _ _ (fun s b => ?_)) ?_ <;> (repeat' split) <;> simp)

@[simp] theorem stepCommand_gd (s : State) (e : Nat) : (stepCommand s e).gd = s.gd := by
  unfold stepCommand
  dsimp only
  generalize hs : (if (s.edge e).st = EdgeSt.localSafe ∧ (s.edge e).restoring = true ∧ later s.sys.vcn (s.edge e).restVcn = true
    then restorationRelease e s else s) = s1
  have h1 : s1.gd = s.gd := by
    rw [← hs]
    split <;> simp
  have h2 := edgeCommand_gd e s1
  split
  · exact h1
  · split <;> rename_i h <;> rw [h] at h2 <;> simp_all

@[simp] theorem leafCommand_gd (s : State) (w : Word) : (leafCommand s w).gd = s.gd := by
  unfold leafCommand
  (repeat' split) <;> simp

@[simp] theorem closingLeaf_gd (l : Nat) (s : State) : (closingLeaf l s).gd = s.gd := by
  unfold closingLeaf
  simp

@[simp] theorem stepLeaf_gd (s : State) (l : Nat) : (stepLeaf s l).gd = s.gd := by
  unfold stepLeaf
  try dsimp only
  (repeat' split) <;> simp

@[simp] theorem provingDone_gd (e : Nat) (s : State) : (provingDone e s).gd = s.gd := by
  unfold provingDone
  simp

@[simp] theorem edgeProve_gd (e : Nat) (lt : Bool) (s : State) : (edgeProve e lt s).gd = s.gd := by
  unfold edgeProve
  try dsimp only
  (repeat' split) <;> simp

@[simp] theorem closeTimer_gd (e : Nat) (s : State) : (closeTimer e s).gd = s.gd := by
  unfold closeTimer
  try dsimp only
  (repeat' split) <;> simp

@[simp] theorem stepEdge_gd (s : State) (e : Nat) : (stepEdge s e).gd = s.gd := by
  unfold stepEdge
  simp

@[simp] theorem countCheck_gd (s : State) : (countCheck s).gd = s.gd := by
  unfold countCheck
  (repeat' split) <;> simp

@[simp] theorem dsuStep_gd (s : State) : (dsuStep s).gd = s.gd := by
  unfold dsuStep
  simp

@[simp] theorem tokSet_gd (i : Nat) (w : Word) (s : State) : (tokSet i w s).gd = s.gd := by
  unfold tokSet
  simp

@[simp] theorem acquireList_gd (xs : List Nat) (h : Nat) (s : State) : (acquireList xs h s).1.gd = s.gd := by
  unfold acquireList
  (repeat' split) <;> simp

@[simp] theorem recount_gd (s : State) : (recount s).gd = s.gd := by
  unfold recount
  simp

@[simp] theorem crdPerform_gd (o : CrdOp) (s : State) : (crdPerform o s).1.gd = s.gd := by
  unfold crdPerform
  try dsimp only
  (repeat' split) <;> simp

@[simp] theorem crdDo_gd (o : CrdOp) (s : State) : (crdDo o s).1.gd = s.gd := by
  unfold crdDo
  dsimp only
  rw [State.setReg_gd, obsCount_gd]
  dsimp only
  split <;> simp

@[simp] theorem crdWrite_gd (o : CrdOp) (s : State) : (crdWrite o s).gd = s.gd := by
  unfold crdWrite
  simp

@[simp] theorem crdResume_gd (s : State) : (crdResume s).gd = s.gd := by
  unfold crdResume
  simp

@[simp] theorem writeOpa_gd (subj timer : Nat) (s : State) : (writeOpa subj timer s).gd = s.gd := by
  unfold writeOpa
  simp

@[simp] theorem crdRun_gd (opc elem holder subj timer : Nat) (s : State) : (crdRun opc elem holder subj timer s).1.gd = s.gd := by
  unfold crdRun
  simp

@[simp] theorem loadTable_gd (t : Tbl Word) (s : State) : (loadTable t s).gd = s.gd := by
  unfold loadTable
  simp

@[simp] theorem tokExpired_gd (i : Nat) (s : State) : (tokExpired i s).gd = s.gd := by
  unfold tokExpired
  simp

@[simp] theorem tokTick_gd (s : State) (i : Nat) : (tokTick s i).gd = s.gd := by
  unfold tokTick
  simp

@[simp] theorem tokTicks_gd (s : State) : (tokTicks s).gd = s.gd := by
  unfold tokTicks
  simp

@[simp] theorem noteBus_gd (b code : Nat) (s : State) : (noteBus b code s).gd = s.gd := by
  unfold noteBus
  simp

@[simp] theorem busLocal_gd (b code : Nat) (s : State) : (busLocal b code s).gd = s.gd := by
  unfold busLocal
  simp

@[simp] theorem countFd_gd (b : Nat) (s : State) : (countFd b s).gd = s.gd := by
  unfold countFd
  simp

@[simp] theorem countOther_gd (b : Nat) (s : State) : (countOther b s).gd = s.gd := by
  unfold countOther
  simp

@[simp] theorem countUnit_gd (b u hi lo : Nat) (s : State) : (countUnit b u hi lo s).gd = s.gd := by
  unfold countUnit
  simp

@[simp] theorem send_gd (k : FrameKind) (f : Frame) (b : Nat) (s : State) : (send k f b s).gd = s.gd := by
  unfold send
  simp

@[simp] theorem busesFollow_gd (old new : ModState) (s : State) : (busesFollow old new s).gd = s.gd := by
  unfold busesFollow
  simp

@[simp] theorem busWakes_gd (b : Nat) (s : State) : (busWakes b s).gd = s.gd := by
  unfold busWakes
  simp

@[simp] theorem sendWake_gd (b : Nat) (s : State) : (sendWake b s).gd = s.gd := by
  unfold sendWake
  simp

@[simp] theorem busSleep_gd (b : Nat) (s : State) : (busSleep b s).gd = s.gd := by
  unfold busSleep
  simp

@[simp] theorem sleepEnd_gd (b : Nat) (s : State) : (sleepEnd b s).gd = s.gd := by
  unfold sleepEnd
  simp

@[simp] theorem errorPassive_gd (b : Nat) (s : State) : (errorPassive b s).gd = s.gd := by
  unfold errorPassive
  simp

@[simp] theorem brokenNote_gd (b : Nat) (s : State) : (brokenNote b s).gd = s.gd := by
  unfold brokenNote
  (repeat' split) <;> simp

@[simp] theorem busOff_gd (b : Nat) (s : State) : (busOff b s).gd = s.gd := by
  unfold busOff
  simp

@[simp] theorem txError_gd (b lec : Nat) (s : State) : (txError b lec s).gd = s.gd := by
  unfold txError
  simp

@[simp] theorem loopDelay_gd (b tdcv : Nat) (s : State) : (loopDelay b tdcv s).gd = s.gd := by
  unfold loopDelay
  simp

@[simp] theorem errorActive_gd (b : Nat) (s : State) : (errorActive b s).gd = s.gd := by
  unfold errorActive
  simp

@[simp] theorem txGood_gd (b : Nat) (s : State) : (txGood b s).gd = s.gd := by
  unfold txGood
  simp

@[simp] theorem rxGood_gd (b : Nat) (s : State) : (rxGood b s).gd = s.gd := by
  unfold rxGood
  simp

@[simp] theorem passiveEvent_gd (b : Nat) (s : State) : (passiveEvent b s).gd = s.gd := by
  unfold passiveEvent
  simp

@[simp] theorem setUnack_gd (b n : Nat) (s : State) : (setUnack b n s).gd = s.gd := by
  unfold setUnack
  simp

@[simp] theorem refUnacked_gd (b : Nat) (s : State) : (refUnacked b s).gd = s.gd := by
  unfold refUnacked
  simp

@[simp] theorem refEnd_gd (b result : Nat) (s : State) : (refEnd b result s).gd = s.gd := by
  unfold refEnd
  simp

@[simp] theorem txEnd_gd (b result tdcv : Nat) (s : State) : (txEnd b result tdcv s).gd = s.gd := by
  unfold txEnd
  (repeat' split) <;> simp

@[simp] theorem refRx_gd (b ofs : Nat) (f : Frame) (s : State) : (refRx b ofs f s).gd = s.gd := by
  unfold refRx
  try dsimp only
  (repeat' split) <;> simp

@[simp] theorem reportRx_gd (b u sof : Nat) (bs : List Byte) (s : State) : (reportRx b u sof bs s).gd = s.gd := by
  unfold reportRx
  simp

@[simp] theorem foreignRx_gd (b id sof : Nat) (fd : Bool) (s : State) : (foreignRx b id sof fd s).gd = s.gd := by
  unfold foreignRx
  simp

@[simp] theorem busTurn_gd (b : Nat) (s : State) : (busTurn b s).gd = s.gd := by
  unfold busTurn
  simp

@[simp] theorem cmdWatch_gd (b : Nat) (s : State) : (cmdWatch b s).gd = s.gd := by
  unfold cmdWatch
  simp

@[simp] theorem sleepTurn_gd (b : Nat) (s : State) : (sleepTurn b s).gd = s.gd := by
  unfold sleepTurn
  simp

@[simp] theorem snapRegs_gd (b u : Nat) (r : UnitRep) (s : State) : (snapRegs b u r s).gd = s.gd := by
  unfold snapRegs
  simp

@[simp] theorem unitTurn_gd (b : Nat) (s : State) (u : Nat) : (unitTurn b s u).gd = s.gd := by
  unfold unitTurn
  simp

@[simp] theorem reportsTurn_gd (s : State) : (reportsTurn s).gd = s.gd := by
  unfold reportsTurn
  simp

@[simp] theorem busesTurn_gd (s : State) : (busesTurn s).gd = s.gd := by
  unfold busesTurn
  simp

@[simp] theorem discStrobe_gd (s : State) (i : Nat) : (discStrobe s i).gd = s.gd := by
  unfold discStrobe
  simp

@[simp] theorem fioGate_gd (s : State) : (fioGate s).gd = s.gd := by
  unfold fioGate
  simp

@[simp] theorem commitNotes_gd (w0 w1 : Word) (s : State) : (commitNotes w0 w1 s).gd = s.gd := by
  unfold commitNotes
  simp

@[simp] theorem commit_gd (w0 w1 code : Word) (s : State) : (commit w0 w1 code s).gd = s.gd := by
  unfold commit
  simp

@[simp] theorem writeCode_gd (code : Word) (s : State) : (writeCode code s).gd = s.gd := by
  unfold writeCode
  simp

@[simp] theorem groupEdges_gd (gs : BitVec 12) (s : State) : (groupEdges gs s).gd = s.gd := by
  unfold groupEdges
  try dsimp only
  (repeat' split) <;>
    first | (simp; done) | (refine Eq.trans (foldl_gd _ _ _ (fun s b => ?_)) ?_ <;> (repeat' split) <;> simp)

@[simp] theorem groupsLocalSafe_gd (before : Word) (s : State) : (groupsLocalSafe before s).gd = s.gd := by
  unfold groupsLocalSafe
  try dsimp only
  (repeat' split) <;>
    first | (simp; done) | (refine Eq.trans (foldl_gd _ _ _ (fun s b => ?_)) ?_ <;> (repeat' split) <;> simp)

@[simp] theorem discSet_gd (i : Nat) (s : State) : (discSet i s).gd = s.gd := by
  unfold discSet
  simp

@[simp] theorem silentState_gd (s : State) : (silentState s).gd = s.gd := by
  unfold silentState
  simp

@[simp] theorem fioStrobe_gd (rb : BitVec 48) (s : State) : (fioStrobe rb s).gd = s.gd := by
  unfold fioStrobe
  simp

@[simp] theorem outputL_gd (n code : Nat) (s : State) : (outputL n code s).gd = s.gd := by
  unfold outputL
  try dsimp only
  (repeat' split) <;> simp

@[simp] theorem detect_gd (n det res code : Nat) (s : State) : (detect n det res code s).gd = s.gd := by
  unfold detect
  simp

@[simp] theorem classify_gd (n result partner : Nat) (s : State) : (classify n result partner s).gd = s.gd := by
  unfold classify
  try dsimp only
  (repeat' split) <;> simp

@[simp] theorem recountCredits_gd (s : State) : (recountCredits s).gd = s.gd := by
  unfold recountCredits
  simp

@[simp] theorem creditRecount_gd (s : State) : (creditRecount s).gd = s.gd := by
  unfold creditRecount
  simp

@[simp] theorem postRefused_gd (tag : Nat) (s : State) : (postRefused tag s).gd = s.gd := by
  unfold postRefused
  simp

@[simp] theorem postBytes_gd (r : List Byte) (s : State) : (postBytes r s).gd = s.gd := by
  unfold postBytes
  simp

@[simp] theorem postReply_gd (tag ses status detail fault : Nat) (results : List Byte) (s : State) : (postReply tag ses status detail fault results s).gd = s.gd := by
  unfold postReply
  simp

@[simp] theorem postIfActive_gd (tag ses status detail fault : Nat) (results : List Byte) (s : State) : (postIfActive tag ses status detail fault results s).gd = s.gd := by
  unfold postIfActive
  simp

@[simp] theorem postAccepted_gd (tag ses : Nat) (s : State) : (postAccepted tag ses s).gd = s.gd := by
  unfold postAccepted
  simp

@[simp] theorem answer_gd (p : Pkt) (status code : Nat) (results : List Byte) (s : State) : (answer p status code results s).gd = s.gd := by
  unfold answer
  simp

@[simp] theorem answerDuplicate_gd (host tag : Nat) (s : State) : (answerDuplicate host tag s).gd = s.gd := by
  unfold answerDuplicate
  try dsimp only
  (repeat' split) <;> simp

@[simp] theorem consume_gd (p : Pkt) (s : State) : (consume p s).gd = s.gd := by
  unfold consume
  simp

@[simp] theorem checkPacket_gd (p : Pkt) (flags : Nat) (s : State) : (checkPacket p flags s).gd = s.gd := by
  unfold checkPacket
  (repeat' split) <;> simp

@[simp] theorem feedBody_gd (k host : Nat) (body : List Byte) (s : State) : (feedBody k host body s).gd = s.gd := by
  induction k generalizing host body s with
  | zero => rfl
  | succ k ih =>
    unfold feedBody
    dsimp only
    (repeat' split) <;> simp [ih]

@[simp] theorem feedTelegram_gd (host : Nat) (telegram : List Byte) (s : State) : (feedTelegram host telegram s).gd = s.gd := by
  unfold feedTelegram
  simp

theorem popHead_gd (s t : State) (p : Pkt) (h : popHead s = some (p, t)) : t.gd = s.gd := by
  unfold popHead at h
  split at h
  · cases h
  · split at h
    · cases h
    · cases h
      rfl

@[simp] theorem markExt_gd (s : State) : (markExt s).gd = s.gd := by
  unfold markExt
  simp

@[simp] theorem dropQueued_gd (s : State) : (dropQueued s).gd = s.gd := by
  unfold dropQueued
  simp

@[simp] theorem dropHseq_gd (host : Nat) (s : State) : (dropHseq host s).gd = s.gd := by
  unfold dropHseq
  simp

@[simp] theorem cvuNote_gd (n code : Nat) (s : State) : (cvuNote n code s).gd = s.gd := by
  unfold cvuNote
  simp

@[simp] theorem free64_gd (s : State) : (free64 s).2.gd = s.gd := by
  unfold free64
  simp

@[simp] theorem cvuDiscard_gd (n : Nat) (s : State) : (cvuDiscard n s).gd = s.gd := by
  unfold cvuDiscard
  simp

@[simp] theorem cvuStart_gd (n : Nat) (s : State) : (cvuStart n s).gd = s.gd := by
  unfold cvuStart
  simp

@[simp] theorem cvuByte_gd (n : Nat) (s : State) (b : Byte) : (cvuByte n s b).gd = s.gd := by
  unfold cvuByte
  try dsimp only
  (repeat' split) <;> simp

@[simp] theorem cvuData_gd (n len : Nat) (w : Word) (s : State) : (cvuData n len w s).gd = s.gd := by
  unfold cvuData
  simp

@[simp] theorem cvuAlive_gd (n : Nat) (s : State) : (cvuAlive n s).gd = s.gd := by
  unfold cvuAlive
  simp

@[simp] theorem cvuFinish_gd (n : Nat) (s : State) : (cvuFinish n s).gd = s.gd := by
  unfold cvuFinish
  try dsimp only
  (repeat' split) <;> simp

@[simp] theorem countDrop_gd (portB : Bool) (s : State) : (countDrop portB s).gd = s.gd := by
  unfold countDrop
  simp

@[simp] theorem datagramRx_gd (portB plain : Bool) (srcIp : Word) (srcPort : Nat) (dstIp : Word) (dstPort arr : Nat) (bs : List Byte) (s : State) : (datagramRx portB plain srcIp srcPort dstIp dstPort arr bs s).gd = s.gd := by
  unfold datagramRx
  (repeat' split) <;> simp

@[simp] theorem netSnapshot_gd (s : State) : (netSnapshot s).gd = s.gd := by
  unfold netSnapshot
  simp

@[simp] theorem abResult_gd (c r : Nat) (s : State) : (abResult c r s).gd = s.gd := by
  unfold abResult
  simp

@[simp] theorem abExpire_gd (c : Nat) (s : State) : (abExpire c s).gd = s.gd := by
  unfold abExpire
  simp

@[simp] theorem conRecover_gd (c : Nat) (s : State) : (conRecover c s).gd = s.gd := by
  unfold conRecover
  simp

@[simp] theorem partnerCopy_gd (c : Nat) (portB : Bool) (s : State) : (partnerCopy c portB s).gd = s.gd := by
  unfold partnerCopy
  simp

@[simp] theorem setBase_gd (c : Nat) (portB content : Bool) (bs : List Byte) (s : State) : (setBase c portB content bs s).gd = s.gd := by
  unfold setBase
  simp

@[simp] theorem heardCopy_gd (c : Nat) (portB : Bool) (s : State) : (heardCopy c portB s).gd = s.gd := by
  unfold heardCopy
  simp

@[simp] theorem checkLater_gd (c : Nat) (portB : Bool) (bs : List Byte) (s : State) : (checkLater c portB bs s).gd = s.gd := by
  unfold checkLater
  simp

@[simp] theorem checkCopy_gd (portB : Bool) (s : State) (cp : RxCopy) : (checkCopy portB s cp).gd = s.gd := by
  unfold checkCopy
  try dsimp only
  (repeat' split) <;> simp

@[simp] theorem judgeFresh_gd (c : Nat) (s : State) : (judgeFresh c s).gd = s.gd := by
  unfold judgeFresh
  simp

@[simp] theorem dropBase_gd (c : Nat) (s : State) : (dropBase c s).gd = s.gd := by
  unfold dropBase
  simp

@[simp] theorem resync_gd (c : Nat) (s : State) : (resync c s).gd = s.gd := by
  unfold resync
  try dsimp only
  (repeat' split) <;> simp

@[simp] theorem conTurn_gd (s : State) (c : Nat) : (conTurn s c).gd = s.gd := by
  unfold conTurn
  simp

@[simp] theorem netLost_gd (portB : Bool) (s : State) : (netLost portB s).gd = s.gd := by
  unfold netLost
  simp

@[simp] theorem netRestored_gd (portB : Bool) (s : State) : (netRestored portB s).gd = s.gd := by
  unfold netRestored
  simp

@[simp] theorem netsSilent_gd (s : State) : (netsSilent s).gd = s.gd := by
  unfold netsSilent
  simp

@[simp] theorem netsTurn_gd (s : State) : (netsTurn s).gd = s.gd := by
  unfold netsTurn
  simp

@[simp] theorem telegramChecks_gd (s : State) : (telegramChecks s).gd = s.gd := by
  unfold telegramChecks
  simp

@[simp] theorem slotReady_gd (m c : Nat) (bs : List Byte) (s : State) : (slotReady m c bs s).gd = s.gd := by
  unfold slotReady
  simp

@[simp] theorem sealSlot_gd (m : Nat) (s : State) : (sealSlot m s).gd = s.gd := by
  unfold sealSlot
  simp

@[simp] theorem release_gd (s : State) : (release s).gd = s.gd := by
  unfold release
  simp

@[simp] theorem setEstate_gd (s : State) (i v : Nat) : (setEstate s i v).gd = s.gd := by
  unfold setEstate
  simp

theorem evalOne_gd (g : Nat → Bool) (s : State) (p : State × Bool) (n : Nat) : (evalOne g s p n).1.gd = p.1.gd := by
  unfold evalOne
  (repeat' split) <;> simp

@[simp] theorem evalEach_gd (g : Nat → Bool) (s : State) : (evalEach g s).1.gd = s.gd := by
  unfold evalEach
  rw [foldlFst_gd _ _ _ (evalOne_gd g s)]

@[simp] theorem evalDone_gd (digest clocks : Word) (count : Nat) (s : State) : (evalDone digest clocks count s).gd = s.gd := by
  unfold evalDone
  simp

@[simp] theorem evalFinish_gd (s out : State) : (evalFinish s out).gd = out.gd := by
  unfold evalFinish
  exact evalDone_gd ..

@[simp] theorem evaluate_gd (g : Nat → Bool) (s : State) : (evaluate g s).1.gd = s.gd := by
  unfold evaluate
  exact (evalFinish_gd ..).trans (evalEach_gd ..)

@[simp] theorem lendOut_gd (m : LendMsg) (s : State) : (lendOut m s).gd = s.gd := by
  unfold lendOut
  simp

@[simp] theorem lendRight_gd (m : LendMsg) (s : State) : (lendRight m s).gd = s.gd := by
  unfold lendRight
  simp

@[simp] theorem lendRelease_gd (s : State) : (lendRelease s).gd = s.gd := by
  unfold lendRelease
  simp

@[simp] theorem borrow_gd (ses : Nat) (s : State) (elem : Nat) : (borrow ses s elem).gd = s.gd := by
  unfold borrow
  simp

@[simp] theorem unborrow_gd (ses : Nat) (s : State) : (unborrow ses s).gd = s.gd := by
  unfold unborrow
  simp

@[simp] theorem giveBack_gd (elem holder ses : Nat) (s : State) : (giveBack elem holder ses s).gd = s.gd := by
  unfold giveBack
  simp

@[simp] theorem freeToken_gd (ses : Nat) (s : State) (elem : Nat) : (freeToken ses s elem).gd = s.gd := by
  unfold freeToken
  simp

@[simp] theorem timeToken_gd (ses t : Nat) (s : State) (elem : Nat) : (timeToken ses t s elem).gd = s.gd := by
  unfold timeToken
  simp

@[simp] theorem dueReturns_gd (s : State) : (dueReturns s).gd = s.gd := by
  unfold dueReturns
  simp

@[simp] theorem standingBlock_gd (s : State) (i : Nat) : (standingBlock s i).gd = s.gd := by
  unfold standingBlock
  simp

@[simp] theorem standingBlocks_gd (s : State) : (standingBlocks s).gd = s.gd := by
  unfold standingBlocks
  simp

@[simp] theorem lendProtocol_gd (elem : Nat) (s : State) : (lendProtocol elem s).gd = s.gd := by
  unfold lendProtocol
  simp

@[simp] theorem newEpoch_gd (slot epoch : Nat) (s : State) : (newEpoch slot epoch s).gd = s.gd := by
  unfold newEpoch
  simp

@[simp] theorem dropBorrow_gd (b : Borrow) (s : State) : (dropBorrow b s).gd = s.gd := by
  unfold dropBorrow
  simp

@[simp] theorem dropLoan_gd (elem : Nat) (s : State) : (dropLoan elem s).gd = s.gd := by
  unfold dropLoan
  simp

@[simp] theorem lendReq_gd (m : LendMsg) (s : State) : (lendReq m s).gd = s.gd := by
  unfold lendReq
  simp

@[simp] theorem lendGrant_gd (m : LendMsg) (s : State) : (lendGrant m s).gd = s.gd := by
  unfold lendGrant
  try dsimp only
  (repeat' split) <;> simp

@[simp] theorem markRefused_gd (n : Nat) (s : State) : (markRefused n s).gd = s.gd := by
  unfold markRefused
  simp

@[simp] theorem lendRefuse_gd (m : LendMsg) (s : State) : (lendRefuse m s).gd = s.gd := by
  unfold lendRefuse
  (repeat' split) <;> simp

@[simp] theorem lendTaken_gd (m : LendMsg) (s : State) : (lendTaken m s).gd = s.gd := by
  unfold lendTaken
  (repeat' split) <;> simp

@[simp] theorem lendReturn_gd (m : LendMsg) (s : State) : (lendReturn m s).gd = s.gd := by
  unfold lendReturn
  try dsimp only
  (repeat' split) <;> simp

@[simp] theorem lendReturnAck_gd (m : LendMsg) (s : State) : (lendReturnAck m s).gd = s.gd := by
  unfold lendReturnAck
  (repeat' split) <;> simp

@[simp] theorem lendAudit_gd (m : LendMsg) (s : State) : (lendAudit m s).gd = s.gd := by
  unfold lendAudit
  simp

@[simp] theorem claimed_gd (m : LendMsg) (s : State) : (claimed m s).gd = s.gd := by
  unfold claimed
  simp

@[simp] theorem lendClaim_gd (m : LendMsg) (s : State) : (lendClaim m s).gd = s.gd := by
  unfold lendClaim
  simp

@[simp] theorem lendClaimEnd_gd (m : LendMsg) (s : State) : (lendClaimEnd m s).gd = s.gd := by
  unfold lendClaimEnd
  simp

@[simp] theorem lendClaimQuery_gd (m : LendMsg) (s : State) : (lendClaimQuery m s).gd = s.gd := by
  unfold lendClaimQuery
  simp

@[simp] theorem lendApply_gd (m : LendMsg) (s : State) : (lendApply m s).gd = s.gd := by
  unfold lendApply
  (repeat' split) <;> simp

@[simp] theorem lendRepeats_gd (s : State) : (lendRepeats s).gd = s.gd := by
  unfold lendRepeats
  simp

@[simp] theorem lendAudits_gd (s : State) : (lendAudits s).gd = s.gd := by
  unfold lendAudits
  simp

@[simp] theorem askClaims_gd (s : State) (k : Nat) : (askClaims s k).gd = s.gd := by
  unfold askClaims
  simp

@[simp] theorem claimQuery_gd (s : State) : (claimQuery s).gd = s.gd := by
  unfold claimQuery
  simp

@[simp] theorem startBlocks_gd (s : State) : (startBlocks s).gd = s.gd := by
  unfold startBlocks
  simp

@[simp] theorem claimsComplete_gd (s : State) : (claimsComplete s).gd = s.gd := by
  unfold claimsComplete
  simp

@[simp] theorem newSes_gd (n : Nat) (kind : SesKind) (obj target tag : Nat) (descr : Word) (s : State) : (newSes n kind obj target tag descr s).gd = s.gd := by
  unfold newSes
  simp

@[simp] theorem endSes_gd (n : Nat) (st : SesSt) (s : State) : (endSes n st s).gd = s.gd := by
  unfold endSes
  simp

@[simp] theorem sesTo_gd (n : Nat) (st : SesSt) (s : State) : (sesTo n st s).gd = s.gd := by
  unfold sesTo
  simp

@[simp] theorem replyCreator_gd (n status detail fault : Nat) (results : List Byte) (s : State) : (replyCreator n status detail fault results s).gd = s.gd := by
  unfold replyCreator
  simp

@[simp] theorem replyEnder_gd (n status fault : Nat) (s : State) : (replyEnder n status fault s).gd = s.gd := by
  unfold replyEnder
  (repeat' split) <;> simp

@[simp] theorem refuseSes_gd (n : Nat) (locked : Bool) (index elem : Nat) (s : State) : (refuseSes n locked index elem s).gd = s.gd := by
  unfold refuseSes
  simp

@[simp] theorem refuseCond_gd (n listFirst : Nat) (s : State) : (refuseCond n listFirst s).gd = s.gd := by
  unfold refuseCond
  simp

@[simp] theorem writeList_gd (xs : List Nat) (s : State) : (writeList xs s).gd = s.gd := by
  unfold writeList
  simp

@[simp] theorem acquireFor_gd (n : Nat) (xs : List Nat) (s : State) : (acquireFor n xs s).1.gd = s.gd := by
  unfold acquireFor
  (repeat' split) <;> simp

@[simp] theorem routeTry_gd (n : Nat) (waits : Bool) (s : State) : (routeTry n waits s).gd = s.gd := by
  unfold routeTry
  simp

@[simp] theorem routeCheck_gd (n : Nat) (s : State) : (routeCheck n s).gd = s.gd := by
  unfold routeCheck
  simp

@[simp] theorem routeLendTimeout_gd (n : Nat) (s : State) : (routeLendTimeout n s).gd = s.gd := by
  unfold routeLendTimeout
  simp

@[simp] theorem routeLocking_gd (n : Nat) (s : State) : (routeLocking n s).gd = s.gd := by
  unfold routeLocking
  simp

@[simp] theorem routeSetTimeout_gd (n : Nat) (s : State) : (routeSetTimeout n s).gd = s.gd := by
  unfold routeSetTimeout
  simp

@[simp] theorem routeClear_gd (n : Nat) (s : State) : (routeClear n s).gd = s.gd := by
  unfold routeClear
  simp

@[simp] theorem seeTracks_gd (n : Nat) (s : State) : (seeTracks n s).gd = s.gd := by
  unfold seeTracks
  simp

@[simp] theorem routeOccupy_gd (n : Nat) (s : State) : (routeOccupy n s).gd = s.gd := by
  unfold routeOccupy
  simp

@[simp] theorem releaseEdge_gd (n e : Nat) (s : State) : (releaseEdge n e s).gd = s.gd := by
  unfold releaseEdge
  (repeat' split) <;> simp

@[simp] theorem routeRelease_gd (n : Nat) (s : State) : (routeRelease n s).gd = s.gd := by
  unfold routeRelease
  simp

@[simp] theorem detectionLost_gd (n : Nat) (s : State) : (detectionLost n s).gd = s.gd := by
  unfold detectionLost
  simp

@[simp] theorem routeProve_gd (n : Nat) (s : State) : (routeProve n s).gd = s.gd := by
  unfold routeProve
  simp

@[simp] theorem routeKeep_gd (n : Nat) (s : State) : (routeKeep n s).gd = s.gd := by
  unfold routeKeep
  simp

@[simp] theorem timeAll_gd (n t : Nat) (s : State) : (timeAll n t s).gd = s.gd := by
  unfold timeAll
  simp

@[simp] theorem signalUnproven_gd (n : Nat) (s : State) : (signalUnproven n s).gd = s.gd := by
  unfold signalUnproven
  simp

@[simp] theorem routeReleased_gd (n : Nat) (s : State) : (routeReleased n s).gd = s.gd := by
  unfold routeReleased
  simp

@[simp] theorem routeReleasing_gd (n : Nat) (s : State) : (routeReleasing n s).gd = s.gd := by
  unfold routeReleasing
  try dsimp only
  (repeat' split) <;> simp

@[simp] theorem approachLock_gd (n : Nat) (s : State) : (approachLock n s).gd = s.gd := by
  unfold approachLock
  simp

@[simp] theorem countDest_gd (n : Nat) (s : State) : (countDest n s).gd = s.gd := by
  unfold countDest
  simp

@[simp] theorem routeTurn_gd (n : Nat) (s : State) : (routeTurn n s).gd = s.gd := by
  unfold routeTurn
  try dsimp only
  (repeat' split) <;> simp

@[simp] theorem throwOver_gd (n : Nat) (s : State) : (throwOver n s).gd = s.gd := by
  unfold throwOver
  simp

@[simp] theorem pointTurn_gd (n : Nat) (s : State) : (pointTurn n s).gd = s.gd := by
  unfold pointTurn
  try dsimp only
  (repeat' split) <;> simp

@[simp] theorem occupyFirst_gd (n : Nat) (s : State) : (occupyFirst n s).gd = s.gd := by
  unfold occupyFirst
  simp

@[simp] theorem requestEnded_gd (n : Nat) (s : State) : (requestEnded n s).gd = s.gd := by
  unfold requestEnded
  simp

@[simp] theorem endRefused_gd (n tag : Nat) (s : State) : (endRefused n tag s).gd = s.gd := by
  unfold endRefused
  simp

@[simp] theorem startEnd_gd (n tag : Nat) (cancel : Bool) (mode : RelMode) (s : State) : (startEnd n tag cancel mode s).gd = s.gd := by
  unfold startEnd
  simp

@[simp] theorem cancelRoute_gd (n tag : Nat) (s : State) : (cancelRoute n tag s).gd = s.gd := by
  unfold cancelRoute
  try dsimp only
  (repeat' split) <;> simp

@[simp] theorem releaseTimed_gd (n tag : Nat) (s : State) : (releaseTimed n tag s).gd = s.gd := by
  unfold releaseTimed
  try dsimp only
  (repeat' split) <;> simp

@[simp] theorem cancelPoint_gd (n tag : Nat) (s : State) : (cancelPoint n tag s).gd = s.gd := by
  unfold cancelPoint
  (repeat' split) <;> simp

@[simp] theorem dueCmd_gd (e cmd ses : Nat) (tag : Option Nat) (s : State) : (dueCmd e cmd ses tag s).gd = s.gd := by
  unfold dueCmd
  simp

@[simp] theorem dueEnd_gd (e : Nat) (s : State) : (dueEnd e s).gd = s.gd := by
  unfold dueEnd
  simp

@[simp] theorem dueLost_gd (s : State) (d : DoorDue) : (dueLost s d).gd = s.gd := by
  unfold dueLost
  (repeat' split) <;> simp

@[simp] theorem dueWin_gd (d : DoorDue) (s : State) : (dueWin d s).gd = s.gd := by
  unfold dueWin
  (repeat' split) <;> simp

@[simp] theorem resolveEdge_gd (s : State) (e : Nat) : (resolveEdge s e).gd = s.gd := by
  unfold resolveEdge
  (repeat' split) <;> simp

@[simp] theorem resolveDue_gd (s : State) : (resolveDue s).gd = s.gd := by
  unfold resolveDue
  simp

@[simp] theorem corrTurn_gd (s : State) (e : Nat) : (corrTurn s e).gd = s.gd := by
  unfold corrTurn
  simp

@[simp] theorem doorReleased_gd (n : Nat) (s : State) : (doorReleased n s).gd = s.gd := by
  unfold doorReleased
  simp

@[simp] theorem doorTry_gd (n : Nat) (waits : Bool) (s : State) : (doorTry n waits s).gd = s.gd := by
  unfold doorTry
  simp

@[simp] theorem doorCheck_gd (n : Nat) (s : State) : (doorCheck n s).gd = s.gd := by
  unfold doorCheck
  simp

@[simp] theorem doorWithdraw_gd (n : Nat) (s : State) : (doorWithdraw n s).gd = s.gd := by
  unfold doorWithdraw
  simp

@[simp] theorem enableTimeout_gd (n : Nat) (s : State) : (enableTimeout n s).gd = s.gd := by
  unfold enableTimeout
  simp

@[simp] theorem doorTurn_gd (n : Nat) (s : State) : (doorTurn n s).gd = s.gd := by
  unfold doorTurn
  try dsimp only
  (repeat' split) <;> simp

@[simp] theorem sesTurn_gd (s : State) (n : Nat) : (sesTurn s n).gd = s.gd := by
  unfold sesTurn
  (repeat' split) <;> simp

@[simp] theorem sequence_gd (s : State) : (sequence s).gd = s.gd := by
  unfold sequence
  simp

@[simp] theorem freeEnded_gd (s : State) : (freeEnded s).gd = s.gd := by
  unfold freeEnded
  simp

@[simp] theorem signalWatch_gd (s : State) (i : Nat) : (signalWatch s i).gd = s.gd := by
  unfold signalWatch
  simp

@[simp] theorem signalsWatch_gd (s : State) : (signalsWatch s).gd = s.gd := by
  unfold signalsWatch
  simp

@[simp] theorem writeViews_gd (s : State) : (writeViews s).gd = s.gd := by
  unfold writeViews
  simp

@[simp] theorem endPend_gd (p : DoorPend) (status code : Nat) (results : List Byte) (s : State) : (endPend p status code results s).gd = s.gd := by
  unfold endPend
  simp

@[simp] theorem endPends_gd (e kind status code : Nat) (results : List Byte) (s : State) : (endPends e kind status code results s).gd = s.gd := by
  unfold endPends
  simp

@[simp] theorem markPends_gd (obj : Nat) (kinds : List Nat) (s : State) : (markPends obj kinds s).gd = s.gd := by
  unfold markPends
  simp

@[simp] theorem edgeAccepted_gd (e : Nat) (s : State) : (edgeAccepted e s).gd = s.gd := by
  unfold edgeAccepted
  simp

@[simp] theorem edgeRefused_gd (e code : Nat) (s : State) : (edgeRefused e code s).gd = s.gd := by
  unfold edgeRefused
  simp

@[simp] theorem edgeStopped_gd (e code : Nat) (s : State) : (edgeStopped e code s).gd = s.gd := by
  unfold edgeStopped
  try dsimp only
  (repeat' split) <;> simp

@[simp] theorem settleOne_gd (s : State) (v : DoorEvent) : (settleOne s v).gd = s.gd := by
  unfold settleOne
  try dsimp only
  (repeat' split) <;> simp

@[simp] theorem restoresDone_gd (s : State) : (restoresDone s).gd = s.gd := by
  unfold restoresDone
  simp

@[simp] theorem settleDoors_gd (s : State) : (settleDoors s).gd = s.gd := by
  unfold settleDoors
  simp

@[simp] theorem writeEstates_gd (s : State) : (writeEstates s).gd = s.gd := by
  unfold writeEstates
  simp

@[simp] theorem writeImages_gd (s : State) : (writeImages s).gd = s.gd := by
  unfold writeImages
  simp

@[simp] theorem writeBerths_gd (s : State) : (writeBerths s).gd = s.gd := by
  unfold writeBerths
  simp

@[simp] theorem writeInputs_gd (s : State) : (writeInputs s).gd = s.gd := by
  unfold writeInputs
  simp

@[simp] theorem firstCommands_gd (s : State) : (firstCommands s).gd = s.gd := by
  unfold firstCommands
  simp

@[simp] theorem hostBody_gd (n : Nat) (s : State) : (hostBody n s).2.gd = s.gd := by
  unfold hostBody
  simp

@[simp] theorem formTelegram_gd (safe : Bool) (s : State) (p : Nat × Nat) : (formTelegram safe s p).gd = s.gd := by
  unfold formTelegram telegramReady
  dsimp only
  split <;> split <;> simp

@[simp] theorem formTelegrams_gd (s : State) : (formTelegrams s).gd = s.gd := by
  unfold formTelegrams
  simp

@[simp] theorem formRestrictive_gd (s : State) : (formRestrictive s).gd = s.gd := by
  unfold formRestrictive
  simp

@[simp] theorem loadBus_gd (s : State) (e : Nat) : (loadBus s e).gd = s.gd := by
  unfold loadBus
  simp

@[simp] theorem loadBuses_gd (s : State) : (loadBuses s).gd = s.gd := by
  unfold loadBuses
  simp

@[simp] theorem writeVector_gd (s : State) : (writeVector s).gd = s.gd := by
  unfold writeVector
  simp

@[simp] theorem formContent_gd (s : State) : (formContent s).gd = s.gd := by
  unfold formContent
  simp

@[simp] theorem finish_gd (p : Pkt) (status code : Nat) (results : List Byte) (s : State) : (finish p status code results s).gd = s.gd := by
  unfold finish
  simp

@[simp] theorem complete_gd (p : Pkt) (results : List Byte) (s : State) : (complete p results s).gd = s.gd := by
  unfold complete
  simp

@[simp] theorem refuse_gd (p : Pkt) (status code obj val : Nat) (s : State) : (refuse p status code obj val s).gd = s.gd := by
  unfold refuse
  simp

@[simp] theorem badParam_gd (p : Pkt) (s : State) : (badParam p s).gd = s.gd := by
  unfold badParam
  simp

@[simp] theorem badSes_gd (p : Pkt) (s : State) : (badSes p s).gd = s.gd := by
  unfold badSes
  simp

@[simp] theorem noRight_gd (p : Pkt) (s : State) : (noRight p s).gd = s.gd := by
  unfold noRight
  simp

@[simp] theorem createSes_gd (p : Pkt) (kind : SesKind) (obj target : Nat) (descr : Word) (s : State) : (createSes p kind obj target descr s).gd = s.gd := by
  unfold createSes
  (repeat' split) <;> simp

@[simp] theorem applyRouteRequest_gd (p : Pkt) (s : State) : (applyRouteRequest p s).gd = s.gd := by
  unfold applyRouteRequest
  simp

@[simp] theorem applyRouteCancel_gd (p : Pkt) (s : State) : (applyRouteCancel p s).gd = s.gd := by
  unfold applyRouteCancel
  simp

@[simp] theorem applyReleaseTimed_gd (p : Pkt) (s : State) : (applyReleaseTimed p s).gd = s.gd := by
  unfold applyReleaseTimed
  simp

@[simp] theorem applyPointMove_gd (p : Pkt) (s : State) : (applyPointMove p s).gd = s.gd := by
  unfold applyPointMove
  simp

@[simp] theorem setStanding_gd (i : Nat) (f : Stand → Stand) (s : State) : (setStanding i f s).gd = s.gd := by
  unfold setStanding
  simp

@[simp] theorem applyBlock_gd (p : Pkt) (s : State) : (applyBlock p s).gd = s.gd := by
  unfold applyBlock
  simp

@[simp] theorem applyUnblock_gd (p : Pkt) (s : State) : (applyUnblock p s).gd = s.gd := by
  unfold applyUnblock
  simp

@[simp] theorem applyForceStop_gd (p : Pkt) (s : State) : (applyForceStop p s).gd = s.gd := by
  unfold applyForceStop
  simp

@[simp] theorem applyDoorEnable_gd (p : Pkt) (s : State) : (applyDoorEnable p s).gd = s.gd := by
  unfold applyDoorEnable
  simp

@[simp] theorem applyDoorOpen_gd (p : Pkt) (s : State) : (applyDoorOpen p s).gd = s.gd := by
  unfold applyDoorOpen
  simp

@[simp] theorem applyDoorClose_gd (p : Pkt) (s : State) : (applyDoorClose p s).gd = s.gd := by
  unfold applyDoorClose
  simp

@[simp] theorem applyRestore_gd (p : Pkt) (s : State) : (applyRestore p s).gd = s.gd := by
  unfold applyRestore
  simp

@[simp] theorem applyClose_gd (p : Pkt) (s : State) : (applyClose p s).gd = s.gd := by
  unfold applyClose
  simp

@[simp] theorem applyWithdraw_gd (p : Pkt) (s : State) : (applyWithdraw p s).gd = s.gd := by
  unfold applyWithdraw
  simp

@[simp] theorem applyLeaf_gd (cmd : Nat) (p : Pkt) (s : State) : (applyLeaf cmd p s).gd = s.gd := by
  unfold applyLeaf
  simp

@[simp] theorem applyTrainDoors_gd (p : Pkt) (s : State) : (applyTrainDoors p s).gd = s.gd := by
  unfold applyTrainDoors
  simp

@[simp] theorem applyTrainBerth_gd (p : Pkt) (s : State) : (applyTrainBerth p s).gd = s.gd := by
  unfold applyTrainBerth
  simp

@[simp] theorem applyPing_gd (p : Pkt) (s : State) : (applyPing p s).gd = s.gd := by
  unfold applyPing
  simp

@[simp] theorem applyStatus_gd (p : Pkt) (s : State) : (applyStatus p s).gd = s.gd := by
  unfold applyStatus
  (repeat' split) <;> simp

@[simp] theorem applyJournal_gd (p : Pkt) (s : State) : (applyJournal p s).gd = s.gd := by
  unfold applyJournal
  simp

@[simp] theorem applyCount_gd (p : Pkt) (s : State) : (applyCount p s).gd = s.gd := by
  unfold applyCount
  (repeat' split) <;> simp

@[simp] theorem evrStart_gd (s : State) : (evrStart s).gd = s.gd := by
  unfold evrStart
  simp

@[simp] theorem timeAdvance_gd (ms : Nat) (s : State) : (timeAdvance ms s).gd = s.gd := by
  unfold timeAdvance
  simp

@[simp] theorem periodsPass_gd (n : Nat) (s : State) : (periodsPass n s).gd = s.gd := by
  unfold periodsPass
  simp

@[simp] theorem scanCopy_gd (s : State) (r : Nat × Word × List Byte) : (scanCopy s r).gd = s.gd := by
  unfold scanCopy
  simp

@[simp] theorem ringScan_gd (s : State) : (ringScan s).gd = s.gd := by
  unfold ringScan
  try dsimp only
  (repeat' split) <;> simp

@[simp] theorem nandProgram_gd (ok : Bool) (s : State) : (nandProgram ok s).gd = s.gd := by
  unfold nandProgram
  simp

@[simp] theorem nandConfirm_gd (n : Word) (s : State) : (nandConfirm n s).gd = s.gd := by
  unfold nandConfirm
  simp

@[simp] theorem nandReport_gd (highest : Word) (s : State) : (nandReport highest s).gd = s.gd := by
  unfold nandReport
  simp

@[simp] theorem cellDamage_gd (c : Nat) (s : State) : (cellDamage c s).gd = s.gd := by
  unfold cellDamage
  simp

@[simp] theorem cellCount_gd (c : Nat) (s : State) : (cellCount c s).gd = s.gd := by
  unfold cellCount
  simp

@[simp] theorem jnlResult_gd (res cell copy : Nat) (s : State) : (jnlResult res cell copy s).gd = s.gd := by
  unfold jnlResult
  simp

@[simp] theorem cellWrite_gd (c kind : Nat) (payload : List Byte) (s : State) : (cellWrite c kind payload s).gd = s.gd := by
  unfold cellWrite
  simp

@[simp] theorem cellLater_gd (c kind : Nat) (payload : List Byte) (s : State) : (cellLater c kind payload s).gd = s.gd := by
  unfold cellLater
  simp

@[simp] theorem cellPut_gd (c kind : Nat) (payload : List Byte) (s : State) : (cellPut c kind payload s).gd = s.gd := by
  unfold cellPut
  simp

@[simp] theorem cellsDue_gd (s : State) : (cellsDue s).gd = s.gd := by
  unfold cellsDue
  simp

@[simp] theorem journalTag_gd (s : State) (t : Nat) : (journalTag s t).gd = s.gd := by
  unfold journalTag
  simp

@[simp] theorem journalCount_gd (s : State) (k : Nat) : (journalCount s k).gd = s.gd := by
  unfold journalCount
  simp

@[simp] theorem journalStand_gd (s : State) (k : Nat) : (journalStand s k).gd = s.gd := by
  unfold journalStand
  simp

@[simp] theorem loadStanding_gd (s : State) : (loadStanding s).gd = s.gd := by
  unfold loadStanding
  try dsimp only
  (repeat' split) <;>
    first | (simp; done) | (refine Eq.trans (foldl_gd _ _ _ (fun s b => ?_)) ?_ <;> (repeat' split) <;> simp)

@[simp] theorem loadCounts_gd (s : State) : (loadCounts s).gd = s.gd := by
  unfold loadCounts
  try dsimp only
  (repeat' split) <;>
    first | (simp; done) | (refine Eq.trans (foldl_gd _ _ _ (fun s b => ?_)) ?_ <;> (repeat' split) <;> simp)

@[simp] theorem loadTag_gd (s : State) (t : Nat) : (loadTag s t).gd = s.gd := by
  unfold loadTag
  try dsimp only
  (repeat' split) <;> simp

@[simp] theorem loadTags_gd (s : State) : (loadTags s).gd = s.gd := by
  unfold loadTags
  simp

@[simp] theorem mirrorCells_gd (cells : List (Nat × List Byte)) (s : State) : (mirrorCells cells s).gd = s.gd := by
  unfold mirrorCells
  simp

@[simp] theorem evrStarted_gd (s : State) : (evrStarted s).gd = s.gd := by
  unfold evrStarted
  simp

@[simp] theorem startWrite_gd (x : Sel) (s : State) : (startWrite x s).gd = s.gd := by
  unfold startWrite
  simp

@[simp] theorem repairSel_gd (s : State) : (repairSel s).gd = s.gd := by
  unfold repairSel
  try dsimp only
  (repeat' split) <;> simp

@[simp] theorem revertBoot_gd (arg : Nat) (s : State) : (revertBoot arg s).gd = s.gd := by
  unfold revertBoot
  simp

@[simp] theorem trialSelect_gd (s : State) : (trialSelect s).gd = s.gd := by
  unfold trialSelect
  simp

@[simp] theorem finishWrite_gd (s : State) : (finishWrite s).gd = s.gd := by
  unfold finishWrite
  (repeat' split) <;> simp

@[simp] theorem setXferNow_gd (x : Xfer) (s : State) : (setXferNow x s).gd = s.gd := by
  unfold setXferNow
  simp

@[simp] theorem setXfer_gd (x : Xfer) (s : State) : (setXfer x s).gd = s.gd := by
  unfold setXfer
  simp

@[simp] theorem suiResult_gd (status code : Nat) (s : State) : (suiResult status code s).gd = s.gd := by
  unfold suiResult
  simp

@[simp] theorem suiAnswer_gd (status : Nat) (body : List Byte) (s : State) : (suiAnswer status body s).gd = s.gd := by
  unfold suiAnswer
  simp

@[simp] theorem suiDenied_gd (s : State) : (suiDenied s).gd = s.gd := by
  unfold suiDenied
  simp

@[simp] theorem suiRefuse_gd (status : Nat) (s : State) : (suiRefuse status s).gd = s.gd := by
  unfold suiRefuse
  simp

@[simp] theorem suiRefuseFree_gd (s : State) : (suiRefuseFree s).gd = s.gd := by
  unfold suiRefuseFree
  simp

@[simp] theorem startPrepare_gd (m : Manifest) (s : State) : (startPrepare m s).gd = s.gd := by
  unfold startPrepare
  simp

@[simp] theorem suiPrepare_gd (s : State) : (suiPrepare s).gd = s.gd := by
  unfold suiPrepare
  try dsimp only
  (repeat' split) <;> simp

@[simp] theorem prepareDone_gd (ok : Bool) (s : State) : (prepareDone ok s).gd = s.gd := by
  unfold prepareDone
  try dsimp only
  (repeat' split) <;> simp

@[simp] theorem suiBlock_gd (j : Nat) (data : List Byte) (readbackOk : Bool) (s : State) : (suiBlock j data readbackOk s).gd = s.gd := by
  unfold suiBlock
  (repeat' split) <;> simp

@[simp] theorem suiVerify_gd (readOk programOk : Bool) (s : State) : (suiVerify readOk programOk s).gd = s.gd := by
  unfold suiVerify
  try dsimp only
  (repeat' split) <;> simp

@[simp] theorem suiActivate_gd (s : State) : (suiActivate s).gd = s.gd := by
  unfold suiActivate
  simp

@[simp] theorem startConfirm_gd (s : State) : (startConfirm s).gd = s.gd := by
  unfold startConfirm
  simp

@[simp] theorem suiConfirm_gd (s : State) : (suiConfirm s).gd = s.gd := by
  unfold suiConfirm
  simp

@[simp] theorem suiRevert_gd (arg : Nat) (s : State) : (suiRevert arg s).gd = s.gd := by
  unfold suiRevert
  simp

@[simp] theorem trialActive_gd (s : State) : (trialActive s).gd = s.gd := by
  unfold trialActive
  simp

@[simp] theorem answerConfirms_gd (status code : Nat) (s : State) : (answerConfirms status code s).gd = s.gd := by
  unfold answerConfirms
  simp

@[simp] theorem refuseConfirms_gd (s : State) : (refuseConfirms s).gd = s.gd := by
  unfold refuseConfirms
  simp

@[simp] theorem confirmTrial_gd (tag : Nat) (s : State) : (confirmTrial tag s).gd = s.gd := by
  unfold confirmTrial
  simp

@[simp] theorem trialTest_gd (s : State) : (trialTest s).gd = s.gd := by
  unfold trialTest
  (repeat' split) <;> simp

@[simp] theorem revokeCk_gd (k : Nat) (s : State) : (revokeCk k s).gd = s.gd := by
  unfold revokeCk
  simp

@[simp] theorem programCk_gd (k : Nat) (sha : List Byte) (s : State) : (programCk k sha s).gd = s.gd := by
  unfold programCk
  simp

@[simp] theorem enrolKey_gd (request : KeyRequest) (signer : Option Nat) (programOk : Bool) (s : State) : (enrolKey request signer programOk s).gd = s.gd := by
  unfold enrolKey
  try dsimp only
  (repeat' split) <;> simp

@[simp] theorem reverifyEnd_gd (slot : Nat) (ok : Bool) (s : State) : (reverifyEnd slot ok s).gd = s.gd := by
  unfold reverifyEnd
  simp

@[simp] theorem reverifyStep_gd (readOk : Bool) (s : State) : (reverifyStep readOk s).gd = s.gd := by
  unfold reverifyStep
  (repeat' split) <;> simp

@[simp] theorem refreshNext_gd (slot block : Nat) (s : State) : (refreshNext slot block s).gd = s.gd := by
  unfold refreshNext
  simp

@[simp] theorem refreshStep_gd (done : Nat) (s : State) : (refreshStep done s).gd = s.gd := by
  unfold refreshStep
  (repeat' split) <;> simp

@[simp] theorem refreshAtBoot_gd (s : State) : (refreshAtBoot s).gd = s.gd := by
  unfold refreshAtBoot
  simp

@[simp] theorem served_gd (head : SorliaHead) (act : State → State) (s : State) (hf : ∀ u, (act u).gd = u.gd) : (served head act s).gd = s.gd := by
  unfold served
  simp [hf]

@[simp] theorem runtimeServed_gd (head : SorliaHead) (act : State → State) (s : State) (hf : ∀ u, (act u).gd = u.gd) : (runtimeServed head act s).gd = s.gd := by
  unfold runtimeServed
  simp [hf]

@[simp] theorem updSession_gd (n : Nat) (f : Sorlia → Sorlia) (s : State) : (updSession n f s).gd = s.gd := by
  unfold updSession
  simp

@[simp] theorem endSession_gd (n : Nat) (s : State) : (endSession n s).gd = s.gd := by
  unfold endSession
  simp

@[simp] theorem updateRequest_gd (head : SorliaHead) (act : State → State) (s : State) (hf : ∀ u, (act u).gd = u.gd) : (updateRequest head act s).gd = s.gd := by
  unfold updateRequest
  simp [hf]

@[simp] theorem clearJournal_gd (s : State) : (clearJournal s).gd = s.gd := by
  unfold clearJournal
  simp

@[simp] theorem endSessions_gd (s : State) : (endSessions s).gd = s.gd := by
  unfold endSessions
  simp

@[simp] theorem applyConfirm_gd (p : Pkt) (s : State) : (applyConfirm p s).gd = s.gd := by
  unfold applyConfirm
  simp

@[simp] theorem applyOpcode_gd (p : Pkt) (s : State) : (applyOpcode p s).gd = s.gd := by
  unfold applyOpcode
  (repeat' split) <;> simp

@[simp] theorem applyPacket_gd (p : Pkt) (s : State) : (applyPacket p s).gd = s.gd := by
  unfold applyPacket
  simp

@[simp] theorem applyCommands_gd (k : Nat) (s : State) : (applyCommands k s).gd = s.gd := by
  induction k generalizing s with
  | zero => rfl
  | succ k ih =>
    unfold applyCommands
    split
    · rfl
    · rename_i h
      rw [ih, applyPacket_gd, popHead_gd _ _ _ h]

@[simp] theorem hostPacket_gd (p : Pkt) (s : State) : (hostPacket p s).gd = s.gd := by
  unfold hostPacket
  simp

@[simp] theorem acceptLate_gd (s : State) : (acceptLate s).gd = s.gd := by
  unfold acceptLate
  simp

@[simp] theorem holdTag_gd (s : State) (t : Nat) : (holdTag s t).gd = s.gd := by
  unfold holdTag
  simp

@[simp] theorem lockCommands_gd (s : State) : (lockCommands s).gd = s.gd := by
  unfold lockCommands
  simp

@[simp] theorem postRbuf_gd (s : State) : (postRbuf s).gd = s.gd := by
  unfold postRbuf
  simp

@[simp] theorem popOut_gd (s : State) : (popOut s).gd = s.gd := by
  unfold popOut
  simp

@[simp] theorem markReplay_gd (k : Nat) (s : State) : (markReplay k s).gd = s.gd := by
  unfold markReplay
  simp

@[simp] theorem becomeActive_gd (why : ReplayDue) (s : State) : (becomeActive why s).gd = s.gd := by
  unfold becomeActive
  (repeat' split) <;> simp

@[simp] theorem startLedger_gd (s : State) : (startLedger s).gd = s.gd := by
  unfold startLedger
  simp

@[simp] theorem startLoad_gd (s : State) : (startLoad s).gd = s.gd := by
  unfold startLoad
  simp

@[simp] theorem startEpoch_gd (s : State) : (startEpoch s).gd = s.gd := by
  unfold startEpoch
  simp

@[simp] theorem claimStart_gd (s : State) : (claimStart s).gd = s.gd := by
  unfold claimStart
  simp

@[simp] theorem coldStart_gd (s : State) : (coldStart s).gd = s.gd := by
  unfold coldStart
  simp

@[simp] theorem peerSeen_gd (state : Nat) (safe : Bool) (s : State) : (peerSeen state safe s).gd = s.gd := by
  unfold peerSeen
  simp

@[simp] theorem linkHeard_gd (s : State) : (linkHeard s).gd = s.gd := by
  unfold linkHeard
  simp

@[simp] theorem peerMismatch_gd (s : State) : (peerMismatch s).gd = s.gd := by
  unfold peerMismatch
  simp

@[simp] theorem shadowCompare_gd (peer : List Word) (ext : Bool) (s : State) : (shadowCompare peer ext s).gd = s.gd := by
  unfold shadowCompare
  simp

@[simp] theorem setRange_gd (lo hi : Nat) (t : Tbl Word) (s : State) : (setRange lo hi t s).gd = s.gd := by
  unfold setRange
  simp

@[simp] theorem pairSend_gd (ext : Bool) (differ : List Nat) (s : State) : (pairSend ext differ s).gd = s.gd := by
  unfold pairSend
  try dsimp only
  (repeat' split) <;> simp

@[simp] theorem loadSegs_gd (segs : List Seg) (s : State) : (loadSegs segs s).gd = s.gd := by
  unfold loadSegs
  simp

@[simp] theorem loadMirror_gd (m : PairFrame) (s : State) : (loadMirror m s).gd = s.gd := by
  unfold loadMirror
  simp

@[simp] theorem takeMirror_gd (m : PairFrame) (s : State) : (takeMirror m s).gd = s.gd := by
  unfold takeMirror
  simp

@[simp] theorem peerFrame_gd (f : PairFrame) (s : State) : (peerFrame f s).gd = s.gd := by
  unfold peerFrame
  simp

@[simp] theorem linkRx_gd (kind : Nat) (f : PairFrame) (shown act : State → State) (s : State) (hf : ∀ u, (shown u).gd = u.gd) (hf1 : ∀ u, (act u).gd = u.gd) : (linkRx kind f shown act s).gd = s.gd := by
  unfold linkRx
  simp [hf, hf1]

@[simp] theorem showRx_gd (f : PairFrame) (taken : Bool) (s : State) : (showRx f taken s).gd = s.gd := by
  unfold showRx
  simp

@[simp] theorem mirrorRx_gd (m : PairFrame) (s : State) : (mirrorRx m s).gd = s.gd := by
  unfold mirrorRx
  simp

@[simp] theorem mirrorMissed_gd (s : State) : (mirrorMissed s).gd = s.gd := by
  unfold mirrorMissed
  simp

@[simp] theorem responseRx_gd (r : PairFrame) (s : State) : (responseRx r s).gd = s.gd := by
  unfold responseRx
  simp

@[simp] theorem bulkCell_gd (s : State) (c : Nat × List Byte) : (bulkCell s c).gd = s.gd := by
  unfold bulkCell
  (repeat' split) <;> simp

@[simp] theorem bulkRx_gd (f : PairFrame) (s : State) : (bulkRx f s).gd = s.gd := by
  unfold bulkRx
  simp

@[simp] theorem swapTry_gd (peerOk : Bool) (s : State) : (swapTry peerOk s).gd = s.gd := by
  unfold swapTry
  simp

@[simp] theorem swapRequest_gd (peerOk : Bool) (s : State) : (swapRequest peerOk s).gd = s.gd := by
  unfold swapRequest
  simp

@[simp] theorem handoverStart_gd (s : State) : (handoverStart s).gd = s.gd := by
  unfold handoverStart
  (repeat' split) <;> simp

@[simp] theorem swapCheck_gd (s : State) : (swapCheck s).gd = s.gd := by
  unfold swapCheck
  simp

@[simp] theorem handoverEnd_gd (s : State) : (handoverEnd s).gd = s.gd := by
  unfold handoverEnd
  simp

@[simp] theorem switchTrigger_gd (s : State) : (switchTrigger s).gd = s.gd := by
  unfold switchTrigger
  (repeat' split) <;> simp

@[simp] theorem takeoverStart_gd (s : State) : (takeoverStart s).gd = s.gd := by
  unfold takeoverStart
  (repeat' split) <;> simp

@[simp] theorem edgesTakeover_gd (s : State) : (edgesTakeover s).gd = s.gd := by
  unfold edgesTakeover
  simp

@[simp] theorem joinStep_gd (s : State) : (joinStep s).gd = s.gd := by
  unfold joinStep
  simp

@[simp] theorem peerGone_gd (s : State) : (peerGone s).gd = s.gd := by
  unfold peerGone
  simp

@[simp] theorem pairStart_gd (s : State) : (pairStart s).gd = s.gd := by
  unfold pairStart
  simp

@[simp] theorem resend_gd (t : Nat) (r : List Byte) (s : State) : (resend t r s).gd = s.gd := by
  unfold resend
  simp

@[simp] theorem postReplayed_gd (t d : Nat) (s : State) : (postReplayed t d s).gd = s.gd := by
  unfold postReplayed
  simp

@[simp] theorem releaseHeld_gd (t : Nat) (s : State) : (releaseHeld t s).gd = s.gd := by
  unfold releaseHeld
  (repeat' split) <;> simp

@[simp] theorem carryOn_gd (t : Nat) (g : Tag) (s : State) : (carryOn t g s).gd = s.gd := by
  unfold carryOn
  simp

@[simp] theorem replayTag_gd (s : State) (t : Nat) : (replayTag s t).gd = s.gd := by
  unfold replayTag
  try dsimp only
  (repeat' split) <;> simp

@[simp] theorem replayTags_gd (s : State) : (replayTags s).gd = s.gd := by
  unfold replayTags
  simp

@[simp] theorem masterIs_gd (k : Nat) (s : State) : (masterIs k s).gd = s.gd := by
  unfold masterIs
  simp

@[simp] theorem setTrim_gd (phase : Int) (s : State) : (setTrim phase s).gd = s.gd := by
  unfold setTrim
  simp

@[simp] theorem trimTurn_gd (s : State) : (trimTurn s).gd = s.gd := by
  unfold trimTurn
  simp

@[simp] theorem peerMarker_gd (phase : Int) (s : State) : (peerMarker phase s).gd = s.gd := by
  unfold peerMarker
  simp

@[simp] theorem cascadeMarker_gd (frm : Nat) (phase : Int) (s : State) : (cascadeMarker frm phase s).gd = s.gd := by
  unfold cascadeMarker
  simp

@[simp] theorem fillCtx_gd (s : State) : (fillCtx s).gd = s.gd := by
  unfold fillCtx
  simp

@[simp] theorem cascadeSend_gd (n : Nat) (s : State) : (cascadeSend n s).gd = s.gd := by
  unfold cascadeSend
  simp

@[simp] theorem seeEpochs_gd (f : CascFrame) (s : State) : (seeEpochs f s).gd = s.gd := by
  unfold seeEpochs
  simp

@[simp] theorem lendDelivered_gd (msgs : List LendMsg) (s : State) : (lendDelivered msgs s).gd = s.gd := by
  unfold lendDelivered
  simp

@[simp] theorem takeCascade_gd (q : Nat) (f : CascFrame) (s : State) : (takeCascade q f s).gd = s.gd := by
  unfold takeCascade
  simp

@[simp] theorem cascadeRx_gd (f : CascFrame) (s : State) : (cascadeRx f s).gd = s.gd := by
  unfold cascadeRx
  (repeat' split) <;> simp

@[simp] theorem lendDeliver_gd (s : State) : (lendDeliver s).gd = s.gd := by
  unfold lendDeliver
  simp

@[simp] theorem lendTurn_gd (s : State) : (lendTurn s).gd = s.gd := by
  unfold lendTurn
  simp

@[simp] theorem execCvuStart_gd (unit : Nat) (s : State) (u : State) : (landing (execCvuStart unit s) u).gd = s.gd := by
  unfold execCvuStart
  simp

@[simp] theorem execCvuFinish_gd (unit : Nat) (s : State) (u : State) : (landing (execCvuFinish unit s) u).gd = s.gd := by
  unfold execCvuFinish
  simp

@[simp] theorem execCvuAbort_gd (unit : Nat) (s : State) (u : State) : (landing (execCvuAbort unit s) u).gd = s.gd := by
  unfold execCvuAbort
  simp

@[simp] theorem execCvuCtrlInvalid_gd (unit : Nat) (s : State) (u : State) : (landing (execCvuCtrlInvalid unit s) u).gd = s.gd := by
  unfold execCvuCtrlInvalid
  simp

@[simp] theorem execCvuData8_gd (unit : Nat) (w : Word) (s : State) (u : State) : (landing (execCvuData8 unit w s) u).gd = s.gd := by
  unfold execCvuData8
  simp

@[simp] theorem execCvuData16_gd (unit : Nat) (w : Word) (s : State) (u : State) : (landing (execCvuData16 unit w s) u).gd = s.gd := by
  unfold execCvuData16
  simp

@[simp] theorem execCvuData32_gd (unit : Nat) (w : Word) (s : State) (u : State) : (landing (execCvuData32 unit w s) u).gd = s.gd := by
  unfold execCvuData32
  simp

@[simp] theorem execCvuConf_gd (unit : Nat) (w : Word) (s : State) (u : State) : (landing (execCvuConf unit w s) u).gd = s.gd := by
  unfold execCvuConf
  simp

@[simp] theorem execCvuParamWrite_gd (unit param : Nat) (w : Word) (s : State) (u : State) : (landing (execCvuParamWrite unit param w s) u).gd = s.gd := by
  unfold execCvuParamWrite
  simp

@[simp] theorem execPing_gd (host tag ses : Nat) (hseq hvcn : Word) (s : State) (u : State) : (landing (execPing host tag ses hseq hvcn s) u).gd = s.gd := by
  unfold execPing
  simp

@[simp] theorem execRouteRequest_gd (host tag ses : Nat) (hseq hvcn : Word) (route : Nat) (s : State) (u : State) : (landing (execRouteRequest host tag ses hseq hvcn route s) u).gd = s.gd := by
  unfold execRouteRequest
  simp

@[simp] theorem execRouteCancel_gd (host tag ses : Nat) (hseq hvcn : Word) (object : Nat) (s : State) (u : State) : (landing (execRouteCancel host tag ses hseq hvcn object s) u).gd = s.gd := by
  unfold execRouteCancel
  simp

@[simp] theorem execRouteReleaseTimed_gd (host tag ses : Nat) (hseq hvcn : Word) (route : Nat) (s : State) (u : State) : (landing (execRouteReleaseTimed host tag ses hseq hvcn route s) u).gd = s.gd := by
  unfold execRouteReleaseTimed
  simp

@[simp] theorem execPointMove_gd (host tag ses : Nat) (hseq hvcn : Word) (elem target : Nat) (s : State) (u : State) : (landing (execPointMove host tag ses hseq hvcn elem target s) u).gd = s.gd := by
  unfold execPointMove
  simp

@[simp] theorem execElementBlock_gd (host tag ses : Nat) (hseq hvcn : Word) (elem : Nat) (s : State) (u : State) : (landing (execElementBlock host tag ses hseq hvcn elem s) u).gd = s.gd := by
  unfold execElementBlock
  simp

@[simp] theorem execElementUnblock_gd (host tag ses : Nat) (hseq hvcn : Word) (elem : Nat) (s : State) (u : State) : (landing (execElementUnblock host tag ses hseq hvcn elem s) u).gd = s.gd := by
  unfold execElementUnblock
  simp

@[simp] theorem execSignalForceStop_gd (host tag ses : Nat) (hseq hvcn : Word) (elem set_ : Nat) (s : State) (u : State) : (landing (execSignalForceStop host tag ses hseq hvcn elem set_ s) u).gd = s.gd := by
  unfold execSignalForceStop
  simp

@[simp] theorem execDoorEnable_gd (host tag ses : Nat) (hseq hvcn : Word) (edge : Nat) (s : State) (u : State) : (landing (execDoorEnable host tag ses hseq hvcn edge s) u).gd = s.gd := by
  unfold execDoorEnable
  simp

@[simp] theorem execDoorOpen_gd (host tag ses : Nat) (hseq hvcn : Word) (edge : Nat) (s : State) (u : State) : (landing (execDoorOpen host tag ses hseq hvcn edge s) u).gd = s.gd := by
  unfold execDoorOpen
  simp

@[simp] theorem execDoorClose_gd (host tag ses : Nat) (hseq hvcn : Word) (edge : Nat) (s : State) (u : State) : (landing (execDoorClose host tag ses hseq hvcn edge s) u).gd = s.gd := by
  unfold execDoorClose
  simp

@[simp] theorem execDoorCloseRestore_gd (host tag ses : Nat) (hseq hvcn : Word) (edge : Nat) (s : State) (u : State) : (landing (execDoorCloseRestore host tag ses hseq hvcn edge s) u).gd = s.gd := by
  unfold execDoorCloseRestore
  simp

@[simp] theorem execDoorWithdrawEnable_gd (host tag ses : Nat) (hseq hvcn : Word) (edge : Nat) (s : State) (u : State) : (landing (execDoorWithdrawEnable host tag ses hseq hvcn edge s) u).gd = s.gd := by
  unfold execDoorWithdrawEnable
  simp

@[simp] theorem execLeafIsolate_gd (host tag ses : Nat) (hseq hvcn : Word) (leaf : Nat) (s : State) (u : State) : (landing (execLeafIsolate host tag ses hseq hvcn leaf s) u).gd = s.gd := by
  unfold execLeafIsolate
  simp

@[simp] theorem execLeafRestore_gd (host tag ses : Nat) (hseq hvcn : Word) (leaf : Nat) (s : State) (u : State) : (landing (execLeafRestore host tag ses hseq hvcn leaf s) u).gd = s.gd := by
  unfold execLeafRestore
  simp

@[simp] theorem execTrainBerth_gd (host tag ses : Nat) (hseq hvcn : Word) (edge flags offset : Nat) (s : State) (u : State) : (landing (execTrainBerth host tag ses hseq hvcn edge flags offset s) u).gd = s.gd := by
  unfold execTrainBerth
  simp

@[simp] theorem execTrainDoors_gd (host tag ses : Nat) (hseq hvcn : Word) (edge mask : Nat) (s : State) (u : State) : (landing (execTrainDoors host tag ses hseq hvcn edge mask s) u).gd = s.gd := by
  unfold execTrainDoors
  simp

@[simp] theorem execStatusQuery_gd (host tag ses : Nat) (hseq hvcn : Word) (scope index : Nat) (s : State) (u : State) : (landing (execStatusQuery host tag ses hseq hvcn scope index s) u).gd = s.gd := by
  unfold execStatusQuery
  simp

@[simp] theorem execJournalQuery_gd (host tag ses : Nat) (hseq hvcn : Word) (ofTag : Nat) (s : State) (u : State) : (landing (execJournalQuery host tag ses hseq hvcn ofTag s) u).gd = s.gd := by
  unfold execJournalQuery
  simp

@[simp] theorem execCountQuery_gd (host tag ses : Nat) (hseq hvcn : Word) (kind index : Nat) (s : State) (u : State) : (landing (execCountQuery host tag ses hseq hvcn kind index s) u).gd = s.gd := by
  unfold execCountQuery
  simp

@[simp] theorem execUpdateConfirm_gd (host tag ses : Nat) (hseq hvcn : Word) (bundle : Word) (s : State) (u : State) : (landing (execUpdateConfirm host tag ses hseq hvcn bundle s) u).gd = s.gd := by
  unfold execUpdateConfirm
  simp

@[simp] theorem execTrainBerthExpiry_gd (edge : Nat) (s : State) (u : State) : (landing (execTrainBerthExpiry edge s) u).gd = s.gd := by
  unfold execTrainBerthExpiry
  simp

@[simp] theorem execCmdFeed_gd (portB : Bool) (copy host : Nat) (s : State) (u : State) : (landing (execCmdFeed portB copy host s) u).gd = s.gd := by
  unfold execCmdFeed
  simp

@[simp] theorem execCmdPop_gd (w : Word) (s : State) (u : State) : (landing (execCmdPop w s) u).gd = s.gd := by
  unfold execCmdPop
  rw [landing_next]
  split
  · exact applyCommands_gd ..
  · rfl

@[simp] theorem execCmdRply_gd (w : Word) (s : State) (u : State) : (landing (execCmdRply w s) u).gd = s.gd := by
  unfold execCmdRply
  simp

@[simp] theorem execCmdOutsel_gd (host : Nat) (s : State) (u : State) : (landing (execCmdOutsel host s) u).gd = s.gd := by
  unfold execCmdOutsel
  simp

@[simp] theorem execCmdOutpop_gd (w : Word) (s : State) (u : State) : (landing (execCmdOutpop w s) u).gd = s.gd := by
  unfold execCmdOutpop
  simp

@[simp] theorem execCmdLoadBegin_gd (s : State) (u : State) : (landing (execCmdLoadBegin s) u).gd = s.gd := by
  unfold execCmdLoadBegin
  simp

@[simp] theorem execCmdLoadEnd_gd (s : State) (u : State) : (landing (execCmdLoadEnd s) u).gd = s.gd := by
  unfold execCmdLoadEnd
  simp

@[simp] theorem execCmdLock_gd (w : Word) (s : State) (u : State) : (landing (execCmdLock w s) u).gd = s.gd := by
  unfold execCmdLock
  simp

@[simp] theorem applyRegs_gd (lo hi : Nat) (s : State) : (applyRegs lo hi s).gd = s.gd := by
  unfold applyRegs
  simp

@[simp] theorem withRegs_gd (s : State) : (withRegs s).gd = s.gd := by
  unfold withRegs
  simp

@[simp] theorem takeImage_gd (s : State) : (takeImage s).gd = s.gd := by
  unfold takeImage
  simp

@[simp] theorem lockGeo_gd (s : State) : (lockGeo s).gd = s.gd := by
  unfold lockGeo
  simp

@[simp] theorem journalReset_gd (s : State) : (journalReset s).gd = s.gd := by
  unfold journalReset
  simp

@[simp] theorem journalLoads_gd (s : State) : (journalLoads s).gd = s.gd := by
  unfold journalLoads
  simp

@[simp] theorem ownAddress_gd (s : State) : (ownAddress s).gd = s.gd := by
  unfold ownAddress
  (repeat' split) <;> simp

theorem checked_gd (x : Checked) (f : State → Checked) (s : State) (hx : x.state.gd = s.gd) (hf : ∀ u, (Checked.state (f u)).gd = u.gd) :
    (Checked.state (x.bind f)).gd = s.gd := by
  cases x with
  | ok u => exact (hf u).trans hx
  | error p => exact hx

theorem must_gd (b : Bool) (c : Nat) (s : State) : (Checked.state (must b c s)).gd = s.gd := by
  unfold must
  split <;> rfl

theorem blockStep_gd (lo hi l : Nat) (f : State → Bool) (c : Nat) (s : State) : (Checked.state (blockStep lo hi l f c s)).gd = s.gd := by
  unfold blockStep
  dsimp only
  split <;> simp [Checked.state]

theorem fioStep_gd (s : State) : (Checked.state (fioStep s)).gd = s.gd := by
  unfold fioStep
  dsimp only
  split <;> simp [Checked.state]

theorem sniStep_gd (s : State) : (Checked.state (sniStep s)).gd = s.gd := by
  unfold sniStep
  dsimp only
  split <;> simp [Checked.state]

theorem busSteps_gd (s : State) : (Checked.state (busSteps s)).gd = s.gd := by
  have h : ∀ (l : List Nat) (r : Checked), (Checked.state r).gd = s.gd → (Checked.state (l.foldl (fun r b => r.bind fun s =>
      blockStep (0x40060000 + 0x1000 * b) (0x40061000 + 0x1000 * b) (busReg Reg.DBC_LOCK b) (fun s => checkDbc s b) 0x080E s) r)).gd = s.gd := by
    intro l
    induction l with
    | nil => exact fun r h => h
    | cons b l ih => exact fun r hr => ih _ (checked_gd _ _ _ hr fun u => blockStep_gd _ _ _ _ _ _)
  exact h _ _ rfl

theorem configChecks_gd (s : State) : (Checked.state (configChecks s)).gd = s.gd := by
  unfold configChecks
  refine checked_gd _ _ _ (must_gd _ _ _) fun s => ?_
  dsimp only
  rw [← takeImage_gd s]
  refine checked_gd _ _ _ (must_gd _ _ _) fun s => checked_gd _ _ _ (must_gd _ _ _) fun s => checked_gd _ _ _ ?_ fun s => ?_
  · split <;> simp [Checked.state]
  · iterate 2 refine checked_gd _ _ _ (blockStep_gd _ _ _ _ _ _) fun s => ?_
    refine checked_gd _ _ _ (fioStep_gd _) fun s => checked_gd _ _ _ (busSteps_gd _) fun s => checked_gd _ _ _ (sniStep_gd _) fun s => ?_
    iterate 3 refine checked_gd _ _ _ (blockStep_gd _ _ _ _ _ _) fun s => ?_
    exact journalLoads_gd s

@[simp] theorem configFail_gd (code : Nat) (s : State) : (configFail code s).gd = s.gd := by
  unfold configFail
  simp

@[simp] theorem execTimeCheckpoint_gd (ms : Nat) (s : State) (u : State) : (landing (execTimeCheckpoint ms s) u).gd = s.gd := by
  unfold execTimeCheckpoint
  simp

@[simp] theorem execRingScanDone_gd (s : State) (u : State) : (landing (execRingScanDone s) u).gd = s.gd := by
  unfold execRingScanDone
  simp

@[simp] theorem execEvrLog_gd (w : Word) (s : State) (u : State) : (landing (execEvrLog w s) u).gd = s.gd := by
  unfold execEvrLog
  simp

@[simp] theorem execRecordRequest_gd (src code : Nat) (arg : Word) (s : State) (u : State) : (landing (execRecordRequest src code arg s) u).gd = s.gd := by
  unfold execRecordRequest
  simp

@[simp] theorem execRecordClose_gd (s : State) (u : State) : (landing (execRecordClose s) u).gd = s.gd := by
  unfold execRecordClose
  try dsimp only
  (repeat' split) <;> simp

@[simp] theorem execEvrNpost_gd (w : Word) (s : State) (u : State) : (landing (execEvrNpost w s) u).gd = s.gd := by
  unfold execEvrNpost
  simp

@[simp] theorem execNandPageProgram_gd (ok : Bool) (s : State) (u : State) : (landing (execNandPageProgram ok s) u).gd = s.gd := by
  unfold execNandPageProgram
  simp

@[simp] theorem execNandConfirm_gd (nseq : Word) (s : State) (u : State) : (landing (execNandConfirm nseq s) u).gd = s.gd := by
  unfold execNandConfirm
  simp

@[simp] theorem execNandStartReport_gd (highest : Word) (s : State) (u : State) : (landing (execNandStartReport highest s) u).gd = s.gd := by
  unfold execNandStartReport
  simp

@[simp] theorem correlation_gd (c : Nat) (s : State) : (correlation c s).gd = s.gd := by
  unfold correlation
  simp

@[simp] theorem execCorrelationDue_gd (s : State) (u : State) : (landing (execCorrelationDue s) u).gd = s.gd := by
  unfold execCorrelationDue
  simp

@[simp] theorem execJnlWrite_gd (cell copy : Nat) (readbackOk : Bool) (s : State) (u : State) : (landing (execJnlWrite cell copy readbackOk s) u).gd = s.gd := by
  unfold execJnlWrite
  simp

@[simp] theorem execJnlRead_gd (cell copy : Nat) (s : State) (u : State) : (landing (execJnlRead cell copy s) u).gd = s.gd := by
  unfold execJnlRead
  simp

@[simp] theorem execEvrLock_gd (w : Word) (s : State) (u : State) : (landing (execEvrLock w s) u).gd = s.gd := by
  unfold execEvrLock
  simp

@[simp] theorem mbNote_gd (n code : Nat) (s : State) : (mbNote n code s).gd = s.gd := by
  unfold mbNote
  simp

@[simp] theorem mbIrq_gd (n b agent : Nat) (s : State) : (mbIrq n b agent s).gd = s.gd := by
  unfold mbIrq
  simp

@[simp] theorem mbPost_gd (n len : Nat) (put : Mbx → Mbx) (s : State) : (mbPost n len put s).gd = s.gd := by
  unfold mbPost
  simp

@[simp] theorem mbTake_gd (n : Nat) (s : State) : (mbTake n s).gd = s.gd := by
  unfold mbTake
  simp

@[simp] theorem mbDbellTake_gd (n : Nat) (s : State) : (mbDbellTake n s).gd = s.gd := by
  unfold mbDbellTake
  simp

@[simp] theorem mbLastRead_gd (n : Nat) (s : State) : (mbLastRead n s).gd = s.gd := by
  unfold mbLastRead
  simp

@[simp] theorem mbRcode_gd (n rcode : Nat) (s : State) : (mbRcode n rcode s).gd = s.gd := by
  unfold mbRcode
  simp

@[simp] theorem mbRefused_gd (n : Nat) (s : State) : (mbRefused n s).gd = s.gd := by
  unfold mbRefused
  simp

@[simp] theorem firewalled_gd (s : State) : (firewalled s).gd = s.gd := by
  unfold firewalled
  simp

@[simp] theorem mbDenied_gd (who n : Nat) (s : State) : (mbDenied who n s).gd = s.gd := by
  unfold mbDenied
  simp

@[simp] theorem mbRxReset_gd (n : Nat) (s : State) : (mbRxReset n s).gd = s.gd := by
  unfold mbRxReset
  simp

@[simp] theorem mbTxReset_gd (n : Nat) (s : State) : (mbTxReset n s).gd = s.gd := by
  unfold mbTxReset
  simp

@[simp] theorem mbProcReset_gd (p : Nat) (s : State) : (mbProcReset p s).gd = s.gd := by
  unfold mbProcReset
  simp

@[simp] theorem mbService_gd (s : State) : (mbService s).gd = s.gd := by
  unfold mbService
  simp

@[simp] theorem heartbeatTake_gd (n : Nat) (p : Proc) (s : State) : (heartbeatTake n p s).2.gd = s.gd := by
  unfold heartbeatTake
  (repeat' split) <;> simp

@[simp] theorem minorityInfo_gd (k code addr : Nat) (s : State) : (minorityInfo k code addr s).gd = s.gd := by
  unfold minorityInfo
  simp

@[simp] theorem regionMinority_gd (k code addr : Nat) (s : State) : (regionMinority k code addr s).gd = s.gd := by
  unfold regionMinority
  simp

@[simp] theorem takeUnvoted_gd (es : List QEntry) (s : State) : (takeUnvoted es s).gd = s.gd := by
  unfold takeUnvoted
  simp

@[simp] theorem queueWrite_gd (k : Nat) (w : List QWrite) (s : State) : (queueWrite k w s).gd = s.gd := by
  unfold queueWrite
  simp

@[simp] theorem queueLeave_gd (k : Nat) (s : State) : (queueLeave k s).gd = s.gd := by
  unfold queueLeave
  (repeat' split) <;> simp

@[simp] theorem ignorePending_gd (k : Nat) (s : State) : (ignorePending k s).gd = s.gd := by
  unfold ignorePending
  simp

@[simp] theorem takeCopies_gd (s : State) : (takeCopies s).gd = s.gd := by
  unfold takeCopies
  simp

@[simp] theorem emptyQueue_gd (k : Nat) (s : State) : (emptyQueue k s).gd = s.gd := by
  unfold emptyQueue
  simp

@[simp] theorem copiesUsed_gd (s : State) : (copiesUsed s).gd = s.gd := by
  unfold copiesUsed
  simp

@[simp] theorem noMajority_gd (three two : Nat) (s : State) : (noMajority three two s).gd = s.gd := by
  unfold noMajority
  simp

@[simp] theorem alignHwm_gd (spread : Nat) (s : State) : (alignHwm spread s).gd = s.gd := by
  unfold alignHwm
  simp

@[simp] theorem voteTxn_gd (s : State) : (voteTxn s).1.gd = s.gd := by
  unfold voteTxn
  try dsimp only
  (repeat' split) <;> simp

@[simp] theorem voterFaults_gd (dualRailBad : Bool) (s : State) : (voterFaults dualRailBad s).gd = s.gd := by
  unfold voterFaults
  simp

@[simp] theorem storeFold_gd (x : Store) (s : State) : (storeFold x s).gd = s.gd := by
  unfold storeFold
  simp

@[simp] theorem sigCapture_gd (w : Word) (caps : List (Option CoreCapture)) (s : State) : (sigCapture w caps s).gd = s.gd := by
  unfold sigCapture
  try dsimp only
  (repeat' split) <;>
    first | (simp; done) | (simp; refine Eq.trans (foldl_gd _ _ _ (fun s b => ?_)) ?_ <;> (repeat' split) <;> simp)

@[simp] theorem sigCompare_gd (s : State) : (sigCompare s).gd = s.gd := by
  unfold sigCompare
  try dsimp only
  (repeat' split) <;> simp

@[simp] theorem sigShow_gd (s : State) : (sigShow s).gd = s.gd := by
  unfold sigShow
  simp

@[simp] theorem injectTest_gd (detected : BitVec 7) (s : State) : (injectTest detected s).gd = s.gd := by
  unfold injectTest
  simp

@[simp] theorem countFence_gd (k : Nat) (s : State) : (countFence k s).gd = s.gd := by
  unfold countFence
  simp

@[simp] theorem endSequence_gd (s : State) : (endSequence s).gd = s.gd := by
  unfold endSequence
  simp

@[simp] theorem toFenced_gd (k : Nat) (s : State) : (toFenced k s).gd = s.gd := by
  unfold toFenced
  simp

@[simp] theorem startSequence_gd (k : Nat) (fence : Bool) (s : State) : (startSequence k fence s).gd = s.gd := by
  unfold startSequence
  simp

@[simp] theorem fenceRegion_gd (k : Nat) (s : State) : (fenceRegion k s).gd = s.gd := by
  unfold fenceRegion
  simp

@[simp] theorem splitRegion_gd (k : Nat) (s : State) : (splitRegion k s).gd = s.gd := by
  unfold splitRegion
  simp

@[simp] theorem setResult_gd (k r : Nat) (s : State) : (setResult k r s).gd = s.gd := by
  unfold setResult
  simp

@[simp] theorem sequenceFailed_gd (k code result : Nat) (s : State) : (sequenceFailed k code result s).gd = s.gd := by
  unfold sequenceFailed
  simp

@[simp] theorem rejoin_gd (k : Nat) (s : State) : (rejoin k s).gd = s.gd := by
  unfold rejoin
  simp

@[simp] theorem verifyStep_gd (crcs : List Word) (s : State) : (verifyStep crcs s).gd = s.gd := by
  unfold verifyStep
  (repeat' split) <;> simp

@[simp] theorem sequenceStep_gd (s : State) : (sequenceStep s).gd = s.gd := by
  unfold sequenceStep
  try dsimp only
  (repeat' split) <;> simp

@[simp] theorem vauVcEnd_gd (s : State) : (vauVcEnd s).gd = s.gd := by
  unfold vauVcEnd
  try dsimp only
  (repeat' split) <;> simp

@[simp] theorem splitRequest_gd (w : Word) (s : State) : (splitRequest w s).gd = s.gd := by
  unfold splitRequest
  simp

@[simp] theorem selftestDone_gd (passed : Bool) (s : State) : (selftestDone passed s).gd = s.gd := by
  unfold selftestDone
  (repeat' split) <;> simp

@[simp] theorem showSample_gd (x : RegionSample) (tick : Nat) (s : State) : (showSample x tick s).gd = s.gd := by
  unfold showSample
  simp

@[simp] theorem keptOut_gd (k : Nat) (s : State) : (keptOut k s).gd = s.gd := by
  unfold keptOut
  simp

@[simp] theorem monitors_gd (supply temp phase abs : BitVec 3) (s : State) : (monitors supply temp phase abs s).gd = s.gd := by
  unfold monitors
  try dsimp only
  (repeat' split) <;> simp

@[simp] theorem monitorSamples_gd (xs : List RegionSample) (tick : Nat) (s : State) : (monitorSamples xs tick s).gd = s.gd := by
  unfold monitorSamples
  (repeat' split) <;> simp

@[simp] theorem loadAges_gd (s : State) : (loadAges s).gd = s.gd := by
  unfold loadAges
  simp

@[simp] theorem ageTick_gd (k : Nat) (s : State) : (ageTick k s).gd = s.gd := by
  unfold ageTick
  simp

@[simp] theorem vauTick_gd (s : State) : (vauTick s).gd = s.gd := by
  unfold vauTick
  simp

@[simp] theorem debugAttach_gd (k : Nat) (s : State) : (debugAttach k s).gd = s.gd := by
  unfold debugAttach
  simp

@[simp] theorem vauShow_gd (s : State) : (vauShow s).gd = s.gd := by
  unfold vauShow
  simp

@[simp] theorem startRecords_gd (s : State) : (startRecords s).gd = s.gd := by
  unfold startRecords
  (repeat' split) <;> simp

@[simp] theorem selftestEnd_gd (sigs : List (Nat × BitVec 64)) (compared : Bool) (index : Nat) (s : State) : (selftestEnd sigs compared index s).gd = s.gd := by
  unfold selftestEnd
  (repeat' split) <;> simp

@[simp] theorem startRuntime_gd (s : State) : (startRuntime s).gd = s.gd := by
  unfold startRuntime
  simp

@[simp] theorem noValidSlot_gd (s : State) : (noValidSlot s).gd = s.gd := by
  unfold noValidSlot
  simp

@[simp] theorem slotInvalid_gd (s : State) : (slotInvalid s).gd = s.gd := by
  unfold slotInvalid
  simp

@[simp] theorem clearTransfer_gd (s : State) : (clearTransfer s).gd = s.gd := by
  unfold clearTransfer
  simp

@[simp] theorem joinEntry_gd (s : State) : (joinEntry s).gd = s.gd := by
  unfold joinEntry
  simp

@[simp] theorem configEnd_gd (s : State) : (configEnd s).gd = s.gd := by
  unfold configEnd
  split
  · rfl
  · have h := (configChecks_gd (clearTransfer { s with rt := { s.rt with bootDue := true } })).trans (clearTransfer_gd _)
    split <;> rename_i e <;> rw [e] at h <;> simp_all [Checked.state]

@[simp] theorem slotChange_gd (code : Nat) (s : State) : (slotChange code s).gd = s.gd := by
  unfold slotChange
  simp

@[simp] theorem resetProc_gd (sp : Bool) (s : State) : (resetProc sp s).gd = s.gd := by
  unfold resetProc
  simp

@[simp] theorem heartbeatLost_gd (sp : Bool) (s : State) : (heartbeatLost sp s).gd = s.gd := by
  unfold heartbeatLost
  simp

@[simp] theorem reloadEnd_gd (sp ok : Bool) (s : State) : (reloadEnd sp ok s).gd = s.gd := by
  unfold reloadEnd
  simp

@[simp] theorem selfCheckFail_gd (b : Block) (n : Nat) (s : State) : (selfCheckFail b n s).gd = s.gd := by
  unfold selfCheckFail
  (repeat' split) <;> simp

@[simp] theorem iteLaunch_gd (w : Word) (s : State) : (iteLaunch w s).gd = s.gd := by
  unfold iteLaunch
  simp

@[simp] theorem iteEvaluate_gd (s : State) : (iteEvaluate s).gd = s.gd := by
  unfold iteEvaluate
  simp

@[simp] theorem afterEngine_gd (s : State) : (afterEngine s).gd = s.gd := by
  unfold afterEngine
  simp

@[simp] theorem iteDone_gd (s : State) : (iteDone s).gd = s.gd := by
  unfold iteDone
  simp

@[simp] theorem viewsUsed_gd (s : State) : (viewsUsed s).gd = s.gd := by
  unfold viewsUsed
  simp

@[simp] theorem dsuStepDone_gd (s : State) : (dsuStepDone s).gd = s.gd := by
  unfold dsuStepDone
  simp

@[simp] theorem toPhase_gd (p : Nat) (s : State) : (toPhase p s).gd = s.gd := by
  unfold toPhase
  simp

@[simp] theorem tickNow_gd (s : State) : (tickNow s).gd = s.gd := by
  unfold tickNow
  simp

@[simp] theorem markTick_gd (p tick : Nat) (s : State) : (markTick p tick s).gd = s.gd := by
  unfold markTick
  simp

@[simp] theorem hardwareMark_gd (p len : Nat) (s : State) : (hardwareMark p len s).gd = s.gd := by
  unfold hardwareMark
  simp

@[simp] theorem hwmRead_gd (p : Nat) (s : State) : (hwmRead p s).gd = s.gd := by
  unfold hwmRead
  simp

@[simp] theorem copyCheck4_gd (diff : Bool) (s : State) : (copyCheck4 diff s).gd = s.gd := by
  unfold copyCheck4
  simp

@[simp] theorem heartbeats_gd (s : State) : (heartbeats s).gd = s.gd := by
  unfold heartbeats
  simp

@[simp] theorem journalWork_gd (s : State) : (journalWork s).gd = s.gd := by
  unfold journalWork
  simp

@[simp] theorem bootRecord_gd (s : State) : (bootRecord s).gd = s.gd := by
  unfold bootRecord
  simp

@[simp] theorem postRecords_gd (s : State) : (postRecords s).gd = s.gd := by
  unfold postRecords
  simp

@[simp] theorem bgPerform_gd (w : BgWork) (s : State) : (bgPerform w s).gd = s.gd := by
  unfold bgPerform
  (repeat' split) <;> simp

@[simp] theorem bgRun_gd (n : Nat) (s : State) : (bgRun n s).gd = s.gd := by
  unfold bgRun
  simp

@[simp] theorem bgFinish_gd (s : State) : (bgFinish s).gd = s.gd := by
  unfold bgFinish
  simp

@[simp] theorem bgBegin_gd (s : State) : (bgBegin s).gd = s.gd := by
  unfold bgBegin
  simp

@[simp] theorem bgCarry_gd (s : State) : (bgCarry s).gd = s.gd := by
  unfold bgCarry
  simp

@[simp] theorem phaseMark_gd (w : Word) (tick : Nat) (s : State) : (phaseMark w tick s).gd = s.gd := by
  unfold phaseMark
  simp

@[simp] theorem overrun_gd (p code : Nat) (s : State) : (overrun p code s).gd = s.gd := by
  unfold overrun
  simp

@[simp] theorem markCheck_gd (i code : Nat) (s : State) : (markCheck i code s).gd = s.gd := by
  unfold markCheck
  simp

@[simp] theorem vcnStep_gd (s : State) : (vcnStep s).gd = s.gd := by
  unfold vcnStep
  simp

@[simp] theorem clearTops_gd (lo n : Nat) (s : State) : (clearTops lo n s).gd = s.gd := by
  unfold clearTops
  simp

@[simp] theorem clearFlags_gd (s : State) : (clearFlags s).gd = s.gd := by
  unfold clearFlags
  simp

@[simp] theorem mantleStrobe_gd (measured : Bool) (meas : Nat) (s : State) : (mantleStrobe measured meas s).gd = s.gd := by
  unfold mantleStrobe
  simp

@[simp] theorem travelStart_gd (s : State) : (travelStart s).gd = s.gd := by
  unfold travelStart
  simp

@[simp] theorem vcStart_gd (rb : BitVec 48) (meas : Nat) (s : State) : (vcStart rb meas s).gd = s.gd := by
  unfold vcStart
  simp

@[simp] theorem snapshotsReady_gd (s : State) : (snapshotsReady s).gd = s.gd := by
  unfold snapshotsReady
  simp

@[simp] theorem checkTelegrams_gd (s : State) : (checkTelegrams s).gd = s.gd := by
  unfold checkTelegrams
  simp

@[simp] theorem evaluateWork_gd (s : State) : (evaluateWork s).gd = s.gd := by
  unfold evaluateWork
  simp

@[simp] theorem evaluateStart_gd (ready : Bool) (s : State) : (evaluateStart ready s).gd = s.gd := by
  unfold evaluateStart
  simp

@[simp] theorem agreeStart_gd (s : State) : (agreeStart s).gd = s.gd := by
  unfold agreeStart
  simp

@[simp] theorem takeVector_gd (received : Bool) (s : State) : (takeVector received s).gd = s.gd := by
  unfold takeVector
  try dsimp only
  (repeat' split) <;> simp

@[simp] theorem sealAll_gd (s : State) : (sealAll s).gd = s.gd := by
  unfold sealAll
  simp

@[simp] theorem mntShow_gd (s : State) : (mntShow s).gd = s.gd := by
  unfold mntShow
  simp

@[simp] theorem mantleCheck_gd (received : Bool) (s : State) : (mantleCheck received s).gd = s.gd := by
  unfold mantleCheck
  simp

@[simp] theorem readMsafe_gd (s : State) : (readMsafe s).gd = s.gd := by
  unfold readMsafe
  simp

@[simp] theorem readTrips_gd (s : State) : (readTrips s).gd = s.gd := by
  unfold readTrips
  simp

@[simp] theorem mantleRead_gd (readable : Bool) (echo : BitVec 64) (s : State) : (mantleRead readable echo s).gd = s.gd := by
  unfold mantleRead
  simp

@[simp] theorem commitStart_gd (sealsDone : Bool) (s : State) : (commitStart sealsDone s).gd = s.gd := by
  unfold commitStart
  simp

@[simp] theorem safeStatus_gd (s : State) : (safeStatus s).gd = s.gd := by
  unfold safeStatus
  simp

@[simp] theorem backgroundStart_gd (copyDiff : Bool) (s : State) : (backgroundStart copyDiff s).gd = s.gd := by
  unfold backgroundStart
  simp

@[simp] theorem lagCheck_gd (s : State) : (lagCheck s).gd = s.gd := by
  unfold lagCheck
  simp

@[simp] theorem closeStart_gd (s : State) : (closeStart s).gd = s.gd := by
  unfold closeStart
  simp

@[simp] theorem signatureCompare_gd (detected : BitVec 7) (crcs : List Word) (s : State) : (signatureCompare detected crcs s).gd = s.gd := by
  unfold signatureCompare
  simp

@[simp] theorem checkFailed_gd (s : State) : (checkFailed s).gd = s.gd := by
  unfold checkFailed
  (repeat' split) <;> simp

@[simp] theorem vcEnd_gd (heartbeat : Bool) (s : State) : (vcEnd heartbeat s).gd = s.gd := by
  unfold vcEnd
  simp

@[simp] theorem vcnLoad_gd (byPcl : Bool) (v : Word) (s : State) : (vcnLoad byPcl v s).gd = s.gd := by
  unfold vcnLoad
  simp

@[simp] theorem execVcStart_gd (reading : VcReading) (s : State) (u : State) : (landing (execVcStart reading s) u).gd = s.gd := by
  unfold execVcStart
  simp

@[simp] theorem execEvaluateStart_gd (ready : Bool) (s : State) (u : State) : (landing (execEvaluateStart ready s) u).gd = s.gd := by
  unfold execEvaluateStart
  simp

@[simp] theorem execAgreeStart_gd (s : State) (u : State) : (landing (execAgreeStart s) u).gd = s.gd := by
  unfold execAgreeStart
  simp

@[simp] theorem execMantleVectorCheck_gd (received : Bool) (s : State) (u : State) : (landing (execMantleVectorCheck received s) u).gd = s.gd := by
  unfold execMantleVectorCheck
  simp

@[simp] theorem execMantleStatusRead_gd (readable : Bool) (echo : BitVec 64) (s : State) (u : State) : (landing (execMantleStatusRead readable echo s) u).gd = s.gd := by
  unfold execMantleStatusRead
  simp

@[simp] theorem execCommitStart_gd (sealsDone : Bool) (s : State) (u : State) : (landing (execCommitStart sealsDone s) u).gd = s.gd := by
  unfold execCommitStart
  simp

@[simp] theorem execBackgroundStart_gd (copyDiff : Bool) (s : State) (u : State) : (landing (execBackgroundStart copyDiff s) u).gd = s.gd := by
  unfold execBackgroundStart
  simp

@[simp] theorem execCloseStart_gd (s : State) (u : State) : (landing (execCloseStart s) u).gd = s.gd := by
  unfold execCloseStart
  simp

@[simp] theorem execCreditRecount_gd (s : State) (u : State) : (landing (execCreditRecount s) u).gd = s.gd := by
  unfold execCreditRecount
  simp

@[simp] theorem execSignatureCompare_gd (results : CloseResults) (s : State) (u : State) : (landing (execSignatureCompare results s) u).gd = s.gd := by
  unfold execSignatureCompare
  simp

@[simp] theorem execVcEnd_gd (heartbeat : Bool) (s : State) (u : State) : (landing (execVcEnd heartbeat s) u).gd = s.gd := by
  unfold execVcEnd
  simp

@[simp] theorem execPhaseMark_gd (w : Word) (tick : Nat) (s : State) (u : State) : (landing (execPhaseMark w tick s) u).gd = s.gd := by
  unfold execPhaseMark
  simp

@[simp] theorem execVcnLoad_gd (byPcl : Bool) (vcn : Word) (s : State) (u : State) : (landing (execVcnLoad byPcl vcn s) u).gd = s.gd := by
  unfold execVcnLoad
  simp

@[simp] theorem execVcTimerFault_gd (s : State) (u : State) : (landing (execVcTimerFault s) u).gd = s.gd := by
  unfold execVcTimerFault
  simp

@[simp] theorem execMantleTableVerified_gd (key : List Byte) (s : State) (u : State) : (landing (execMantleTableVerified key s) u).gd = s.gd := by
  unfold execMantleTableVerified
  simp

@[simp] theorem execReferenceSend_gd (bus : Nat) (busy : Bool) (s : State) (u : State) : (landing (execReferenceSend bus busy s) u).gd = s.gd := by
  unfold execReferenceSend
  simp

@[simp] theorem execReferenceRx_gd (bus ofs id : Nat) (bytes : List Byte) (s : State) (u : State) : (landing (execReferenceRx bus ofs id bytes s) u).gd = s.gd := by
  unfold execReferenceRx
  simp

@[simp] theorem execOrderFrameSend_gd (bus : Nat) (s : State) (u : State) : (landing (execOrderFrameSend bus s) u).gd = s.gd := by
  unfold execOrderFrameSend
  simp

@[simp] theorem execDoorCommandFrameSend_gd (bus : Nat) (s : State) (u : State) : (landing (execDoorCommandFrameSend bus s) u).gd = s.gd := by
  unfold execDoorCommandFrameSend
  simp

@[simp] theorem execFrameTxEnd_gd (bus : Nat) (e : FrameEnd) (s : State) (u : State) : (landing (execFrameTxEnd bus e s) u).gd = s.gd := by
  unfold execFrameTxEnd
  simp

@[simp] theorem execReportRx_gd (bus unit sof : Nat) (bytes : List Byte) (s : State) (u : State) : (landing (execReportRx bus unit sof bytes s) u).gd = s.gd := by
  unfold execReportRx
  simp

@[simp] theorem execForeignFrameRx_gd (bus id sof : Nat) (fd : Bool) (s : State) (u : State) : (landing (execForeignFrameRx bus id sof fd s) u).gd = s.gd := by
  unfold execForeignFrameRx
  simp

@[simp] theorem execDbcErrorPassive_gd (bus : Nat) (s : State) (u : State) : (landing (execDbcErrorPassive bus s) u).gd = s.gd := by
  unfold execDbcErrorPassive
  simp

@[simp] theorem execDbcBusOff_gd (bus : Nat) (s : State) (u : State) : (landing (execDbcBusOff bus s) u).gd = s.gd := by
  unfold execDbcBusOff
  simp

@[simp] theorem execBusOffRecovery_gd (bus : Nat) (s : State) (u : State) : (landing (execBusOffRecovery bus s) u).gd = s.gd := by
  unfold execBusOffRecovery
  simp

@[simp] theorem execDbcCancel_gd (bus : Nat) (s : State) (u : State) : (landing (execDbcCancel bus s) u).gd = s.gd := by
  unfold execDbcCancel
  simp

@[simp] theorem execDbcSleep_gd (bus : Nat) (s : State) (u : State) : (landing (execDbcSleep bus s) u).gd = s.gd := by
  unfold execDbcSleep
  simp

@[simp] theorem execSleepEnter_gd (bus : Nat) (s : State) (u : State) : (landing (execSleepEnter bus s) u).gd = s.gd := by
  unfold execSleepEnter
  simp

@[simp] theorem execDbcWake_gd (bus : Nat) (s : State) (u : State) : (landing (execDbcWake bus s) u).gd = s.gd := by
  unfold execDbcWake
  simp

@[simp] theorem execWakeFrameRepeat_gd (bus : Nat) (s : State) (u : State) : (landing (execWakeFrameRepeat bus s) u).gd = s.gd := by
  unfold execWakeFrameRepeat
  simp

@[simp] theorem execWakeDetect_gd (bus : Nat) (pattern : Bool) (id dlc : Nat) (data : Byte) (s : State) (u : State) : (landing (execWakeDetect bus pattern id dlc data s) u).gd = s.gd := by
  unfold execWakeDetect
  simp

@[simp] theorem execDbcCready_gd (bus : Nat) (w : Word) (s : State) (u : State) : (landing (execDbcCready bus w s) u).gd = s.gd := by
  unfold execDbcCready
  simp

@[simp] theorem execDbcLoadingCopyWrite_gd (bus index : Nat) (w : Word) (s : State) (u : State) : (landing (execDbcLoadingCopyWrite bus index w s) u).gd = s.gd := by
  unfold execDbcLoadingCopyWrite
  simp

@[simp] theorem execDbcLock_gd (bus : Nat) (w : Word) (s : State) (u : State) : (landing (execDbcLock bus w s) u).gd = s.gd := by
  unfold execDbcLock
  simp

@[simp] theorem execLockTimeout_gd (leaf : Nat) (s : State) (u : State) : (landing (execLockTimeout leaf s) u).gd = s.gd := by
  unfold execLockTimeout
  simp

@[simp] theorem execOpenTimeout_gd (leaf : Nat) (s : State) (u : State) : (landing (execOpenTimeout leaf s) u).gd = s.gd := by
  unfold execOpenTimeout
  simp

@[simp] theorem execCloseTimeout_gd (edge : Nat) (s : State) (u : State) : (landing (execCloseTimeout edge s) u).gd = s.gd := by
  unfold execCloseTimeout
  simp

@[simp] theorem execEnableGrantTimeout_gd (edge : Nat) (s : State) (u : State) : (landing (execEnableGrantTimeout edge s) u).gd = s.gd := by
  unfold execEnableGrantTimeout
  (repeat' split) <;> simp

@[simp] theorem execDoorWaitTimeout_gd (edge : Nat) (s : State) (u : State) : (landing (execDoorWaitTimeout edge s) u).gd = s.gd := by
  unfold execDoorWaitTimeout
  (repeat' split) <;> simp

@[simp] theorem execRestorationRelease_gd (edge : Nat) (s : State) (u : State) : (landing (execRestorationRelease edge s) u).gd = s.gd := by
  unfold execRestorationRelease
  simp

@[simp] theorem ecmdWrite_gd (e : Nat) (w : Word) (s : State) : (ecmdWrite e w s).gd = s.gd := by
  unfold ecmdWrite
  simp

@[simp] theorem execEcmdEnable_gd (edge ses : Nat) (s : State) (u : State) : (landing (execEcmdEnable edge ses s) u).gd = s.gd := by
  unfold execEcmdEnable
  simp

@[simp] theorem execEcmdOpen_gd (edge : Nat) (s : State) (u : State) : (landing (execEcmdOpen edge s) u).gd = s.gd := by
  unfold execEcmdOpen
  simp

@[simp] theorem execEcmdClose_gd (edge : Nat) (s : State) (u : State) : (landing (execEcmdClose edge s) u).gd = s.gd := by
  unfold execEcmdClose
  simp

@[simp] theorem execEcmdWithdraw_gd (edge : Nat) (s : State) (u : State) : (landing (execEcmdWithdraw edge s) u).gd = s.gd := by
  unfold execEcmdWithdraw
  simp

@[simp] theorem execEcmdRestore_gd (edge : Nat) (s : State) (u : State) : (landing (execEcmdRestore edge s) u).gd = s.gd := by
  unfold execEcmdRestore
  simp

@[simp] theorem execEcmdSafeStop_gd (edge code : Nat) (s : State) (u : State) : (landing (execEcmdSafeStop edge code s) u).gd = s.gd := by
  unfold execEcmdSafeStop
  simp

@[simp] theorem execEcmdLocal_gd (edge code : Nat) (s : State) (u : State) : (landing (execEcmdLocal edge code s) u).gd = s.gd := by
  unfold execEcmdLocal
  simp

@[simp] theorem execEcmdEnd_gd (edge : Nat) (s : State) (u : State) : (landing (execEcmdEnd edge s) u).gd = s.gd := by
  unfold execEcmdEnd
  simp

@[simp] theorem lcmdWrite_gd (cmd leaf : Nat) (s : State) : (lcmdWrite cmd leaf s).gd = s.gd := by
  unfold lcmdWrite
  simp

@[simp] theorem execLcmdIsolate_gd (leaf : Nat) (s : State) (u : State) : (landing (execLcmdIsolate leaf s) u).gd = s.gd := by
  unfold execLcmdIsolate
  simp

@[simp] theorem execLcmdRestore_gd (leaf : Nat) (s : State) (u : State) : (landing (execLcmdRestore leaf s) u).gd = s.gd := by
  unfold execLcmdRestore
  simp

@[simp] theorem execDsuStep_gd (s : State) (u : State) : (landing (execDsuStep s) u).gd = s.gd := by
  unfold execDsuStep
  simp

@[simp] theorem execDsuStepTimeout_gd (s : State) (u : State) : (landing (execDsuStepTimeout s) u).gd = s.gd := by
  unfold execDsuStepTimeout
  simp

@[simp] theorem execDsuLoadBegin_gd (s : State) (u : State) : (landing (execDsuLoadBegin s) u).gd = s.gd := by
  unfold execDsuLoadBegin
  simp

@[simp] theorem execDsuLoadEnd_gd (s : State) (u : State) : (landing (execDsuLoadEnd s) u).gd = s.gd := by
  unfold execDsuLoadEnd
  simp

@[simp] theorem execDsuConfLock_gd (w : Word) (s : State) (u : State) : (landing (execDsuConfLock w s) u).gd = s.gd := by
  unfold execDsuConfLock
  simp

@[simp] theorem execSsTimeout_gd (leaf : Nat) (s : State) (u : State) : (landing (execSsTimeout leaf s) u).gd = s.gd := by
  unfold execSsTimeout
  simp

@[simp] theorem execCorrExpiry_gd (edge : Nat) (s : State) (u : State) : (landing (execCorrExpiry edge s) u).gd = s.gd := by
  unfold execCorrExpiry
  simp

@[simp] theorem execIteLaunch_gd (w : Word) (s : State) (u : State) : (landing (execIteLaunch w s) u).gd = s.gd := by
  unfold execIteLaunch
  simp

@[simp] theorem execIteDone_gd (s : State) (u : State) : (landing (execIteDone s) u).gd = s.gd := by
  unfold execIteDone
  simp

@[simp] theorem execIteOvertime_gd (s : State) (u : State) : (landing (execIteOvertime s) u).gd = s.gd := by
  unfold execIteOvertime
  simp

@[simp] theorem execIteLock_gd (w : Word) (s : State) (u : State) : (landing (execIteLock w s) u).gd = s.gd := by
  unfold execIteLock
  simp

@[simp] theorem execDsuStepDone_gd (s : State) (u : State) : (landing (execDsuStepDone s) u).gd = s.gd := by
  unfold execDsuStepDone
  simp

@[simp] theorem execInputFilterChange_gd (pathB : Bool) (input : Nat) (value : Bool) (s : State) (u : State) : (landing (execInputFilterChange pathB input value s) u).gd = s.gd := by
  unfold execInputFilterChange
  simp

@[simp] theorem execInputDiscrepancy_gd (input : Nat) (s : State) (u : State) : (landing (execInputDiscrepancy input s) u).gd = s.gd := by
  unfold execInputDiscrepancy
  simp

@[simp] theorem execFeedStateChange_gd (feed st : Nat) (s : State) (u : State) : (landing (execFeedStateChange feed st s) u).gd = s.gd := by
  unfold execFeedStateChange
  simp

@[simp] theorem execFeedRecovery_gd (feed : Nat) (s : State) (u : State) : (landing (execFeedRecovery feed s) u).gd = s.gd := by
  unfold execFeedRecovery
  simp

@[simp] theorem execContactSupplyLimit_gd (supply : Nat) (s : State) (u : State) : (landing (execContactSupplyLimit supply s) u).gd = s.gd := by
  unfold execContactSupplyLimit
  simp

@[simp] theorem execContactSupplyRecovery_gd (supply : Nat) (s : State) (u : State) : (landing (execContactSupplyRecovery supply s) u).gd = s.gd := by
  unfold execContactSupplyRecovery
  simp

@[simp] theorem execOutputCommit_gd (w0 w1 code : Word) (s : State) (u : State) : (landing (execOutputCommit w0 w1 code s) u).gd = s.gd := by
  unfold execOutputCommit
  simp

@[simp] theorem execOutputOnDelay_gd (s : State) (u : State) : (landing (execOutputOnDelay s) u).gd = s.gd := by
  unfold execOutputOnDelay
  simp

@[simp] theorem execSilentState_gd (s : State) (u : State) : (landing (execSilentState s) u).gd = s.gd := by
  unfold execSilentState
  simp

@[simp] theorem execTestPulse_gd (off : Bool) (s : State) (u : State) : (landing (execTestPulse off s) u).gd = s.gd := by
  unfold execTestPulse
  simp

@[simp] theorem execPulseMissing_gd (output : Nat) (s : State) (u : State) : (landing (execPulseMissing output s) u).gd = s.gd := by
  unfold execPulseMissing
  simp

@[simp] theorem execOffReadsHigh_gd (output : Nat) (s : State) (u : State) : (landing (execOffReadsHigh output s) u).gd = s.gd := by
  unfold execOffReadsHigh
  simp

@[simp] theorem execOutputLow_gd (output : Nat) (s : State) (u : State) : (landing (execOutputLow output s) u).gd = s.gd := by
  unfold execOutputLow
  simp

@[simp] theorem execUndeclaredOutputEnergised_gd (output : Nat) (s : State) (u : State) : (landing (execUndeclaredOutputEnergised output s) u).gd = s.gd := by
  unfold execUndeclaredOutputEnergised
  simp

@[simp] theorem execClassificationResult_gd (output result partner : Nat) (s : State) (u : State) : (landing (execClassificationResult output result partner s) u).gd = s.gd := by
  unfold execClassificationResult
  simp

@[simp] theorem execFioGrestore_gd (w : Word) (s : State) (u : State) : (landing (execFioGrestore w s) u).gd = s.gd := by
  unfold execFioGrestore
  simp

@[simp] theorem execFioLock_gd (w : Word) (s : State) (u : State) : (landing (execFioLock w s) u).gd = s.gd := by
  unfold execFioLock
  simp

@[simp] theorem execCrdAcquire_gd (holder count : Nat) (s : State) (u : State) : (landing (execCrdAcquire holder count s) u).gd = s.gd := by
  unfold execCrdAcquire
  simp

@[simp] theorem execCrdRelease_gd (elem : Nat) (s : State) (u : State) : (landing (execCrdRelease elem s) u).gd = s.gd := by
  unfold execCrdRelease
  simp

@[simp] theorem execCrdTimed_gd (elem : Nat) (s : State) (u : State) : (landing (execCrdTimed elem s) u).gd = s.gd := by
  unfold execCrdTimed
  simp

@[simp] theorem execCrdTransfer_gd (elem holder : Nat) (s : State) (u : State) : (landing (execCrdTransfer elem holder s) u).gd = s.gd := by
  unfold execCrdTransfer
  simp

@[simp] theorem execCrdBlock_gd (elem holder : Nat) (s : State) (u : State) : (landing (execCrdBlock elem holder s) u).gd = s.gd := by
  unfold execCrdBlock
  simp

@[simp] theorem execCrdUnblock_gd (elem : Nat) (s : State) (u : State) : (landing (execCrdUnblock elem s) u).gd = s.gd := by
  unfold execCrdUnblock
  simp

@[simp] theorem execCrdLend_gd (elem holder : Nat) (s : State) (u : State) : (landing (execCrdLend elem holder s) u).gd = s.gd := by
  unfold execCrdLend
  simp

@[simp] theorem execCrdUnlend_gd (elem : Nat) (s : State) (u : State) : (landing (execCrdUnlend elem s) u).gd = s.gd := by
  unfold execCrdUnlend
  simp

@[simp] theorem execCrdReclaim_gd (elem : Nat) (s : State) (u : State) : (landing (execCrdReclaim elem s) u).gd = s.gd := by
  unfold execCrdReclaim
  simp

@[simp] theorem execCrdTake_gd (elem holder : Nat) (s : State) (u : State) : (landing (execCrdTake elem holder s) u).gd = s.gd := by
  unfold execCrdTake
  simp

@[simp] theorem execCrdGiveback_gd (elem : Nat) (s : State) (u : State) : (landing (execCrdGiveback elem s) u).gd = s.gd := by
  unfold execCrdGiveback
  simp

@[simp] theorem execCrdStartTimed_gd (elem : Nat) (s : State) (u : State) : (landing (execCrdStartTimed elem s) u).gd = s.gd := by
  unfold execCrdStartTimed
  simp

@[simp] theorem execCrdLoadBegin_gd (s : State) (u : State) : (landing (execCrdLoadBegin s) u).gd = s.gd := by
  unfold execCrdLoadBegin
  simp

@[simp] theorem execCrdLoadEnd_gd (s : State) (u : State) : (landing (execCrdLoadEnd s) u).gd = s.gd := by
  unfold execCrdLoadEnd
  simp

@[simp] theorem execCrdOpInvalid_gd (opc : Nat) (s : State) (u : State) : (landing (execCrdOpInvalid opc s) u).gd = s.gd := by
  unfold execCrdOpInvalid
  simp

@[simp] theorem execCrdHeldOpResume_gd (s : State) (u : State) : (landing (execCrdHeldOpResume s) u).gd = s.gd := by
  unfold execCrdHeldOpResume
  simp

@[simp] theorem execCrdCensusGo_gd (w : Word) (s : State) (u : State) : (landing (execCrdCensusGo w s) u).gd = s.gd := by
  unfold execCrdCensusGo
  simp

@[simp] theorem census_gd (s : State) : (census s).gd = s.gd := by
  unfold census
  simp

@[simp] theorem execCensusComplete_gd (s : State) (u : State) : (landing (execCensusComplete s) u).gd = s.gd := by
  unfold execCensusComplete
  simp

@[simp] theorem execCrdFreeze_gd (w : Word) (s : State) (u : State) : (landing (execCrdFreeze w s) u).gd = s.gd := by
  unfold execCrdFreeze
  simp

@[simp] theorem execCrdAttrLock_gd (w : Word) (s : State) (u : State) : (landing (execCrdAttrLock w s) u).gd = s.gd := by
  unfold execCrdAttrLock
  simp

@[simp] theorem lendTakeMsg_gd (kind : Nat) (m : LendMsg) (s : State) : (lendTakeMsg kind m s).gd = s.gd := by
  unfold lendTakeMsg
  simp

@[simp] theorem execLendReq_gd (m : LendMsg) (s : State) (u : State) : (landing (execLendReq m s) u).gd = s.gd := by
  unfold execLendReq
  simp

@[simp] theorem execLendGrant_gd (m : LendMsg) (s : State) (u : State) : (landing (execLendGrant m s) u).gd = s.gd := by
  unfold execLendGrant
  simp

@[simp] theorem execLendRefuse_gd (m : LendMsg) (s : State) (u : State) : (landing (execLendRefuse m s) u).gd = s.gd := by
  unfold execLendRefuse
  simp

@[simp] theorem execLendTaken_gd (m : LendMsg) (s : State) (u : State) : (landing (execLendTaken m s) u).gd = s.gd := by
  unfold execLendTaken
  simp

@[simp] theorem execLendReturn_gd (m : LendMsg) (s : State) (u : State) : (landing (execLendReturn m s) u).gd = s.gd := by
  unfold execLendReturn
  simp

@[simp] theorem execLendReturnAck_gd (m : LendMsg) (s : State) (u : State) : (landing (execLendReturnAck m s) u).gd = s.gd := by
  unfold execLendReturnAck
  simp

@[simp] theorem execLendAudit_gd (m : LendMsg) (s : State) (u : State) : (landing (execLendAudit m s) u).gd = s.gd := by
  unfold execLendAudit
  simp

@[simp] theorem execLendClaim_gd (m : LendMsg) (s : State) (u : State) : (landing (execLendClaim m s) u).gd = s.gd := by
  unfold execLendClaim
  simp

@[simp] theorem execLendClaimEnd_gd (m : LendMsg) (s : State) (u : State) : (landing (execLendClaimEnd m s) u).gd = s.gd := by
  unfold execLendClaimEnd
  simp

@[simp] theorem execLendClaimQuery_gd (m : LendMsg) (s : State) (u : State) : (landing (execLendClaimQuery m s) u).gd = s.gd := by
  unfold execLendClaimQuery
  simp

@[simp] theorem execLendMessageRepeat_gd (s : State) (u : State) : (landing (execLendMessageRepeat s) u).gd = s.gd := by
  unfold execLendMessageRepeat
  simp

@[simp] theorem execAuditDue_gd (s : State) (u : State) : (landing (execAuditDue s) u).gd = s.gd := by
  unfold execAuditDue
  simp

@[simp] theorem execClaimQueryRepeat_gd (s : State) (u : State) : (landing (execClaimQueryRepeat s) u).gd = s.gd := by
  unfold execClaimQueryRepeat
  simp

@[simp] theorem execClaimsComplete_gd (s : State) (u : State) : (landing (execClaimsComplete s) u).gd = s.gd := by
  unfold execClaimsComplete
  simp

@[simp] theorem execMbxDbellPost_gd (who chan : Nat) (value : Word) (s : State) (u : State) : (landing (execMbxDbellPost who chan value s) u).gd = s.gd := by
  unfold execMbxDbellPost
  simp

@[simp] theorem execMbxDbellTake_gd (who chan : Nat) (s : State) (u : State) : (landing (execMbxDbellTake who chan s) u).gd = s.gd := by
  unfold execMbxDbellTake
  simp

@[simp] theorem execMbxSend_gd (who chan len : Nat) (staged : List Word) (s : State) (u : State) : (landing (execMbxSend who chan len staged s) u).gd = s.gd := by
  unfold execMbxSend
  simp

@[simp] theorem execMbxTake_gd (who chan : Nat) (s : State) (u : State) : (landing (execMbxTake who chan s) u).gd = s.gd := by
  unfold execMbxTake
  simp

@[simp] theorem execMbxRcodeWrite_gd (who chan rcode : Nat) (s : State) (u : State) : (landing (execMbxRcodeWrite who chan rcode s) u).gd = s.gd := by
  unfold execMbxRcodeWrite
  simp

@[simp] theorem execMantleInputFilterChange_gd (input : Nat) (value : Bool) (s : State) (u : State) : (landing (execMantleInputFilterChange input value s) u).gd = s.gd := by
  unfold execMantleInputFilterChange
  simp

@[simp] theorem execMantleListenerFrame_gd (bus id : Nat) (fd : Bool) (bytes : List Byte) (s : State) (u : State) : (landing (execMantleListenerFrame bus id fd bytes s) u).gd = s.gd := by
  unfold execMantleListenerFrame
  simp

@[simp] theorem restrictNow_gd (s : State) : (restrictNow s).gd = s.gd := by
  unfold restrictNow
  simp

@[simp] theorem writeOutside_gd (high : Bool) (w : Word) (codingOk : Bool) (s : State) : (writeOutside high w codingOk s).gd = s.gd := by
  unfold writeOutside
  simp

@[simp] theorem execMntTvecSet_gd (high : Bool) (w : Word) (codingOk : Bool) (s : State) (u : State) : (landing (execMntTvecSet high w codingOk s) u).gd = s.gd := by
  unfold execMntTvecSet
  simp

@[simp] theorem execMntHeartbeat_gd (w : Word) (s : State) (u : State) : (landing (execMntHeartbeat w s) u).gd = s.gd := by
  unfold execMntHeartbeat
  simp

@[simp] theorem execMantleTableLoad_gd (bytes : List Byte) (s : State) (u : State) : (landing (execMantleTableLoad bytes s) u).gd = s.gd := by
  unfold execMantleTableLoad
  simp

@[simp] theorem execMantleSelfCheckFail_gd (listener : Bool) (s : State) (u : State) : (landing (execMantleSelfCheckFail listener s) u).gd = s.gd := by
  unfold execMantleSelfCheckFail
  simp

@[simp] theorem execMantleVcTiming_gd (s : State) (u : State) : (landing (execMantleVcTiming s) u).gd = s.gd := by
  unfold execMantleVcTiming
  simp

@[simp] theorem execMantleSupplyReset_gd (s : State) (u : State) : (landing (execMantleSupplyReset s) u).gd = s.gd := by
  unfold execMantleSupplyReset
  simp

@[simp] theorem execDatagramRx_gd (portB plain : Bool) (srcIp : Word) (srcPort : Nat) (dstIp : Word) (dstPort arr : Nat) (bytes : List Byte) (s : State) (u : State) : (landing (execDatagramRx portB plain srcIp srcPort dstIp dstPort arr bytes s) u).gd = s.gd := by
  unfold execDatagramRx
  simp

@[simp] theorem execAbWindowExpiry_gd (cnum : Nat) (s : State) (u : State) : (landing (execAbWindowExpiry cnum s) u).gd = s.gd := by
  unfold execAbWindowExpiry
  simp

@[simp] theorem execSeqBaseDrop_gd (cnum : Nat) (s : State) (u : State) : (landing (execSeqBaseDrop cnum s) u).gd = s.gd := by
  unfold execSeqBaseDrop
  simp

@[simp] theorem execConnectionStale_gd (cnum : Nat) (s : State) (u : State) : (landing (execConnectionStale cnum s) u).gd = s.gd := by
  unfold execConnectionStale
  simp

@[simp] theorem execPhyLinkChange_gd (portB up : Bool) (s : State) (u : State) : (landing (execPhyLinkChange portB up s) u).gd = s.gd := by
  unfold execPhyLinkChange
  simp

@[simp] theorem execNetworkStateStart_gd (s : State) (u : State) : (landing (execNetworkStateStart s) u).gd = s.gd := by
  unfold execNetworkStateStart
  simp

@[simp] theorem execNetworkLost_gd (portB : Bool) (s : State) (u : State) : (landing (execNetworkLost portB s) u).gd = s.gd := by
  unfold execNetworkLost
  simp

@[simp] theorem execNetworkRestored_gd (portB : Bool) (s : State) (u : State) : (landing (execNetworkRestored portB s) u).gd = s.gd := by
  unfold execNetworkRestored
  simp

@[simp] theorem execNetsSilent_gd (s : State) (u : State) : (landing (execNetsSilent s) u).gd = s.gd := by
  unfold execNetsSilent
  simp

@[simp] theorem execNetsSilentLimit_gd (s : State) (u : State) : (landing (execNetsSilentLimit s) u).gd = s.gd := by
  unfold execNetsSilentLimit
  simp

@[simp] theorem execSniTxcReady_gd (slot cnum : Nat) (bytes : List Byte) (s : State) (u : State) : (landing (execSniTxcReady slot cnum bytes s) u).gd = s.gd := by
  unfold execSniTxcReady
  simp

@[simp] theorem execSniLock_gd (w : Word) (s : State) (u : State) : (landing (execSniLock w s) u).gd = s.gd := by
  unfold execSniLock
  simp

@[simp] theorem execObsPsel_gd (k : Nat) (w : Word) (s : State) (u : State) : (landing (execObsPsel k w s) u).gd = s.gd := by
  unfold execObsPsel
  simp

@[simp] theorem execObsMark_gd (w : Word) (s : State) (u : State) : (landing (execObsMark w s) u).gd = s.gd := by
  unfold execObsMark
  simp

@[simp] theorem execObsTagctl_gd (w : Word) (s : State) (u : State) : (landing (execObsTagctl w s) u).gd = s.gd := by
  unfold execObsTagctl
  simp

@[simp] theorem execObsTagseed_gd (w : Word) (s : State) (u : State) : (landing (execObsTagseed w s) u).gd = s.gd := by
  unfold execObsTagseed
  simp

@[simp] theorem execInstructionTag_gd (pc : Word) (slotClass issueSlot fetchToIssue issueToRetire stall : Nat) (s : State) (u : State) : (landing (execInstructionTag pc slotClass issueSlot fetchToIssue issueToRetire stall s) u).gd = s.gd := by
  unfold execInstructionTag
  simp

@[simp] theorem execCounterWrap_gd (counter : Nat) (s : State) (u : State) : (landing (execCounterWrap counter s) u).gd = s.gd := by
  unfold execCounterWrap
  simp

@[simp] theorem execPclMctrlGo_gd (w : Word) (differ : List Nat) (s : State) (u : State) : (landing (execPclMctrlGo w differ s) u).gd = s.gd := by
  unfold execPclMctrlGo
  simp

@[simp] theorem execMirrorRx_gd (m : Machine.PairFrame) (s : State) (u : State) : (landing (execMirrorRx m s) u).gd = s.gd := by
  unfold execMirrorRx
  simp

@[simp] theorem execResponseRx_gd (r : Machine.PairFrame) (s : State) (u : State) : (landing (execResponseRx r s) u).gd = s.gd := by
  unfold execResponseRx
  simp

@[simp] theorem execBulkRx_gd (f : Machine.PairFrame) (s : State) (u : State) : (landing (execBulkRx f s) u).gd = s.gd := by
  unfold execBulkRx
  simp

@[simp] theorem execMirrorMissed_gd (s : State) (u : State) : (landing (execMirrorMissed s) u).gd = s.gd := by
  unfold execMirrorMissed
  simp

@[simp] theorem execPclSwap_gd (w : Word) (peerOk : Bool) (s : State) (u : State) : (landing (execPclSwap w peerOk s) u).gd = s.gd := by
  unfold execPclSwap
  simp

@[simp] theorem execSwapDue_gd (peerOk : Bool) (s : State) (u : State) : (landing (execSwapDue peerOk s) u).gd = s.gd := by
  unfold execSwapDue
  (repeat' split) <;> simp

@[simp] theorem execSwapRetry_gd (peerOk : Bool) (s : State) (u : State) : (landing (execSwapRetry peerOk s) u).gd = s.gd := by
  unfold execSwapRetry
  simp

@[simp] theorem execSorliaSwapRequest_gd (peerOk : Bool) (s : State) (u : State) : (landing (execSorliaSwapRequest peerOk s) u).gd = s.gd := by
  unfold execSorliaSwapRequest
  simp

@[simp] theorem execHandoverVc_gd (s : State) (u : State) : (landing (execHandoverVc s) u).gd = s.gd := by
  unfold execHandoverVc
  simp

@[simp] theorem execSwapConfirmCheck_gd (s : State) (u : State) : (landing (execSwapConfirmCheck s) u).gd = s.gd := by
  unfold execSwapConfirmCheck
  simp

@[simp] theorem execSwitchoverTrigger_gd (s : State) (u : State) : (landing (execSwitchoverTrigger s) u).gd = s.gd := by
  unfold execSwitchoverTrigger
  simp

@[simp] theorem execTakeoverActive_gd (s : State) (u : State) : (landing (execTakeoverActive s) u).gd = s.gd := by
  unfold execTakeoverActive
  simp

@[simp] theorem execJoinTimeout_gd (s : State) (u : State) : (landing (execJoinTimeout s) u).gd = s.gd := by
  unfold execJoinTimeout
  simp

@[simp] theorem execTimingMarkerRx_gd (peer : Bool) (frm : Nat) (phase : Int) (s : State) (u : State) : (landing (execTimingMarkerRx peer frm phase s) u).gd = s.gd := by
  unfold execTimingMarkerRx
  simp

@[simp] theorem execPclCtx_gd (w : Word) (s : State) (u : State) : (landing (execPclCtx w s) u).gd = s.gd := by
  unfold execPclCtx
  simp

@[simp] theorem execCascadeFrameRx_gd (f : Machine.CascFrame) (s : State) (u : State) : (landing (execCascadeFrameRx f s) u).gd = s.gd := by
  unfold execCascadeFrameRx
  simp

@[simp] theorem execPclEpoch_gd (w : Word) (s : State) (u : State) : (landing (execPclEpoch w s) u).gd = s.gd := by
  unfold execPclEpoch
  simp

@[simp] theorem execPclLock_gd (w : Word) (s : State) (u : State) : (landing (execPclLock w s) u).gd = s.gd := by
  unfold execPclLock
  simp

@[simp] theorem execLogicSupplyOutOfRange_gd (high : Bool) (s : State) (u : State) : (landing (execLogicSupplyOutOfRange high s) u).gd = s.gd := by
  unfold execLogicSupplyOutOfRange
  simp

@[simp] theorem execRefClockLost_gd (s : State) (u : State) : (landing (execRefClockLost s) u).gd = s.gd := by
  unfold execRefClockLost
  simp

@[simp] theorem execSelftestComplete_gd (sigs : List (Nat × BitVec 64)) (compared : Bool) (index : Nat) (s : State) (u : State) : (landing (execSelftestComplete sigs compared index s) u).gd = s.gd := by
  unfold execSelftestComplete
  simp

@[simp] theorem execConfigCheckComplete_gd (s : State) (u : State) : (landing (execConfigCheckComplete s) u).gd = s.gd := by
  unfold execConfigCheckComplete
  simp

@[simp] theorem execSysSafeReq_gd (w : Word) (s : State) (u : State) : (landing (execSysSafeReq w s) u).gd = s.gd := by
  unfold execSysSafeReq
  simp

@[simp] theorem execProcessorHeartbeatTimeout_gd (sp : Bool) (s : State) (u : State) : (landing (execProcessorHeartbeatTimeout sp s) u).gd = s.gd := by
  unfold execProcessorHeartbeatTimeout
  simp

@[simp] theorem execProcessorReloadDone_gd (sp ok : Bool) (s : State) (u : State) : (landing (execProcessorReloadDone sp ok s) u).gd = s.gd := by
  unfold execProcessorReloadDone
  simp

@[simp] theorem execFirewallViolation_gd (sp : Bool) (_addr : Nat) (s : State) (u : State) : (landing (execFirewallViolation sp _addr s) u).gd = s.gd := by
  unfold execFirewallViolation
  simp

@[simp] theorem execUnmappedAccess_gd (write : Bool) (_addr : Nat) (s : State) (u : State) : (landing (execUnmappedAccess write _addr s) u).gd = s.gd := by
  unfold execUnmappedAccess
  simp

@[simp] theorem execSlotCodeChange_gd (code : Nat) (s : State) (u : State) : (landing (execSlotCodeChange code s) u).gd = s.gd := by
  unfold execSlotCodeChange
  simp

@[simp] theorem execBlockSelfCheckFail_gd (block : Block) (n : Nat) (s : State) (u : State) : (landing (execBlockSelfCheckFail block n s) u).gd = s.gd := by
  unfold execBlockSelfCheckFail
  simp

@[simp] theorem execLedAmberEnd_gd (s : State) (u : State) : (landing (execLedAmberEnd s) u).gd = s.gd := by
  unfold execLedAmberEnd
  simp

@[simp] theorem execPdsTrack_gd (m : Nat) (w : Word) (s : State) (u : State) : (landing (execPdsTrack m w s) u).gd = s.gd := by
  unfold execPdsTrack
  simp

@[simp] theorem execPdsSlotc_gd (slot : Nat) (w : Word) (s : State) (u : State) : (landing (execPdsSlotc slot w s) u).gd = s.gd := by
  unfold execPdsSlotc
  simp

@[simp] theorem execPdsBslotc_gd (slot : Nat) (w : Word) (s : State) (u : State) : (landing (execPdsBslotc slot w s) u).gd = s.gd := by
  unfold execPdsBslotc
  simp

@[simp] theorem execPdsBin_gd (edge : Nat) (w : Word) (s : State) (u : State) : (landing (execPdsBin edge w s) u).gd = s.gd := by
  unfold execPdsBin
  simp

@[simp] theorem execPdsConfLock_gd (w : Word) (s : State) (u : State) : (landing (execPdsConfLock w s) u).gd = s.gd := by
  unfold execPdsConfLock
  simp

@[simp] theorem execLeafLost_gd (leaf : Nat) (s : State) (u : State) : (landing (execLeafLost leaf s) u).gd = s.gd := by
  unfold execLeafLost
  simp

@[simp] theorem freeBytes_gd (n : Nat) (s : State) : (freeBytes n s).2.gd = s.gd := by
  unfold freeBytes
  simp

@[simp] theorem execSorliaChallenge_gd (head : SorliaHead) (s : State) (u : State) : (landing (execSorliaChallenge head s) u).gd = s.gd := by
  unfold execSorliaChallenge
  simp

@[simp] theorem execSorliaAuthenticate_gd (head : SorliaHead) (key : Nat) (body : AuthBody) (s : State) (u : State) : (landing (execSorliaAuthenticate head key body s) u).gd = s.gd := by
  unfold execSorliaAuthenticate
  simp

@[simp] theorem execSorliaLock_gd (head : SorliaHead) (s : State) (u : State) : (landing (execSorliaLock head s) u).gd = s.gd := by
  unfold execSorliaLock
  rw [landing_next]
  refine served_gd _ _ _ fun t => ?_
  dsimp only
  (repeat' split) <;> simp

@[simp] theorem execSorliaPrepare_gd (head : SorliaHead) (manifest : List Byte) (s : State) (u : State) : (landing (execSorliaPrepare head manifest s) u).gd = s.gd := by
  unfold execSorliaPrepare
  simp

@[simp] theorem execSorliaBlock_gd (head : SorliaHead) (block : Nat) (data : List Byte) (readbackOk : Bool) (s : State) (u : State) : (landing (execSorliaBlock head block data readbackOk s) u).gd = s.gd := by
  unfold execSorliaBlock
  simp

@[simp] theorem execSorliaVerify_gd (head : SorliaHead) (readOk programOk : Bool) (s : State) (u : State) : (landing (execSorliaVerify head readOk programOk s) u).gd = s.gd := by
  unfold execSorliaVerify
  simp

@[simp] theorem execSorliaActivate_gd (head : SorliaHead) (s : State) (u : State) : (landing (execSorliaActivate head s) u).gd = s.gd := by
  unfold execSorliaActivate
  simp

@[simp] theorem releaseLock_gd (s : State) : (releaseLock s).gd = s.gd := by
  unfold releaseLock
  simp

@[simp] theorem execSorliaRelease_gd (head : SorliaHead) (s : State) (u : State) : (landing (execSorliaRelease head s) u).gd = s.gd := by
  unfold execSorliaRelease
  simp

@[simp] theorem attest_gd (nonce : List Byte) (s : State) : (attest nonce s).gd = s.gd := by
  unfold attest
  simp

@[simp] theorem execSorliaAttest_gd (head : SorliaHead) (nonce : List Byte) (s : State) (u : State) : (landing (execSorliaAttest head nonce s) u).gd = s.gd := by
  unfold execSorliaAttest
  simp

@[simp] theorem execSorliaKeyEnrol_gd (head : SorliaHead) (request : KeyRequest) (signer : Option Nat) (programOk : Bool) (s : State) (u : State) : (landing (execSorliaKeyEnrol head request signer programOk s) u).gd = s.gd := by
  unfold execSorliaKeyEnrol
  simp

@[simp] theorem execSorliaJournalClear_gd (head : SorliaHead) (s : State) (u : State) : (landing (execSorliaJournalClear head s) u).gd = s.gd := by
  unfold execSorliaJournalClear
  simp

@[simp] theorem execSorliaSessionEnd_gd (session : Nat) (s : State) (u : State) : (landing (execSorliaSessionEnd session s) u).gd = s.gd := by
  unfold execSorliaSessionEnd
  simp

@[simp] theorem execUpdateLockTimeout_gd (s : State) (u : State) : (landing (execUpdateLockTimeout s) u).gd = s.gd := by
  unfold execUpdateLockTimeout
  (repeat' split) <;> simp

@[simp] theorem suiOp_gd (key : Nat) (act : State → State) (s : State) (hf : ∀ u, (act u).gd = u.gd) : (suiOp key act s).gd = s.gd := by
  unfold suiOp
  simp [hf]

@[simp] theorem execSuiPrepare_gd (key : Nat) (s : State) (u : State) : (landing (execSuiPrepare key s) u).gd = s.gd := by
  unfold execSuiPrepare
  simp

@[simp] theorem execSuiBlock_gd (key block : Nat) (data : List Byte) (readbackOk : Bool) (s : State) (u : State) : (landing (execSuiBlock key block data readbackOk s) u).gd = s.gd := by
  unfold execSuiBlock
  simp

@[simp] theorem execSuiVerify_gd (key : Nat) (readOk programOk : Bool) (s : State) (u : State) : (landing (execSuiVerify key readOk programOk s) u).gd = s.gd := by
  unfold execSuiVerify
  simp

@[simp] theorem execSuiActivate_gd (key : Nat) (s : State) (u : State) : (landing (execSuiActivate key s) u).gd = s.gd := by
  unfold execSuiActivate
  simp

@[simp] theorem execSuiConfirm_gd (key : Nat) (s : State) (u : State) : (landing (execSuiConfirm key s) u).gd = s.gd := by
  unfold execSuiConfirm
  simp

@[simp] theorem execSuiRevert_gd (key : Nat) (s : State) (u : State) : (landing (execSuiRevert key s) u).gd = s.gd := by
  unfold execSuiRevert
  rw [landing_next]
  refine suiOp_gd (hf := fun u => ?_) ..
  split <;> simp

@[simp] theorem execSuiAttest_gd (key : Nat) (nonce : List Byte) (s : State) (u : State) : (landing (execSuiAttest key nonce s) u).gd = s.gd := by
  unfold execSuiAttest
  simp

@[simp] theorem execSuiReverifyStep_gd (key : Nat) (readOk : Bool) (s : State) (u : State) : (landing (execSuiReverifyStep key readOk s) u).gd = s.gd := by
  unfold execSuiReverifyStep
  simp

@[simp] theorem execSuiRefreshStep_gd (key done : Nat) (s : State) (u : State) : (landing (execSuiRefreshStep key done s) u).gd = s.gd := by
  unfold execSuiRefreshStep
  simp

@[simp] theorem execSuiEnrol_gd (key : Nat) (request : KeyRequest) (signer : Option Nat) (programOk : Bool) (s : State) (u : State) : (landing (execSuiEnrol key request signer programOk s) u).gd = s.gd := by
  unfold execSuiEnrol
  simp

@[simp] theorem execSuiRelease_gd (key : Nat) (s : State) (u : State) : (landing (execSuiRelease key s) u).gd = s.gd := by
  unfold execSuiRelease
  simp

@[simp] theorem execSuiOpComplete_gd (ok : Bool) (s : State) (u : State) : (landing (execSuiOpComplete ok s) u).gd = s.gd := by
  unfold execSuiOpComplete
  simp

@[simp] theorem execTrialDeadline_gd (s : State) (u : State) : (landing (execTrialDeadline s) u).gd = s.gd := by
  unfold execTrialDeadline
  (repeat' split) <;> simp

@[simp] theorem execReverifyDue_gd (s : State) (u : State) : (landing (execReverifyDue s) u).gd = s.gd := by
  unfold execReverifyDue
  (repeat' split) <;> simp

@[simp] theorem execRefreshDue_gd (s : State) (u : State) : (landing (execRefreshDue s) u).gd = s.gd := by
  unfold execRefreshDue
  (repeat' split) <;> simp

@[simp] theorem execSorliaMaintenanceRequest_gd (s : State) (u : State) : (landing (execSorliaMaintenanceRequest s) u).gd = s.gd := by
  unfold execSorliaMaintenanceRequest
  (repeat' split) <;> simp

@[simp] theorem blockNote_gd (b : RegBlock) (u : Nat) (s : State) : (blockNote b u s).gd = s.gd := by
  unfold blockNote
  (repeat' split) <;> simp

@[simp] theorem accessNote_gd (r : RegAt) (s : State) : (accessNote r s).gd = s.gd := by
  unfold accessNote
  (repeat' split) <;> simp

@[simp] theorem readOnlyWrite_gd (r : RegAt) (s : State) : (readOnlyWrite r s).gd = s.gd := by
  unfold readOnlyWrite
  simp

@[simp] theorem plainWrite_gd (a : Nat) (r : RegAt) (w : Word) (s : State) : (plainWrite a r w s).gd = s.gd := by
  unfold plainWrite
  simp

@[simp] theorem tagLoad_gd (t : Nat) (w : Word) (s : State) : (tagLoad t w s).gd = s.gd := by
  unfold tagLoad
  try dsimp only
  (repeat' split) <;> simp

@[simp] theorem tseqLoad_gd (t : Nat) (w : Word) (s : State) : (tseqLoad t w s).gd = s.gd := by
  unfold tseqLoad
  simp

@[simp] theorem countLoad_gd (lo i : Nat) (w : Word) (s : State) : (countLoad lo i w s).gd = s.gd := by
  unfold countLoad
  simp

@[simp] theorem loadingWrite_gd (a : Nat) (r : RegAt) (w : Word) (s : State) : (loadingWrite a r w s).gd = s.gd := by
  unfold loadingWrite
  simp

@[simp] theorem vauWrite_gd (lo : Nat) (w : Word) (s : State) : ((vauWrite lo w s).getD s).gd = s.gd := by
  unfold vauWrite
  try dsimp only
  (repeat' split) <;> simp

@[simp] theorem mntWrite_gd (lo : Nat) (w : Word) (s : State) : ((mntWrite lo w s).getD s).gd = s.gd := by
  unfold mntWrite
  (repeat' split) <;> simp

@[simp] theorem iteWrite_gd (lo : Nat) (w : Word) (s : State) : ((iteWrite lo w s).getD s).gd = s.gd := by
  unfold iteWrite
  (repeat' split) <;> simp

@[simp] theorem crdRegWrite_gd (lo : Nat) (w : Word) (s : State) : ((crdRegWrite lo w s).getD s).gd = s.gd := by
  unfold crdRegWrite
  (repeat' split) <;> simp

@[simp] theorem pdsWrite_gd (lo i : Nat) (w : Word) (s : State) : ((pdsWrite lo i w s).getD s).gd = s.gd := by
  unfold pdsWrite
  (repeat' split) <;> simp

@[simp] theorem dsuWrite_gd (lo i : Nat) (w : Word) (s : State) : ((dsuWrite lo i w s).getD s).gd = s.gd := by
  unfold dsuWrite
  (repeat' split) <;> simp

@[simp] theorem dbcWrite_gd (lo i b : Nat) (w : Word) (s : State) : ((dbcWrite lo i b w s).getD s).gd = s.gd := by
  unfold dbcWrite
  (repeat' split) <;> simp

@[simp] theorem txbufWrite_gd (k : Nat) (w : Word) (s : State) : (txbufWrite k w s).gd = s.gd := by
  unfold txbufWrite
  simp

@[simp] theorem txcWrite_gd (m : Nat) (w : Word) (s : State) : (txcWrite m w s).gd = s.gd := by
  unfold txcWrite
  simp

@[simp] theorem sniWrite_gd (lo i : Nat) (w : Word) (s : State) : ((sniWrite lo i w s).getD s).gd = s.gd := by
  unfold sniWrite
  (repeat' split) <;> simp

@[simp] theorem cmdWrite_gd (lo i : Nat) (w : Word) (s : State) : ((cmdWrite lo i w s).getD s).gd = s.gd := by
  unfold cmdWrite
  (repeat' split) <;> simp

@[simp] theorem fioWrite_gd (lo : Nat) (w : Word) (s : State) : ((fioWrite lo w s).getD s).gd = s.gd := by
  unfold fioWrite
  (repeat' split) <;> simp

@[simp] theorem cvuCtrl_gd (n : Nat) (w : Word) (s : State) : (cvuCtrl n w s).gd = s.gd := by
  unfold cvuCtrl
  (repeat' split) <;> simp

@[simp] theorem cvuWrite_gd (lo n : Nat) (w : Word) (s : State) : ((cvuWrite lo n w s).getD s).gd = s.gd := by
  unfold cvuWrite
  (repeat' split) <;> simp

@[simp] theorem mbxWrite_gd (who lo i n : Nat) (w : Word) (s : State) : ((mbxWrite who lo i n w s).getD s).gd = s.gd := by
  unfold mbxWrite
  try dsimp only
  (repeat' split) <;> simp

@[simp] theorem evrWrite_gd (lo : Nat) (w : Word) (s : State) : ((evrWrite lo w s).getD s).gd = s.gd := by
  unfold evrWrite
  (repeat' split) <;> simp

@[simp] theorem jnlWrite_gd (w : Word) (s : State) : (jnlWrite w s).gd = s.gd := by
  unfold jnlWrite
  try dsimp only
  (repeat' split) <;> simp

@[simp] theorem pclWrite_gd (lo : Nat) (w : Word) (s : State) : ((pclWrite lo w s).getD s).gd = s.gd := by
  unfold pclWrite
  try dsimp only
  (repeat' split) <;> simp

@[simp] theorem suiWrite_gd (w : Word) (s : State) : (suiWrite w s).gd = s.gd := by
  unfold suiWrite
  try dsimp only
  (repeat' split) <;> simp

@[simp] theorem obsWrite_gd (lo i : Nat) (w : Word) (s : State) : ((obsWrite lo i w s).getD s).gd = s.gd := by
  unfold obsWrite
  (repeat' split) <;> simp

@[simp] theorem sysWrite_gd (lo : Nat) (w : Word) (s : State) : ((sysWrite lo w s).getD s).gd = s.gd := by
  unfold sysWrite
  (repeat' split) <;> simp

@[simp] theorem operationWrite_gd (r : RegAt) (w : Word) (s : State) : ((operationWrite r w s).getD s).gd = s.gd := by
  unfold operationWrite
  try dsimp only
  (repeat' split) <;> simp

@[simp] theorem codeWrite_gd (a : Nat) (r : RegAt) (w : Word) (s : State) : (codeWrite a r w s).gd = s.gd := by
  unfold codeWrite
  (repeat' split) <;> simp

@[simp] theorem regWrite_gd (a : Nat) (r : RegAt) (w : Word) (s : State) : (regWrite a r w s).gd = s.gd := by
  unfold regWrite
  have h := operationWrite_gd r w s
  split <;> rename_i e
  · rw [e] at h
    exact h
  · simp

@[simp] theorem memRead_gd (a width : Nat) (s : State) : (memRead a width s).gd = s.gd := by
  unfold memRead
  simp

@[simp] theorem monitorFresh_gd (s : State) : (monitorFresh s).gd = s.gd := by
  unfold monitorFresh
  simp

@[simp] theorem readValue_gd (a : Nat) (r : RegAt) (s : State) : (readValue a r s).2.gd = s.gd := by
  unfold readValue
  try dsimp only
  (repeat' split) <;> simp

@[simp] theorem rxRead_gd (i n : Nat) (s : State) : (rxRead i n s).gd = s.gd := by
  unfold rxRead
  simp

@[simp] theorem mbxRead_gd (who a : Nat) (r : RegAt) (s : State) : (mbxRead who a r s).gd = s.gd := by
  unfold mbxRead
  dsimp only
  (repeat' split) <;> simp

@[simp] theorem regRead_gd (a : Nat) (r : RegAt) (s : State) : (regRead a r s).gd = s.gd := by
  unfold regRead
  try dsimp only
  (repeat' split) <;> simp

@[simp] theorem accessRead_gd (a width : Nat) (s : State) : (accessRead a width s).gd = s.gd := by
  unfold accessRead
  (repeat' split) <;> simp

@[simp] theorem procWrite_gd (who a width : Nat) (w : Word) (s : State) : (procWrite who a width w s).gd = s.gd := by
  unfold procWrite
  (repeat' split) <;> simp

@[simp] theorem procRead_gd (who a width : Nat) (s : State) : (procRead who a width s).gd = s.gd := by
  unfold procRead
  (repeat' split) <;> simp

@[simp] theorem debugRead_gd (k a width : Nat) (s : State) : (debugRead k a width s).gd = s.gd := by
  unfold debugRead
  (repeat' split) <;> simp

@[simp] theorem agentRead_gd (who a width : Nat) (s : State) : (agentRead who a width s).gd = s.gd := by
  unfold agentRead
  simp

@[simp] theorem execRegisterRead_gd (at_ : BusAddr) (width : Nat) (s : State) (u : State) : (landing (execRegisterRead at_ width s) u).gd = s.gd := by
  unfold execRegisterRead
  simp

@[simp] theorem execRouteWaitTimeout_gd (ses : Nat) (s : State) (u : State) : (landing (execRouteWaitTimeout ses s) u).gd = s.gd := by
  unfold execRouteWaitTimeout
  simp

@[simp] theorem execLendTimeout_gd (ses : Nat) (s : State) (u : State) : (landing (execLendTimeout ses s) u).gd = s.gd := by
  unfold execLendTimeout
  simp

@[simp] theorem execSetTimeout_gd (ses : Nat) (s : State) (u : State) : (landing (execSetTimeout ses s) u).gd = s.gd := by
  unfold execSetTimeout
  simp

@[simp] theorem execThrowTimeout_gd (ses : Nat) (s : State) (u : State) : (landing (execThrowTimeout ses s) u).gd = s.gd := by
  unfold execThrowTimeout
  simp

@[simp] theorem execSignalStopTimeout_gd (ses : Nat) (s : State) (u : State) : (landing (execSignalStopTimeout ses s) u).gd = s.gd := by
  unfold execSignalStopTimeout
  simp

@[simp] theorem execTokenTimerExpire_gd (elem : Nat) (s : State) (u : State) : (landing (execTokenTimerExpire elem s) u).gd = s.gd := by
  unfold execTokenTimerExpire
  simp

@[simp] theorem gatherCopies_gd (w0 w1 w2 : List QWrite) (s : State) : (gatherCopies w0 w1 w2 s).gd = s.gd := by
  unfold gatherCopies
  simp

@[simp] theorem execAlignQueueEntryLeaves_gd (region : Nat) (s : State) (u : State) : (landing (execAlignQueueEntryLeaves region s) u).gd = s.gd := by
  unfold execAlignQueueEntryLeaves
  simp

@[simp] theorem execVauSigCapture_gd (w : Word) (c0 c1 c2 : Option CoreCapture) (s : State) (u : State) : (landing (execVauSigCapture w c0 c1 c2 s) u).gd = s.gd := by
  unfold execVauSigCapture
  simp

@[simp] theorem execMemoryUncorrectable_gd (region : Nat) (s : State) (u : State) : (landing (execMemoryUncorrectable region s) u).gd = s.gd := by
  unfold execMemoryUncorrectable
  simp

@[simp] theorem execMemoryCorrected_gd (region : Nat) (s : State) (u : State) : (landing (execMemoryCorrected region s) u).gd = s.gd := by
  unfold execMemoryCorrected
  simp

@[simp] theorem execRegionOutOfTolerance_gd (s0 s1 s2 : RegionSample) (tick : Nat) (s : State) (u : State) : (landing (execRegionOutOfTolerance s0 s1 s2 tick s) u).gd = s.gd := by
  unfold execRegionOutOfTolerance
  simp

@[simp] theorem execVauSplitReq_gd (w : Word) (s : State) (u : State) : (landing (execVauSplitReq w s) u).gd = s.gd := by
  unfold execVauSplitReq
  simp

@[simp] theorem execSelftestDue_gd (region : Nat) (s : State) (u : State) : (landing (execSelftestDue region s) u).gd = s.gd := by
  unfold execSelftestDue
  simp

@[simp] theorem execSelftestOverdue_gd (region : Nat) (s : State) (u : State) : (landing (execSelftestOverdue region s) u).gd = s.gd := by
  unfold execSelftestOverdue
  simp

@[simp] theorem execRejoinSelftestDone_gd (passed : Bool) (s : State) (u : State) : (landing (execRejoinSelftestDone passed s) u).gd = s.gd := by
  unfold execRejoinSelftestDone
  simp

@[simp] theorem execDebugAttach_gd (region : Nat) (s : State) (u : State) : (landing (execDebugAttach region s) u).gd = s.gd := by
  unfold execDebugAttach
  simp

end Sys2Proof.Machine
end

