-- ==== Sys2Proof/Laws/Safe.lean ====
section
/-!
SUPPORT. What the replies of a VC change: the command front end, and what a record changes; what Mantle's new seals change; and what
entering SAFE leaves in the state.
-/
namespace Sys2Proof.Machine

theorem repliedOnly_refl (s : State) : repliedOnly s s := rfl
theorem repliedOnly_trans {s t u : State} (h : repliedOnly s t) (k : repliedOnly t u) : repliedOnly s u := by
  unfold repliedOnly at *
  rw [k, h]
theorem repliedOnly_of_recordedOnly {s t : State} (h : recordedOnly s t) : repliedOnly s t := by
  unfold repliedOnly
  unfold recordedOnly at h
  rw [h]
theorem cmd_repliedOnly (s : State) (c : Cmd) : repliedOnly s { s with cmd := c } := rfl
theorem outPush_repliedOnly (host : Nat) (nc : Bool) (r : List Byte) (s : State) : repliedOnly s (outPush host nc r s) := by
  unfold outPush
  dsimp only
  split
  · exact repliedOnly_of_recordedOnly (note_recordedOnly ..)
  · split
    · rfl
    · exact cmd_repliedOnly ..
theorem writeRbuf_repliedOnly (r : List Byte) (s : State) : repliedOnly s (writeRbuf r s) := cmd_repliedOnly ..
theorem recordCommand_recordedOnly (t : Nat) (g : Tag) (r : List Byte) (s : State) : recordedOnly s (recordCommand t g r s) := by
  unfold recordCommand
  split
  · rfl
  · exact evr_recordedOnly ..
theorem storeReply_repliedOnly (r : List Byte) (s : State) : repliedOnly s (storeReply r s) := by
  unfold storeReply
  dsimp only
  have h : repliedOnly s (outPush (s.tag (byteAt r 5)).host false r (s.setReg Reg.CMD_RSTAT (word (2 ^ 31 + byteAt r 5)))) :=
    repliedOnly_trans (repliedOnly_of_recordedOnly (setReg_recordedOnly ..)) (outPush_repliedOnly ..)
  split
  · exact repliedOnly_trans h (repliedOnly_trans (repliedOnly_of_recordedOnly (recordCommand_recordedOnly ..))
      (repliedOnly_trans (cmd_repliedOnly ..) (repliedOnly_trans (cmd_repliedOnly ..) (cmd_repliedOnly ..))))
  · exact repliedOnly_trans h (repliedOnly_trans (cmd_repliedOnly ..) (cmd_repliedOnly ..))
theorem foldl_repliedOnly {β : Type} (l : List β) (f : State → β → State) (s : State) (h : ∀ s b, repliedOnly s (f s b)) :
    repliedOnly s (l.foldl f s) := by
  induction l generalizing s with
  | nil => rfl
  | cons b l ih => exact repliedOnly_trans (h s b) (ih _)
theorem abortAll_repliedOnly (c : Nat) (s : State) : repliedOnly s (abortAll c s) := by
  unfold abortAll
  refine foldl_repliedOnly _ _ _ fun s b => ?_
  dsimp only
  split
  · exact repliedOnly_trans (writeRbuf_repliedOnly ..) (storeReply_repliedOnly ..)
  · rfl
theorem clearReady_repliedOnly (s : State) : repliedOnly s (clearReady s) := by
  unfold clearReady
  refine foldl_repliedOnly _ _ _ fun s b => ?_
  split <;> rfl

theorem repliedOnly_sys {s t : State} (h : repliedOnly s t) : t.sys = s.sys := by rw [h]
theorem repliedOnly_vau {s t : State} (h : repliedOnly s t) : t.vau = s.vau := by rw [h]
theorem repliedOnly_mnt {s t : State} (h : repliedOnly s t) : t.mnt = s.mnt := by rw [h]
theorem repliedOnly_ite {s t : State} (h : repliedOnly s t) : t.ite = s.ite := by rw [h]
theorem repliedOnly_crd {s t : State} (h : repliedOnly s t) : t.crd = s.crd := by rw [h]
theorem repliedOnly_lend {s t : State} (h : repliedOnly s t) : t.lend = s.lend := by rw [h]
theorem repliedOnly_pds {s t : State} (h : repliedOnly s t) : t.pds = s.pds := by rw [h]
theorem repliedOnly_dsu {s t : State} (h : repliedOnly s t) : t.dsu = s.dsu := by rw [h]
theorem repliedOnly_dbc {s t : State} (h : repliedOnly s t) : t.dbc = s.dbc := by rw [h]
theorem repliedOnly_sni {s t : State} (h : repliedOnly s t) : t.sni = s.sni := by rw [h]
theorem repliedOnly_rt {s t : State} (h : repliedOnly s t) : t.rt = s.rt := by rw [h]
theorem repliedOnly_fio {s t : State} (h : repliedOnly s t) : t.fio = s.fio := by rw [h]
theorem repliedOnly_cvu {s t : State} (h : repliedOnly s t) : t.cvu = s.cvu := by rw [h]
theorem repliedOnly_mbx {s t : State} (h : repliedOnly s t) : t.mbx = s.mbx := by rw [h]
theorem repliedOnly_pcl {s t : State} (h : repliedOnly s t) : t.pcl = s.pcl := by rw [h]
theorem repliedOnly_sui {s t : State} (h : repliedOnly s t) : t.sui = s.sui := by rw [h]
theorem repliedOnly_obs {s t : State} (h : repliedOnly s t) : t.obs = s.obs := by rw [h]
theorem repliedOnly_conf {s t : State} (h : repliedOnly s t) : t.conf = s.conf := by rw [h]
theorem repliedOnly_jnl {s t : State} (h : repliedOnly s t) : t.jnl = s.jnl := by rw [h]
theorem repliedOnly_hi {s t : State} (h : repliedOnly s t) : t.hi = s.hi := by rw [h]
theorem repliedOnly_gd {s t : State} (h : repliedOnly s t) : t.gd = s.gd := by rw [h]
theorem repliedOnly_sram {s t : State} (h : repliedOnly s t) : t.sram = s.sram := by rw [h]
theorem repliedOnly_pending {s t : State} (h : repliedOnly s t) : t.pending = s.pending := by rw [h]
theorem repliedOnly_freeCtr {s t : State} (h : repliedOnly s t) : t.freeCtr = s.freeCtr := by rw [h]

/-! Mantle's new seals (R124, R125). -/
theorem sealedOnly_refl (s : State) : sealedOnly s s := rfl
theorem sealedOnly_trans {s t u : State} (h : sealedOnly s t) (k : sealedOnly t u) : sealedOnly s u := by
  unfold sealedOnly at *
  rw [k, h]
theorem sealedOnly_of_recordedOnly {s t : State} (h : recordedOnly s t) : sealedOnly s t := by
  unfold sealedOnly
  unfold recordedOnly at h
  rw [h]
theorem sealedOnly_mnt {s t : State} (h : sealedOnly s t) :
    t.mnt = { s.mnt with sealCount := t.mnt.sealCount, maskNoted := t.mnt.maskNoted } := by rw [h]
theorem sealedOnly_sys {s t : State} (h : sealedOnly s t) : t.sys = s.sys := by rw [h]
theorem sealedOnly_vau {s t : State} (h : sealedOnly s t) : t.vau = s.vau := by rw [h]
theorem sealedOnly_ite {s t : State} (h : sealedOnly s t) : t.ite = s.ite := by rw [h]
theorem sealedOnly_crd {s t : State} (h : sealedOnly s t) : t.crd = s.crd := by rw [h]
theorem sealedOnly_lend {s t : State} (h : sealedOnly s t) : t.lend = s.lend := by rw [h]
theorem sealedOnly_pds {s t : State} (h : sealedOnly s t) : t.pds = s.pds := by rw [h]
theorem sealedOnly_dsu {s t : State} (h : sealedOnly s t) : t.dsu = s.dsu := by rw [h]
theorem sealedOnly_dbc {s t : State} (h : sealedOnly s t) : t.dbc = s.dbc := by rw [h]
theorem sealedOnly_sni {s t : State} (h : sealedOnly s t) : t.sni = s.sni := by rw [h]
theorem sealedOnly_cmd {s t : State} (h : sealedOnly s t) : t.cmd = s.cmd := by rw [h]
theorem sealedOnly_rt {s t : State} (h : sealedOnly s t) : t.rt = s.rt := by rw [h]
theorem sealedOnly_fio {s t : State} (h : sealedOnly s t) : t.fio = s.fio := by rw [h]
theorem sealedOnly_cvu {s t : State} (h : sealedOnly s t) : t.cvu = s.cvu := by rw [h]
theorem sealedOnly_mbx {s t : State} (h : sealedOnly s t) : t.mbx = s.mbx := by rw [h]
theorem sealedOnly_pcl {s t : State} (h : sealedOnly s t) : t.pcl = s.pcl := by rw [h]
theorem sealedOnly_sui {s t : State} (h : sealedOnly s t) : t.sui = s.sui := by rw [h]
theorem sealedOnly_obs {s t : State} (h : sealedOnly s t) : t.obs = s.obs := by rw [h]
theorem sealedOnly_conf {s t : State} (h : sealedOnly s t) : t.conf = s.conf := by rw [h]
theorem sealedOnly_jnl {s t : State} (h : sealedOnly s t) : t.jnl = s.jnl := by rw [h]
theorem sealedOnly_hi {s t : State} (h : sealedOnly s t) : t.hi = s.hi := by rw [h]
theorem sealedOnly_gd {s t : State} (h : sealedOnly s t) : t.gd = s.gd := by rw [h]
theorem sealedOnly_sram {s t : State} (h : sealedOnly s t) : t.sram = s.sram := by rw [h]
theorem sealedOnly_pending {s t : State} (h : sealedOnly s t) : t.pending = s.pending := by rw [h]
theorem sealedOnly_freeCtr {s t : State} (h : sealedOnly s t) : t.freeCtr = s.freeCtr := by rw [h]
theorem countMasked_sealedOnly (n : Nat) (s : State) : sealedOnly s (countMasked n s) := by
  unfold countMasked
  split
  · rfl
  · have h : sealedOnly s { s with mnt := { s.mnt with sealCount := word (min 0xFFFFFFFF (s.mnt.sealCount.toNat + n)), maskNoted := true } } := rfl
    exact sealedOnly_trans h (sealedOnly_of_recordedOnly (noteIf_recordedOnly ..))
theorem sealBus_recordedOnly (b : Nat) (s : State) : recordedOnly s (sealBus b s) := rfl
theorem resealBus_sealedOnly (b : Nat) (s : State) : sealedOnly s (resealBus b s) :=
  sealedOnly_trans (sealedOnly_of_recordedOnly (sealBus_recordedOnly b s)) (countMasked_sealedOnly ..)
theorem foldl_sealedOnly {β : Type} (l : List β) (f : State → β → State) (s : State) (h : ∀ s b, sealedOnly s (f s b)) :
    sealedOnly s (l.foldl f s) := by
  induction l generalizing s with
  | nil => rfl
  | cons b l ih => exact sealedOnly_trans (h s b) (ih _)

/-- A withdrawal's reseals. -/
theorem resealAfter_sealedOnly (m : Mnt) (s : State) : sealedOnly s (resealAfter m s) := by
  unfold resealAfter
  dsimp only
  split
  · rfl
  · refine foldl_sealedOnly _ _ _ fun s b => ?_
    split
    · exact resealBus_sealedOnly ..
    · rfl
@[simp] theorem resealAfter_sys (m : Mnt) (s : State) : (resealAfter m s).sys = s.sys := sealedOnly_sys (resealAfter_sealedOnly m s)
@[simp] theorem resealAfter_vau (m : Mnt) (s : State) : (resealAfter m s).vau = s.vau := sealedOnly_vau (resealAfter_sealedOnly m s)
@[simp] theorem resealAfter_ite (m : Mnt) (s : State) : (resealAfter m s).ite = s.ite := sealedOnly_ite (resealAfter_sealedOnly m s)
@[simp] theorem resealAfter_crd (m : Mnt) (s : State) : (resealAfter m s).crd = s.crd := sealedOnly_crd (resealAfter_sealedOnly m s)
@[simp] theorem resealAfter_lend (m : Mnt) (s : State) : (resealAfter m s).lend = s.lend := sealedOnly_lend (resealAfter_sealedOnly m s)
@[simp] theorem resealAfter_pds (m : Mnt) (s : State) : (resealAfter m s).pds = s.pds := sealedOnly_pds (resealAfter_sealedOnly m s)
@[simp] theorem resealAfter_dsu (m : Mnt) (s : State) : (resealAfter m s).dsu = s.dsu := sealedOnly_dsu (resealAfter_sealedOnly m s)
@[simp] theorem resealAfter_dbc (m : Mnt) (s : State) : (resealAfter m s).dbc = s.dbc := sealedOnly_dbc (resealAfter_sealedOnly m s)
@[simp] theorem resealAfter_sni (m : Mnt) (s : State) : (resealAfter m s).sni = s.sni := sealedOnly_sni (resealAfter_sealedOnly m s)
@[simp] theorem resealAfter_cmd (m : Mnt) (s : State) : (resealAfter m s).cmd = s.cmd := sealedOnly_cmd (resealAfter_sealedOnly m s)
@[simp] theorem resealAfter_rt (m : Mnt) (s : State) : (resealAfter m s).rt = s.rt := sealedOnly_rt (resealAfter_sealedOnly m s)
@[simp] theorem resealAfter_fio (m : Mnt) (s : State) : (resealAfter m s).fio = s.fio := sealedOnly_fio (resealAfter_sealedOnly m s)
@[simp] theorem resealAfter_cvu (m : Mnt) (s : State) : (resealAfter m s).cvu = s.cvu := sealedOnly_cvu (resealAfter_sealedOnly m s)
@[simp] theorem resealAfter_mbx (m : Mnt) (s : State) : (resealAfter m s).mbx = s.mbx := sealedOnly_mbx (resealAfter_sealedOnly m s)
@[simp] theorem resealAfter_pcl (m : Mnt) (s : State) : (resealAfter m s).pcl = s.pcl := sealedOnly_pcl (resealAfter_sealedOnly m s)
@[simp] theorem resealAfter_sui (m : Mnt) (s : State) : (resealAfter m s).sui = s.sui := sealedOnly_sui (resealAfter_sealedOnly m s)
@[simp] theorem resealAfter_obs (m : Mnt) (s : State) : (resealAfter m s).obs = s.obs := sealedOnly_obs (resealAfter_sealedOnly m s)
@[simp] theorem resealAfter_conf (m : Mnt) (s : State) : (resealAfter m s).conf = s.conf := sealedOnly_conf (resealAfter_sealedOnly m s)
@[simp] theorem resealAfter_jnl (m : Mnt) (s : State) : (resealAfter m s).jnl = s.jnl := sealedOnly_jnl (resealAfter_sealedOnly m s)
@[simp] theorem resealAfter_hi (m : Mnt) (s : State) : (resealAfter m s).hi = s.hi := sealedOnly_hi (resealAfter_sealedOnly m s)
@[simp] theorem resealAfter_gdRam (m : Mnt) (s : State) : (resealAfter m s).gd = s.gd := sealedOnly_gd (resealAfter_sealedOnly m s)
@[simp] theorem resealAfter_sram (m : Mnt) (s : State) : (resealAfter m s).sram = s.sram := sealedOnly_sram (resealAfter_sealedOnly m s)
@[simp] theorem resealAfter_queue (m : Mnt) (s : State) : (resealAfter m s).pending = s.pending := sealedOnly_pending (resealAfter_sealedOnly m s)
@[simp] theorem resealAfter_freeCtr (m : Mnt) (s : State) : (resealAfter m s).freeCtr = s.freeCtr := sealedOnly_freeCtr (resealAfter_sealedOnly m s)

theorem cancel_st (d : Dbc) : d.cancel.st = d.st := rfl

theorem toSafe_st (v : Word) (d : Dbc) : (d.toSafe v).st ≠ .master ∧ (d.toSafe v).st ≠ .backup ∧ (d.toSafe v).st ≠ .listen := by
  unfold Dbc.toSafe
  split <;> simp_all

/-- An update of every key of a list, each once. -/
theorem get_foldl_upd {α : Type} [Inhabited α] [DecidableEq α] (f : α → α) (l : List Nat) (h : l.Nodup) (t : Tbl α) (k : Nat) :
    Tbl.get (l.foldl (fun t e => Tbl.upd t e f) t) k = if k ∈ l then f (Tbl.get t k) else Tbl.get t k := by
  induction l generalizing t with
  | nil => simp
  | cons a l ih =>
    obtain ⟨ha, hl⟩ := List.nodup_cons.1 h
    rw [List.foldl_cons, ih hl, Tbl.get_upd]
    by_cases e : a = k
    · subst e
      simp [ha]
    · have : k ≠ a := fun x => e x.symm
      simp [e, this]

/-- What entering `SAFE` leaves. -/
theorem enterSafe_enteredSafe (code : Nat) (m : Bool) (s : State) :
    enteredSafe (word (bit m * 2 ^ 16 + code % 65536)) s (enterSafe code m s) := by
  unfold enterSafe
  dsimp only
  generalize hr : resealAfter s.mnt _ = r
  have k := resealAfter_sealedOnly s.mnt { s with
      sys := { s.sys with state := .safe, safeCycles := 3 }
      mnt := safeMantle s.mnt, fio := fioOff s.fio, dsu := enablesOff s.dsu
      dbc := (List.range 8).foldl (fun t b => Tbl.upd t b (Dbc.toSafe s.sys.vcn)) s.dbc }
  rw [hr] at k
  have ks := sealedOnly_sys k
  have km : r.mnt.tvec = (safeMantle s.mnt).tvec ∧ r.mnt.ga = 0 ∧ r.mnt.sa = 0 ∧ r.mnt.da = 0 := by
    rw [sealedOnly_mnt k]
    exact ⟨rfl, rfl, rfl, rfl⟩
  have kf := sealedOnly_fio k
  have kd := sealedOnly_dsu k
  have kb := sealedOnly_dbc k
  generalize hu : abortAll code _ = u
  have h : repliedOnly r u := by
    rw [← hu]
    refine repliedOnly_trans ?_ (abortAll_repliedOnly ..)
    split
    · exact clearReady_repliedOnly _
    · exact repliedOnly_refl _
  refine ⟨by simp [repliedOnly_sys h, ks], ?_, ?_, by simp [repliedOnly_sys h, ks], ?_⟩
  · rw [State.reg_setReg_ne _ _ (by decide), State.reg_setReg_same]
  · rw [State.reg_setReg_same, repliedOnly_sys h, ks]
  · refine ⟨by simp [repliedOnly_mnt h, km, safeMantle], by simp [repliedOnly_mnt h, km], by simp [repliedOnly_mnt h, km],
      by simp [repliedOnly_mnt h, km], by simp [repliedOnly_fio h, kf, fioOff], by simp [repliedOnly_fio h, kf, fioOff],
      by simp [repliedOnly_fio h, kf, fioOff], by simp [repliedOnly_fio h, kf, fioOff], ?_, ?_, ?_⟩
    · simp only [State.setReg_fio, repliedOnly_fio h, kf, fioOff]
      intro k
      simp [k]
    · intro e he
      simp only [State.edge, State.setReg_dsu, repliedOnly_dsu h, kd, enablesOff]
      rw [get_foldl_upd _ _ List.nodup_range]
      simp [he]
    · intro b hb
      simp only [State.bus, State.setReg_dbc, repliedOnly_dbc h, kb]
      rw [get_foldl_upd _ _ List.nodup_range]
      simp only [List.mem_range, hb, if_true]
      exact toSafe_st ..

/-- A class S reaction in a state in which the runtime works on the railway. -/
theorem safeOn_enteredSafe (code : Nat) (m : Bool) (s : State) (h : s.live = true) :
    enteredSafe (word (bit m * 2 ^ 16 + code % 65536)) s (safeOn code m s) := by
  unfold State.live at h
  unfold safeOn
  cases e : s.sys.state <;> rw [e] at h <;> first | exact absurd h (by decide) | skip
  all_goals exact enterSafe_enteredSafe ..

/-- A class S fault in a state in which the runtime works on the railway. -/
theorem raiseSAt_enteredSafe (off code obj val : Nat) (s : State) (h : s.live = true) :
    enteredSafe (word (code % 65536)) s (raiseSAt off code obj val s) := by
  have l : (noteAt off code obj val s).live = true := by
    unfold State.live at *
    rw [noteAt_sys]
    exact h
  obtain ⟨a, b, c, d, e⟩ := safeOn_enteredSafe code false (noteAt off code obj val s) l
  refine ⟨a, ?_, ?_, d, e⟩
  · rw [show code % 65536 = bit false * 2 ^ 16 + code % 65536 by simp [bit]]
    exact b
  · rw [← noteAt_sys off code obj val s]
    exact c

theorem raiseS_enteredSafe (code obj val : Nat) (s : State) (h : s.live = true) :
    enteredSafe (word (code % 65536)) s (raiseS code obj val s) := raiseSAt_enteredSafe 0 code obj val s h

end Sys2Proof.Machine
end

