-- ==== Sys2Proof/Laws/Start.lean ====
section
/-!
SUPPORT. What a reset keeps and what it leaves at its reset value; what the door buses' following of the module state changes.
-/
namespace Sys2Proof.Machine

theorem evrStart_recordedOnly (s : State) : recordedOnly s (evrStart s) := by
  unfold evrStart
  dsimp only
  refine recordedOnly_trans ?_ (noteIf_recordedOnly ..)
  refine recordedOnly_trans ?_ (noteIf_recordedOnly ..)
  rfl

/-- A reset changes the state kept over it by EVR's start alone. -/
theorem moduleReset_recordedOnly (c : Nat) (s : State) : recordedOnly (resetKeep s) (moduleReset c s) :=
  recordedOnly_trans (setReg_recordedOnly (resetKeep s) Reg.SYS_RESET_CAUSE (word c)) (evrStart_recordedOnly _)

theorem moduleReset_sys (c : Nat) (s : State) : (moduleReset c s).sys = (resetKeep s).sys := recordedOnly_sys (moduleReset_recordedOnly c s)

theorem resetKeep_resetFrom (s : State) : resetFrom s (resetKeep s) := by
  unfold resetFrom
  refine ⟨rfl, rfl, rfl, rfl, rfl, rfl, rfl, rfl, rfl, rfl, rfl, rfl, rfl, rfl, rfl, rfl, rfl⟩

theorem moduleReset_resetFrom (c : Nat) (s : State) : resetFrom s (moduleReset c s) := by
  have h := moduleReset_recordedOnly c s
  have a := resetKeep_resetFrom s
  unfold resetFrom at a ⊢
  rw [recordedOnly_sys h, recordedOnly_gd h, recordedOnly_sram h, recordedOnly_mnt h, recordedOnly_crd h, recordedOnly_dsu h, recordedOnly_rt h,
    recordedOnly_sui h, recordedOnly_pending h]
  exact a

theorem resetFrom_congr {s u t : State} (hm : u.mnt = s.mnt) (hf : u.sys.maintFlag = s.sys.maintFlag) (he : u.sys.epoch = s.sys.epoch)
    (hu : u.sui = s.sui) (hp : u.pending = s.pending) (h : resetFrom u t) : resetFrom s t := by
  unfold resetFrom at h ⊢
  rw [hm, hf, he, hu, hp] at h
  exact h

theorem restart_resetFrom (c : Nat) (s : State) : resetFrom s (restart c s) := by
  unfold restart
  refine resetFrom_congr (u := { s with sys := { s.sys with hold := .none } }) ?_ ?_ ?_ ?_ ?_ (moduleReset_resetFrom c _) <;> rfl

theorem foldl_setBus (l : List Nat) (f : Nat → State → State) (hf : ∀ b s, f b s = { s with dbc := (f b s).dbc }) (s : State) :
    l.foldl (fun s b => f b s) s = { s with dbc := (l.foldl (fun s b => f b s) s).dbc } := by
  induction l generalizing s with
  | nil => rfl
  | cons b l ih =>
    rw [List.foldl_cons, ih, hf b s]

/-- The door buses alone follow a change of the module state. -/
theorem busesFollow_eq (a b : ModState) (s : State) : busesFollow a b s = { s with dbc := (busesFollow a b s).dbc } := by
  unfold busesFollow
  exact foldl_setBus _ _ (fun _ _ => rfl) s
@[simp] theorem busesFollow_sys (a b : ModState) (s : State) : (busesFollow a b s).sys = s.sys := by rw [busesFollow_eq]
@[simp] theorem busesFollow_vau (a b : ModState) (s : State) : (busesFollow a b s).vau = s.vau := by rw [busesFollow_eq]
@[simp] theorem busesFollow_mnt (a b : ModState) (s : State) : (busesFollow a b s).mnt = s.mnt := by rw [busesFollow_eq]
@[simp] theorem busesFollow_ite (a b : ModState) (s : State) : (busesFollow a b s).ite = s.ite := by rw [busesFollow_eq]
@[simp] theorem busesFollow_crd (a b : ModState) (s : State) : (busesFollow a b s).crd = s.crd := by rw [busesFollow_eq]
@[simp] theorem busesFollow_lend (a b : ModState) (s : State) : (busesFollow a b s).lend = s.lend := by rw [busesFollow_eq]
@[simp] theorem busesFollow_pds (a b : ModState) (s : State) : (busesFollow a b s).pds = s.pds := by rw [busesFollow_eq]
@[simp] theorem busesFollow_dsu (a b : ModState) (s : State) : (busesFollow a b s).dsu = s.dsu := by rw [busesFollow_eq]
@[simp] theorem busesFollow_sni (a b : ModState) (s : State) : (busesFollow a b s).sni = s.sni := by rw [busesFollow_eq]
@[simp] theorem busesFollow_cmd (a b : ModState) (s : State) : (busesFollow a b s).cmd = s.cmd := by rw [busesFollow_eq]
@[simp] theorem busesFollow_rt (a b : ModState) (s : State) : (busesFollow a b s).rt = s.rt := by rw [busesFollow_eq]
@[simp] theorem busesFollow_fio (a b : ModState) (s : State) : (busesFollow a b s).fio = s.fio := by rw [busesFollow_eq]
@[simp] theorem busesFollow_cvu (a b : ModState) (s : State) : (busesFollow a b s).cvu = s.cvu := by rw [busesFollow_eq]
@[simp] theorem busesFollow_mbx (a b : ModState) (s : State) : (busesFollow a b s).mbx = s.mbx := by rw [busesFollow_eq]
@[simp] theorem busesFollow_pcl (a b : ModState) (s : State) : (busesFollow a b s).pcl = s.pcl := by rw [busesFollow_eq]
@[simp] theorem busesFollow_sui (a b : ModState) (s : State) : (busesFollow a b s).sui = s.sui := by rw [busesFollow_eq]
@[simp] theorem busesFollow_obs (a b : ModState) (s : State) : (busesFollow a b s).obs = s.obs := by rw [busesFollow_eq]
@[simp] theorem busesFollow_conf (a b : ModState) (s : State) : (busesFollow a b s).conf = s.conf := by rw [busesFollow_eq]
@[simp] theorem busesFollow_evr (a b : ModState) (s : State) : (busesFollow a b s).evr = s.evr := by rw [busesFollow_eq]
@[simp] theorem busesFollow_jnl (a b : ModState) (s : State) : (busesFollow a b s).jnl = s.jnl := by rw [busesFollow_eq]
@[simp] theorem busesFollow_regs (a b : ModState) (s : State) : (busesFollow a b s).regs = s.regs := by rw [busesFollow_eq]
@[simp] theorem busesFollow_hi (a b : ModState) (s : State) : (busesFollow a b s).hi = s.hi := by rw [busesFollow_eq]
@[simp] theorem busesFollow_mram (a b : ModState) (s : State) : (busesFollow a b s).mram = s.mram := by rw [busesFollow_eq]
@[simp] theorem busesFollow_sram (a b : ModState) (s : State) : (busesFollow a b s).sram = s.sram := by rw [busesFollow_eq]
@[simp] theorem busesFollow_freeCtr (a b : ModState) (s : State) : (busesFollow a b s).freeCtr = s.freeCtr := by rw [busesFollow_eq]
@[simp] theorem busesFollow_reg (a b : ModState) (s : State) (x : Nat) : (busesFollow a b s).reg x = s.reg x := by
  unfold State.reg
  rw [busesFollow_regs]
theorem foldl_sys {β : Type} (l : List β) (f : State → β → State) (s : State) (h : ∀ s b, (f s b).sys = s.sys) : (l.foldl f s).sys = s.sys := by
  induction l generalizing s with
  | nil => rfl
  | cons b l ih => rw [List.foldl_cons, ih, h]
@[simp] theorem mbNote_sys (n c : Nat) (s : State) : (mbNote n c s).sys = s.sys := by
  unfold mbNote
  simp
@[simp] theorem mbIrq_sys (n k p : Nat) (s : State) : (mbIrq n k p s).sys = s.sys := rfl
@[simp] theorem mbRxReset_sys (n : Nat) (s : State) : (mbRxReset n s).sys = s.sys := by
  unfold mbRxReset
  dsimp only
  split <;> simp
@[simp] theorem mbTxReset_sys (n : Nat) (s : State) : (mbTxReset n s).sys = s.sys := rfl
@[simp] theorem mbProcReset_sys (p : Nat) (s : State) : (mbProcReset p s).sys = s.sys := by
  unfold mbProcReset
  refine foldl_sys _ _ _ fun s b => ?_
  dsimp only
  (repeat' split) <;> simp

end Sys2Proof.Machine
end

