-- ==== Sys2Proof/Laws/Mantle.lean ====
section
/-!
SUPPORT. Mantle's operations: what a withdrawal, its safe state and a new seal leave.
-/
namespace Sys2Proof.Machine

theorem mWithdraw_sub (d : Bool) (m : Mnt) :
    (mWithdraw d m).ga &&& ~~~m.ga = 0 ∧ (mWithdraw d m).sa &&& ~~~m.sa = 0 ∧ (mWithdraw d m).da &&& ~~~m.da = 0 :=
  ⟨bitsOf_and_sub _ _, bitsOf_and_sub _ _, bitsOf_and_sub _ _⟩

@[simp] theorem mSafe_sys (c : Nat) (s : State) : (mSafe c s).sys = s.sys := by
  unfold mSafe
  split <;> rfl
@[simp] theorem mSafe_vau (c : Nat) (s : State) : (mSafe c s).vau = s.vau := by
  unfold mSafe
  split <;> rfl
@[simp] theorem mFault_sys (c : Nat) (s : State) : (mFault c s).sys = s.sys := by
  unfold mFault
  simp
@[simp] theorem mFault_vau (c : Nat) (s : State) : (mFault c s).vau = s.vau := by
  unfold mFault
  simp
@[simp] theorem mFault_st (c : Nat) (s : State) : (mFault c s).mnt.st = .msafe := by
  unfold mFault mSafe
  split
  · assumption
  · rfl
/-- Mantle's safe state withdraws every line. -/
theorem mFault_off (c : Nat) (s : State) (h : s.mnt.st ≠ .msafe) : (mFault c s).mnt.ga = 0 ∧ (mFault c s).mnt.sa = 0 ∧ (mFault c s).mnt.da = 0 := by
  unfold mFault mSafe
  rw [note_mnt, if_neg h]
  exact ⟨rfl, rfl, rfl⟩
@[simp] theorem heartbeatCheck_sys (received : Bool) (s : State) : (heartbeatCheck received s).sys = s.sys := by
  unfold heartbeatCheck
  dsimp only
  (repeat' split) <;> simp
@[simp] theorem heartbeatCheck_vau (received : Bool) (s : State) : (heartbeatCheck received s).vau = s.vau := by
  unfold heartbeatCheck
  dsimp only
  (repeat' split) <;> simp

end Sys2Proof.Machine
end

