-- ==== Sys2Proof/Laws/Memory.lean ====
section
/-!
SUPPORT. Every write to a memory keeps its canonical form, and the memories at reset have it.
-/
namespace Sys2Proof.Machine

theorem reset_mram_wf : Memory.wf State.reset.mram = true := rfl
theorem reset_gd_wf : Memory.wf State.reset.gd = true := rfl
theorem reset_sram_wf : Memory.wf State.reset.sram = true := rfl

/-- The one write to MRAM. -/
theorem mramPut_wf (off : Nat) (bs : List Byte) (s : State) (h : Memory.wf s.mram = true) : Memory.wf (s.mramPut off bs).mram = true :=
  Tbl.wf_setList _ _ _ h

/-- A series of writes to MRAM, as in a bulk copy or a clearing of the journal. -/
theorem foldl_mram_wf {β : Type} (l : List β) (f : State → β → State) (s : State) (h : Memory.wf s.mram = true)
    (hf : ∀ s b, Memory.wf s.mram = true → Memory.wf (f s b).mram = true) : Memory.wf (l.foldl f s).mram = true := by
  induction l generalizing s with
  | nil => exact h
  | cons b l ih => exact ih _ (hf s b h)

/-- A write through the map keeps the form of vital SRAM. -/
theorem memWrite_sram_put_wf (a : Nat) (bs : List Byte) (s : State) (h : Memory.wf s.sram = true) :
    Memory.wf (Tbl.setList s.sram (a - 0x10000000) bs) = true := Tbl.wf_setList _ _ _ h

/-- A write through the map, or by GD_RAM_WRITE, keeps the form of geographic data RAM. -/
theorem gd_put_wf (a : Nat) (bs : List Byte) (s : State) (h : Memory.wf s.gd = true) :
    Memory.wf (Tbl.setList s.gd a bs) = true := Tbl.wf_setList _ _ _ h

/-- What is loaded into an empty memory stands in canonical form. -/
theorem load_wf (bs : List Byte) : Memory.wf (Tbl.setList [] 0 bs) = true := Tbl.wf_setList _ _ _ rfl

theorem loadSlot_gd (s : State) : (loadSlot s).gd = Tbl.setList [] 0 ((partOf s.sui s.sui.running 3 5).take 0x200000) := by
  unfold loadSlot
  dsimp only

/-- A slot's load leaves geographic data RAM in canonical form whatever stood there. -/
theorem loadSlot_gd_wf (s : State) : Memory.wf (loadSlot s).gd = true := by
  rw [loadSlot_gd]
  exact load_wf _

end Sys2Proof.Machine
end

