-- ==== Sys2Proof/Laws/ModuleState.lean ====
section
/-!
SUPPORT. Which operations leave the module state (SYS_STATE.STATE), one lemma per operation.
-/
namespace Sys2Proof.Machine
set_option linter.all false

@[simp] theorem ite_state (c : Prop) [Decidable c] (a b : State) : (if c then a else b).sys.state = if c then a.sys.state else b.sys.state := by
  split <;> rfl

@[simp] theorem foldl_state {β : Type} (l : List β) (f : State → β → State) (s : State) (h : ∀ s b, (f s b).sys.state = s.sys.state) :
    (l.foldl f s).sys.state = s.sys.state := by
  induction l generalizing s with
  | nil => rfl
  | cons b l ih => rw [List.foldl_cons, ih, h]

theorem foldlFst_state {α β : Type} (l : List β) (f : State × α → β → State × α) (p : State × α) (h : ∀ p b, (f p b).1.sys.state = p.1.sys.state) :
    (l.foldl f p).1.sys.state = p.1.sys.state := by
  induction l generalizing p with
  | nil => rfl
  | cons b l ih => rw [List.foldl_cons, ih, h]

@[simp] theorem State.setReg_state (s : State) (a : Nat) (w : Word) : (State.setReg s a w).sys.state = s.sys.state := by
  unfold State.setReg
  simp

@[simp] theorem State.setRegF_state (s : State) (a hi lo v : Nat) : (State.setRegF s a hi lo v).sys.state = s.sys.state := by
  unfold State.setRegF
  simp

@[simp] theorem State.setRegB_state (s : State) (a i : Nat) (b : Bool) : (State.setRegB s a i b).sys.state = s.sys.state := by
  unfold State.setRegB
  simp

@[simp] theorem State.mramPut_state (s : State) (off : Nat) (bs : List Byte) : (State.mramPut s off bs).sys.state = s.sys.state := by
  unfold State.mramPut
  simp

@[simp] theorem State.takeFree_state (s : State) : (State.takeFree s).2.sys.state = s.sys.state := by
  unfold State.takeFree
  simp

@[simp] theorem putDual_state (base : Nat) (slotB : Bool) (w : Word) (s : State) : (putDual base slotB w s).sys.state = s.sys.state := by
  unfold putDual
  simp

@[simp] theorem timeCheckpoint_state (s : State) : (timeCheckpoint s).sys.state = s.sys.state := by
  unfold timeCheckpoint
  simp

@[simp] theorem nseqCheckpoint_state (s : State) : (nseqCheckpoint s).sys.state = s.sys.state := by
  unfold nseqCheckpoint
  simp

@[simp] theorem stageFit_state (ty : Nat) (body : List Byte) (s : State) : (stageFit ty body s).sys.state = s.sys.state := by
  unfold stageFit
  simp

@[simp] theorem stageLost_state (s : State) : (stageLost s).sys.state = s.sys.state := by
  unfold stageLost
  simp

@[simp] theorem stage_state (ty : Nat) (body : List Byte) (s : State) : (stage ty body s).1.sys.state = s.sys.state := by
  unfold stage
  try dsimp only
  (repeat' split) <;> simp

@[simp] theorem setEvent_state (code off : Nat) (s : State) : (setEvent code off s).sys.state = s.sys.state := by
  unfold setEvent
  (repeat' split) <;> simp

@[simp] theorem evrClose_state (s : State) : (evrClose s).1.sys.state = s.sys.state := by
  unfold evrClose
  try dsimp only
  (repeat' split) <;> simp

@[simp] theorem evrAllocate_state (r : LowReq) (s : State) : (evrAllocate r s).sys.state = s.sys.state := by
  unfold evrAllocate
  simp

@[simp] theorem evrRepeat_state (s : State) : (evrRepeat s).sys.state = s.sys.state := by
  unfold evrRepeat
  (repeat' split) <;> simp

@[simp] theorem evrTake_state (k : Nat) (r : LowReq) (s : State) : (evrTake k r s).sys.state = s.sys.state := by
  induction k generalizing r s with
  | zero => rfl
  | succ k ih =>
    unfold evrTake
    dsimp only
    (repeat' split) <;> simp [ih]

@[simp] theorem evrDrop_state (src : Nat) (s : State) : (evrDrop src s).sys.state = s.sys.state := by
  unfold evrDrop
  simp

@[simp] theorem evrAnnounce_state (src : Nat) (s : State) : (evrAnnounce src s).sys.state = s.sys.state := by
  unfold evrAnnounce
  simp

@[simp] theorem evrRequest_state (r : LowReq) (s : State) : (evrRequest r s).sys.state = s.sys.state := by
  unfold evrRequest
  simp

@[simp] theorem evrFlag_state (r : LowReq) (s : State) : (evrFlag r s).sys.state = s.sys.state := by
  unfold evrFlag
  simp

@[simp] theorem readFlags_state (s : State) : (readFlags s).sys.state = s.sys.state := by
  unfold readFlags
  simp

@[simp] theorem noteAt_state (off code obj val : Nat) (s : State) : (noteAt off code obj val s).sys.state = s.sys.state := by
  unfold noteAt
  simp

@[simp] theorem note_state (code obj val : Nat) (s : State) : (note code obj val s).sys.state = s.sys.state := by
  unfold note
  simp

@[simp] theorem noteIf_state (c : Bool) (code obj val : Nat) (s : State) : (noteIf c code obj val s).sys.state = s.sys.state := by
  unfold noteIf
  simp

@[simp] theorem setRegs_state (a : Nat) (ws : List Word) (s : State) : (setRegs a ws s).sys.state = s.sys.state := by
  unfold setRegs
  simp

@[simp] theorem postNand_state (ty : Nat) (body : List Byte) (s : State) : (postNand ty body s).sys.state = s.sys.state := by
  unfold postNand
  simp

@[simp] theorem recordLater_state (ty : Nat) (body : List Byte) (s : State) : (recordLater ty body s).sys.state = s.sys.state := by
  unfold recordLater
  simp

@[simp] theorem mSafe_state (code : Nat) (s : State) : (mSafe code s).sys.state = s.sys.state := by
  unfold mSafe
  simp

@[simp] theorem mFault_state (code : Nat) (s : State) : (mFault code s).sys.state = s.sys.state := by
  unfold mFault
  simp

@[simp] theorem heartbeatCheck_state (received : Bool) (s : State) : (heartbeatCheck received s).sys.state = s.sys.state := by
  unfold heartbeatCheck
  try dsimp only
  (repeat' split) <;> simp

@[simp] theorem sealBus_state (b : Nat) (s : State) : (sealBus b s).sys.state = s.sys.state := by
  unfold sealBus
  simp

@[simp] theorem countMasked_state (n : Nat) (s : State) : (countMasked n s).sys.state = s.sys.state := by
  unfold countMasked
  simp

@[simp] theorem resealBus_state (b : Nat) (s : State) : (resealBus b s).sys.state = s.sys.state := by
  unfold resealBus
  simp

@[simp] theorem resealAfter_state (before : Mnt) (s : State) : (resealAfter before s).sys.state = s.sys.state := by
  unfold resealAfter
  simp

@[simp] theorem State.setTag_state (s : State) (t : Nat) (g : Tag) : (State.setTag s t g).sys.state = s.sys.state := by
  unfold State.setTag
  simp

@[simp] theorem outPush_state (host : Nat) (noncons : Bool) (r : List Byte) (s : State) : (outPush host noncons r s).sys.state = s.sys.state := by
  unfold outPush
  simp

@[simp] theorem writeRbuf_state (r : List Byte) (s : State) : (writeRbuf r s).sys.state = s.sys.state := by
  unfold writeRbuf
  simp

@[simp] theorem recordCommand_state (t : Nat) (g : Tag) (r : List Byte) (s : State) : (recordCommand t g r s).sys.state = s.sys.state := by
  unfold recordCommand
  simp

@[simp] theorem tagDirty_state (t : Nat) (s : State) : (tagDirty t s).sys.state = s.sys.state := by
  unfold tagDirty
  simp

@[simp] theorem storeReply_state (r : List Byte) (s : State) : (storeReply r s).sys.state = s.sys.state := by
  unfold storeReply
  simp

@[simp] theorem abortAll_state (cause : Nat) (s : State) : (abortAll cause s).sys.state = s.sys.state := by
  unfold abortAll
  simp

@[simp] theorem State.setBus_state (s : State) (b : Nat) (d : Dbc) : (State.setBus s b d).sys.state = s.sys.state := by
  unfold State.setBus
  simp

@[simp] theorem busCancel_state (b : Nat) (s : State) : (busCancel b s).sys.state = s.sys.state := by
  unfold busCancel
  simp

@[simp] theorem clearReady_state (s : State) : (clearReady s).sys.state = s.sys.state := by
  unfold clearReady
  simp

@[simp] theorem State.setEdge_state (s : State) (e : Nat) (d : DEdge) : (State.setEdge s e d).sys.state = s.sys.state := by
  unfold State.setEdge
  simp

@[simp] theorem localSafeEdge_state (e code : Nat) (s : State) : (localSafeEdge e code s).sys.state = s.sys.state := by
  unfold localSafeEdge
  simp

@[simp] theorem raiseEdge_state (e code obj val : Nat) (s : State) : (raiseEdge e code obj val s).sys.state = s.sys.state := by
  unfold raiseEdge
  simp

@[simp] theorem obsAdd_state (inc : Nat → Nat → Nat) (s : State) : (obsAdd inc s).sys.state = s.sys.state := by
  unfold obsAdd
  simp

@[simp] theorem obsCount_state (i n : Nat) (s : State) : (obsCount i n s).sys.state = s.sys.state := by
  unfold obsCount
  simp

@[simp] theorem obsCountT_state (k i n : Nat) (s : State) : (obsCountT k i n s).sys.state = s.sys.state := by
  unfold obsCountT
  simp

@[simp] theorem obsRun_state (s : State) : (obsRun s).sys.state = s.sys.state := by
  unfold obsRun
  simp

@[simp] theorem pselWrite_state (k : Nat) (w : Word) (s : State) : (pselWrite k w s).sys.state = s.sys.state := by
  unfold pselWrite
  simp

@[simp] theorem ovfWrite_state (j : Nat) (w : Word) (s : State) : (ovfWrite j w s).sys.state = s.sys.state := by
  unfold ovfWrite
  simp

@[simp] theorem markWrite_state (w : Word) (s : State) : (markWrite w s).sys.state = s.sys.state := by
  unfold markWrite
  simp

@[simp] theorem tagDraw_state (s : State) : (tagDraw s).sys.state = s.sys.state := by
  unfold tagDraw
  simp

@[simp] theorem tagctlWrite_state (w : Word) (s : State) : (tagctlWrite w s).sys.state = s.sys.state := by
  unfold tagctlWrite
  simp

@[simp] theorem seedWrite_state (w : Word) (s : State) : (seedWrite w s).sys.state = s.sys.state := by
  unfold seedWrite
  simp

@[simp] theorem tagRetire_state (pc : Word) (slotClass issueSlot fetchToIssue issueToRetire stall : Nat) (s : State) : (tagRetire pc slotClass issueSlot fetchToIssue issueToRetire stall s).sys.state = s.sys.state := by
  unfold tagRetire
  simp

@[simp] theorem counterWrap_state (n : Nat) (s : State) : (counterWrap n s).sys.state = s.sys.state := by
  unfold counterWrap
  simp

@[simp] theorem linkSend_state (s : State) : (linkSend s).sys.state = s.sys.state := by
  unfold linkSend
  simp

@[simp] theorem segStart_state (s : State) : (segStart s).sys.state = s.sys.state := by
  unfold segStart
  simp

@[simp] theorem obsStart_state (s : State) : (obsStart s).sys.state = s.sys.state := by
  unfold obsStart
  simp

@[simp] theorem segmentLatch_state (s : State) : (segmentLatch s).sys.state = s.sys.state := by
  unfold segmentLatch
  simp

@[simp] theorem obsRejoin_state (k : Nat) (s : State) : (obsRejoin k s).sys.state = s.sys.state := by
  unfold obsRejoin
  simp

@[simp] theorem State.setLeaf_state (s : State) (l : Nat) (p : PLeaf) : (State.setLeaf s l p).sys.state = s.sys.state := by
  unfold State.setLeaf
  simp

@[simp] theorem onSlot_state (cB rB tB : Nat) (berth : Bool) (f : SlotConf → Word → Word → Word × Word) (s : State) (i : Nat) : (onSlot cB rB tB berth f s i).sys.state = s.sys.state := by
  unfold onSlot
  simp

@[simp] theorem onLeafSlots_state (l : Nat) (f : SlotConf → Word → Word → Word × Word) (s : State) : (onLeafSlots l f s).sys.state = s.sys.state := by
  unfold onLeafSlots
  simp

@[simp] theorem onBerthSlots_state (e : Nat) (f : SlotConf → Word → Word → Word × Word) (s : State) : (onBerthSlots e f s).sys.state = s.sys.state := by
  unfold onBerthSlots
  simp

@[simp] theorem leafTake_state (l trv : Nat) (vel : Int) (r : UnitRep) (s : State) : (leafTake l trv vel r s).sys.state = s.sys.state := by
  unfold leafTake
  simp

@[simp] theorem leafMissing_state (l : Nat) (s : State) : (leafMissing l s).sys.state = s.sys.state := by
  unfold leafMissing
  simp

@[simp] theorem unitIntake_state (u : Nat) (r : UnitRep) (due : Bool) (s : State) : (unitIntake u r due s).sys.state = s.sys.state := by
  unfold unitIntake
  simp

@[simp] theorem latchLeaves_state (s : State) : (latchLeaves s).sys.state = s.sys.state := by
  unfold latchLeaves
  simp

@[simp] theorem clearNew_state (s : State) : (clearNew s).sys.state = s.sys.state := by
  unfold clearNew
  simp

@[simp] theorem berthCompute_state (s : State) (e : Nat) : (berthCompute s e).sys.state = s.sys.state := by
  unfold berthCompute
  simp

@[simp] theorem slotPut_state (phaseOk berth : Bool) (i : Nat) (w : Word) (s : State) : (slotPut phaseOk berth i w s).sys.state = s.sys.state := by
  unfold slotPut
  simp

@[simp] theorem slotWrite_state (berth : Bool) (i : Nat) (w : Word) (s : State) : (slotWrite berth i w s).sys.state = s.sys.state := by
  unfold slotWrite
  simp

@[simp] theorem trackWrite_state (m : Nat) (w : Word) (s : State) : (trackWrite m w s).sys.state = s.sys.state := by
  unfold trackWrite
  simp

@[simp] theorem State.setDleaf_state (s : State) (l : Nat) (d : DLeaf) : (State.setDleaf s l d).sys.state = s.sys.state := by
  unfold State.setDleaf
  simp

@[simp] theorem dsuIntake_state (u : Nat) (r : UnitRep) (taken due : Bool) (s : State) : (dsuIntake u r taken due s).sys.state = s.sys.state := by
  unfold dsuIntake
  simp

@[simp] theorem dsuSlot_state (i : Nat) (w : Word) (arg : Nat) (s : State) : (dsuSlot i w arg s).sys.state = s.sys.state := by
  unfold dsuSlot
  simp

@[simp] theorem armFor_state (l : Nat) (st : LeafSt) (creep dirOpen : Bool) (s : State) : (armFor l st creep dirOpen s).sys.state = s.sys.state := by
  unfold armFor
  (repeat' split) <;> simp

@[simp] theorem enterLeaf_state (l : Nat) (st : LeafSt) (s : State) : (enterLeaf l st s).sys.state = s.sys.state := by
  unfold enterLeaf
  simp

@[simp] theorem updLeaf_state (l : Nat) (f : DLeaf → DLeaf) (s : State) : (updLeaf l f s).sys.state = s.sys.state := by
  unfold updLeaf
  simp

@[simp] theorem updEdge_state (e : Nat) (f : DEdge → DEdge) (s : State) : (updEdge e f s).sys.state = s.sys.state := by
  unfold updEdge
  simp

@[simp] theorem doorEvent_state (v : DoorEvent) (s : State) : (doorEvent v s).sys.state = s.sys.state := by
  unfold doorEvent
  simp

@[simp] theorem logReport_state (s : State) (l : Nat) : (logReport s l).sys.state = s.sys.state := by
  unfold logReport
  simp

@[simp] theorem logCycle_state (l endState : Nat) (s : State) : (logCycle l endState s).sys.state = s.sys.state := by
  unfold logCycle
  simp

@[simp] theorem abortCycle_state (l endState : Nat) (s : State) : (abortCycle l endState s).sys.state = s.sys.state := by
  unfold abortCycle
  simp

@[simp] theorem enterLocal_state (e code : Nat) (s : State) : (enterLocal e code s).sys.state = s.sys.state := by
  unfold enterLocal
  try dsimp only
  (repeat' split) <;>
    first | (simp; done) | (refine Eq.trans (foldl_state _ _ _ (fun s b => ?_)) ?_ <;> (repeat' split) <;> simp)

@[simp] theorem localCause_state (e code obj val : Nat) (s : State) : (localCause e code obj val s).sys.state = s.sys.state := by
  unfold localCause
  simp

@[simp] theorem setTracked_state (l : Nat) (b : Bool) (s : State) : (setTracked l b s).sys.state = s.sys.state := by
  unfold setTracked
  simp

@[simp] theorem startLeaf_state (s : State) (l : Nat) : (startLeaf s l).sys.state = s.sys.state := by
  unfold startLeaf
  simp

@[simp] theorem plunger_state (s : State) (e : Nat) : (plunger s e).sys.state = s.sys.state := by
  unfold plunger
  simp

@[simp] theorem stoInput_state (s : State) (u : Nat) : (stoInput s u).sys.state = s.sys.state := by
  unfold stoInput
  simp

@[simp] theorem creepCheck_state (s : State) (l : Nat) : (creepCheck s l).sys.state = s.sys.state := by
  unfold creepCheck
  simp

@[simp] theorem stepLocal_state (s : State) (e : Nat) : (stepLocal s e).sys.state = s.sys.state := by
  unfold stepLocal
  try dsimp only
  (repeat' split) <;> simp

@[simp] theorem rampFault_state (l code : Nat) (s : State) : (rampFault l code s).sys.state = s.sys.state := by
  unfold rampFault
  simp

@[simp] theorem stepRamp_state (s : State) (l : Nat) : (stepRamp s l).sys.state = s.sys.state := by
  unfold stepRamp
  simp

@[simp] theorem stopLeaf_state (unitLevel : Bool) (s : State) (l : Nat) : (stopLeaf unitLevel s l).sys.state = s.sys.state := by
  unfold stopLeaf
  simp

@[simp] theorem edgeStop_state (e code : Nat) (s : State) : (edgeStop e code s).sys.state = s.sys.state := by
  unfold edgeStop
  simp

@[simp] theorem stepStop_state (s : State) (e : Nat) : (stepStop s e).sys.state = s.sys.state := by
  unfold stepStop
  try dsimp only
  (repeat' split) <;> simp

@[simp] theorem setStoAtOnce_state (u : Nat) (b : Bool) (s : State) : (setStoAtOnce u b s).sys.state = s.sys.state := by
  unfold setStoAtOnce
  simp

@[simp] theorem faultAction_state (l : Nat) (s : State) : (faultAction l s).sys.state = s.sys.state := by
  unfold faultAction
  simp

@[simp] theorem leafFails_state (code l : Nat) (s : State) : (leafFails code l s).sys.state = s.sys.state := by
  unfold leafFails
  simp

@[simp] theorem stepFault_state (s : State) (l : Nat) : (stepFault s l).sys.state = s.sys.state := by
  unfold stepFault
  (repeat' split) <;> simp

@[simp] theorem leavesToClosing_state (e : Nat) (s : State) : (leavesToClosing e s).sys.state = s.sys.state := by
  unfold leavesToClosing
  try dsimp only
  (repeat' split) <;>
    first | (simp; done) | (refine Eq.trans (foldl_state _ _ _ (fun s b => ?_)) ?_ <;> (repeat' split) <;> simp)

@[simp] theorem edgeToClosing_state (e : Nat) (s : State) : (edgeToClosing e s).sys.state = s.sys.state := by
  unfold edgeToClosing
  simp

@[simp] theorem liftHolds_state (e : Nat) (s : State) : (liftHolds e s).sys.state = s.sys.state := by
  unfold liftHolds
  simp

@[simp] theorem leafRestore_state (l : Nat) (s : State) : (leafRestore l s).sys.state = s.sys.state := by
  unfold leafRestore
  simp

@[simp] theorem edgeOpen_state (e : Nat) (s : State) : (edgeOpen e s).sys.state = s.sys.state := by
  unfold edgeOpen
  simp

@[simp] theorem edgeCommand_state (e : Nat) (s : State) : (edgeCommand e s).1.sys.state = s.sys.state := by
  unfold edgeCommand
  try dsimp only
  (repeat' split) <;> simp

@[simp] theorem restorationRelease_state (e : Nat) (s : State) : (restorationRelease e s).sys.state = s.sys.state := by
  unfold restorationRelease
  try dsimp only
  (repeat' split) <;>
    first | (simp; done) | (refine Eq.trans (foldl_state _ _ _ (fun s b => ?_)) ?_ <;> (repeat' split) <;> simp)

@[simp] theorem stepCommand_state (s : State) (e : Nat) : (stepCommand s e).sys.state = s.sys.state := by
  unfold stepCommand
  dsimp only
  generalize hs : (if (s.edge e).st = EdgeSt.localSafe ∧ (s.edge e).restoring = true ∧ later s.sys.vcn (s.edge e).restVcn = true
    then restorationRelease e s else s) = s1
  have h1 : s1.sys.state = s.sys.state := by
    rw [← hs]
    split <;> simp
  have h2 := edgeCommand_state e s1
  split
  · exact h1
  · split <;> rename_i h <;> rw [h] at h2 <;> simp_all

@[simp] theorem leafCommand_state (s : State) (w : Word) : (leafCommand s w).sys.state = s.sys.state := by
  unfold leafCommand
  (repeat' split) <;> simp

@[simp] theorem closingLeaf_state (l : Nat) (s : State) : (closingLeaf l s).sys.state = s.sys.state := by
  unfold closingLeaf
  simp

@[simp] theorem stepLeaf_state (s : State) (l : Nat) : (stepLeaf s l).sys.state = s.sys.state := by
  unfold stepLeaf
  try dsimp only
  (repeat' split) <;> simp

@[simp] theorem provingDone_state (e : Nat) (s : State) : (provingDone e s).sys.state = s.sys.state := by
  unfold provingDone
  simp

@[simp] theorem edgeProve_state (e : Nat) (lt : Bool) (s : State) : (edgeProve e lt s).sys.state = s.sys.state := by
  unfold edgeProve
  try dsimp only
  (repeat' split) <;> simp

@[simp] theorem closeTimer_state (e : Nat) (s : State) : (closeTimer e s).sys.state = s.sys.state := by
  unfold closeTimer
  try dsimp only
  (repeat' split) <;> simp

@[simp] theorem stepEdge_state (s : State) (e : Nat) : (stepEdge s e).sys.state = s.sys.state := by
  unfold stepEdge
  simp

@[simp] theorem tokSet_state (i : Nat) (w : Word) (s : State) : (tokSet i w s).sys.state = s.sys.state := by
  unfold tokSet
  simp

@[simp] theorem acquireList_state (xs : List Nat) (h : Nat) (s : State) : (acquireList xs h s).1.sys.state = s.sys.state := by
  unfold acquireList
  (repeat' split) <;> simp

@[simp] theorem recount_state (s : State) : (recount s).sys.state = s.sys.state := by
  unfold recount
  simp

@[simp] theorem crdPerform_state (o : CrdOp) (s : State) : (crdPerform o s).1.sys.state = s.sys.state := by
  unfold crdPerform
  try dsimp only
  (repeat' split) <;> simp

@[simp] theorem crdDo_state (o : CrdOp) (s : State) : (crdDo o s).1.sys.state = s.sys.state := by
  unfold crdDo
  dsimp only
  rw [State.setReg_state, obsCount_state]
  dsimp only
  split <;> simp

@[simp] theorem crdWrite_state (o : CrdOp) (s : State) : (crdWrite o s).sys.state = s.sys.state := by
  unfold crdWrite
  simp

@[simp] theorem crdResume_state (s : State) : (crdResume s).sys.state = s.sys.state := by
  unfold crdResume
  simp

@[simp] theorem writeOpa_state (subj timer : Nat) (s : State) : (writeOpa subj timer s).sys.state = s.sys.state := by
  unfold writeOpa
  simp

@[simp] theorem crdRun_state (opc elem holder subj timer : Nat) (s : State) : (crdRun opc elem holder subj timer s).1.sys.state = s.sys.state := by
  unfold crdRun
  simp

@[simp] theorem loadTable_state (t : Tbl Word) (s : State) : (loadTable t s).sys.state = s.sys.state := by
  unfold loadTable
  simp

@[simp] theorem tokExpired_state (i : Nat) (s : State) : (tokExpired i s).sys.state = s.sys.state := by
  unfold tokExpired
  simp

@[simp] theorem tokTick_state (s : State) (i : Nat) : (tokTick s i).sys.state = s.sys.state := by
  unfold tokTick
  simp

@[simp] theorem tokTicks_state (s : State) : (tokTicks s).sys.state = s.sys.state := by
  unfold tokTicks
  simp

@[simp] theorem updBus_state (b : Nat) (f : Dbc → Dbc) (s : State) : (updBus b f s).sys.state = s.sys.state := by
  unfold updBus
  simp

@[simp] theorem noteBus_state (b code : Nat) (s : State) : (noteBus b code s).sys.state = s.sys.state := by
  unfold noteBus
  simp

@[simp] theorem busLocal_state (b code : Nat) (s : State) : (busLocal b code s).sys.state = s.sys.state := by
  unfold busLocal
  simp

@[simp] theorem countFd_state (b : Nat) (s : State) : (countFd b s).sys.state = s.sys.state := by
  unfold countFd
  simp

@[simp] theorem countOther_state (b : Nat) (s : State) : (countOther b s).sys.state = s.sys.state := by
  unfold countOther
  simp

@[simp] theorem countUnit_state (b u hi lo : Nat) (s : State) : (countUnit b u hi lo s).sys.state = s.sys.state := by
  unfold countUnit
  simp

@[simp] theorem send_state (k : FrameKind) (f : Frame) (b : Nat) (s : State) : (send k f b s).sys.state = s.sys.state := by
  unfold send
  simp

@[simp] theorem busesFollow_state (old new : ModState) (s : State) : (busesFollow old new s).sys.state = s.sys.state := by
  unfold busesFollow
  simp

@[simp] theorem busWakes_state (b : Nat) (s : State) : (busWakes b s).sys.state = s.sys.state := by
  unfold busWakes
  simp

@[simp] theorem sendWake_state (b : Nat) (s : State) : (sendWake b s).sys.state = s.sys.state := by
  unfold sendWake
  simp

@[simp] theorem busSleep_state (b : Nat) (s : State) : (busSleep b s).sys.state = s.sys.state := by
  unfold busSleep
  simp

@[simp] theorem sleepEnd_state (b : Nat) (s : State) : (sleepEnd b s).sys.state = s.sys.state := by
  unfold sleepEnd
  simp

@[simp] theorem errorPassive_state (b : Nat) (s : State) : (errorPassive b s).sys.state = s.sys.state := by
  unfold errorPassive
  simp

@[simp] theorem brokenNote_state (b : Nat) (s : State) : (brokenNote b s).sys.state = s.sys.state := by
  unfold brokenNote
  (repeat' split) <;> simp

@[simp] theorem busOff_state (b : Nat) (s : State) : (busOff b s).sys.state = s.sys.state := by
  unfold busOff
  simp

@[simp] theorem txError_state (b lec : Nat) (s : State) : (txError b lec s).sys.state = s.sys.state := by
  unfold txError
  simp

@[simp] theorem loopDelay_state (b tdcv : Nat) (s : State) : (loopDelay b tdcv s).sys.state = s.sys.state := by
  unfold loopDelay
  simp

@[simp] theorem errorActive_state (b : Nat) (s : State) : (errorActive b s).sys.state = s.sys.state := by
  unfold errorActive
  simp

@[simp] theorem txGood_state (b : Nat) (s : State) : (txGood b s).sys.state = s.sys.state := by
  unfold txGood
  simp

@[simp] theorem rxGood_state (b : Nat) (s : State) : (rxGood b s).sys.state = s.sys.state := by
  unfold rxGood
  simp

@[simp] theorem passiveEvent_state (b : Nat) (s : State) : (passiveEvent b s).sys.state = s.sys.state := by
  unfold passiveEvent
  simp

@[simp] theorem setUnack_state (b n : Nat) (s : State) : (setUnack b n s).sys.state = s.sys.state := by
  unfold setUnack
  simp

@[simp] theorem refUnacked_state (b : Nat) (s : State) : (refUnacked b s).sys.state = s.sys.state := by
  unfold refUnacked
  simp

@[simp] theorem refEnd_state (b result : Nat) (s : State) : (refEnd b result s).sys.state = s.sys.state := by
  unfold refEnd
  simp

@[simp] theorem txEnd_state (b result tdcv : Nat) (s : State) : (txEnd b result tdcv s).sys.state = s.sys.state := by
  unfold txEnd
  (repeat' split) <;> simp

@[simp] theorem reportRx_state (b u sof : Nat) (bs : List Byte) (s : State) : (reportRx b u sof bs s).sys.state = s.sys.state := by
  unfold reportRx
  simp

@[simp] theorem foreignRx_state (b id sof : Nat) (fd : Bool) (s : State) : (foreignRx b id sof fd s).sys.state = s.sys.state := by
  unfold foreignRx
  simp

@[simp] theorem busTurn_state (b : Nat) (s : State) : (busTurn b s).sys.state = s.sys.state := by
  unfold busTurn
  simp

@[simp] theorem cmdWatch_state (b : Nat) (s : State) : (cmdWatch b s).sys.state = s.sys.state := by
  unfold cmdWatch
  simp

@[simp] theorem sleepTurn_state (b : Nat) (s : State) : (sleepTurn b s).sys.state = s.sys.state := by
  unfold sleepTurn
  simp

@[simp] theorem snapRegs_state (b u : Nat) (r : UnitRep) (s : State) : (snapRegs b u r s).sys.state = s.sys.state := by
  unfold snapRegs
  simp

@[simp] theorem unitTurn_state (b : Nat) (s : State) (u : Nat) : (unitTurn b s u).sys.state = s.sys.state := by
  unfold unitTurn
  simp

@[simp] theorem reportsTurn_state (s : State) : (reportsTurn s).sys.state = s.sys.state := by
  unfold reportsTurn
  simp

@[simp] theorem busesTurn_state (s : State) : (busesTurn s).sys.state = s.sys.state := by
  unfold busesTurn
  simp

@[simp] theorem discStrobe_state (s : State) (i : Nat) : (discStrobe s i).sys.state = s.sys.state := by
  unfold discStrobe
  simp

@[simp] theorem fioGate_state (s : State) : (fioGate s).sys.state = s.sys.state := by
  unfold fioGate
  simp

@[simp] theorem commitNotes_state (w0 w1 : Word) (s : State) : (commitNotes w0 w1 s).sys.state = s.sys.state := by
  unfold commitNotes
  simp

@[simp] theorem groupEdges_state (gs : BitVec 12) (s : State) : (groupEdges gs s).sys.state = s.sys.state := by
  unfold groupEdges
  try dsimp only
  (repeat' split) <;>
    first | (simp; done) | (refine Eq.trans (foldl_state _ _ _ (fun s b => ?_)) ?_ <;> (repeat' split) <;> simp)

@[simp] theorem groupsLocalSafe_state (before : Word) (s : State) : (groupsLocalSafe before s).sys.state = s.sys.state := by
  unfold groupsLocalSafe
  try dsimp only
  (repeat' split) <;>
    first | (simp; done) | (refine Eq.trans (foldl_state _ _ _ (fun s b => ?_)) ?_ <;> (repeat' split) <;> simp)

@[simp] theorem discSet_state (i : Nat) (s : State) : (discSet i s).sys.state = s.sys.state := by
  unfold discSet
  simp

@[simp] theorem outputL_state (n code : Nat) (s : State) : (outputL n code s).sys.state = s.sys.state := by
  unfold outputL
  try dsimp only
  (repeat' split) <;> simp

@[simp] theorem detect_state (n det res code : Nat) (s : State) : (detect n det res code s).sys.state = s.sys.state := by
  unfold detect
  simp

@[simp] theorem recountCredits_state (s : State) : (recountCredits s).sys.state = s.sys.state := by
  unfold recountCredits
  simp

@[simp] theorem answer_state (p : Pkt) (status code : Nat) (results : List Byte) (s : State) : (answer p status code results s).sys.state = s.sys.state := by
  unfold answer
  simp

@[simp] theorem answerDuplicate_state (host tag : Nat) (s : State) : (answerDuplicate host tag s).sys.state = s.sys.state := by
  unfold answerDuplicate
  try dsimp only
  (repeat' split) <;> simp

@[simp] theorem consume_state (p : Pkt) (s : State) : (consume p s).sys.state = s.sys.state := by
  unfold consume
  simp

@[simp] theorem checkPacket_state (p : Pkt) (flags : Nat) (s : State) : (checkPacket p flags s).sys.state = s.sys.state := by
  unfold checkPacket
  (repeat' split) <;> simp

@[simp] theorem feedBody_state (k host : Nat) (body : List Byte) (s : State) : (feedBody k host body s).sys.state = s.sys.state := by
  induction k generalizing host body s with
  | zero => rfl
  | succ k ih =>
    unfold feedBody
    dsimp only
    (repeat' split) <;> simp [ih]

@[simp] theorem feedTelegram_state (host : Nat) (telegram : List Byte) (s : State) : (feedTelegram host telegram s).sys.state = s.sys.state := by
  unfold feedTelegram
  simp

theorem popHead_state (s t : State) (p : Pkt) (h : popHead s = some (p, t)) : t.sys.state = s.sys.state := by
  unfold popHead at h
  split at h
  · cases h
  · split at h
    · cases h
    · cases h
      rfl

@[simp] theorem markExt_state (s : State) : (markExt s).sys.state = s.sys.state := by
  unfold markExt
  simp

@[simp] theorem dropQueued_state (s : State) : (dropQueued s).sys.state = s.sys.state := by
  unfold dropQueued
  simp

@[simp] theorem dropHseq_state (host : Nat) (s : State) : (dropHseq host s).sys.state = s.sys.state := by
  unfold dropHseq
  simp

@[simp] theorem State.setUnitC_state (s : State) (n : Nat) (c : Cvu) : (State.setUnitC s n c).sys.state = s.sys.state := by
  unfold State.setUnitC
  simp

@[simp] theorem cvuNote_state (n code : Nat) (s : State) : (cvuNote n code s).sys.state = s.sys.state := by
  unfold cvuNote
  simp

@[simp] theorem free64_state (s : State) : (free64 s).2.sys.state = s.sys.state := by
  unfold free64
  simp

@[simp] theorem cvuDiscard_state (n : Nat) (s : State) : (cvuDiscard n s).sys.state = s.sys.state := by
  unfold cvuDiscard
  simp

@[simp] theorem cvuStart_state (n : Nat) (s : State) : (cvuStart n s).sys.state = s.sys.state := by
  unfold cvuStart
  simp

@[simp] theorem cvuByte_state (n : Nat) (s : State) (b : Byte) : (cvuByte n s b).sys.state = s.sys.state := by
  unfold cvuByte
  try dsimp only
  (repeat' split) <;> simp

@[simp] theorem cvuData_state (n len : Nat) (w : Word) (s : State) : (cvuData n len w s).sys.state = s.sys.state := by
  unfold cvuData
  simp

@[simp] theorem cvuAlive_state (n : Nat) (s : State) : (cvuAlive n s).sys.state = s.sys.state := by
  unfold cvuAlive
  simp

@[simp] theorem cvuFinish_state (n : Nat) (s : State) : (cvuFinish n s).sys.state = s.sys.state := by
  unfold cvuFinish
  try dsimp only
  (repeat' split) <;> simp

@[simp] theorem State.setCon_state (s : State) (c : Nat) (v : Conn) : (State.setCon s c v).sys.state = s.sys.state := by
  unfold State.setCon
  simp

@[simp] theorem updCon_state (c : Nat) (f : Conn → Conn) (s : State) : (updCon c f s).sys.state = s.sys.state := by
  unfold updCon
  simp

@[simp] theorem countDrop_state (portB : Bool) (s : State) : (countDrop portB s).sys.state = s.sys.state := by
  unfold countDrop
  simp

@[simp] theorem datagramRx_state (portB plain : Bool) (srcIp : Word) (srcPort : Nat) (dstIp : Word) (dstPort arr : Nat) (bs : List Byte) (s : State) : (datagramRx portB plain srcIp srcPort dstIp dstPort arr bs s).sys.state = s.sys.state := by
  unfold datagramRx
  (repeat' split) <;> simp

@[simp] theorem netSnapshot_state (s : State) : (netSnapshot s).sys.state = s.sys.state := by
  unfold netSnapshot
  simp

@[simp] theorem abResult_state (c r : Nat) (s : State) : (abResult c r s).sys.state = s.sys.state := by
  unfold abResult
  simp

@[simp] theorem abExpire_state (c : Nat) (s : State) : (abExpire c s).sys.state = s.sys.state := by
  unfold abExpire
  simp

@[simp] theorem conRecover_state (c : Nat) (s : State) : (conRecover c s).sys.state = s.sys.state := by
  unfold conRecover
  simp

@[simp] theorem partnerCopy_state (c : Nat) (portB : Bool) (s : State) : (partnerCopy c portB s).sys.state = s.sys.state := by
  unfold partnerCopy
  simp

@[simp] theorem setBase_state (c : Nat) (portB content : Bool) (bs : List Byte) (s : State) : (setBase c portB content bs s).sys.state = s.sys.state := by
  unfold setBase
  simp

@[simp] theorem heardCopy_state (c : Nat) (portB : Bool) (s : State) : (heardCopy c portB s).sys.state = s.sys.state := by
  unfold heardCopy
  simp

@[simp] theorem checkLater_state (c : Nat) (portB : Bool) (bs : List Byte) (s : State) : (checkLater c portB bs s).sys.state = s.sys.state := by
  unfold checkLater
  simp

@[simp] theorem checkCopy_state (portB : Bool) (s : State) (cp : RxCopy) : (checkCopy portB s cp).sys.state = s.sys.state := by
  unfold checkCopy
  try dsimp only
  (repeat' split) <;> simp

@[simp] theorem judgeFresh_state (c : Nat) (s : State) : (judgeFresh c s).sys.state = s.sys.state := by
  unfold judgeFresh
  simp

@[simp] theorem dropBase_state (c : Nat) (s : State) : (dropBase c s).sys.state = s.sys.state := by
  unfold dropBase
  simp

@[simp] theorem resync_state (c : Nat) (s : State) : (resync c s).sys.state = s.sys.state := by
  unfold resync
  try dsimp only
  (repeat' split) <;> simp

@[simp] theorem conTurn_state (s : State) (c : Nat) : (conTurn s c).sys.state = s.sys.state := by
  unfold conTurn
  simp

@[simp] theorem netRestored_state (portB : Bool) (s : State) : (netRestored portB s).sys.state = s.sys.state := by
  unfold netRestored
  simp

@[simp] theorem netsSilent_state (s : State) : (netsSilent s).sys.state = s.sys.state := by
  unfold netsSilent
  simp

@[simp] theorem slotReady_state (m c : Nat) (bs : List Byte) (s : State) : (slotReady m c bs s).sys.state = s.sys.state := by
  unfold slotReady
  simp

@[simp] theorem sealSlot_state (m : Nat) (s : State) : (sealSlot m s).sys.state = s.sys.state := by
  unfold sealSlot
  simp

@[simp] theorem release_state (s : State) : (release s).sys.state = s.sys.state := by
  unfold release
  simp

@[simp] theorem setEstate_state (s : State) (i v : Nat) : (setEstate s i v).sys.state = s.sys.state := by
  unfold setEstate
  simp

theorem evalOne_state (g : Nat → Bool) (s : State) (p : State × Bool) (n : Nat) : (evalOne g s p n).1.sys.state = p.1.sys.state := by
  unfold evalOne
  (repeat' split) <;> simp

@[simp] theorem evalEach_state (g : Nat → Bool) (s : State) : (evalEach g s).1.sys.state = s.sys.state := by
  unfold evalEach
  rw [foldlFst_state _ _ _ (evalOne_state g s)]

@[simp] theorem evalDone_state (digest clocks : Word) (count : Nat) (s : State) : (evalDone digest clocks count s).sys.state = s.sys.state := by
  unfold evalDone
  simp

@[simp] theorem evalFinish_state (s out : State) : (evalFinish s out).sys.state = out.sys.state := by
  unfold evalFinish
  exact evalDone_state ..

@[simp] theorem evaluate_state (g : Nat → Bool) (s : State) : (evaluate g s).1.sys.state = s.sys.state := by
  unfold evaluate
  exact (evalFinish_state ..).trans (evalEach_state ..)

@[simp] theorem State.setSes_state (s : State) (n : Nat) (x : Session) : (State.setSes s n x).sys.state = s.sys.state := by
  unfold State.setSes
  simp

@[simp] theorem updSes_state (n : Nat) (f : Session → Session) (s : State) : (updSes n f s).sys.state = s.sys.state := by
  unfold updSes
  simp

@[simp] theorem lendOut_state (m : LendMsg) (s : State) : (lendOut m s).sys.state = s.sys.state := by
  unfold lendOut
  simp

@[simp] theorem lendRight_state (m : LendMsg) (s : State) : (lendRight m s).sys.state = s.sys.state := by
  unfold lendRight
  simp

@[simp] theorem lendRelease_state (s : State) : (lendRelease s).sys.state = s.sys.state := by
  unfold lendRelease
  simp

@[simp] theorem borrow_state (ses : Nat) (s : State) (elem : Nat) : (borrow ses s elem).sys.state = s.sys.state := by
  unfold borrow
  simp

@[simp] theorem unborrow_state (ses : Nat) (s : State) : (unborrow ses s).sys.state = s.sys.state := by
  unfold unborrow
  simp

@[simp] theorem giveBack_state (elem holder ses : Nat) (s : State) : (giveBack elem holder ses s).sys.state = s.sys.state := by
  unfold giveBack
  simp

@[simp] theorem freeToken_state (ses : Nat) (s : State) (elem : Nat) : (freeToken ses s elem).sys.state = s.sys.state := by
  unfold freeToken
  simp

@[simp] theorem timeToken_state (ses t : Nat) (s : State) (elem : Nat) : (timeToken ses t s elem).sys.state = s.sys.state := by
  unfold timeToken
  simp

@[simp] theorem dueReturns_state (s : State) : (dueReturns s).sys.state = s.sys.state := by
  unfold dueReturns
  simp

@[simp] theorem standingBlock_state (s : State) (i : Nat) : (standingBlock s i).sys.state = s.sys.state := by
  unfold standingBlock
  simp

@[simp] theorem standingBlocks_state (s : State) : (standingBlocks s).sys.state = s.sys.state := by
  unfold standingBlocks
  simp

@[simp] theorem lendProtocol_state (elem : Nat) (s : State) : (lendProtocol elem s).sys.state = s.sys.state := by
  unfold lendProtocol
  simp

@[simp] theorem newEpoch_state (slot epoch : Nat) (s : State) : (newEpoch slot epoch s).sys.state = s.sys.state := by
  unfold newEpoch
  simp

@[simp] theorem dropBorrow_state (b : Borrow) (s : State) : (dropBorrow b s).sys.state = s.sys.state := by
  unfold dropBorrow
  simp

@[simp] theorem dropLoan_state (elem : Nat) (s : State) : (dropLoan elem s).sys.state = s.sys.state := by
  unfold dropLoan
  simp

@[simp] theorem lendReq_state (m : LendMsg) (s : State) : (lendReq m s).sys.state = s.sys.state := by
  unfold lendReq
  simp

@[simp] theorem lendGrant_state (m : LendMsg) (s : State) : (lendGrant m s).sys.state = s.sys.state := by
  unfold lendGrant
  try dsimp only
  (repeat' split) <;> simp

@[simp] theorem markRefused_state (n : Nat) (s : State) : (markRefused n s).sys.state = s.sys.state := by
  unfold markRefused
  simp

@[simp] theorem lendRefuse_state (m : LendMsg) (s : State) : (lendRefuse m s).sys.state = s.sys.state := by
  unfold lendRefuse
  (repeat' split) <;> simp

@[simp] theorem lendTaken_state (m : LendMsg) (s : State) : (lendTaken m s).sys.state = s.sys.state := by
  unfold lendTaken
  (repeat' split) <;> simp

@[simp] theorem lendReturn_state (m : LendMsg) (s : State) : (lendReturn m s).sys.state = s.sys.state := by
  unfold lendReturn
  try dsimp only
  (repeat' split) <;> simp

@[simp] theorem lendReturnAck_state (m : LendMsg) (s : State) : (lendReturnAck m s).sys.state = s.sys.state := by
  unfold lendReturnAck
  (repeat' split) <;> simp

@[simp] theorem lendAudit_state (m : LendMsg) (s : State) : (lendAudit m s).sys.state = s.sys.state := by
  unfold lendAudit
  simp

@[simp] theorem claimed_state (m : LendMsg) (s : State) : (claimed m s).sys.state = s.sys.state := by
  unfold claimed
  simp

@[simp] theorem lendClaim_state (m : LendMsg) (s : State) : (lendClaim m s).sys.state = s.sys.state := by
  unfold lendClaim
  simp

@[simp] theorem lendClaimEnd_state (m : LendMsg) (s : State) : (lendClaimEnd m s).sys.state = s.sys.state := by
  unfold lendClaimEnd
  simp

@[simp] theorem lendClaimQuery_state (m : LendMsg) (s : State) : (lendClaimQuery m s).sys.state = s.sys.state := by
  unfold lendClaimQuery
  simp

@[simp] theorem lendApply_state (m : LendMsg) (s : State) : (lendApply m s).sys.state = s.sys.state := by
  unfold lendApply
  (repeat' split) <;> simp

@[simp] theorem lendRepeats_state (s : State) : (lendRepeats s).sys.state = s.sys.state := by
  unfold lendRepeats
  simp

@[simp] theorem lendAudits_state (s : State) : (lendAudits s).sys.state = s.sys.state := by
  unfold lendAudits
  simp

@[simp] theorem askClaims_state (s : State) (k : Nat) : (askClaims s k).sys.state = s.sys.state := by
  unfold askClaims
  simp

@[simp] theorem claimQuery_state (s : State) : (claimQuery s).sys.state = s.sys.state := by
  unfold claimQuery
  simp

@[simp] theorem startBlocks_state (s : State) : (startBlocks s).sys.state = s.sys.state := by
  unfold startBlocks
  simp

@[simp] theorem claimsComplete_state (s : State) : (claimsComplete s).sys.state = s.sys.state := by
  unfold claimsComplete
  simp

@[simp] theorem newSes_state (n : Nat) (kind : SesKind) (obj target tag : Nat) (descr : Word) (s : State) : (newSes n kind obj target tag descr s).sys.state = s.sys.state := by
  unfold newSes
  simp

@[simp] theorem endSes_state (n : Nat) (st : SesSt) (s : State) : (endSes n st s).sys.state = s.sys.state := by
  unfold endSes
  simp

@[simp] theorem sesTo_state (n : Nat) (st : SesSt) (s : State) : (sesTo n st s).sys.state = s.sys.state := by
  unfold sesTo
  simp

@[simp] theorem writeList_state (xs : List Nat) (s : State) : (writeList xs s).sys.state = s.sys.state := by
  unfold writeList
  simp

@[simp] theorem acquireFor_state (n : Nat) (xs : List Nat) (s : State) : (acquireFor n xs s).1.sys.state = s.sys.state := by
  unfold acquireFor
  (repeat' split) <;> simp

@[simp] theorem seeTracks_state (n : Nat) (s : State) : (seeTracks n s).sys.state = s.sys.state := by
  unfold seeTracks
  simp

@[simp] theorem routeOccupy_state (n : Nat) (s : State) : (routeOccupy n s).sys.state = s.sys.state := by
  unfold routeOccupy
  simp

@[simp] theorem releaseEdge_state (n e : Nat) (s : State) : (releaseEdge n e s).sys.state = s.sys.state := by
  unfold releaseEdge
  (repeat' split) <;> simp

@[simp] theorem routeRelease_state (n : Nat) (s : State) : (routeRelease n s).sys.state = s.sys.state := by
  unfold routeRelease
  simp

@[simp] theorem detectionLost_state (n : Nat) (s : State) : (detectionLost n s).sys.state = s.sys.state := by
  unfold detectionLost
  simp

@[simp] theorem routeKeep_state (n : Nat) (s : State) : (routeKeep n s).sys.state = s.sys.state := by
  unfold routeKeep
  simp

@[simp] theorem timeAll_state (n t : Nat) (s : State) : (timeAll n t s).sys.state = s.sys.state := by
  unfold timeAll
  simp

@[simp] theorem signalUnproven_state (n : Nat) (s : State) : (signalUnproven n s).sys.state = s.sys.state := by
  unfold signalUnproven
  simp

@[simp] theorem approachLock_state (n : Nat) (s : State) : (approachLock n s).sys.state = s.sys.state := by
  unfold approachLock
  simp

@[simp] theorem countDest_state (n : Nat) (s : State) : (countDest n s).sys.state = s.sys.state := by
  unfold countDest
  simp

@[simp] theorem occupyFirst_state (n : Nat) (s : State) : (occupyFirst n s).sys.state = s.sys.state := by
  unfold occupyFirst
  simp

@[simp] theorem startEnd_state (n tag : Nat) (cancel : Bool) (mode : RelMode) (s : State) : (startEnd n tag cancel mode s).sys.state = s.sys.state := by
  unfold startEnd
  simp

@[simp] theorem dueCmd_state (e cmd ses : Nat) (tag : Option Nat) (s : State) : (dueCmd e cmd ses tag s).sys.state = s.sys.state := by
  unfold dueCmd
  simp

@[simp] theorem dueEnd_state (e : Nat) (s : State) : (dueEnd e s).sys.state = s.sys.state := by
  unfold dueEnd
  simp

@[simp] theorem dueWin_state (d : DoorDue) (s : State) : (dueWin d s).sys.state = s.sys.state := by
  unfold dueWin
  (repeat' split) <;> simp

@[simp] theorem corrTurn_state (s : State) (e : Nat) : (corrTurn s e).sys.state = s.sys.state := by
  unfold corrTurn
  simp

@[simp] theorem freeEnded_state (s : State) : (freeEnded s).sys.state = s.sys.state := by
  unfold freeEnded
  simp

@[simp] theorem signalWatch_state (s : State) (i : Nat) : (signalWatch s i).sys.state = s.sys.state := by
  unfold signalWatch
  simp

@[simp] theorem signalsWatch_state (s : State) : (signalsWatch s).sys.state = s.sys.state := by
  unfold signalsWatch
  simp

@[simp] theorem writeViews_state (s : State) : (writeViews s).sys.state = s.sys.state := by
  unfold writeViews
  simp

@[simp] theorem markPends_state (obj : Nat) (kinds : List Nat) (s : State) : (markPends obj kinds s).sys.state = s.sys.state := by
  unfold markPends
  simp

@[simp] theorem writeEstates_state (s : State) : (writeEstates s).sys.state = s.sys.state := by
  unfold writeEstates
  simp

@[simp] theorem writeImages_state (s : State) : (writeImages s).sys.state = s.sys.state := by
  unfold writeImages
  simp

@[simp] theorem writeBerths_state (s : State) : (writeBerths s).sys.state = s.sys.state := by
  unfold writeBerths
  simp

@[simp] theorem writeInputs_state (s : State) : (writeInputs s).sys.state = s.sys.state := by
  unfold writeInputs
  simp

@[simp] theorem firstCommands_state (s : State) : (firstCommands s).sys.state = s.sys.state := by
  unfold firstCommands
  simp

@[simp] theorem hostBody_state (n : Nat) (s : State) : (hostBody n s).2.sys.state = s.sys.state := by
  unfold hostBody
  simp

@[simp] theorem formTelegram_state (safe : Bool) (s : State) (p : Nat × Nat) : (formTelegram safe s p).sys.state = s.sys.state := by
  unfold formTelegram telegramReady
  dsimp only
  split <;> split <;> simp

@[simp] theorem formTelegrams_state (s : State) : (formTelegrams s).sys.state = s.sys.state := by
  unfold formTelegrams
  simp

@[simp] theorem formRestrictive_state (s : State) : (formRestrictive s).sys.state = s.sys.state := by
  unfold formRestrictive
  simp

@[simp] theorem loadBus_state (s : State) (e : Nat) : (loadBus s e).sys.state = s.sys.state := by
  unfold loadBus
  simp

@[simp] theorem loadBuses_state (s : State) : (loadBuses s).sys.state = s.sys.state := by
  unfold loadBuses
  simp

@[simp] theorem writeVector_state (s : State) : (writeVector s).sys.state = s.sys.state := by
  unfold writeVector
  simp

@[simp] theorem formContent_state (s : State) : (formContent s).sys.state = s.sys.state := by
  unfold formContent
  simp

@[simp] theorem setStanding_state (i : Nat) (f : Stand → Stand) (s : State) : (setStanding i f s).sys.state = s.sys.state := by
  unfold setStanding
  simp

@[simp] theorem updSui_state (f : Sui → Sui) (s : State) : (updSui f s).sys.state = s.sys.state := by
  unfold updSui
  simp

@[simp] theorem evrStart_state (s : State) : (evrStart s).sys.state = s.sys.state := by
  unfold evrStart
  simp

@[simp] theorem timeAdvance_state (ms : Nat) (s : State) : (timeAdvance ms s).sys.state = s.sys.state := by
  unfold timeAdvance
  simp

@[simp] theorem periodsPass_state (n : Nat) (s : State) : (periodsPass n s).sys.state = s.sys.state := by
  unfold periodsPass
  simp

@[simp] theorem scanCopy_state (s : State) (r : Nat × Word × List Byte) : (scanCopy s r).sys.state = s.sys.state := by
  unfold scanCopy
  simp

@[simp] theorem ringScan_state (s : State) : (ringScan s).sys.state = s.sys.state := by
  unfold ringScan
  try dsimp only
  (repeat' split) <;> simp

@[simp] theorem nandProgram_state (ok : Bool) (s : State) : (nandProgram ok s).sys.state = s.sys.state := by
  unfold nandProgram
  simp

@[simp] theorem nandConfirm_state (n : Word) (s : State) : (nandConfirm n s).sys.state = s.sys.state := by
  unfold nandConfirm
  simp

@[simp] theorem nandReport_state (highest : Word) (s : State) : (nandReport highest s).sys.state = s.sys.state := by
  unfold nandReport
  simp

@[simp] theorem cellDamage_state (c : Nat) (s : State) : (cellDamage c s).sys.state = s.sys.state := by
  unfold cellDamage
  simp

@[simp] theorem cellCount_state (c : Nat) (s : State) : (cellCount c s).sys.state = s.sys.state := by
  unfold cellCount
  simp

@[simp] theorem jnlResult_state (res cell copy : Nat) (s : State) : (jnlResult res cell copy s).sys.state = s.sys.state := by
  unfold jnlResult
  simp

@[simp] theorem cellLater_state (c kind : Nat) (payload : List Byte) (s : State) : (cellLater c kind payload s).sys.state = s.sys.state := by
  unfold cellLater
  simp

@[simp] theorem loadStanding_state (s : State) : (loadStanding s).sys.state = s.sys.state := by
  unfold loadStanding
  try dsimp only
  (repeat' split) <;>
    first | (simp; done) | (refine Eq.trans (foldl_state _ _ _ (fun s b => ?_)) ?_ <;> (repeat' split) <;> simp)

@[simp] theorem loadCounts_state (s : State) : (loadCounts s).sys.state = s.sys.state := by
  unfold loadCounts
  try dsimp only
  (repeat' split) <;>
    first | (simp; done) | (refine Eq.trans (foldl_state _ _ _ (fun s b => ?_)) ?_ <;> (repeat' split) <;> simp)

@[simp] theorem loadTag_state (s : State) (t : Nat) : (loadTag s t).sys.state = s.sys.state := by
  unfold loadTag
  try dsimp only
  (repeat' split) <;> simp

@[simp] theorem loadTags_state (s : State) : (loadTags s).sys.state = s.sys.state := by
  unfold loadTags
  simp

@[simp] theorem evrStarted_state (s : State) : (evrStarted s).sys.state = s.sys.state := by
  unfold evrStarted
  simp

@[simp] theorem startWrite_state (x : Sel) (s : State) : (startWrite x s).sys.state = s.sys.state := by
  unfold startWrite
  simp

@[simp] theorem repairSel_state (s : State) : (repairSel s).sys.state = s.sys.state := by
  unfold repairSel
  try dsimp only
  (repeat' split) <;> simp

@[simp] theorem revertBoot_state (arg : Nat) (s : State) : (revertBoot arg s).sys.state = s.sys.state := by
  unfold revertBoot
  simp

@[simp] theorem trialSelect_state (s : State) : (trialSelect s).sys.state = s.sys.state := by
  unfold trialSelect
  simp

@[simp] theorem finishWrite_state (s : State) : (finishWrite s).sys.state = s.sys.state := by
  unfold finishWrite
  (repeat' split) <;> simp

@[simp] theorem suiResult_state (status code : Nat) (s : State) : (suiResult status code s).sys.state = s.sys.state := by
  unfold suiResult
  simp

@[simp] theorem suiAnswer_state (status : Nat) (body : List Byte) (s : State) : (suiAnswer status body s).sys.state = s.sys.state := by
  unfold suiAnswer
  simp

@[simp] theorem suiDenied_state (s : State) : (suiDenied s).sys.state = s.sys.state := by
  unfold suiDenied
  simp

@[simp] theorem suiRefuse_state (status : Nat) (s : State) : (suiRefuse status s).sys.state = s.sys.state := by
  unfold suiRefuse
  simp

@[simp] theorem suiRefuseFree_state (s : State) : (suiRefuseFree s).sys.state = s.sys.state := by
  unfold suiRefuseFree
  simp

@[simp] theorem suiActivate_state (s : State) : (suiActivate s).sys.state = s.sys.state := by
  unfold suiActivate
  simp

@[simp] theorem startConfirm_state (s : State) : (startConfirm s).sys.state = s.sys.state := by
  unfold startConfirm
  simp

@[simp] theorem suiConfirm_state (s : State) : (suiConfirm s).sys.state = s.sys.state := by
  unfold suiConfirm
  simp

@[simp] theorem suiRevert_state (arg : Nat) (s : State) : (suiRevert arg s).sys.state = s.sys.state := by
  unfold suiRevert
  simp

@[simp] theorem trialActive_state (s : State) : (trialActive s).sys.state = s.sys.state := by
  unfold trialActive
  simp

@[simp] theorem trialTest_state (s : State) : (trialTest s).sys.state = s.sys.state := by
  unfold trialTest
  (repeat' split) <;> simp

@[simp] theorem revokeCk_state (k : Nat) (s : State) : (revokeCk k s).sys.state = s.sys.state := by
  unfold revokeCk
  simp

@[simp] theorem programCk_state (k : Nat) (sha : List Byte) (s : State) : (programCk k sha s).sys.state = s.sys.state := by
  unfold programCk
  simp

@[simp] theorem enrolKey_state (request : KeyRequest) (signer : Option Nat) (programOk : Bool) (s : State) : (enrolKey request signer programOk s).sys.state = s.sys.state := by
  unfold enrolKey
  try dsimp only
  (repeat' split) <;> simp

@[simp] theorem reverifyEnd_state (slot : Nat) (ok : Bool) (s : State) : (reverifyEnd slot ok s).sys.state = s.sys.state := by
  unfold reverifyEnd
  simp

@[simp] theorem reverifyStep_state (readOk : Bool) (s : State) : (reverifyStep readOk s).sys.state = s.sys.state := by
  unfold reverifyStep
  (repeat' split) <;> simp

@[simp] theorem refreshNext_state (slot block : Nat) (s : State) : (refreshNext slot block s).sys.state = s.sys.state := by
  unfold refreshNext
  simp

@[simp] theorem refreshStep_state (done : Nat) (s : State) : (refreshStep done s).sys.state = s.sys.state := by
  unfold refreshStep
  (repeat' split) <;> simp

@[simp] theorem refreshAtBoot_state (s : State) : (refreshAtBoot s).sys.state = s.sys.state := by
  unfold refreshAtBoot
  simp

@[simp] theorem served_state (head : SorliaHead) (act : State → State) (s : State) (hf : ∀ u, (act u).sys.state = u.sys.state) : (served head act s).sys.state = s.sys.state := by
  unfold served
  simp [hf]

@[simp] theorem runtimeServed_state (head : SorliaHead) (act : State → State) (s : State) (hf : ∀ u, (act u).sys.state = u.sys.state) : (runtimeServed head act s).sys.state = s.sys.state := by
  unfold runtimeServed
  simp [hf]

@[simp] theorem updSession_state (n : Nat) (f : Sorlia → Sorlia) (s : State) : (updSession n f s).sys.state = s.sys.state := by
  unfold updSession
  simp

@[simp] theorem endSession_state (n : Nat) (s : State) : (endSession n s).sys.state = s.sys.state := by
  unfold endSession
  simp

@[simp] theorem updateRequest_state (head : SorliaHead) (act : State → State) (s : State) (hf : ∀ u, (act u).sys.state = u.sys.state) : (updateRequest head act s).sys.state = s.sys.state := by
  unfold updateRequest
  simp [hf]

@[simp] theorem clearJournal_state (s : State) : (clearJournal s).sys.state = s.sys.state := by
  unfold clearJournal
  simp

@[simp] theorem endSessions_state (s : State) : (endSessions s).sys.state = s.sys.state := by
  unfold endSessions
  simp

@[simp] theorem holdTag_state (s : State) (t : Nat) : (holdTag s t).sys.state = s.sys.state := by
  unfold holdTag
  simp

@[simp] theorem lockCommands_state (s : State) : (lockCommands s).sys.state = s.sys.state := by
  unfold lockCommands
  simp

@[simp] theorem popOut_state (s : State) : (popOut s).sys.state = s.sys.state := by
  unfold popOut
  simp

@[simp] theorem updPcl_state (f : Pcl → Pcl) (s : State) : (updPcl f s).sys.state = s.sys.state := by
  unfold updPcl
  simp

@[simp] theorem markReplay_state (k : Nat) (s : State) : (markReplay k s).sys.state = s.sys.state := by
  unfold markReplay
  simp

@[simp] theorem startLedger_state (s : State) : (startLedger s).sys.state = s.sys.state := by
  unfold startLedger
  simp

@[simp] theorem startLoad_state (s : State) : (startLoad s).sys.state = s.sys.state := by
  unfold startLoad
  simp

@[simp] theorem startEpoch_state (s : State) : (startEpoch s).sys.state = s.sys.state := by
  unfold startEpoch
  simp

@[simp] theorem claimStart_state (s : State) : (claimStart s).sys.state = s.sys.state := by
  unfold claimStart
  simp

@[simp] theorem linkHeard_state (s : State) : (linkHeard s).sys.state = s.sys.state := by
  unfold linkHeard
  simp

@[simp] theorem peerMismatch_state (s : State) : (peerMismatch s).sys.state = s.sys.state := by
  unfold peerMismatch
  simp

@[simp] theorem shadowCompare_state (peer : List Word) (ext : Bool) (s : State) : (shadowCompare peer ext s).sys.state = s.sys.state := by
  unfold shadowCompare
  simp

@[simp] theorem setRange_state (lo hi : Nat) (t : Tbl Word) (s : State) : (setRange lo hi t s).sys.state = s.sys.state := by
  unfold setRange
  simp

@[simp] theorem pairSend_state (ext : Bool) (differ : List Nat) (s : State) : (pairSend ext differ s).sys.state = s.sys.state := by
  unfold pairSend
  try dsimp only
  (repeat' split) <;> simp

@[simp] theorem loadSegs_state (segs : List Seg) (s : State) : (loadSegs segs s).sys.state = s.sys.state := by
  unfold loadSegs
  simp

@[simp] theorem showRx_state (f : PairFrame) (taken : Bool) (s : State) : (showRx f taken s).sys.state = s.sys.state := by
  unfold showRx
  simp

@[simp] theorem mirrorMissed_state (s : State) : (mirrorMissed s).sys.state = s.sys.state := by
  unfold mirrorMissed
  simp

@[simp] theorem bulkCell_state (s : State) (c : Nat × List Byte) : (bulkCell s c).sys.state = s.sys.state := by
  unfold bulkCell
  (repeat' split) <;> simp

@[simp] theorem swapTry_state (peerOk : Bool) (s : State) : (swapTry peerOk s).sys.state = s.sys.state := by
  unfold swapTry
  simp

@[simp] theorem swapRequest_state (peerOk : Bool) (s : State) : (swapRequest peerOk s).sys.state = s.sys.state := by
  unfold swapRequest
  simp

@[simp] theorem swapCheck_state (s : State) : (swapCheck s).sys.state = s.sys.state := by
  unfold swapCheck
  simp

@[simp] theorem edgesTakeover_state (s : State) : (edgesTakeover s).sys.state = s.sys.state := by
  unfold edgesTakeover
  simp

@[simp] theorem peerGone_state (s : State) : (peerGone s).sys.state = s.sys.state := by
  unfold peerGone
  simp

@[simp] theorem resend_state (t : Nat) (r : List Byte) (s : State) : (resend t r s).sys.state = s.sys.state := by
  unfold resend
  simp

@[simp] theorem masterIs_state (k : Nat) (s : State) : (masterIs k s).sys.state = s.sys.state := by
  unfold masterIs
  simp

@[simp] theorem setTrim_state (phase : Int) (s : State) : (setTrim phase s).sys.state = s.sys.state := by
  unfold setTrim
  simp

@[simp] theorem trimTurn_state (s : State) : (trimTurn s).sys.state = s.sys.state := by
  unfold trimTurn
  simp

@[simp] theorem peerMarker_state (phase : Int) (s : State) : (peerMarker phase s).sys.state = s.sys.state := by
  unfold peerMarker
  simp

@[simp] theorem cascadeMarker_state (frm : Nat) (phase : Int) (s : State) : (cascadeMarker frm phase s).sys.state = s.sys.state := by
  unfold cascadeMarker
  simp

@[simp] theorem fillCtx_state (s : State) : (fillCtx s).sys.state = s.sys.state := by
  unfold fillCtx
  simp

@[simp] theorem cascadeSend_state (n : Nat) (s : State) : (cascadeSend n s).sys.state = s.sys.state := by
  unfold cascadeSend
  simp

@[simp] theorem seeEpochs_state (f : CascFrame) (s : State) : (seeEpochs f s).sys.state = s.sys.state := by
  unfold seeEpochs
  simp

@[simp] theorem lendDelivered_state (msgs : List LendMsg) (s : State) : (lendDelivered msgs s).sys.state = s.sys.state := by
  unfold lendDelivered
  simp

@[simp] theorem lendDeliver_state (s : State) : (lendDeliver s).sys.state = s.sys.state := by
  unfold lendDeliver
  simp

@[simp] theorem lendTurn_state (s : State) : (lendTurn s).sys.state = s.sys.state := by
  unfold lendTurn
  simp

@[simp] theorem execCvuStart_state (unit : Nat) (s : State) (u : State) : (landing (execCvuStart unit s) u).sys.state = s.sys.state := by
  unfold execCvuStart
  simp

@[simp] theorem execCvuFinish_state (unit : Nat) (s : State) (u : State) : (landing (execCvuFinish unit s) u).sys.state = s.sys.state := by
  unfold execCvuFinish
  simp

@[simp] theorem execCvuAbort_state (unit : Nat) (s : State) (u : State) : (landing (execCvuAbort unit s) u).sys.state = s.sys.state := by
  unfold execCvuAbort
  simp

@[simp] theorem execCvuCtrlInvalid_state (unit : Nat) (s : State) (u : State) : (landing (execCvuCtrlInvalid unit s) u).sys.state = s.sys.state := by
  unfold execCvuCtrlInvalid
  simp

@[simp] theorem execCvuData8_state (unit : Nat) (w : Word) (s : State) (u : State) : (landing (execCvuData8 unit w s) u).sys.state = s.sys.state := by
  unfold execCvuData8
  simp

@[simp] theorem execCvuData16_state (unit : Nat) (w : Word) (s : State) (u : State) : (landing (execCvuData16 unit w s) u).sys.state = s.sys.state := by
  unfold execCvuData16
  simp

@[simp] theorem execCvuData32_state (unit : Nat) (w : Word) (s : State) (u : State) : (landing (execCvuData32 unit w s) u).sys.state = s.sys.state := by
  unfold execCvuData32
  simp

@[simp] theorem execCvuConf_state (unit : Nat) (w : Word) (s : State) (u : State) : (landing (execCvuConf unit w s) u).sys.state = s.sys.state := by
  unfold execCvuConf
  simp

@[simp] theorem execCvuParamWrite_state (unit param : Nat) (w : Word) (s : State) (u : State) : (landing (execCvuParamWrite unit param w s) u).sys.state = s.sys.state := by
  unfold execCvuParamWrite
  simp

@[simp] theorem execTrainBerthExpiry_state (edge : Nat) (s : State) (u : State) : (landing (execTrainBerthExpiry edge s) u).sys.state = s.sys.state := by
  unfold execTrainBerthExpiry
  simp

@[simp] theorem execCmdFeed_state (portB : Bool) (copy host : Nat) (s : State) (u : State) : (landing (execCmdFeed portB copy host s) u).sys.state = s.sys.state := by
  unfold execCmdFeed
  simp

@[simp] theorem execCmdOutsel_state (host : Nat) (s : State) (u : State) : (landing (execCmdOutsel host s) u).sys.state = s.sys.state := by
  unfold execCmdOutsel
  simp

@[simp] theorem execCmdOutpop_state (w : Word) (s : State) (u : State) : (landing (execCmdOutpop w s) u).sys.state = s.sys.state := by
  unfold execCmdOutpop
  simp

@[simp] theorem execCmdLoadBegin_state (s : State) (u : State) : (landing (execCmdLoadBegin s) u).sys.state = s.sys.state := by
  unfold execCmdLoadBegin
  simp

@[simp] theorem execCmdLock_state (w : Word) (s : State) (u : State) : (landing (execCmdLock w s) u).sys.state = s.sys.state := by
  unfold execCmdLock
  simp

@[simp] theorem applyRegs_state (lo hi : Nat) (s : State) : (applyRegs lo hi s).sys.state = s.sys.state := by
  unfold applyRegs
  simp

@[simp] theorem withRegs_state (s : State) : (withRegs s).sys.state = s.sys.state := by
  unfold withRegs
  simp

@[simp] theorem takeImage_state (s : State) : (takeImage s).sys.state = s.sys.state := by
  unfold takeImage
  simp

@[simp] theorem lockGeo_state (s : State) : (lockGeo s).sys.state = s.sys.state := by
  unfold lockGeo
  simp

@[simp] theorem journalReset_state (s : State) : (journalReset s).sys.state = s.sys.state := by
  unfold journalReset
  simp

@[simp] theorem ownAddress_state (s : State) : (ownAddress s).sys.state = s.sys.state := by
  unfold ownAddress
  (repeat' split) <;> simp

theorem checked_state (x : Checked) (f : State → Checked) (s : State) (hx : x.state.sys.state = s.sys.state) (hf : ∀ u, (Checked.state (f u)).sys.state = u.sys.state) :
    (Checked.state (x.bind f)).sys.state = s.sys.state := by
  cases x with
  | ok u => exact (hf u).trans hx
  | error p => exact hx

theorem must_state (b : Bool) (c : Nat) (s : State) : (Checked.state (must b c s)).sys.state = s.sys.state := by
  unfold must
  split <;> rfl

theorem blockStep_state (lo hi l : Nat) (f : State → Bool) (c : Nat) (s : State) : (Checked.state (blockStep lo hi l f c s)).sys.state = s.sys.state := by
  unfold blockStep
  dsimp only
  split <;> simp [Checked.state]

theorem fioStep_state (s : State) : (Checked.state (fioStep s)).sys.state = s.sys.state := by
  unfold fioStep
  dsimp only
  split <;> simp [Checked.state]

theorem sniStep_state (s : State) : (Checked.state (sniStep s)).sys.state = s.sys.state := by
  unfold sniStep
  dsimp only
  split <;> simp [Checked.state]

theorem busSteps_state (s : State) : (Checked.state (busSteps s)).sys.state = s.sys.state := by
  have h : ∀ (l : List Nat) (r : Checked), (Checked.state r).sys.state = s.sys.state → (Checked.state (l.foldl (fun r b => r.bind fun s =>
      blockStep (0x40060000 + 0x1000 * b) (0x40061000 + 0x1000 * b) (busReg Reg.DBC_LOCK b) (fun s => checkDbc s b) 0x080E s) r)).sys.state = s.sys.state := by
    intro l
    induction l with
    | nil => exact fun r h => h
    | cons b l ih => exact fun r hr => ih _ (checked_state _ _ _ hr fun u => blockStep_state _ _ _ _ _ _)
  exact h _ _ rfl

@[simp] theorem execTimeCheckpoint_state (ms : Nat) (s : State) (u : State) : (landing (execTimeCheckpoint ms s) u).sys.state = s.sys.state := by
  unfold execTimeCheckpoint
  simp

@[simp] theorem execRingScanDone_state (s : State) (u : State) : (landing (execRingScanDone s) u).sys.state = s.sys.state := by
  unfold execRingScanDone
  simp

@[simp] theorem execEvrLog_state (w : Word) (s : State) (u : State) : (landing (execEvrLog w s) u).sys.state = s.sys.state := by
  unfold execEvrLog
  simp

@[simp] theorem execRecordRequest_state (src code : Nat) (arg : Word) (s : State) (u : State) : (landing (execRecordRequest src code arg s) u).sys.state = s.sys.state := by
  unfold execRecordRequest
  simp

@[simp] theorem execRecordClose_state (s : State) (u : State) : (landing (execRecordClose s) u).sys.state = s.sys.state := by
  unfold execRecordClose
  try dsimp only
  (repeat' split) <;> simp

@[simp] theorem execEvrNpost_state (w : Word) (s : State) (u : State) : (landing (execEvrNpost w s) u).sys.state = s.sys.state := by
  unfold execEvrNpost
  simp

@[simp] theorem execNandPageProgram_state (ok : Bool) (s : State) (u : State) : (landing (execNandPageProgram ok s) u).sys.state = s.sys.state := by
  unfold execNandPageProgram
  simp

@[simp] theorem execNandConfirm_state (nseq : Word) (s : State) (u : State) : (landing (execNandConfirm nseq s) u).sys.state = s.sys.state := by
  unfold execNandConfirm
  simp

@[simp] theorem execNandStartReport_state (highest : Word) (s : State) (u : State) : (landing (execNandStartReport highest s) u).sys.state = s.sys.state := by
  unfold execNandStartReport
  simp

@[simp] theorem correlation_state (c : Nat) (s : State) : (correlation c s).sys.state = s.sys.state := by
  unfold correlation
  simp

@[simp] theorem execCorrelationDue_state (s : State) (u : State) : (landing (execCorrelationDue s) u).sys.state = s.sys.state := by
  unfold execCorrelationDue
  simp

@[simp] theorem execJnlRead_state (cell copy : Nat) (s : State) (u : State) : (landing (execJnlRead cell copy s) u).sys.state = s.sys.state := by
  unfold execJnlRead
  simp

@[simp] theorem execEvrLock_state (w : Word) (s : State) (u : State) : (landing (execEvrLock w s) u).sys.state = s.sys.state := by
  unfold execEvrLock
  simp

@[simp] theorem State.answerRead_state (s : State) (w : Word) : (State.answerRead s w).sys.state = s.sys.state := by
  unfold State.answerRead
  simp

@[simp] theorem State.setChan_state (s : State) (n : Nat) (c : Mbx) : (State.setChan s n c).sys.state = s.sys.state := by
  unfold State.setChan
  simp

@[simp] theorem mbNote_state (n code : Nat) (s : State) : (mbNote n code s).sys.state = s.sys.state := by
  unfold mbNote
  simp

@[simp] theorem mbIrq_state (n b agent : Nat) (s : State) : (mbIrq n b agent s).sys.state = s.sys.state := by
  unfold mbIrq
  simp

@[simp] theorem mbPost_state (n len : Nat) (put : Mbx → Mbx) (s : State) : (mbPost n len put s).sys.state = s.sys.state := by
  unfold mbPost
  simp

@[simp] theorem mbTake_state (n : Nat) (s : State) : (mbTake n s).sys.state = s.sys.state := by
  unfold mbTake
  simp

@[simp] theorem mbDbellTake_state (n : Nat) (s : State) : (mbDbellTake n s).sys.state = s.sys.state := by
  unfold mbDbellTake
  simp

@[simp] theorem mbLastRead_state (n : Nat) (s : State) : (mbLastRead n s).sys.state = s.sys.state := by
  unfold mbLastRead
  simp

@[simp] theorem mbRcode_state (n rcode : Nat) (s : State) : (mbRcode n rcode s).sys.state = s.sys.state := by
  unfold mbRcode
  simp

@[simp] theorem mbRefused_state (n : Nat) (s : State) : (mbRefused n s).sys.state = s.sys.state := by
  unfold mbRefused
  simp

@[simp] theorem firewalled_state (s : State) : (firewalled s).sys.state = s.sys.state := by
  unfold firewalled
  simp

@[simp] theorem mbDenied_state (who n : Nat) (s : State) : (mbDenied who n s).sys.state = s.sys.state := by
  unfold mbDenied
  simp

@[simp] theorem mbRxReset_state (n : Nat) (s : State) : (mbRxReset n s).sys.state = s.sys.state := by
  unfold mbRxReset
  simp

@[simp] theorem mbTxReset_state (n : Nat) (s : State) : (mbTxReset n s).sys.state = s.sys.state := by
  unfold mbTxReset
  simp

@[simp] theorem mbProcReset_state (p : Nat) (s : State) : (mbProcReset p s).sys.state = s.sys.state := by
  unfold mbProcReset
  simp

@[simp] theorem mbService_state (s : State) : (mbService s).sys.state = s.sys.state := by
  unfold mbService
  simp

@[simp] theorem heartbeatTake_state (n : Nat) (p : Proc) (s : State) : (heartbeatTake n p s).2.sys.state = s.sys.state := by
  unfold heartbeatTake
  (repeat' split) <;> simp

@[simp] theorem updVau_state (f : Vau → Vau) (s : State) : (updVau f s).sys.state = s.sys.state := by
  unfold updVau
  simp

@[simp] theorem State.setVau_state (s : State) (a : Nat) (w : Word) : (State.setVau s a w).sys.state = s.sys.state := by
  unfold State.setVau
  simp

@[simp] theorem minorityInfo_state (k code addr : Nat) (s : State) : (minorityInfo k code addr s).sys.state = s.sys.state := by
  unfold minorityInfo
  simp

@[simp] theorem takeUnvoted_state (es : List QEntry) (s : State) : (takeUnvoted es s).sys.state = s.sys.state := by
  unfold takeUnvoted
  simp

@[simp] theorem queueWrite_state (k : Nat) (w : List QWrite) (s : State) : (queueWrite k w s).sys.state = s.sys.state := by
  unfold queueWrite
  simp

@[simp] theorem queueLeave_state (k : Nat) (s : State) : (queueLeave k s).sys.state = s.sys.state := by
  unfold queueLeave
  (repeat' split) <;> simp

@[simp] theorem ignorePending_state (k : Nat) (s : State) : (ignorePending k s).sys.state = s.sys.state := by
  unfold ignorePending
  simp

@[simp] theorem takeCopies_state (s : State) : (takeCopies s).sys.state = s.sys.state := by
  unfold takeCopies
  simp

@[simp] theorem emptyQueue_state (k : Nat) (s : State) : (emptyQueue k s).sys.state = s.sys.state := by
  unfold emptyQueue
  simp

@[simp] theorem copiesUsed_state (s : State) : (copiesUsed s).sys.state = s.sys.state := by
  unfold copiesUsed
  simp

@[simp] theorem alignHwm_state (spread : Nat) (s : State) : (alignHwm spread s).sys.state = s.sys.state := by
  unfold alignHwm
  simp

@[simp] theorem storeFold_state (x : Store) (s : State) : (storeFold x s).sys.state = s.sys.state := by
  unfold storeFold
  simp

@[simp] theorem sigCapture_state (w : Word) (caps : List (Option CoreCapture)) (s : State) : (sigCapture w caps s).sys.state = s.sys.state := by
  unfold sigCapture
  try dsimp only
  (repeat' split) <;>
    first | (simp; done) | (simp; refine Eq.trans (foldl_state _ _ _ (fun s b => ?_)) ?_ <;> (repeat' split) <;> simp)

@[simp] theorem sigShow_state (s : State) : (sigShow s).sys.state = s.sys.state := by
  unfold sigShow
  simp

@[simp] theorem countFence_state (k : Nat) (s : State) : (countFence k s).sys.state = s.sys.state := by
  unfold countFence
  simp

@[simp] theorem endSequence_state (s : State) : (endSequence s).sys.state = s.sys.state := by
  unfold endSequence
  simp

@[simp] theorem toFenced_state (k : Nat) (s : State) : (toFenced k s).sys.state = s.sys.state := by
  unfold toFenced
  simp

@[simp] theorem startSequence_state (k : Nat) (fence : Bool) (s : State) : (startSequence k fence s).sys.state = s.sys.state := by
  unfold startSequence
  simp

@[simp] theorem fenceRegion_state (k : Nat) (s : State) : (fenceRegion k s).sys.state = s.sys.state := by
  unfold fenceRegion
  simp

@[simp] theorem splitRegion_state (k : Nat) (s : State) : (splitRegion k s).sys.state = s.sys.state := by
  unfold splitRegion
  simp

@[simp] theorem setResult_state (k r : Nat) (s : State) : (setResult k r s).sys.state = s.sys.state := by
  unfold setResult
  simp

@[simp] theorem sequenceFailed_state (k code result : Nat) (s : State) : (sequenceFailed k code result s).sys.state = s.sys.state := by
  unfold sequenceFailed
  simp

@[simp] theorem rejoin_state (k : Nat) (s : State) : (rejoin k s).sys.state = s.sys.state := by
  unfold rejoin
  simp

@[simp] theorem verifyStep_state (crcs : List Word) (s : State) : (verifyStep crcs s).sys.state = s.sys.state := by
  unfold verifyStep
  (repeat' split) <;> simp

@[simp] theorem sequenceStep_state (s : State) : (sequenceStep s).sys.state = s.sys.state := by
  unfold sequenceStep
  try dsimp only
  (repeat' split) <;> simp

@[simp] theorem vauVcEnd_state (s : State) : (vauVcEnd s).sys.state = s.sys.state := by
  unfold vauVcEnd
  try dsimp only
  (repeat' split) <;> simp

@[simp] theorem splitRequest_state (w : Word) (s : State) : (splitRequest w s).sys.state = s.sys.state := by
  unfold splitRequest
  simp

@[simp] theorem selftestDone_state (passed : Bool) (s : State) : (selftestDone passed s).sys.state = s.sys.state := by
  unfold selftestDone
  (repeat' split) <;> simp

@[simp] theorem showSample_state (x : RegionSample) (tick : Nat) (s : State) : (showSample x tick s).sys.state = s.sys.state := by
  unfold showSample
  simp

@[simp] theorem keptOut_state (k : Nat) (s : State) : (keptOut k s).sys.state = s.sys.state := by
  unfold keptOut
  simp

@[simp] theorem loadAges_state (s : State) : (loadAges s).sys.state = s.sys.state := by
  unfold loadAges
  simp

@[simp] theorem ageTick_state (k : Nat) (s : State) : (ageTick k s).sys.state = s.sys.state := by
  unfold ageTick
  simp

@[simp] theorem vauTick_state (s : State) : (vauTick s).sys.state = s.sys.state := by
  unfold vauTick
  simp

@[simp] theorem vauShow_state (s : State) : (vauShow s).sys.state = s.sys.state := by
  unfold vauShow
  simp

@[simp] theorem startRecords_state (s : State) : (startRecords s).sys.state = s.sys.state := by
  unfold startRecords
  (repeat' split) <;> simp

@[simp] theorem loadSlot_state (s : State) : (loadSlot s).sys.state = s.sys.state := by
  unfold loadSlot
  simp

@[simp] theorem slotInvalid_state (s : State) : (slotInvalid s).sys.state = s.sys.state := by
  unfold slotInvalid
  simp

@[simp] theorem joinEntry_state (s : State) : (joinEntry s).sys.state = s.sys.state := by
  unfold joinEntry
  simp

@[simp] theorem resetProc_state (sp : Bool) (s : State) : (resetProc sp s).sys.state = s.sys.state := by
  unfold resetProc
  simp

@[simp] theorem heartbeatLost_state (sp : Bool) (s : State) : (heartbeatLost sp s).sys.state = s.sys.state := by
  unfold heartbeatLost
  simp

@[simp] theorem reloadEnd_state (sp ok : Bool) (s : State) : (reloadEnd sp ok s).sys.state = s.sys.state := by
  unfold reloadEnd
  (repeat' split) <;> simp

@[simp] theorem viewsUsed_state (s : State) : (viewsUsed s).sys.state = s.sys.state := by
  unfold viewsUsed
  simp

@[simp] theorem toPhase_state (p : Nat) (s : State) : (toPhase p s).sys.state = s.sys.state := by
  unfold toPhase
  simp

@[simp] theorem tickNow_state (s : State) : (tickNow s).sys.state = s.sys.state := by
  unfold tickNow
  simp

@[simp] theorem markTick_state (p tick : Nat) (s : State) : (markTick p tick s).sys.state = s.sys.state := by
  unfold markTick
  simp

@[simp] theorem hardwareMark_state (p len : Nat) (s : State) : (hardwareMark p len s).sys.state = s.sys.state := by
  unfold hardwareMark
  simp

@[simp] theorem hwmRead_state (p : Nat) (s : State) : (hwmRead p s).sys.state = s.sys.state := by
  unfold hwmRead
  simp

@[simp] theorem heartbeats_state (s : State) : (heartbeats s).sys.state = s.sys.state := by
  unfold heartbeats
  simp

@[simp] theorem bootRecord_state (s : State) : (bootRecord s).sys.state = s.sys.state := by
  unfold bootRecord
  simp

@[simp] theorem postRecords_state (s : State) : (postRecords s).sys.state = s.sys.state := by
  unfold postRecords
  simp

@[simp] theorem vcnStep_state (s : State) : (vcnStep s).sys.state = s.sys.state := by
  unfold vcnStep
  simp

@[simp] theorem clearTops_state (lo n : Nat) (s : State) : (clearTops lo n s).sys.state = s.sys.state := by
  unfold clearTops
  simp

@[simp] theorem clearFlags_state (s : State) : (clearFlags s).sys.state = s.sys.state := by
  unfold clearFlags
  simp

@[simp] theorem mantleStrobe_state (measured : Bool) (meas : Nat) (s : State) : (mantleStrobe measured meas s).sys.state = s.sys.state := by
  unfold mantleStrobe
  simp

@[simp] theorem travelStart_state (s : State) : (travelStart s).sys.state = s.sys.state := by
  unfold travelStart
  simp

@[simp] theorem snapshotsReady_state (s : State) : (snapshotsReady s).sys.state = s.sys.state := by
  unfold snapshotsReady
  simp

@[simp] theorem takeVector_state (received : Bool) (s : State) : (takeVector received s).sys.state = s.sys.state := by
  unfold takeVector
  try dsimp only
  (repeat' split) <;> simp

@[simp] theorem sealAll_state (s : State) : (sealAll s).sys.state = s.sys.state := by
  unfold sealAll
  simp

@[simp] theorem mntShow_state (s : State) : (mntShow s).sys.state = s.sys.state := by
  unfold mntShow
  simp

@[simp] theorem readTrips_state (s : State) : (readTrips s).sys.state = s.sys.state := by
  unfold readTrips
  simp

@[simp] theorem safeStatus_state (s : State) : (safeStatus s).sys.state = s.sys.state := by
  unfold safeStatus
  simp

@[simp] theorem vcnLoad_state (byPcl : Bool) (v : Word) (s : State) : (vcnLoad byPcl v s).sys.state = s.sys.state := by
  unfold vcnLoad
  simp

@[simp] theorem execVcnLoad_state (byPcl : Bool) (vcn : Word) (s : State) (u : State) : (landing (execVcnLoad byPcl vcn s) u).sys.state = s.sys.state := by
  unfold execVcnLoad
  simp

@[simp] theorem execMantleTableVerified_state (key : List Byte) (s : State) (u : State) : (landing (execMantleTableVerified key s) u).sys.state = s.sys.state := by
  unfold execMantleTableVerified
  simp

@[simp] theorem execReferenceSend_state (bus : Nat) (busy : Bool) (s : State) (u : State) : (landing (execReferenceSend bus busy s) u).sys.state = s.sys.state := by
  unfold execReferenceSend
  simp

@[simp] theorem execOrderFrameSend_state (bus : Nat) (s : State) (u : State) : (landing (execOrderFrameSend bus s) u).sys.state = s.sys.state := by
  unfold execOrderFrameSend
  simp

@[simp] theorem execDoorCommandFrameSend_state (bus : Nat) (s : State) (u : State) : (landing (execDoorCommandFrameSend bus s) u).sys.state = s.sys.state := by
  unfold execDoorCommandFrameSend
  simp

@[simp] theorem execFrameTxEnd_state (bus : Nat) (e : FrameEnd) (s : State) (u : State) : (landing (execFrameTxEnd bus e s) u).sys.state = s.sys.state := by
  unfold execFrameTxEnd
  simp

@[simp] theorem execReportRx_state (bus unit sof : Nat) (bytes : List Byte) (s : State) (u : State) : (landing (execReportRx bus unit sof bytes s) u).sys.state = s.sys.state := by
  unfold execReportRx
  simp

@[simp] theorem execForeignFrameRx_state (bus id sof : Nat) (fd : Bool) (s : State) (u : State) : (landing (execForeignFrameRx bus id sof fd s) u).sys.state = s.sys.state := by
  unfold execForeignFrameRx
  simp

@[simp] theorem execDbcErrorPassive_state (bus : Nat) (s : State) (u : State) : (landing (execDbcErrorPassive bus s) u).sys.state = s.sys.state := by
  unfold execDbcErrorPassive
  simp

@[simp] theorem execDbcBusOff_state (bus : Nat) (s : State) (u : State) : (landing (execDbcBusOff bus s) u).sys.state = s.sys.state := by
  unfold execDbcBusOff
  simp

@[simp] theorem execBusOffRecovery_state (bus : Nat) (s : State) (u : State) : (landing (execBusOffRecovery bus s) u).sys.state = s.sys.state := by
  unfold execBusOffRecovery
  simp

@[simp] theorem execDbcCancel_state (bus : Nat) (s : State) (u : State) : (landing (execDbcCancel bus s) u).sys.state = s.sys.state := by
  unfold execDbcCancel
  simp

@[simp] theorem execDbcSleep_state (bus : Nat) (s : State) (u : State) : (landing (execDbcSleep bus s) u).sys.state = s.sys.state := by
  unfold execDbcSleep
  simp

@[simp] theorem execSleepEnter_state (bus : Nat) (s : State) (u : State) : (landing (execSleepEnter bus s) u).sys.state = s.sys.state := by
  unfold execSleepEnter
  simp

@[simp] theorem execDbcWake_state (bus : Nat) (s : State) (u : State) : (landing (execDbcWake bus s) u).sys.state = s.sys.state := by
  unfold execDbcWake
  simp

@[simp] theorem execWakeFrameRepeat_state (bus : Nat) (s : State) (u : State) : (landing (execWakeFrameRepeat bus s) u).sys.state = s.sys.state := by
  unfold execWakeFrameRepeat
  simp

@[simp] theorem execWakeDetect_state (bus : Nat) (pattern : Bool) (id dlc : Nat) (data : Byte) (s : State) (u : State) : (landing (execWakeDetect bus pattern id dlc data s) u).sys.state = s.sys.state := by
  unfold execWakeDetect
  simp

@[simp] theorem execDbcCready_state (bus : Nat) (w : Word) (s : State) (u : State) : (landing (execDbcCready bus w s) u).sys.state = s.sys.state := by
  unfold execDbcCready
  simp

@[simp] theorem execDbcLoadingCopyWrite_state (bus index : Nat) (w : Word) (s : State) (u : State) : (landing (execDbcLoadingCopyWrite bus index w s) u).sys.state = s.sys.state := by
  unfold execDbcLoadingCopyWrite
  simp

@[simp] theorem execDbcLock_state (bus : Nat) (w : Word) (s : State) (u : State) : (landing (execDbcLock bus w s) u).sys.state = s.sys.state := by
  unfold execDbcLock
  simp

@[simp] theorem ecmdWrite_state (e : Nat) (w : Word) (s : State) : (ecmdWrite e w s).sys.state = s.sys.state := by
  unfold ecmdWrite
  simp

@[simp] theorem execEcmdEnable_state (edge ses : Nat) (s : State) (u : State) : (landing (execEcmdEnable edge ses s) u).sys.state = s.sys.state := by
  unfold execEcmdEnable
  simp

@[simp] theorem execEcmdOpen_state (edge : Nat) (s : State) (u : State) : (landing (execEcmdOpen edge s) u).sys.state = s.sys.state := by
  unfold execEcmdOpen
  simp

@[simp] theorem execEcmdClose_state (edge : Nat) (s : State) (u : State) : (landing (execEcmdClose edge s) u).sys.state = s.sys.state := by
  unfold execEcmdClose
  simp

@[simp] theorem execEcmdWithdraw_state (edge : Nat) (s : State) (u : State) : (landing (execEcmdWithdraw edge s) u).sys.state = s.sys.state := by
  unfold execEcmdWithdraw
  simp

@[simp] theorem execEcmdRestore_state (edge : Nat) (s : State) (u : State) : (landing (execEcmdRestore edge s) u).sys.state = s.sys.state := by
  unfold execEcmdRestore
  simp

@[simp] theorem execEcmdSafeStop_state (edge code : Nat) (s : State) (u : State) : (landing (execEcmdSafeStop edge code s) u).sys.state = s.sys.state := by
  unfold execEcmdSafeStop
  simp

@[simp] theorem execEcmdLocal_state (edge code : Nat) (s : State) (u : State) : (landing (execEcmdLocal edge code s) u).sys.state = s.sys.state := by
  unfold execEcmdLocal
  simp

@[simp] theorem execEcmdEnd_state (edge : Nat) (s : State) (u : State) : (landing (execEcmdEnd edge s) u).sys.state = s.sys.state := by
  unfold execEcmdEnd
  simp

@[simp] theorem lcmdWrite_state (cmd leaf : Nat) (s : State) : (lcmdWrite cmd leaf s).sys.state = s.sys.state := by
  unfold lcmdWrite
  simp

@[simp] theorem execLcmdIsolate_state (leaf : Nat) (s : State) (u : State) : (landing (execLcmdIsolate leaf s) u).sys.state = s.sys.state := by
  unfold execLcmdIsolate
  simp

@[simp] theorem execLcmdRestore_state (leaf : Nat) (s : State) (u : State) : (landing (execLcmdRestore leaf s) u).sys.state = s.sys.state := by
  unfold execLcmdRestore
  simp

@[simp] theorem execDsuLoadBegin_state (s : State) (u : State) : (landing (execDsuLoadBegin s) u).sys.state = s.sys.state := by
  unfold execDsuLoadBegin
  simp

@[simp] theorem execDsuConfLock_state (w : Word) (s : State) (u : State) : (landing (execDsuConfLock w s) u).sys.state = s.sys.state := by
  unfold execDsuConfLock
  simp

@[simp] theorem execSsTimeout_state (leaf : Nat) (s : State) (u : State) : (landing (execSsTimeout leaf s) u).sys.state = s.sys.state := by
  unfold execSsTimeout
  simp

@[simp] theorem execCorrExpiry_state (edge : Nat) (s : State) (u : State) : (landing (execCorrExpiry edge s) u).sys.state = s.sys.state := by
  unfold execCorrExpiry
  simp

@[simp] theorem execIteLock_state (w : Word) (s : State) (u : State) : (landing (execIteLock w s) u).sys.state = s.sys.state := by
  unfold execIteLock
  simp

@[simp] theorem execInputFilterChange_state (pathB : Bool) (input : Nat) (value : Bool) (s : State) (u : State) : (landing (execInputFilterChange pathB input value s) u).sys.state = s.sys.state := by
  unfold execInputFilterChange
  simp

@[simp] theorem execInputDiscrepancy_state (input : Nat) (s : State) (u : State) : (landing (execInputDiscrepancy input s) u).sys.state = s.sys.state := by
  unfold execInputDiscrepancy
  simp

@[simp] theorem execFeedStateChange_state (feed st : Nat) (s : State) (u : State) : (landing (execFeedStateChange feed st s) u).sys.state = s.sys.state := by
  unfold execFeedStateChange
  simp

@[simp] theorem execFeedRecovery_state (feed : Nat) (s : State) (u : State) : (landing (execFeedRecovery feed s) u).sys.state = s.sys.state := by
  unfold execFeedRecovery
  simp

@[simp] theorem execContactSupplyLimit_state (supply : Nat) (s : State) (u : State) : (landing (execContactSupplyLimit supply s) u).sys.state = s.sys.state := by
  unfold execContactSupplyLimit
  simp

@[simp] theorem execContactSupplyRecovery_state (supply : Nat) (s : State) (u : State) : (landing (execContactSupplyRecovery supply s) u).sys.state = s.sys.state := by
  unfold execContactSupplyRecovery
  simp

@[simp] theorem execOutputOnDelay_state (s : State) (u : State) : (landing (execOutputOnDelay s) u).sys.state = s.sys.state := by
  unfold execOutputOnDelay
  simp

@[simp] theorem execTestPulse_state (off : Bool) (s : State) (u : State) : (landing (execTestPulse off s) u).sys.state = s.sys.state := by
  unfold execTestPulse
  simp

@[simp] theorem execPulseMissing_state (output : Nat) (s : State) (u : State) : (landing (execPulseMissing output s) u).sys.state = s.sys.state := by
  unfold execPulseMissing
  simp

@[simp] theorem execOffReadsHigh_state (output : Nat) (s : State) (u : State) : (landing (execOffReadsHigh output s) u).sys.state = s.sys.state := by
  unfold execOffReadsHigh
  simp

@[simp] theorem execOutputLow_state (output : Nat) (s : State) (u : State) : (landing (execOutputLow output s) u).sys.state = s.sys.state := by
  unfold execOutputLow
  simp

@[simp] theorem execUndeclaredOutputEnergised_state (output : Nat) (s : State) (u : State) : (landing (execUndeclaredOutputEnergised output s) u).sys.state = s.sys.state := by
  unfold execUndeclaredOutputEnergised
  simp

@[simp] theorem execFioGrestore_state (w : Word) (s : State) (u : State) : (landing (execFioGrestore w s) u).sys.state = s.sys.state := by
  unfold execFioGrestore
  simp

@[simp] theorem execFioLock_state (w : Word) (s : State) (u : State) : (landing (execFioLock w s) u).sys.state = s.sys.state := by
  unfold execFioLock
  simp

@[simp] theorem execCrdAcquire_state (holder count : Nat) (s : State) (u : State) : (landing (execCrdAcquire holder count s) u).sys.state = s.sys.state := by
  unfold execCrdAcquire
  simp

@[simp] theorem execCrdRelease_state (elem : Nat) (s : State) (u : State) : (landing (execCrdRelease elem s) u).sys.state = s.sys.state := by
  unfold execCrdRelease
  simp

@[simp] theorem execCrdTimed_state (elem : Nat) (s : State) (u : State) : (landing (execCrdTimed elem s) u).sys.state = s.sys.state := by
  unfold execCrdTimed
  simp

@[simp] theorem execCrdTransfer_state (elem holder : Nat) (s : State) (u : State) : (landing (execCrdTransfer elem holder s) u).sys.state = s.sys.state := by
  unfold execCrdTransfer
  simp

@[simp] theorem execCrdBlock_state (elem holder : Nat) (s : State) (u : State) : (landing (execCrdBlock elem holder s) u).sys.state = s.sys.state := by
  unfold execCrdBlock
  simp

@[simp] theorem execCrdUnblock_state (elem : Nat) (s : State) (u : State) : (landing (execCrdUnblock elem s) u).sys.state = s.sys.state := by
  unfold execCrdUnblock
  simp

@[simp] theorem execCrdLend_state (elem holder : Nat) (s : State) (u : State) : (landing (execCrdLend elem holder s) u).sys.state = s.sys.state := by
  unfold execCrdLend
  simp

@[simp] theorem execCrdUnlend_state (elem : Nat) (s : State) (u : State) : (landing (execCrdUnlend elem s) u).sys.state = s.sys.state := by
  unfold execCrdUnlend
  simp

@[simp] theorem execCrdReclaim_state (elem : Nat) (s : State) (u : State) : (landing (execCrdReclaim elem s) u).sys.state = s.sys.state := by
  unfold execCrdReclaim
  simp

@[simp] theorem execCrdTake_state (elem holder : Nat) (s : State) (u : State) : (landing (execCrdTake elem holder s) u).sys.state = s.sys.state := by
  unfold execCrdTake
  simp

@[simp] theorem execCrdGiveback_state (elem : Nat) (s : State) (u : State) : (landing (execCrdGiveback elem s) u).sys.state = s.sys.state := by
  unfold execCrdGiveback
  simp

@[simp] theorem execCrdStartTimed_state (elem : Nat) (s : State) (u : State) : (landing (execCrdStartTimed elem s) u).sys.state = s.sys.state := by
  unfold execCrdStartTimed
  simp

@[simp] theorem execCrdLoadBegin_state (s : State) (u : State) : (landing (execCrdLoadBegin s) u).sys.state = s.sys.state := by
  unfold execCrdLoadBegin
  simp

@[simp] theorem execCrdLoadEnd_state (s : State) (u : State) : (landing (execCrdLoadEnd s) u).sys.state = s.sys.state := by
  unfold execCrdLoadEnd
  simp

@[simp] theorem execCrdOpInvalid_state (opc : Nat) (s : State) (u : State) : (landing (execCrdOpInvalid opc s) u).sys.state = s.sys.state := by
  unfold execCrdOpInvalid
  simp

@[simp] theorem execCrdHeldOpResume_state (s : State) (u : State) : (landing (execCrdHeldOpResume s) u).sys.state = s.sys.state := by
  unfold execCrdHeldOpResume
  simp

@[simp] theorem execCrdCensusGo_state (w : Word) (s : State) (u : State) : (landing (execCrdCensusGo w s) u).sys.state = s.sys.state := by
  unfold execCrdCensusGo
  simp

@[simp] theorem execCrdFreeze_state (w : Word) (s : State) (u : State) : (landing (execCrdFreeze w s) u).sys.state = s.sys.state := by
  unfold execCrdFreeze
  simp

@[simp] theorem execCrdAttrLock_state (w : Word) (s : State) (u : State) : (landing (execCrdAttrLock w s) u).sys.state = s.sys.state := by
  unfold execCrdAttrLock
  simp

@[simp] theorem lendTakeMsg_state (kind : Nat) (m : LendMsg) (s : State) : (lendTakeMsg kind m s).sys.state = s.sys.state := by
  unfold lendTakeMsg
  simp

@[simp] theorem execLendReq_state (m : LendMsg) (s : State) (u : State) : (landing (execLendReq m s) u).sys.state = s.sys.state := by
  unfold execLendReq
  simp

@[simp] theorem execLendGrant_state (m : LendMsg) (s : State) (u : State) : (landing (execLendGrant m s) u).sys.state = s.sys.state := by
  unfold execLendGrant
  simp

@[simp] theorem execLendRefuse_state (m : LendMsg) (s : State) (u : State) : (landing (execLendRefuse m s) u).sys.state = s.sys.state := by
  unfold execLendRefuse
  simp

@[simp] theorem execLendTaken_state (m : LendMsg) (s : State) (u : State) : (landing (execLendTaken m s) u).sys.state = s.sys.state := by
  unfold execLendTaken
  simp

@[simp] theorem execLendReturn_state (m : LendMsg) (s : State) (u : State) : (landing (execLendReturn m s) u).sys.state = s.sys.state := by
  unfold execLendReturn
  simp

@[simp] theorem execLendReturnAck_state (m : LendMsg) (s : State) (u : State) : (landing (execLendReturnAck m s) u).sys.state = s.sys.state := by
  unfold execLendReturnAck
  simp

@[simp] theorem execLendAudit_state (m : LendMsg) (s : State) (u : State) : (landing (execLendAudit m s) u).sys.state = s.sys.state := by
  unfold execLendAudit
  simp

@[simp] theorem execLendClaim_state (m : LendMsg) (s : State) (u : State) : (landing (execLendClaim m s) u).sys.state = s.sys.state := by
  unfold execLendClaim
  simp

@[simp] theorem execLendClaimEnd_state (m : LendMsg) (s : State) (u : State) : (landing (execLendClaimEnd m s) u).sys.state = s.sys.state := by
  unfold execLendClaimEnd
  simp

@[simp] theorem execLendClaimQuery_state (m : LendMsg) (s : State) (u : State) : (landing (execLendClaimQuery m s) u).sys.state = s.sys.state := by
  unfold execLendClaimQuery
  simp

@[simp] theorem execLendMessageRepeat_state (s : State) (u : State) : (landing (execLendMessageRepeat s) u).sys.state = s.sys.state := by
  unfold execLendMessageRepeat
  simp

@[simp] theorem execAuditDue_state (s : State) (u : State) : (landing (execAuditDue s) u).sys.state = s.sys.state := by
  unfold execAuditDue
  simp

@[simp] theorem execClaimQueryRepeat_state (s : State) (u : State) : (landing (execClaimQueryRepeat s) u).sys.state = s.sys.state := by
  unfold execClaimQueryRepeat
  simp

@[simp] theorem execClaimsComplete_state (s : State) (u : State) : (landing (execClaimsComplete s) u).sys.state = s.sys.state := by
  unfold execClaimsComplete
  simp

@[simp] theorem execMbxDbellPost_state (who chan : Nat) (value : Word) (s : State) (u : State) : (landing (execMbxDbellPost who chan value s) u).sys.state = s.sys.state := by
  unfold execMbxDbellPost
  simp

@[simp] theorem execMbxDbellTake_state (who chan : Nat) (s : State) (u : State) : (landing (execMbxDbellTake who chan s) u).sys.state = s.sys.state := by
  unfold execMbxDbellTake
  simp

@[simp] theorem execMbxSend_state (who chan len : Nat) (staged : List Word) (s : State) (u : State) : (landing (execMbxSend who chan len staged s) u).sys.state = s.sys.state := by
  unfold execMbxSend
  simp

@[simp] theorem execMbxTake_state (who chan : Nat) (s : State) (u : State) : (landing (execMbxTake who chan s) u).sys.state = s.sys.state := by
  unfold execMbxTake
  simp

@[simp] theorem execMbxRcodeWrite_state (who chan rcode : Nat) (s : State) (u : State) : (landing (execMbxRcodeWrite who chan rcode s) u).sys.state = s.sys.state := by
  unfold execMbxRcodeWrite
  simp

@[simp] theorem execMantleInputFilterChange_state (input : Nat) (value : Bool) (s : State) (u : State) : (landing (execMantleInputFilterChange input value s) u).sys.state = s.sys.state := by
  unfold execMantleInputFilterChange
  simp

@[simp] theorem execMantleListenerFrame_state (bus id : Nat) (fd : Bool) (bytes : List Byte) (s : State) (u : State) : (landing (execMantleListenerFrame bus id fd bytes s) u).sys.state = s.sys.state := by
  unfold execMantleListenerFrame
  simp

@[simp] theorem restrictNow_state (s : State) : (restrictNow s).sys.state = s.sys.state := by
  unfold restrictNow
  simp

@[simp] theorem writeOutside_state (high : Bool) (w : Word) (codingOk : Bool) (s : State) : (writeOutside high w codingOk s).sys.state = s.sys.state := by
  unfold writeOutside
  simp

@[simp] theorem execMntTvecSet_state (high : Bool) (w : Word) (codingOk : Bool) (s : State) (u : State) : (landing (execMntTvecSet high w codingOk s) u).sys.state = s.sys.state := by
  unfold execMntTvecSet
  simp

@[simp] theorem execMntHeartbeat_state (w : Word) (s : State) (u : State) : (landing (execMntHeartbeat w s) u).sys.state = s.sys.state := by
  unfold execMntHeartbeat
  simp

@[simp] theorem execMantleTableLoad_state (bytes : List Byte) (s : State) (u : State) : (landing (execMantleTableLoad bytes s) u).sys.state = s.sys.state := by
  unfold execMantleTableLoad
  simp

@[simp] theorem execMantleSelfCheckFail_state (listener : Bool) (s : State) (u : State) : (landing (execMantleSelfCheckFail listener s) u).sys.state = s.sys.state := by
  unfold execMantleSelfCheckFail
  simp

@[simp] theorem execMantleVcTiming_state (s : State) (u : State) : (landing (execMantleVcTiming s) u).sys.state = s.sys.state := by
  unfold execMantleVcTiming
  simp

@[simp] theorem execMantleSupplyReset_state (s : State) (u : State) : (landing (execMantleSupplyReset s) u).sys.state = s.sys.state := by
  unfold execMantleSupplyReset
  simp

@[simp] theorem execDatagramRx_state (portB plain : Bool) (srcIp : Word) (srcPort : Nat) (dstIp : Word) (dstPort arr : Nat) (bytes : List Byte) (s : State) (u : State) : (landing (execDatagramRx portB plain srcIp srcPort dstIp dstPort arr bytes s) u).sys.state = s.sys.state := by
  unfold execDatagramRx
  simp

@[simp] theorem execAbWindowExpiry_state (cnum : Nat) (s : State) (u : State) : (landing (execAbWindowExpiry cnum s) u).sys.state = s.sys.state := by
  unfold execAbWindowExpiry
  simp

@[simp] theorem execSeqBaseDrop_state (cnum : Nat) (s : State) (u : State) : (landing (execSeqBaseDrop cnum s) u).sys.state = s.sys.state := by
  unfold execSeqBaseDrop
  simp

@[simp] theorem execConnectionStale_state (cnum : Nat) (s : State) (u : State) : (landing (execConnectionStale cnum s) u).sys.state = s.sys.state := by
  unfold execConnectionStale
  simp

@[simp] theorem execPhyLinkChange_state (portB up : Bool) (s : State) (u : State) : (landing (execPhyLinkChange portB up s) u).sys.state = s.sys.state := by
  unfold execPhyLinkChange
  simp

@[simp] theorem execNetworkStateStart_state (s : State) (u : State) : (landing (execNetworkStateStart s) u).sys.state = s.sys.state := by
  unfold execNetworkStateStart
  simp

@[simp] theorem execNetworkRestored_state (portB : Bool) (s : State) (u : State) : (landing (execNetworkRestored portB s) u).sys.state = s.sys.state := by
  unfold execNetworkRestored
  simp

@[simp] theorem execNetsSilent_state (s : State) (u : State) : (landing (execNetsSilent s) u).sys.state = s.sys.state := by
  unfold execNetsSilent
  simp

@[simp] theorem execSniTxcReady_state (slot cnum : Nat) (bytes : List Byte) (s : State) (u : State) : (landing (execSniTxcReady slot cnum bytes s) u).sys.state = s.sys.state := by
  unfold execSniTxcReady
  simp

@[simp] theorem execSniLock_state (w : Word) (s : State) (u : State) : (landing (execSniLock w s) u).sys.state = s.sys.state := by
  unfold execSniLock
  simp

@[simp] theorem execObsPsel_state (k : Nat) (w : Word) (s : State) (u : State) : (landing (execObsPsel k w s) u).sys.state = s.sys.state := by
  unfold execObsPsel
  simp

@[simp] theorem execObsMark_state (w : Word) (s : State) (u : State) : (landing (execObsMark w s) u).sys.state = s.sys.state := by
  unfold execObsMark
  simp

@[simp] theorem execObsTagctl_state (w : Word) (s : State) (u : State) : (landing (execObsTagctl w s) u).sys.state = s.sys.state := by
  unfold execObsTagctl
  simp

@[simp] theorem execObsTagseed_state (w : Word) (s : State) (u : State) : (landing (execObsTagseed w s) u).sys.state = s.sys.state := by
  unfold execObsTagseed
  simp

@[simp] theorem execInstructionTag_state (pc : Word) (slotClass issueSlot fetchToIssue issueToRetire stall : Nat) (s : State) (u : State) : (landing (execInstructionTag pc slotClass issueSlot fetchToIssue issueToRetire stall s) u).sys.state = s.sys.state := by
  unfold execInstructionTag
  simp

@[simp] theorem execCounterWrap_state (counter : Nat) (s : State) (u : State) : (landing (execCounterWrap counter s) u).sys.state = s.sys.state := by
  unfold execCounterWrap
  simp

@[simp] theorem execMirrorMissed_state (s : State) (u : State) : (landing (execMirrorMissed s) u).sys.state = s.sys.state := by
  unfold execMirrorMissed
  simp

@[simp] theorem execPclSwap_state (w : Word) (peerOk : Bool) (s : State) (u : State) : (landing (execPclSwap w peerOk s) u).sys.state = s.sys.state := by
  unfold execPclSwap
  simp

@[simp] theorem execSwapDue_state (peerOk : Bool) (s : State) (u : State) : (landing (execSwapDue peerOk s) u).sys.state = s.sys.state := by
  unfold execSwapDue
  (repeat' split) <;> simp

@[simp] theorem execSwapRetry_state (peerOk : Bool) (s : State) (u : State) : (landing (execSwapRetry peerOk s) u).sys.state = s.sys.state := by
  unfold execSwapRetry
  simp

@[simp] theorem execSorliaSwapRequest_state (peerOk : Bool) (s : State) (u : State) : (landing (execSorliaSwapRequest peerOk s) u).sys.state = s.sys.state := by
  unfold execSorliaSwapRequest
  simp

@[simp] theorem execSwapConfirmCheck_state (s : State) (u : State) : (landing (execSwapConfirmCheck s) u).sys.state = s.sys.state := by
  unfold execSwapConfirmCheck
  simp

@[simp] theorem execTimingMarkerRx_state (peer : Bool) (frm : Nat) (phase : Int) (s : State) (u : State) : (landing (execTimingMarkerRx peer frm phase s) u).sys.state = s.sys.state := by
  unfold execTimingMarkerRx
  simp

@[simp] theorem execPclCtx_state (w : Word) (s : State) (u : State) : (landing (execPclCtx w s) u).sys.state = s.sys.state := by
  unfold execPclCtx
  simp

@[simp] theorem execPclEpoch_state (w : Word) (s : State) (u : State) : (landing (execPclEpoch w s) u).sys.state = s.sys.state := by
  unfold execPclEpoch
  simp

@[simp] theorem execPclLock_state (w : Word) (s : State) (u : State) : (landing (execPclLock w s) u).sys.state = s.sys.state := by
  unfold execPclLock
  simp

@[simp] theorem execProcessorHeartbeatTimeout_state (sp : Bool) (s : State) (u : State) : (landing (execProcessorHeartbeatTimeout sp s) u).sys.state = s.sys.state := by
  unfold execProcessorHeartbeatTimeout
  simp

@[simp] theorem execProcessorReloadDone_state (sp ok : Bool) (s : State) (u : State) : (landing (execProcessorReloadDone sp ok s) u).sys.state = s.sys.state := by
  unfold execProcessorReloadDone
  simp

@[simp] theorem execFirewallViolation_state (sp : Bool) (_addr : Nat) (s : State) (u : State) : (landing (execFirewallViolation sp _addr s) u).sys.state = s.sys.state := by
  unfold execFirewallViolation
  simp

@[simp] theorem execUnmappedAccess_state (write : Bool) (_addr : Nat) (s : State) (u : State) : (landing (execUnmappedAccess write _addr s) u).sys.state = s.sys.state := by
  unfold execUnmappedAccess
  simp

@[simp] theorem execLedAmberEnd_state (s : State) (u : State) : (landing (execLedAmberEnd s) u).sys.state = s.sys.state := by
  unfold execLedAmberEnd
  simp

@[simp] theorem execPdsTrack_state (m : Nat) (w : Word) (s : State) (u : State) : (landing (execPdsTrack m w s) u).sys.state = s.sys.state := by
  unfold execPdsTrack
  simp

@[simp] theorem execPdsSlotc_state (slot : Nat) (w : Word) (s : State) (u : State) : (landing (execPdsSlotc slot w s) u).sys.state = s.sys.state := by
  unfold execPdsSlotc
  simp

@[simp] theorem execPdsBslotc_state (slot : Nat) (w : Word) (s : State) (u : State) : (landing (execPdsBslotc slot w s) u).sys.state = s.sys.state := by
  unfold execPdsBslotc
  simp

@[simp] theorem execPdsBin_state (edge : Nat) (w : Word) (s : State) (u : State) : (landing (execPdsBin edge w s) u).sys.state = s.sys.state := by
  unfold execPdsBin
  simp

@[simp] theorem execPdsConfLock_state (w : Word) (s : State) (u : State) : (landing (execPdsConfLock w s) u).sys.state = s.sys.state := by
  unfold execPdsConfLock
  simp

@[simp] theorem execLeafLost_state (leaf : Nat) (s : State) (u : State) : (landing (execLeafLost leaf s) u).sys.state = s.sys.state := by
  unfold execLeafLost
  simp

@[simp] theorem freeBytes_state (n : Nat) (s : State) : (freeBytes n s).2.sys.state = s.sys.state := by
  unfold freeBytes
  simp

@[simp] theorem execSorliaChallenge_state (head : SorliaHead) (s : State) (u : State) : (landing (execSorliaChallenge head s) u).sys.state = s.sys.state := by
  unfold execSorliaChallenge
  simp

@[simp] theorem execSorliaAuthenticate_state (head : SorliaHead) (key : Nat) (body : AuthBody) (s : State) (u : State) : (landing (execSorliaAuthenticate head key body s) u).sys.state = s.sys.state := by
  unfold execSorliaAuthenticate
  simp

@[simp] theorem execSorliaLock_state (head : SorliaHead) (s : State) (u : State) : (landing (execSorliaLock head s) u).sys.state = s.sys.state := by
  unfold execSorliaLock
  rw [landing_next]
  refine served_state _ _ _ fun t => ?_
  dsimp only
  (repeat' split) <;> simp

@[simp] theorem execSorliaActivate_state (head : SorliaHead) (s : State) (u : State) : (landing (execSorliaActivate head s) u).sys.state = s.sys.state := by
  unfold execSorliaActivate
  simp

@[simp] theorem releaseLock_state (s : State) : (releaseLock s).sys.state = s.sys.state := by
  unfold releaseLock
  simp

@[simp] theorem execSorliaRelease_state (head : SorliaHead) (s : State) (u : State) : (landing (execSorliaRelease head s) u).sys.state = s.sys.state := by
  unfold execSorliaRelease
  simp

@[simp] theorem attest_state (nonce : List Byte) (s : State) : (attest nonce s).sys.state = s.sys.state := by
  unfold attest
  simp

@[simp] theorem execSorliaAttest_state (head : SorliaHead) (nonce : List Byte) (s : State) (u : State) : (landing (execSorliaAttest head nonce s) u).sys.state = s.sys.state := by
  unfold execSorliaAttest
  simp

@[simp] theorem execSorliaKeyEnrol_state (head : SorliaHead) (request : KeyRequest) (signer : Option Nat) (programOk : Bool) (s : State) (u : State) : (landing (execSorliaKeyEnrol head request signer programOk s) u).sys.state = s.sys.state := by
  unfold execSorliaKeyEnrol
  simp

@[simp] theorem execSorliaJournalClear_state (head : SorliaHead) (s : State) (u : State) : (landing (execSorliaJournalClear head s) u).sys.state = s.sys.state := by
  unfold execSorliaJournalClear
  simp

@[simp] theorem execSorliaSessionEnd_state (session : Nat) (s : State) (u : State) : (landing (execSorliaSessionEnd session s) u).sys.state = s.sys.state := by
  unfold execSorliaSessionEnd
  simp

@[simp] theorem execUpdateLockTimeout_state (s : State) (u : State) : (landing (execUpdateLockTimeout s) u).sys.state = s.sys.state := by
  unfold execUpdateLockTimeout
  (repeat' split) <;> simp

@[simp] theorem suiOp_state (key : Nat) (act : State → State) (s : State) (hf : ∀ u, (act u).sys.state = u.sys.state) : (suiOp key act s).sys.state = s.sys.state := by
  unfold suiOp
  simp [hf]

@[simp] theorem execSuiActivate_state (key : Nat) (s : State) (u : State) : (landing (execSuiActivate key s) u).sys.state = s.sys.state := by
  unfold execSuiActivate
  simp

@[simp] theorem execSuiConfirm_state (key : Nat) (s : State) (u : State) : (landing (execSuiConfirm key s) u).sys.state = s.sys.state := by
  unfold execSuiConfirm
  simp

@[simp] theorem execSuiRevert_state (key : Nat) (s : State) (u : State) : (landing (execSuiRevert key s) u).sys.state = s.sys.state := by
  unfold execSuiRevert
  rw [landing_next]
  refine suiOp_state (hf := fun u => ?_) ..
  split <;> simp

@[simp] theorem execSuiAttest_state (key : Nat) (nonce : List Byte) (s : State) (u : State) : (landing (execSuiAttest key nonce s) u).sys.state = s.sys.state := by
  unfold execSuiAttest
  simp

@[simp] theorem execSuiReverifyStep_state (key : Nat) (readOk : Bool) (s : State) (u : State) : (landing (execSuiReverifyStep key readOk s) u).sys.state = s.sys.state := by
  unfold execSuiReverifyStep
  simp

@[simp] theorem execSuiRefreshStep_state (key done : Nat) (s : State) (u : State) : (landing (execSuiRefreshStep key done s) u).sys.state = s.sys.state := by
  unfold execSuiRefreshStep
  simp

@[simp] theorem execSuiEnrol_state (key : Nat) (request : KeyRequest) (signer : Option Nat) (programOk : Bool) (s : State) (u : State) : (landing (execSuiEnrol key request signer programOk s) u).sys.state = s.sys.state := by
  unfold execSuiEnrol
  simp

@[simp] theorem execSuiRelease_state (key : Nat) (s : State) (u : State) : (landing (execSuiRelease key s) u).sys.state = s.sys.state := by
  unfold execSuiRelease
  simp

@[simp] theorem execTrialDeadline_state (s : State) (u : State) : (landing (execTrialDeadline s) u).sys.state = s.sys.state := by
  unfold execTrialDeadline
  (repeat' split) <;> simp

@[simp] theorem execReverifyDue_state (s : State) (u : State) : (landing (execReverifyDue s) u).sys.state = s.sys.state := by
  unfold execReverifyDue
  (repeat' split) <;> simp

@[simp] theorem execRefreshDue_state (s : State) (u : State) : (landing (execRefreshDue s) u).sys.state = s.sys.state := by
  unfold execRefreshDue
  (repeat' split) <;> simp

@[simp] theorem blockNote_state (b : RegBlock) (u : Nat) (s : State) : (blockNote b u s).sys.state = s.sys.state := by
  unfold blockNote
  (repeat' split) <;> simp

@[simp] theorem accessNote_state (r : RegAt) (s : State) : (accessNote r s).sys.state = s.sys.state := by
  unfold accessNote
  (repeat' split) <;> simp

@[simp] theorem readOnlyWrite_state (r : RegAt) (s : State) : (readOnlyWrite r s).sys.state = s.sys.state := by
  unfold readOnlyWrite
  simp

@[simp] theorem plainWrite_state (a : Nat) (r : RegAt) (w : Word) (s : State) : (plainWrite a r w s).sys.state = s.sys.state := by
  unfold plainWrite
  simp

@[simp] theorem tagLoad_state (t : Nat) (w : Word) (s : State) : (tagLoad t w s).sys.state = s.sys.state := by
  unfold tagLoad
  try dsimp only
  (repeat' split) <;> simp

@[simp] theorem tseqLoad_state (t : Nat) (w : Word) (s : State) : (tseqLoad t w s).sys.state = s.sys.state := by
  unfold tseqLoad
  simp

@[simp] theorem countLoad_state (lo i : Nat) (w : Word) (s : State) : (countLoad lo i w s).sys.state = s.sys.state := by
  unfold countLoad
  simp

@[simp] theorem loadingWrite_state (a : Nat) (r : RegAt) (w : Word) (s : State) : (loadingWrite a r w s).sys.state = s.sys.state := by
  unfold loadingWrite
  simp

@[simp] theorem vauWrite_state (lo : Nat) (w : Word) (s : State) : ((vauWrite lo w s).getD s).sys.state = s.sys.state := by
  unfold vauWrite
  try dsimp only
  (repeat' split) <;> simp

@[simp] theorem mntWrite_state (lo : Nat) (w : Word) (s : State) : ((mntWrite lo w s).getD s).sys.state = s.sys.state := by
  unfold mntWrite
  (repeat' split) <;> simp

@[simp] theorem crdRegWrite_state (lo : Nat) (w : Word) (s : State) : ((crdRegWrite lo w s).getD s).sys.state = s.sys.state := by
  unfold crdRegWrite
  (repeat' split) <;> simp

@[simp] theorem pdsWrite_state (lo i : Nat) (w : Word) (s : State) : ((pdsWrite lo i w s).getD s).sys.state = s.sys.state := by
  unfold pdsWrite
  (repeat' split) <;> simp

@[simp] theorem dbcWrite_state (lo i b : Nat) (w : Word) (s : State) : ((dbcWrite lo i b w s).getD s).sys.state = s.sys.state := by
  unfold dbcWrite
  (repeat' split) <;> simp

@[simp] theorem txbufWrite_state (k : Nat) (w : Word) (s : State) : (txbufWrite k w s).sys.state = s.sys.state := by
  unfold txbufWrite
  simp

@[simp] theorem txcWrite_state (m : Nat) (w : Word) (s : State) : (txcWrite m w s).sys.state = s.sys.state := by
  unfold txcWrite
  simp

@[simp] theorem sniWrite_state (lo i : Nat) (w : Word) (s : State) : ((sniWrite lo i w s).getD s).sys.state = s.sys.state := by
  unfold sniWrite
  (repeat' split) <;> simp

@[simp] theorem cvuCtrl_state (n : Nat) (w : Word) (s : State) : (cvuCtrl n w s).sys.state = s.sys.state := by
  unfold cvuCtrl
  (repeat' split) <;> simp

@[simp] theorem cvuWrite_state (lo n : Nat) (w : Word) (s : State) : ((cvuWrite lo n w s).getD s).sys.state = s.sys.state := by
  unfold cvuWrite
  (repeat' split) <;> simp

@[simp] theorem mbxWrite_state (who lo i n : Nat) (w : Word) (s : State) : ((mbxWrite who lo i n w s).getD s).sys.state = s.sys.state := by
  unfold mbxWrite
  try dsimp only
  (repeat' split) <;> simp

@[simp] theorem evrWrite_state (lo : Nat) (w : Word) (s : State) : ((evrWrite lo w s).getD s).sys.state = s.sys.state := by
  unfold evrWrite
  (repeat' split) <;> simp

@[simp] theorem obsWrite_state (lo i : Nat) (w : Word) (s : State) : ((obsWrite lo i w s).getD s).sys.state = s.sys.state := by
  unfold obsWrite
  (repeat' split) <;> simp

@[simp] theorem codeWrite_state (a : Nat) (r : RegAt) (w : Word) (s : State) : (codeWrite a r w s).sys.state = s.sys.state := by
  unfold codeWrite
  (repeat' split) <;> simp

@[simp] theorem memRead_state (a width : Nat) (s : State) : (memRead a width s).sys.state = s.sys.state := by
  unfold memRead
  simp

@[simp] theorem monitorFresh_state (s : State) : (monitorFresh s).sys.state = s.sys.state := by
  unfold monitorFresh
  simp

@[simp] theorem readValue_state (a : Nat) (r : RegAt) (s : State) : (readValue a r s).2.sys.state = s.sys.state := by
  unfold readValue
  try dsimp only
  (repeat' split) <;> simp

@[simp] theorem rxRead_state (i n : Nat) (s : State) : (rxRead i n s).sys.state = s.sys.state := by
  unfold rxRead
  simp

@[simp] theorem mbxRead_state (who a : Nat) (r : RegAt) (s : State) : (mbxRead who a r s).sys.state = s.sys.state := by
  unfold mbxRead
  dsimp only
  (repeat' split) <;> simp

@[simp] theorem regRead_state (a : Nat) (r : RegAt) (s : State) : (regRead a r s).sys.state = s.sys.state := by
  unfold regRead
  try dsimp only
  (repeat' split) <;> simp

@[simp] theorem accessRead_state (a width : Nat) (s : State) : (accessRead a width s).sys.state = s.sys.state := by
  unfold accessRead
  (repeat' split) <;> simp

@[simp] theorem procWrite_state (who a width : Nat) (w : Word) (s : State) : (procWrite who a width w s).sys.state = s.sys.state := by
  unfold procWrite
  (repeat' split) <;> simp

@[simp] theorem procRead_state (who a width : Nat) (s : State) : (procRead who a width s).sys.state = s.sys.state := by
  unfold procRead
  (repeat' split) <;> simp

@[simp] theorem debugRead_state (k a width : Nat) (s : State) : (debugRead k a width s).sys.state = s.sys.state := by
  unfold debugRead
  (repeat' split) <;> simp

@[simp] theorem agentRead_state (who a width : Nat) (s : State) : (agentRead who a width s).sys.state = s.sys.state := by
  unfold agentRead
  simp

@[simp] theorem execRegisterRead_state (at_ : BusAddr) (width : Nat) (s : State) (u : State) : (landing (execRegisterRead at_ width s) u).sys.state = s.sys.state := by
  unfold execRegisterRead
  simp

@[simp] theorem execTokenTimerExpire_state (elem : Nat) (s : State) (u : State) : (landing (execTokenTimerExpire elem s) u).sys.state = s.sys.state := by
  unfold execTokenTimerExpire
  simp

@[simp] theorem gatherCopies_state (w0 w1 w2 : List QWrite) (s : State) : (gatherCopies w0 w1 w2 s).sys.state = s.sys.state := by
  unfold gatherCopies
  simp

@[simp] theorem execVauSigCapture_state (w : Word) (c0 c1 c2 : Option CoreCapture) (s : State) (u : State) : (landing (execVauSigCapture w c0 c1 c2 s) u).sys.state = s.sys.state := by
  unfold execVauSigCapture
  simp

@[simp] theorem execMemoryCorrected_state (region : Nat) (s : State) (u : State) : (landing (execMemoryCorrected region s) u).sys.state = s.sys.state := by
  unfold execMemoryCorrected
  simp

@[simp] theorem execVauSplitReq_state (w : Word) (s : State) (u : State) : (landing (execVauSplitReq w s) u).sys.state = s.sys.state := by
  unfold execVauSplitReq
  simp

@[simp] theorem execSelftestDue_state (region : Nat) (s : State) (u : State) : (landing (execSelftestDue region s) u).sys.state = s.sys.state := by
  unfold execSelftestDue
  simp

@[simp] theorem execSelftestOverdue_state (region : Nat) (s : State) (u : State) : (landing (execSelftestOverdue region s) u).sys.state = s.sys.state := by
  unfold execSelftestOverdue
  simp

@[simp] theorem execRejoinSelftestDone_state (passed : Bool) (s : State) (u : State) : (landing (execRejoinSelftestDone passed s) u).sys.state = s.sys.state := by
  unfold execRejoinSelftestDone
  simp

end Sys2Proof.Machine
end

