-- ==== Sys2Proof/Laws/Phase.lean ====
section
/-!
SUPPORT. Which operations leave the phase of the VC, one lemma per operation.
-/
namespace Sys2Proof.Machine
set_option linter.all false

@[simp] theorem ite_phase (c : Prop) [Decidable c] (a b : State) : (if c then a else b).sys.phase = if c then a.sys.phase else b.sys.phase := by
  split <;> rfl

@[simp] theorem foldl_phase {β : Type} (l : List β) (f : State → β → State) (s : State) (h : ∀ s b, (f s b).sys.phase = s.sys.phase) :
    (l.foldl f s).sys.phase = s.sys.phase := by
  induction l generalizing s with
  | nil => rfl
  | cons b l ih => rw [List.foldl_cons, ih, h]

theorem foldlFst_phase {α β : Type} (l : List β) (f : State × α → β → State × α) (p : State × α) (h : ∀ p b, (f p b).1.sys.phase = p.1.sys.phase) :
    (l.foldl f p).1.sys.phase = p.1.sys.phase := by
  induction l generalizing p with
  | nil => rfl
  | cons b l ih => rw [List.foldl_cons, ih, h]

@[simp] theorem State.setReg_phase (s : State) (a : Nat) (w : Word) : (State.setReg s a w).sys.phase = s.sys.phase := by
  unfold State.setReg
  simp

@[simp] theorem State.setRegF_phase (s : State) (a hi lo v : Nat) : (State.setRegF s a hi lo v).sys.phase = s.sys.phase := by
  unfold State.setRegF
  simp

@[simp] theorem State.setRegB_phase (s : State) (a i : Nat) (b : Bool) : (State.setRegB s a i b).sys.phase = s.sys.phase := by
  unfold State.setRegB
  simp

@[simp] theorem State.mramPut_phase (s : State) (off : Nat) (bs : List Byte) : (State.mramPut s off bs).sys.phase = s.sys.phase := by
  unfold State.mramPut
  simp

@[simp] theorem State.takeFree_phase (s : State) : (State.takeFree s).2.sys.phase = s.sys.phase := by
  unfold State.takeFree
  simp

@[simp] theorem putDual_phase (base : Nat) (slotB : Bool) (w : Word) (s : State) : (putDual base slotB w s).sys.phase = s.sys.phase := by
  unfold putDual
  simp

@[simp] theorem nseqCheckpoint_phase (s : State) : (nseqCheckpoint s).sys.phase = s.sys.phase := by
  unfold nseqCheckpoint
  simp

@[simp] theorem stageFit_phase (ty : Nat) (body : List Byte) (s : State) : (stageFit ty body s).sys.phase = s.sys.phase := by
  unfold stageFit
  simp

@[simp] theorem stageLost_phase (s : State) : (stageLost s).sys.phase = s.sys.phase := by
  unfold stageLost
  simp

@[simp] theorem stage_phase (ty : Nat) (body : List Byte) (s : State) : (stage ty body s).1.sys.phase = s.sys.phase := by
  unfold stage
  try dsimp only
  (repeat' split) <;> simp

@[simp] theorem setEvent_phase (code off : Nat) (s : State) : (setEvent code off s).sys.phase = s.sys.phase := by
  unfold setEvent
  (repeat' split) <;> simp

@[simp] theorem evrClose_phase (s : State) : (evrClose s).1.sys.phase = s.sys.phase := by
  unfold evrClose
  try dsimp only
  (repeat' split) <;> simp

@[simp] theorem evrAllocate_phase (r : LowReq) (s : State) : (evrAllocate r s).sys.phase = s.sys.phase := by
  unfold evrAllocate
  simp

@[simp] theorem evrRepeat_phase (s : State) : (evrRepeat s).sys.phase = s.sys.phase := by
  unfold evrRepeat
  (repeat' split) <;> simp

@[simp] theorem evrTake_phase (k : Nat) (r : LowReq) (s : State) : (evrTake k r s).sys.phase = s.sys.phase := by
  induction k generalizing r s with
  | zero => rfl
  | succ k ih =>
    unfold evrTake
    dsimp only
    (repeat' split) <;> simp [ih]

@[simp] theorem evrDrop_phase (src : Nat) (s : State) : (evrDrop src s).sys.phase = s.sys.phase := by
  unfold evrDrop
  simp

@[simp] theorem evrAnnounce_phase (src : Nat) (s : State) : (evrAnnounce src s).sys.phase = s.sys.phase := by
  unfold evrAnnounce
  simp

@[simp] theorem evrRequest_phase (r : LowReq) (s : State) : (evrRequest r s).sys.phase = s.sys.phase := by
  unfold evrRequest
  simp

@[simp] theorem evrFlag_phase (r : LowReq) (s : State) : (evrFlag r s).sys.phase = s.sys.phase := by
  unfold evrFlag
  simp

@[simp] theorem readFlags_phase (s : State) : (readFlags s).sys.phase = s.sys.phase := by
  unfold readFlags
  simp

@[simp] theorem noteAt_phase (off code obj val : Nat) (s : State) : (noteAt off code obj val s).sys.phase = s.sys.phase := by
  unfold noteAt
  simp

@[simp] theorem note_phase (code obj val : Nat) (s : State) : (note code obj val s).sys.phase = s.sys.phase := by
  unfold note
  simp

@[simp] theorem noteIf_phase (c : Bool) (code obj val : Nat) (s : State) : (noteIf c code obj val s).sys.phase = s.sys.phase := by
  unfold noteIf
  simp

@[simp] theorem setRegs_phase (a : Nat) (ws : List Word) (s : State) : (setRegs a ws s).sys.phase = s.sys.phase := by
  unfold setRegs
  simp

@[simp] theorem postNand_phase (ty : Nat) (body : List Byte) (s : State) : (postNand ty body s).sys.phase = s.sys.phase := by
  unfold postNand
  simp

@[simp] theorem recordLater_phase (ty : Nat) (body : List Byte) (s : State) : (recordLater ty body s).sys.phase = s.sys.phase := by
  unfold recordLater
  simp

@[simp] theorem mSafe_phase (code : Nat) (s : State) : (mSafe code s).sys.phase = s.sys.phase := by
  unfold mSafe
  simp

@[simp] theorem mFault_phase (code : Nat) (s : State) : (mFault code s).sys.phase = s.sys.phase := by
  unfold mFault
  simp

@[simp] theorem heartbeatCheck_phase (received : Bool) (s : State) : (heartbeatCheck received s).sys.phase = s.sys.phase := by
  unfold heartbeatCheck
  try dsimp only
  (repeat' split) <;> simp

@[simp] theorem sealBus_phase (b : Nat) (s : State) : (sealBus b s).sys.phase = s.sys.phase := by
  unfold sealBus
  simp

@[simp] theorem countMasked_phase (n : Nat) (s : State) : (countMasked n s).sys.phase = s.sys.phase := by
  unfold countMasked
  simp

@[simp] theorem resealBus_phase (b : Nat) (s : State) : (resealBus b s).sys.phase = s.sys.phase := by
  unfold resealBus
  simp

@[simp] theorem resealAfter_phase (before : Mnt) (s : State) : (resealAfter before s).sys.phase = s.sys.phase := by
  unfold resealAfter
  simp

@[simp] theorem State.setTag_phase (s : State) (t : Nat) (g : Tag) : (State.setTag s t g).sys.phase = s.sys.phase := by
  unfold State.setTag
  simp

@[simp] theorem outPush_phase (host : Nat) (noncons : Bool) (r : List Byte) (s : State) : (outPush host noncons r s).sys.phase = s.sys.phase := by
  unfold outPush
  simp

@[simp] theorem writeRbuf_phase (r : List Byte) (s : State) : (writeRbuf r s).sys.phase = s.sys.phase := by
  unfold writeRbuf
  simp

@[simp] theorem recordCommand_phase (t : Nat) (g : Tag) (r : List Byte) (s : State) : (recordCommand t g r s).sys.phase = s.sys.phase := by
  unfold recordCommand
  simp

@[simp] theorem tagDirty_phase (t : Nat) (s : State) : (tagDirty t s).sys.phase = s.sys.phase := by
  unfold tagDirty
  simp

@[simp] theorem storeReply_phase (r : List Byte) (s : State) : (storeReply r s).sys.phase = s.sys.phase := by
  unfold storeReply
  simp

@[simp] theorem abortAll_phase (cause : Nat) (s : State) : (abortAll cause s).sys.phase = s.sys.phase := by
  unfold abortAll
  simp

@[simp] theorem State.setBus_phase (s : State) (b : Nat) (d : Dbc) : (State.setBus s b d).sys.phase = s.sys.phase := by
  unfold State.setBus
  simp

@[simp] theorem busCancel_phase (b : Nat) (s : State) : (busCancel b s).sys.phase = s.sys.phase := by
  unfold busCancel
  simp

@[simp] theorem clearReady_phase (s : State) : (clearReady s).sys.phase = s.sys.phase := by
  unfold clearReady
  simp

@[simp] theorem enterSafe_phase (code : Nat) (mantle : Bool) (s : State) : (enterSafe code mantle s).sys.phase = s.sys.phase := by
  unfold enterSafe
  simp

@[simp] theorem enterMaint_phase (code : Nat) (mantle : Bool) (s : State) : (enterMaint code mantle s).sys.phase = s.sys.phase := by
  unfold enterMaint
  simp

@[simp] theorem safeOn_phase (code : Nat) (mantle : Bool) (s : State) : (safeOn code mantle s).sys.phase = s.sys.phase := by
  unfold safeOn
  (repeat' split) <;> simp

@[simp] theorem raiseSAt_phase (off code obj val : Nat) (s : State) : (raiseSAt off code obj val s).sys.phase = s.sys.phase := by
  unfold raiseSAt
  simp

@[simp] theorem raiseS_phase (code obj val : Nat) (s : State) : (raiseS code obj val s).sys.phase = s.sys.phase := by
  unfold raiseS
  simp

@[simp] theorem raiseAll_phase (codes : List Nat) (s : State) : (raiseAll codes s).sys.phase = s.sys.phase := by
  unfold raiseAll
  (repeat' split) <;> simp

@[simp] theorem State.setEdge_phase (s : State) (e : Nat) (d : DEdge) : (State.setEdge s e d).sys.phase = s.sys.phase := by
  unfold State.setEdge
  simp

@[simp] theorem localSafeEdge_phase (e code : Nat) (s : State) : (localSafeEdge e code s).sys.phase = s.sys.phase := by
  unfold localSafeEdge
  simp

@[simp] theorem raiseEdge_phase (e code obj val : Nat) (s : State) : (raiseEdge e code obj val s).sys.phase = s.sys.phase := by
  unfold raiseEdge
  simp

@[simp] theorem obsAdd_phase (inc : Nat → Nat → Nat) (s : State) : (obsAdd inc s).sys.phase = s.sys.phase := by
  unfold obsAdd
  simp

@[simp] theorem obsCount_phase (i n : Nat) (s : State) : (obsCount i n s).sys.phase = s.sys.phase := by
  unfold obsCount
  simp

@[simp] theorem obsCountT_phase (k i n : Nat) (s : State) : (obsCountT k i n s).sys.phase = s.sys.phase := by
  unfold obsCountT
  simp

@[simp] theorem obsRun_phase (s : State) : (obsRun s).sys.phase = s.sys.phase := by
  unfold obsRun
  simp

@[simp] theorem ovfWrite_phase (j : Nat) (w : Word) (s : State) : (ovfWrite j w s).sys.phase = s.sys.phase := by
  unfold ovfWrite
  simp

@[simp] theorem tagDraw_phase (s : State) : (tagDraw s).sys.phase = s.sys.phase := by
  unfold tagDraw
  simp

@[simp] theorem linkSend_phase (s : State) : (linkSend s).sys.phase = s.sys.phase := by
  unfold linkSend
  simp

@[simp] theorem segStart_phase (s : State) : (segStart s).sys.phase = s.sys.phase := by
  unfold segStart
  simp

@[simp] theorem obsStart_phase (s : State) : (obsStart s).sys.phase = s.sys.phase := by
  unfold obsStart
  simp

@[simp] theorem segmentLatch_phase (s : State) : (segmentLatch s).sys.phase = s.sys.phase := by
  unfold segmentLatch
  simp

@[simp] theorem obsRejoin_phase (k : Nat) (s : State) : (obsRejoin k s).sys.phase = s.sys.phase := by
  unfold obsRejoin
  simp

@[simp] theorem State.setLeaf_phase (s : State) (l : Nat) (p : PLeaf) : (State.setLeaf s l p).sys.phase = s.sys.phase := by
  unfold State.setLeaf
  simp

@[simp] theorem onSlot_phase (cB rB tB : Nat) (berth : Bool) (f : SlotConf → Word → Word → Word × Word) (s : State) (i : Nat) : (onSlot cB rB tB berth f s i).sys.phase = s.sys.phase := by
  unfold onSlot
  simp

@[simp] theorem onLeafSlots_phase (l : Nat) (f : SlotConf → Word → Word → Word × Word) (s : State) : (onLeafSlots l f s).sys.phase = s.sys.phase := by
  unfold onLeafSlots
  simp

@[simp] theorem onBerthSlots_phase (e : Nat) (f : SlotConf → Word → Word → Word × Word) (s : State) : (onBerthSlots e f s).sys.phase = s.sys.phase := by
  unfold onBerthSlots
  simp

@[simp] theorem leafTake_phase (l trv : Nat) (vel : Int) (r : UnitRep) (s : State) : (leafTake l trv vel r s).sys.phase = s.sys.phase := by
  unfold leafTake
  simp

@[simp] theorem leafMissing_phase (l : Nat) (s : State) : (leafMissing l s).sys.phase = s.sys.phase := by
  unfold leafMissing
  simp

@[simp] theorem unitIntake_phase (u : Nat) (r : UnitRep) (due : Bool) (s : State) : (unitIntake u r due s).sys.phase = s.sys.phase := by
  unfold unitIntake
  simp

@[simp] theorem latchLeaves_phase (s : State) : (latchLeaves s).sys.phase = s.sys.phase := by
  unfold latchLeaves
  simp

@[simp] theorem clearNew_phase (s : State) : (clearNew s).sys.phase = s.sys.phase := by
  unfold clearNew
  simp

@[simp] theorem berthCompute_phase (s : State) (e : Nat) : (berthCompute s e).sys.phase = s.sys.phase := by
  unfold berthCompute
  simp

@[simp] theorem slotPut_phase (phaseOk berth : Bool) (i : Nat) (w : Word) (s : State) : (slotPut phaseOk berth i w s).sys.phase = s.sys.phase := by
  unfold slotPut
  simp

@[simp] theorem trackWrite_phase (m : Nat) (w : Word) (s : State) : (trackWrite m w s).sys.phase = s.sys.phase := by
  unfold trackWrite
  simp

@[simp] theorem State.setDleaf_phase (s : State) (l : Nat) (d : DLeaf) : (State.setDleaf s l d).sys.phase = s.sys.phase := by
  unfold State.setDleaf
  simp

@[simp] theorem dsuIntake_phase (u : Nat) (r : UnitRep) (taken due : Bool) (s : State) : (dsuIntake u r taken due s).sys.phase = s.sys.phase := by
  unfold dsuIntake
  simp

@[simp] theorem dsuSlot_phase (i : Nat) (w : Word) (arg : Nat) (s : State) : (dsuSlot i w arg s).sys.phase = s.sys.phase := by
  unfold dsuSlot
  simp

@[simp] theorem armFor_phase (l : Nat) (st : LeafSt) (creep dirOpen : Bool) (s : State) : (armFor l st creep dirOpen s).sys.phase = s.sys.phase := by
  unfold armFor
  (repeat' split) <;> simp

@[simp] theorem enterLeaf_phase (l : Nat) (st : LeafSt) (s : State) : (enterLeaf l st s).sys.phase = s.sys.phase := by
  unfold enterLeaf
  simp

@[simp] theorem updLeaf_phase (l : Nat) (f : DLeaf → DLeaf) (s : State) : (updLeaf l f s).sys.phase = s.sys.phase := by
  unfold updLeaf
  simp

@[simp] theorem updEdge_phase (e : Nat) (f : DEdge → DEdge) (s : State) : (updEdge e f s).sys.phase = s.sys.phase := by
  unfold updEdge
  simp

@[simp] theorem doorEvent_phase (v : DoorEvent) (s : State) : (doorEvent v s).sys.phase = s.sys.phase := by
  unfold doorEvent
  simp

@[simp] theorem logReport_phase (s : State) (l : Nat) : (logReport s l).sys.phase = s.sys.phase := by
  unfold logReport
  simp

@[simp] theorem logCycle_phase (l endState : Nat) (s : State) : (logCycle l endState s).sys.phase = s.sys.phase := by
  unfold logCycle
  simp

@[simp] theorem abortCycle_phase (l endState : Nat) (s : State) : (abortCycle l endState s).sys.phase = s.sys.phase := by
  unfold abortCycle
  simp

@[simp] theorem enterLocal_phase (e code : Nat) (s : State) : (enterLocal e code s).sys.phase = s.sys.phase := by
  unfold enterLocal
  try dsimp only
  (repeat' split) <;>
    first | (simp; done) | (refine Eq.trans (foldl_phase _ _ _ (fun s b => ?_)) ?_ <;> (repeat' split) <;> simp)

@[simp] theorem localCause_phase (e code obj val : Nat) (s : State) : (localCause e code obj val s).sys.phase = s.sys.phase := by
  unfold localCause
  simp

@[simp] theorem setTracked_phase (l : Nat) (b : Bool) (s : State) : (setTracked l b s).sys.phase = s.sys.phase := by
  unfold setTracked
  simp

@[simp] theorem startLeaf_phase (s : State) (l : Nat) : (startLeaf s l).sys.phase = s.sys.phase := by
  unfold startLeaf
  simp

@[simp] theorem plunger_phase (s : State) (e : Nat) : (plunger s e).sys.phase = s.sys.phase := by
  unfold plunger
  simp

@[simp] theorem stoInput_phase (s : State) (u : Nat) : (stoInput s u).sys.phase = s.sys.phase := by
  unfold stoInput
  simp

@[simp] theorem creepCheck_phase (s : State) (l : Nat) : (creepCheck s l).sys.phase = s.sys.phase := by
  unfold creepCheck
  simp

@[simp] theorem stepLocal_phase (s : State) (e : Nat) : (stepLocal s e).sys.phase = s.sys.phase := by
  unfold stepLocal
  try dsimp only
  (repeat' split) <;> simp

@[simp] theorem rampFault_phase (l code : Nat) (s : State) : (rampFault l code s).sys.phase = s.sys.phase := by
  unfold rampFault
  simp

@[simp] theorem stepRamp_phase (s : State) (l : Nat) : (stepRamp s l).sys.phase = s.sys.phase := by
  unfold stepRamp
  simp

@[simp] theorem stopLeaf_phase (unitLevel : Bool) (s : State) (l : Nat) : (stopLeaf unitLevel s l).sys.phase = s.sys.phase := by
  unfold stopLeaf
  simp

@[simp] theorem edgeStop_phase (e code : Nat) (s : State) : (edgeStop e code s).sys.phase = s.sys.phase := by
  unfold edgeStop
  simp

@[simp] theorem stepStop_phase (s : State) (e : Nat) : (stepStop s e).sys.phase = s.sys.phase := by
  unfold stepStop
  try dsimp only
  (repeat' split) <;> simp

@[simp] theorem setStoAtOnce_phase (u : Nat) (b : Bool) (s : State) : (setStoAtOnce u b s).sys.phase = s.sys.phase := by
  unfold setStoAtOnce
  simp

@[simp] theorem faultAction_phase (l : Nat) (s : State) : (faultAction l s).sys.phase = s.sys.phase := by
  unfold faultAction
  simp

@[simp] theorem leafFails_phase (code l : Nat) (s : State) : (leafFails code l s).sys.phase = s.sys.phase := by
  unfold leafFails
  simp

@[simp] theorem stepFault_phase (s : State) (l : Nat) : (stepFault s l).sys.phase = s.sys.phase := by
  unfold stepFault
  (repeat' split) <;> simp

@[simp] theorem leavesToClosing_phase (e : Nat) (s : State) : (leavesToClosing e s).sys.phase = s.sys.phase := by
  unfold leavesToClosing
  try dsimp only
  (repeat' split) <;>
    first | (simp; done) | (refine Eq.trans (foldl_phase _ _ _ (fun s b => ?_)) ?_ <;> (repeat' split) <;> simp)

@[simp] theorem edgeToClosing_phase (e : Nat) (s : State) : (edgeToClosing e s).sys.phase = s.sys.phase := by
  unfold edgeToClosing
  simp

@[simp] theorem liftHolds_phase (e : Nat) (s : State) : (liftHolds e s).sys.phase = s.sys.phase := by
  unfold liftHolds
  simp

@[simp] theorem leafRestore_phase (l : Nat) (s : State) : (leafRestore l s).sys.phase = s.sys.phase := by
  unfold leafRestore
  simp

@[simp] theorem edgeOpen_phase (e : Nat) (s : State) : (edgeOpen e s).sys.phase = s.sys.phase := by
  unfold edgeOpen
  simp

@[simp] theorem edgeCommand_phase (e : Nat) (s : State) : (edgeCommand e s).1.sys.phase = s.sys.phase := by
  unfold edgeCommand
  try dsimp only
  (repeat' split) <;> simp

@[simp] theorem restorationRelease_phase (e : Nat) (s : State) : (restorationRelease e s).sys.phase = s.sys.phase := by
  unfold restorationRelease
  try dsimp only
  (repeat' split) <;>
    first | (simp; done) | (refine Eq.trans (foldl_phase _ _ _ (fun s b => ?_)) ?_ <;> (repeat' split) <;> simp)

@[simp] theorem stepCommand_phase (s : State) (e : Nat) : (stepCommand s e).sys.phase = s.sys.phase := by
  unfold stepCommand
  dsimp only
  generalize hs : (if (s.edge e).st = EdgeSt.localSafe ∧ (s.edge e).restoring = true ∧ later s.sys.vcn (s.edge e).restVcn = true
    then restorationRelease e s else s) = s1
  have h1 : s1.sys.phase = s.sys.phase := by
    rw [← hs]
    split <;> simp
  have h2 := edgeCommand_phase e s1
  split
  · exact h1
  · split <;> rename_i h <;> rw [h] at h2 <;> simp_all

@[simp] theorem leafCommand_phase (s : State) (w : Word) : (leafCommand s w).sys.phase = s.sys.phase := by
  unfold leafCommand
  (repeat' split) <;> simp

@[simp] theorem closingLeaf_phase (l : Nat) (s : State) : (closingLeaf l s).sys.phase = s.sys.phase := by
  unfold closingLeaf
  simp

@[simp] theorem stepLeaf_phase (s : State) (l : Nat) : (stepLeaf s l).sys.phase = s.sys.phase := by
  unfold stepLeaf
  try dsimp only
  (repeat' split) <;> simp

@[simp] theorem provingDone_phase (e : Nat) (s : State) : (provingDone e s).sys.phase = s.sys.phase := by
  unfold provingDone
  simp

@[simp] theorem edgeProve_phase (e : Nat) (lt : Bool) (s : State) : (edgeProve e lt s).sys.phase = s.sys.phase := by
  unfold edgeProve
  try dsimp only
  (repeat' split) <;> simp

@[simp] theorem closeTimer_phase (e : Nat) (s : State) : (closeTimer e s).sys.phase = s.sys.phase := by
  unfold closeTimer
  try dsimp only
  (repeat' split) <;> simp

@[simp] theorem stepEdge_phase (s : State) (e : Nat) : (stepEdge s e).sys.phase = s.sys.phase := by
  unfold stepEdge
  simp

@[simp] theorem countCheck_phase (s : State) : (countCheck s).sys.phase = s.sys.phase := by
  unfold countCheck
  (repeat' split) <;> simp

@[simp] theorem dsuStep_phase (s : State) : (dsuStep s).sys.phase = s.sys.phase := by
  unfold dsuStep
  simp

@[simp] theorem tokSet_phase (i : Nat) (w : Word) (s : State) : (tokSet i w s).sys.phase = s.sys.phase := by
  unfold tokSet
  simp

@[simp] theorem acquireList_phase (xs : List Nat) (h : Nat) (s : State) : (acquireList xs h s).1.sys.phase = s.sys.phase := by
  unfold acquireList
  (repeat' split) <;> simp

@[simp] theorem recount_phase (s : State) : (recount s).sys.phase = s.sys.phase := by
  unfold recount
  simp

@[simp] theorem crdPerform_phase (o : CrdOp) (s : State) : (crdPerform o s).1.sys.phase = s.sys.phase := by
  unfold crdPerform
  try dsimp only
  (repeat' split) <;> simp

@[simp] theorem crdDo_phase (o : CrdOp) (s : State) : (crdDo o s).1.sys.phase = s.sys.phase := by
  unfold crdDo
  dsimp only
  rw [State.setReg_phase, obsCount_phase]
  dsimp only
  split <;> simp

@[simp] theorem crdResume_phase (s : State) : (crdResume s).sys.phase = s.sys.phase := by
  unfold crdResume
  simp

@[simp] theorem writeOpa_phase (subj timer : Nat) (s : State) : (writeOpa subj timer s).sys.phase = s.sys.phase := by
  unfold writeOpa
  simp

@[simp] theorem crdRun_phase (opc elem holder subj timer : Nat) (s : State) : (crdRun opc elem holder subj timer s).1.sys.phase = s.sys.phase := by
  unfold crdRun
  simp

@[simp] theorem loadTable_phase (t : Tbl Word) (s : State) : (loadTable t s).sys.phase = s.sys.phase := by
  unfold loadTable
  simp

@[simp] theorem tokExpired_phase (i : Nat) (s : State) : (tokExpired i s).sys.phase = s.sys.phase := by
  unfold tokExpired
  simp

@[simp] theorem tokTick_phase (s : State) (i : Nat) : (tokTick s i).sys.phase = s.sys.phase := by
  unfold tokTick
  simp

@[simp] theorem tokTicks_phase (s : State) : (tokTicks s).sys.phase = s.sys.phase := by
  unfold tokTicks
  simp

@[simp] theorem updBus_phase (b : Nat) (f : Dbc → Dbc) (s : State) : (updBus b f s).sys.phase = s.sys.phase := by
  unfold updBus
  simp

@[simp] theorem noteBus_phase (b code : Nat) (s : State) : (noteBus b code s).sys.phase = s.sys.phase := by
  unfold noteBus
  simp

@[simp] theorem busLocal_phase (b code : Nat) (s : State) : (busLocal b code s).sys.phase = s.sys.phase := by
  unfold busLocal
  simp

@[simp] theorem countUnit_phase (b u hi lo : Nat) (s : State) : (countUnit b u hi lo s).sys.phase = s.sys.phase := by
  unfold countUnit
  simp

@[simp] theorem busesFollow_phase (old new : ModState) (s : State) : (busesFollow old new s).sys.phase = s.sys.phase := by
  unfold busesFollow
  simp

@[simp] theorem sleepEnd_phase (b : Nat) (s : State) : (sleepEnd b s).sys.phase = s.sys.phase := by
  unfold sleepEnd
  simp

@[simp] theorem brokenNote_phase (b : Nat) (s : State) : (brokenNote b s).sys.phase = s.sys.phase := by
  unfold brokenNote
  (repeat' split) <;> simp

@[simp] theorem busTurn_phase (b : Nat) (s : State) : (busTurn b s).sys.phase = s.sys.phase := by
  unfold busTurn
  simp

@[simp] theorem cmdWatch_phase (b : Nat) (s : State) : (cmdWatch b s).sys.phase = s.sys.phase := by
  unfold cmdWatch
  simp

@[simp] theorem sleepTurn_phase (b : Nat) (s : State) : (sleepTurn b s).sys.phase = s.sys.phase := by
  unfold sleepTurn
  simp

@[simp] theorem snapRegs_phase (b u : Nat) (r : UnitRep) (s : State) : (snapRegs b u r s).sys.phase = s.sys.phase := by
  unfold snapRegs
  simp

@[simp] theorem unitTurn_phase (b : Nat) (s : State) (u : Nat) : (unitTurn b s u).sys.phase = s.sys.phase := by
  unfold unitTurn
  simp

@[simp] theorem reportsTurn_phase (s : State) : (reportsTurn s).sys.phase = s.sys.phase := by
  unfold reportsTurn
  simp

@[simp] theorem busesTurn_phase (s : State) : (busesTurn s).sys.phase = s.sys.phase := by
  unfold busesTurn
  simp

@[simp] theorem discStrobe_phase (s : State) (i : Nat) : (discStrobe s i).sys.phase = s.sys.phase := by
  unfold discStrobe
  simp

@[simp] theorem fioGate_phase (s : State) : (fioGate s).sys.phase = s.sys.phase := by
  unfold fioGate
  simp

@[simp] theorem groupEdges_phase (gs : BitVec 12) (s : State) : (groupEdges gs s).sys.phase = s.sys.phase := by
  unfold groupEdges
  try dsimp only
  (repeat' split) <;>
    first | (simp; done) | (refine Eq.trans (foldl_phase _ _ _ (fun s b => ?_)) ?_ <;> (repeat' split) <;> simp)

@[simp] theorem groupsLocalSafe_phase (before : Word) (s : State) : (groupsLocalSafe before s).sys.phase = s.sys.phase := by
  unfold groupsLocalSafe
  try dsimp only
  (repeat' split) <;>
    first | (simp; done) | (refine Eq.trans (foldl_phase _ _ _ (fun s b => ?_)) ?_ <;> (repeat' split) <;> simp)

@[simp] theorem discSet_phase (i : Nat) (s : State) : (discSet i s).sys.phase = s.sys.phase := by
  unfold discSet
  simp

@[simp] theorem silentState_phase (s : State) : (silentState s).sys.phase = s.sys.phase := by
  unfold silentState
  simp

@[simp] theorem fioStrobe_phase (rb : BitVec 48) (s : State) : (fioStrobe rb s).sys.phase = s.sys.phase := by
  unfold fioStrobe
  simp

@[simp] theorem recountCredits_phase (s : State) : (recountCredits s).sys.phase = s.sys.phase := by
  unfold recountCredits
  simp

@[simp] theorem postRefused_phase (tag : Nat) (s : State) : (postRefused tag s).sys.phase = s.sys.phase := by
  unfold postRefused
  simp

@[simp] theorem postBytes_phase (r : List Byte) (s : State) : (postBytes r s).sys.phase = s.sys.phase := by
  unfold postBytes
  simp

@[simp] theorem postReply_phase (tag ses status detail fault : Nat) (results : List Byte) (s : State) : (postReply tag ses status detail fault results s).sys.phase = s.sys.phase := by
  unfold postReply
  simp

@[simp] theorem postIfActive_phase (tag ses status detail fault : Nat) (results : List Byte) (s : State) : (postIfActive tag ses status detail fault results s).sys.phase = s.sys.phase := by
  unfold postIfActive
  simp

@[simp] theorem postAccepted_phase (tag ses : Nat) (s : State) : (postAccepted tag ses s).sys.phase = s.sys.phase := by
  unfold postAccepted
  simp

@[simp] theorem answer_phase (p : Pkt) (status code : Nat) (results : List Byte) (s : State) : (answer p status code results s).sys.phase = s.sys.phase := by
  unfold answer
  simp

@[simp] theorem answerDuplicate_phase (host tag : Nat) (s : State) : (answerDuplicate host tag s).sys.phase = s.sys.phase := by
  unfold answerDuplicate
  try dsimp only
  (repeat' split) <;> simp

@[simp] theorem consume_phase (p : Pkt) (s : State) : (consume p s).sys.phase = s.sys.phase := by
  unfold consume
  simp

@[simp] theorem checkPacket_phase (p : Pkt) (flags : Nat) (s : State) : (checkPacket p flags s).sys.phase = s.sys.phase := by
  unfold checkPacket
  (repeat' split) <;> simp

@[simp] theorem feedBody_phase (k host : Nat) (body : List Byte) (s : State) : (feedBody k host body s).sys.phase = s.sys.phase := by
  induction k generalizing host body s with
  | zero => rfl
  | succ k ih =>
    unfold feedBody
    dsimp only
    (repeat' split) <;> simp [ih]

@[simp] theorem feedTelegram_phase (host : Nat) (telegram : List Byte) (s : State) : (feedTelegram host telegram s).sys.phase = s.sys.phase := by
  unfold feedTelegram
  simp

theorem popHead_phase (s t : State) (p : Pkt) (h : popHead s = some (p, t)) : t.sys.phase = s.sys.phase := by
  unfold popHead at h
  split at h
  · cases h
  · split at h
    · cases h
    · cases h
      rfl

@[simp] theorem markExt_phase (s : State) : (markExt s).sys.phase = s.sys.phase := by
  unfold markExt
  simp

@[simp] theorem dropQueued_phase (s : State) : (dropQueued s).sys.phase = s.sys.phase := by
  unfold dropQueued
  simp

@[simp] theorem dropHseq_phase (host : Nat) (s : State) : (dropHseq host s).sys.phase = s.sys.phase := by
  unfold dropHseq
  simp

@[simp] theorem State.setCon_phase (s : State) (c : Nat) (v : Conn) : (State.setCon s c v).sys.phase = s.sys.phase := by
  unfold State.setCon
  simp

@[simp] theorem updCon_phase (c : Nat) (f : Conn → Conn) (s : State) : (updCon c f s).sys.phase = s.sys.phase := by
  unfold updCon
  simp

@[simp] theorem netSnapshot_phase (s : State) : (netSnapshot s).sys.phase = s.sys.phase := by
  unfold netSnapshot
  simp

@[simp] theorem abResult_phase (c r : Nat) (s : State) : (abResult c r s).sys.phase = s.sys.phase := by
  unfold abResult
  simp

@[simp] theorem abExpire_phase (c : Nat) (s : State) : (abExpire c s).sys.phase = s.sys.phase := by
  unfold abExpire
  simp

@[simp] theorem conRecover_phase (c : Nat) (s : State) : (conRecover c s).sys.phase = s.sys.phase := by
  unfold conRecover
  simp

@[simp] theorem partnerCopy_phase (c : Nat) (portB : Bool) (s : State) : (partnerCopy c portB s).sys.phase = s.sys.phase := by
  unfold partnerCopy
  simp

@[simp] theorem setBase_phase (c : Nat) (portB content : Bool) (bs : List Byte) (s : State) : (setBase c portB content bs s).sys.phase = s.sys.phase := by
  unfold setBase
  simp

@[simp] theorem heardCopy_phase (c : Nat) (portB : Bool) (s : State) : (heardCopy c portB s).sys.phase = s.sys.phase := by
  unfold heardCopy
  simp

@[simp] theorem checkLater_phase (c : Nat) (portB : Bool) (bs : List Byte) (s : State) : (checkLater c portB bs s).sys.phase = s.sys.phase := by
  unfold checkLater
  simp

@[simp] theorem checkCopy_phase (portB : Bool) (s : State) (cp : RxCopy) : (checkCopy portB s cp).sys.phase = s.sys.phase := by
  unfold checkCopy
  try dsimp only
  (repeat' split) <;> simp

@[simp] theorem judgeFresh_phase (c : Nat) (s : State) : (judgeFresh c s).sys.phase = s.sys.phase := by
  unfold judgeFresh
  simp

@[simp] theorem dropBase_phase (c : Nat) (s : State) : (dropBase c s).sys.phase = s.sys.phase := by
  unfold dropBase
  simp

@[simp] theorem resync_phase (c : Nat) (s : State) : (resync c s).sys.phase = s.sys.phase := by
  unfold resync
  try dsimp only
  (repeat' split) <;> simp

@[simp] theorem conTurn_phase (s : State) (c : Nat) : (conTurn s c).sys.phase = s.sys.phase := by
  unfold conTurn
  simp

@[simp] theorem netLost_phase (portB : Bool) (s : State) : (netLost portB s).sys.phase = s.sys.phase := by
  unfold netLost
  simp

@[simp] theorem netRestored_phase (portB : Bool) (s : State) : (netRestored portB s).sys.phase = s.sys.phase := by
  unfold netRestored
  simp

@[simp] theorem netsSilent_phase (s : State) : (netsSilent s).sys.phase = s.sys.phase := by
  unfold netsSilent
  simp

@[simp] theorem netsTurn_phase (s : State) : (netsTurn s).sys.phase = s.sys.phase := by
  unfold netsTurn
  simp

@[simp] theorem telegramChecks_phase (s : State) : (telegramChecks s).sys.phase = s.sys.phase := by
  unfold telegramChecks
  simp

@[simp] theorem slotReady_phase (m c : Nat) (bs : List Byte) (s : State) : (slotReady m c bs s).sys.phase = s.sys.phase := by
  unfold slotReady
  simp

@[simp] theorem sealSlot_phase (m : Nat) (s : State) : (sealSlot m s).sys.phase = s.sys.phase := by
  unfold sealSlot
  simp

@[simp] theorem release_phase (s : State) : (release s).sys.phase = s.sys.phase := by
  unfold release
  simp

@[simp] theorem setEstate_phase (s : State) (i v : Nat) : (setEstate s i v).sys.phase = s.sys.phase := by
  unfold setEstate
  simp

theorem evalOne_phase (g : Nat → Bool) (s : State) (p : State × Bool) (n : Nat) : (evalOne g s p n).1.sys.phase = p.1.sys.phase := by
  unfold evalOne
  (repeat' split) <;> simp

@[simp] theorem evalEach_phase (g : Nat → Bool) (s : State) : (evalEach g s).1.sys.phase = s.sys.phase := by
  unfold evalEach
  rw [foldlFst_phase _ _ _ (evalOne_phase g s)]

@[simp] theorem evalDone_phase (digest clocks : Word) (count : Nat) (s : State) : (evalDone digest clocks count s).sys.phase = s.sys.phase := by
  unfold evalDone
  simp

@[simp] theorem evalFinish_phase (s out : State) : (evalFinish s out).sys.phase = out.sys.phase := by
  unfold evalFinish
  exact evalDone_phase ..

@[simp] theorem evaluate_phase (g : Nat → Bool) (s : State) : (evaluate g s).1.sys.phase = s.sys.phase := by
  unfold evaluate
  exact (evalFinish_phase ..).trans (evalEach_phase ..)

@[simp] theorem State.setSes_phase (s : State) (n : Nat) (x : Session) : (State.setSes s n x).sys.phase = s.sys.phase := by
  unfold State.setSes
  simp

@[simp] theorem updSes_phase (n : Nat) (f : Session → Session) (s : State) : (updSes n f s).sys.phase = s.sys.phase := by
  unfold updSes
  simp

@[simp] theorem lendOut_phase (m : LendMsg) (s : State) : (lendOut m s).sys.phase = s.sys.phase := by
  unfold lendOut
  simp

@[simp] theorem lendRight_phase (m : LendMsg) (s : State) : (lendRight m s).sys.phase = s.sys.phase := by
  unfold lendRight
  simp

@[simp] theorem lendRelease_phase (s : State) : (lendRelease s).sys.phase = s.sys.phase := by
  unfold lendRelease
  simp

@[simp] theorem borrow_phase (ses : Nat) (s : State) (elem : Nat) : (borrow ses s elem).sys.phase = s.sys.phase := by
  unfold borrow
  simp

@[simp] theorem unborrow_phase (ses : Nat) (s : State) : (unborrow ses s).sys.phase = s.sys.phase := by
  unfold unborrow
  simp

@[simp] theorem giveBack_phase (elem holder ses : Nat) (s : State) : (giveBack elem holder ses s).sys.phase = s.sys.phase := by
  unfold giveBack
  simp

@[simp] theorem freeToken_phase (ses : Nat) (s : State) (elem : Nat) : (freeToken ses s elem).sys.phase = s.sys.phase := by
  unfold freeToken
  simp

@[simp] theorem timeToken_phase (ses t : Nat) (s : State) (elem : Nat) : (timeToken ses t s elem).sys.phase = s.sys.phase := by
  unfold timeToken
  simp

@[simp] theorem dueReturns_phase (s : State) : (dueReturns s).sys.phase = s.sys.phase := by
  unfold dueReturns
  simp

@[simp] theorem standingBlock_phase (s : State) (i : Nat) : (standingBlock s i).sys.phase = s.sys.phase := by
  unfold standingBlock
  simp

@[simp] theorem standingBlocks_phase (s : State) : (standingBlocks s).sys.phase = s.sys.phase := by
  unfold standingBlocks
  simp

@[simp] theorem lendProtocol_phase (elem : Nat) (s : State) : (lendProtocol elem s).sys.phase = s.sys.phase := by
  unfold lendProtocol
  simp

@[simp] theorem newEpoch_phase (slot epoch : Nat) (s : State) : (newEpoch slot epoch s).sys.phase = s.sys.phase := by
  unfold newEpoch
  simp

@[simp] theorem dropBorrow_phase (b : Borrow) (s : State) : (dropBorrow b s).sys.phase = s.sys.phase := by
  unfold dropBorrow
  simp

@[simp] theorem dropLoan_phase (elem : Nat) (s : State) : (dropLoan elem s).sys.phase = s.sys.phase := by
  unfold dropLoan
  simp

@[simp] theorem lendReq_phase (m : LendMsg) (s : State) : (lendReq m s).sys.phase = s.sys.phase := by
  unfold lendReq
  simp

@[simp] theorem lendGrant_phase (m : LendMsg) (s : State) : (lendGrant m s).sys.phase = s.sys.phase := by
  unfold lendGrant
  try dsimp only
  (repeat' split) <;> simp

@[simp] theorem markRefused_phase (n : Nat) (s : State) : (markRefused n s).sys.phase = s.sys.phase := by
  unfold markRefused
  simp

@[simp] theorem lendRefuse_phase (m : LendMsg) (s : State) : (lendRefuse m s).sys.phase = s.sys.phase := by
  unfold lendRefuse
  (repeat' split) <;> simp

@[simp] theorem lendTaken_phase (m : LendMsg) (s : State) : (lendTaken m s).sys.phase = s.sys.phase := by
  unfold lendTaken
  (repeat' split) <;> simp

@[simp] theorem lendReturn_phase (m : LendMsg) (s : State) : (lendReturn m s).sys.phase = s.sys.phase := by
  unfold lendReturn
  try dsimp only
  (repeat' split) <;> simp

@[simp] theorem lendReturnAck_phase (m : LendMsg) (s : State) : (lendReturnAck m s).sys.phase = s.sys.phase := by
  unfold lendReturnAck
  (repeat' split) <;> simp

@[simp] theorem lendAudit_phase (m : LendMsg) (s : State) : (lendAudit m s).sys.phase = s.sys.phase := by
  unfold lendAudit
  simp

@[simp] theorem claimed_phase (m : LendMsg) (s : State) : (claimed m s).sys.phase = s.sys.phase := by
  unfold claimed
  simp

@[simp] theorem lendClaim_phase (m : LendMsg) (s : State) : (lendClaim m s).sys.phase = s.sys.phase := by
  unfold lendClaim
  simp

@[simp] theorem lendClaimEnd_phase (m : LendMsg) (s : State) : (lendClaimEnd m s).sys.phase = s.sys.phase := by
  unfold lendClaimEnd
  simp

@[simp] theorem lendClaimQuery_phase (m : LendMsg) (s : State) : (lendClaimQuery m s).sys.phase = s.sys.phase := by
  unfold lendClaimQuery
  simp

@[simp] theorem lendApply_phase (m : LendMsg) (s : State) : (lendApply m s).sys.phase = s.sys.phase := by
  unfold lendApply
  (repeat' split) <;> simp

@[simp] theorem lendRepeats_phase (s : State) : (lendRepeats s).sys.phase = s.sys.phase := by
  unfold lendRepeats
  simp

@[simp] theorem lendAudits_phase (s : State) : (lendAudits s).sys.phase = s.sys.phase := by
  unfold lendAudits
  simp

@[simp] theorem askClaims_phase (s : State) (k : Nat) : (askClaims s k).sys.phase = s.sys.phase := by
  unfold askClaims
  simp

@[simp] theorem claimQuery_phase (s : State) : (claimQuery s).sys.phase = s.sys.phase := by
  unfold claimQuery
  simp

@[simp] theorem startBlocks_phase (s : State) : (startBlocks s).sys.phase = s.sys.phase := by
  unfold startBlocks
  simp

@[simp] theorem claimsComplete_phase (s : State) : (claimsComplete s).sys.phase = s.sys.phase := by
  unfold claimsComplete
  simp

@[simp] theorem newSes_phase (n : Nat) (kind : SesKind) (obj target tag : Nat) (descr : Word) (s : State) : (newSes n kind obj target tag descr s).sys.phase = s.sys.phase := by
  unfold newSes
  simp

@[simp] theorem endSes_phase (n : Nat) (st : SesSt) (s : State) : (endSes n st s).sys.phase = s.sys.phase := by
  unfold endSes
  simp

@[simp] theorem sesTo_phase (n : Nat) (st : SesSt) (s : State) : (sesTo n st s).sys.phase = s.sys.phase := by
  unfold sesTo
  simp

@[simp] theorem replyCreator_phase (n status detail fault : Nat) (results : List Byte) (s : State) : (replyCreator n status detail fault results s).sys.phase = s.sys.phase := by
  unfold replyCreator
  simp

@[simp] theorem replyEnder_phase (n status fault : Nat) (s : State) : (replyEnder n status fault s).sys.phase = s.sys.phase := by
  unfold replyEnder
  (repeat' split) <;> simp

@[simp] theorem refuseSes_phase (n : Nat) (locked : Bool) (index elem : Nat) (s : State) : (refuseSes n locked index elem s).sys.phase = s.sys.phase := by
  unfold refuseSes
  simp

@[simp] theorem refuseCond_phase (n listFirst : Nat) (s : State) : (refuseCond n listFirst s).sys.phase = s.sys.phase := by
  unfold refuseCond
  simp

@[simp] theorem writeList_phase (xs : List Nat) (s : State) : (writeList xs s).sys.phase = s.sys.phase := by
  unfold writeList
  simp

@[simp] theorem acquireFor_phase (n : Nat) (xs : List Nat) (s : State) : (acquireFor n xs s).1.sys.phase = s.sys.phase := by
  unfold acquireFor
  (repeat' split) <;> simp

@[simp] theorem routeTry_phase (n : Nat) (waits : Bool) (s : State) : (routeTry n waits s).sys.phase = s.sys.phase := by
  unfold routeTry
  simp

@[simp] theorem routeCheck_phase (n : Nat) (s : State) : (routeCheck n s).sys.phase = s.sys.phase := by
  unfold routeCheck
  simp

@[simp] theorem routeLendTimeout_phase (n : Nat) (s : State) : (routeLendTimeout n s).sys.phase = s.sys.phase := by
  unfold routeLendTimeout
  simp

@[simp] theorem routeLocking_phase (n : Nat) (s : State) : (routeLocking n s).sys.phase = s.sys.phase := by
  unfold routeLocking
  simp

@[simp] theorem routeSetTimeout_phase (n : Nat) (s : State) : (routeSetTimeout n s).sys.phase = s.sys.phase := by
  unfold routeSetTimeout
  simp

@[simp] theorem routeClear_phase (n : Nat) (s : State) : (routeClear n s).sys.phase = s.sys.phase := by
  unfold routeClear
  simp

@[simp] theorem seeTracks_phase (n : Nat) (s : State) : (seeTracks n s).sys.phase = s.sys.phase := by
  unfold seeTracks
  simp

@[simp] theorem routeOccupy_phase (n : Nat) (s : State) : (routeOccupy n s).sys.phase = s.sys.phase := by
  unfold routeOccupy
  simp

@[simp] theorem releaseEdge_phase (n e : Nat) (s : State) : (releaseEdge n e s).sys.phase = s.sys.phase := by
  unfold releaseEdge
  (repeat' split) <;> simp

@[simp] theorem routeRelease_phase (n : Nat) (s : State) : (routeRelease n s).sys.phase = s.sys.phase := by
  unfold routeRelease
  simp

@[simp] theorem detectionLost_phase (n : Nat) (s : State) : (detectionLost n s).sys.phase = s.sys.phase := by
  unfold detectionLost
  simp

@[simp] theorem routeProve_phase (n : Nat) (s : State) : (routeProve n s).sys.phase = s.sys.phase := by
  unfold routeProve
  simp

@[simp] theorem routeKeep_phase (n : Nat) (s : State) : (routeKeep n s).sys.phase = s.sys.phase := by
  unfold routeKeep
  simp

@[simp] theorem timeAll_phase (n t : Nat) (s : State) : (timeAll n t s).sys.phase = s.sys.phase := by
  unfold timeAll
  simp

@[simp] theorem signalUnproven_phase (n : Nat) (s : State) : (signalUnproven n s).sys.phase = s.sys.phase := by
  unfold signalUnproven
  simp

@[simp] theorem routeReleased_phase (n : Nat) (s : State) : (routeReleased n s).sys.phase = s.sys.phase := by
  unfold routeReleased
  simp

@[simp] theorem routeReleasing_phase (n : Nat) (s : State) : (routeReleasing n s).sys.phase = s.sys.phase := by
  unfold routeReleasing
  try dsimp only
  (repeat' split) <;> simp

@[simp] theorem approachLock_phase (n : Nat) (s : State) : (approachLock n s).sys.phase = s.sys.phase := by
  unfold approachLock
  simp

@[simp] theorem countDest_phase (n : Nat) (s : State) : (countDest n s).sys.phase = s.sys.phase := by
  unfold countDest
  simp

@[simp] theorem routeTurn_phase (n : Nat) (s : State) : (routeTurn n s).sys.phase = s.sys.phase := by
  unfold routeTurn
  try dsimp only
  (repeat' split) <;> simp

@[simp] theorem throwOver_phase (n : Nat) (s : State) : (throwOver n s).sys.phase = s.sys.phase := by
  unfold throwOver
  simp

@[simp] theorem pointTurn_phase (n : Nat) (s : State) : (pointTurn n s).sys.phase = s.sys.phase := by
  unfold pointTurn
  try dsimp only
  (repeat' split) <;> simp

@[simp] theorem occupyFirst_phase (n : Nat) (s : State) : (occupyFirst n s).sys.phase = s.sys.phase := by
  unfold occupyFirst
  simp

@[simp] theorem requestEnded_phase (n : Nat) (s : State) : (requestEnded n s).sys.phase = s.sys.phase := by
  unfold requestEnded
  simp

@[simp] theorem endRefused_phase (n tag : Nat) (s : State) : (endRefused n tag s).sys.phase = s.sys.phase := by
  unfold endRefused
  simp

@[simp] theorem startEnd_phase (n tag : Nat) (cancel : Bool) (mode : RelMode) (s : State) : (startEnd n tag cancel mode s).sys.phase = s.sys.phase := by
  unfold startEnd
  simp

@[simp] theorem cancelRoute_phase (n tag : Nat) (s : State) : (cancelRoute n tag s).sys.phase = s.sys.phase := by
  unfold cancelRoute
  try dsimp only
  (repeat' split) <;> simp

@[simp] theorem releaseTimed_phase (n tag : Nat) (s : State) : (releaseTimed n tag s).sys.phase = s.sys.phase := by
  unfold releaseTimed
  try dsimp only
  (repeat' split) <;> simp

@[simp] theorem cancelPoint_phase (n tag : Nat) (s : State) : (cancelPoint n tag s).sys.phase = s.sys.phase := by
  unfold cancelPoint
  (repeat' split) <;> simp

@[simp] theorem dueCmd_phase (e cmd ses : Nat) (tag : Option Nat) (s : State) : (dueCmd e cmd ses tag s).sys.phase = s.sys.phase := by
  unfold dueCmd
  simp

@[simp] theorem dueEnd_phase (e : Nat) (s : State) : (dueEnd e s).sys.phase = s.sys.phase := by
  unfold dueEnd
  simp

@[simp] theorem dueLost_phase (s : State) (d : DoorDue) : (dueLost s d).sys.phase = s.sys.phase := by
  unfold dueLost
  (repeat' split) <;> simp

@[simp] theorem dueWin_phase (d : DoorDue) (s : State) : (dueWin d s).sys.phase = s.sys.phase := by
  unfold dueWin
  (repeat' split) <;> simp

@[simp] theorem resolveEdge_phase (s : State) (e : Nat) : (resolveEdge s e).sys.phase = s.sys.phase := by
  unfold resolveEdge
  (repeat' split) <;> simp

@[simp] theorem resolveDue_phase (s : State) : (resolveDue s).sys.phase = s.sys.phase := by
  unfold resolveDue
  simp

@[simp] theorem corrTurn_phase (s : State) (e : Nat) : (corrTurn s e).sys.phase = s.sys.phase := by
  unfold corrTurn
  simp

@[simp] theorem doorReleased_phase (n : Nat) (s : State) : (doorReleased n s).sys.phase = s.sys.phase := by
  unfold doorReleased
  simp

@[simp] theorem doorTry_phase (n : Nat) (waits : Bool) (s : State) : (doorTry n waits s).sys.phase = s.sys.phase := by
  unfold doorTry
  simp

@[simp] theorem doorCheck_phase (n : Nat) (s : State) : (doorCheck n s).sys.phase = s.sys.phase := by
  unfold doorCheck
  simp

@[simp] theorem doorWithdraw_phase (n : Nat) (s : State) : (doorWithdraw n s).sys.phase = s.sys.phase := by
  unfold doorWithdraw
  simp

@[simp] theorem enableTimeout_phase (n : Nat) (s : State) : (enableTimeout n s).sys.phase = s.sys.phase := by
  unfold enableTimeout
  simp

@[simp] theorem doorTurn_phase (n : Nat) (s : State) : (doorTurn n s).sys.phase = s.sys.phase := by
  unfold doorTurn
  try dsimp only
  (repeat' split) <;> simp

@[simp] theorem sesTurn_phase (s : State) (n : Nat) : (sesTurn s n).sys.phase = s.sys.phase := by
  unfold sesTurn
  (repeat' split) <;> simp

@[simp] theorem sequence_phase (s : State) : (sequence s).sys.phase = s.sys.phase := by
  unfold sequence
  simp

@[simp] theorem freeEnded_phase (s : State) : (freeEnded s).sys.phase = s.sys.phase := by
  unfold freeEnded
  simp

@[simp] theorem signalWatch_phase (s : State) (i : Nat) : (signalWatch s i).sys.phase = s.sys.phase := by
  unfold signalWatch
  simp

@[simp] theorem signalsWatch_phase (s : State) : (signalsWatch s).sys.phase = s.sys.phase := by
  unfold signalsWatch
  simp

@[simp] theorem writeViews_phase (s : State) : (writeViews s).sys.phase = s.sys.phase := by
  unfold writeViews
  simp

@[simp] theorem endPend_phase (p : DoorPend) (status code : Nat) (results : List Byte) (s : State) : (endPend p status code results s).sys.phase = s.sys.phase := by
  unfold endPend
  simp

@[simp] theorem endPends_phase (e kind status code : Nat) (results : List Byte) (s : State) : (endPends e kind status code results s).sys.phase = s.sys.phase := by
  unfold endPends
  simp

@[simp] theorem markPends_phase (obj : Nat) (kinds : List Nat) (s : State) : (markPends obj kinds s).sys.phase = s.sys.phase := by
  unfold markPends
  simp

@[simp] theorem edgeAccepted_phase (e : Nat) (s : State) : (edgeAccepted e s).sys.phase = s.sys.phase := by
  unfold edgeAccepted
  simp

@[simp] theorem edgeRefused_phase (e code : Nat) (s : State) : (edgeRefused e code s).sys.phase = s.sys.phase := by
  unfold edgeRefused
  simp

@[simp] theorem edgeStopped_phase (e code : Nat) (s : State) : (edgeStopped e code s).sys.phase = s.sys.phase := by
  unfold edgeStopped
  try dsimp only
  (repeat' split) <;> simp

@[simp] theorem settleOne_phase (s : State) (v : DoorEvent) : (settleOne s v).sys.phase = s.sys.phase := by
  unfold settleOne
  try dsimp only
  (repeat' split) <;> simp

@[simp] theorem restoresDone_phase (s : State) : (restoresDone s).sys.phase = s.sys.phase := by
  unfold restoresDone
  simp

@[simp] theorem settleDoors_phase (s : State) : (settleDoors s).sys.phase = s.sys.phase := by
  unfold settleDoors
  simp

@[simp] theorem writeEstates_phase (s : State) : (writeEstates s).sys.phase = s.sys.phase := by
  unfold writeEstates
  simp

@[simp] theorem writeImages_phase (s : State) : (writeImages s).sys.phase = s.sys.phase := by
  unfold writeImages
  simp

@[simp] theorem writeBerths_phase (s : State) : (writeBerths s).sys.phase = s.sys.phase := by
  unfold writeBerths
  simp

@[simp] theorem writeInputs_phase (s : State) : (writeInputs s).sys.phase = s.sys.phase := by
  unfold writeInputs
  simp

@[simp] theorem firstCommands_phase (s : State) : (firstCommands s).sys.phase = s.sys.phase := by
  unfold firstCommands
  simp

@[simp] theorem hostBody_phase (n : Nat) (s : State) : (hostBody n s).2.sys.phase = s.sys.phase := by
  unfold hostBody
  simp

@[simp] theorem formTelegram_phase (safe : Bool) (s : State) (p : Nat × Nat) : (formTelegram safe s p).sys.phase = s.sys.phase := by
  unfold formTelegram telegramReady
  dsimp only
  split <;> split <;> simp

@[simp] theorem formTelegrams_phase (s : State) : (formTelegrams s).sys.phase = s.sys.phase := by
  unfold formTelegrams
  simp

@[simp] theorem formRestrictive_phase (s : State) : (formRestrictive s).sys.phase = s.sys.phase := by
  unfold formRestrictive
  simp

@[simp] theorem loadBus_phase (s : State) (e : Nat) : (loadBus s e).sys.phase = s.sys.phase := by
  unfold loadBus
  simp

@[simp] theorem loadBuses_phase (s : State) : (loadBuses s).sys.phase = s.sys.phase := by
  unfold loadBuses
  simp

@[simp] theorem writeVector_phase (s : State) : (writeVector s).sys.phase = s.sys.phase := by
  unfold writeVector
  simp

@[simp] theorem formContent_phase (s : State) : (formContent s).sys.phase = s.sys.phase := by
  unfold formContent
  simp

@[simp] theorem finish_phase (p : Pkt) (status code : Nat) (results : List Byte) (s : State) : (finish p status code results s).sys.phase = s.sys.phase := by
  unfold finish
  simp

@[simp] theorem complete_phase (p : Pkt) (results : List Byte) (s : State) : (complete p results s).sys.phase = s.sys.phase := by
  unfold complete
  simp

@[simp] theorem refuse_phase (p : Pkt) (status code obj val : Nat) (s : State) : (refuse p status code obj val s).sys.phase = s.sys.phase := by
  unfold refuse
  simp

@[simp] theorem badParam_phase (p : Pkt) (s : State) : (badParam p s).sys.phase = s.sys.phase := by
  unfold badParam
  simp

@[simp] theorem badSes_phase (p : Pkt) (s : State) : (badSes p s).sys.phase = s.sys.phase := by
  unfold badSes
  simp

@[simp] theorem noRight_phase (p : Pkt) (s : State) : (noRight p s).sys.phase = s.sys.phase := by
  unfold noRight
  simp

@[simp] theorem createSes_phase (p : Pkt) (kind : SesKind) (obj target : Nat) (descr : Word) (s : State) : (createSes p kind obj target descr s).sys.phase = s.sys.phase := by
  unfold createSes
  (repeat' split) <;> simp

@[simp] theorem applyRouteRequest_phase (p : Pkt) (s : State) : (applyRouteRequest p s).sys.phase = s.sys.phase := by
  unfold applyRouteRequest
  simp

@[simp] theorem applyRouteCancel_phase (p : Pkt) (s : State) : (applyRouteCancel p s).sys.phase = s.sys.phase := by
  unfold applyRouteCancel
  simp

@[simp] theorem applyReleaseTimed_phase (p : Pkt) (s : State) : (applyReleaseTimed p s).sys.phase = s.sys.phase := by
  unfold applyReleaseTimed
  simp

@[simp] theorem applyPointMove_phase (p : Pkt) (s : State) : (applyPointMove p s).sys.phase = s.sys.phase := by
  unfold applyPointMove
  simp

@[simp] theorem setStanding_phase (i : Nat) (f : Stand → Stand) (s : State) : (setStanding i f s).sys.phase = s.sys.phase := by
  unfold setStanding
  simp

@[simp] theorem applyBlock_phase (p : Pkt) (s : State) : (applyBlock p s).sys.phase = s.sys.phase := by
  unfold applyBlock
  simp

@[simp] theorem applyUnblock_phase (p : Pkt) (s : State) : (applyUnblock p s).sys.phase = s.sys.phase := by
  unfold applyUnblock
  simp

@[simp] theorem applyForceStop_phase (p : Pkt) (s : State) : (applyForceStop p s).sys.phase = s.sys.phase := by
  unfold applyForceStop
  simp

@[simp] theorem applyDoorEnable_phase (p : Pkt) (s : State) : (applyDoorEnable p s).sys.phase = s.sys.phase := by
  unfold applyDoorEnable
  simp

@[simp] theorem applyDoorOpen_phase (p : Pkt) (s : State) : (applyDoorOpen p s).sys.phase = s.sys.phase := by
  unfold applyDoorOpen
  simp

@[simp] theorem applyDoorClose_phase (p : Pkt) (s : State) : (applyDoorClose p s).sys.phase = s.sys.phase := by
  unfold applyDoorClose
  simp

@[simp] theorem applyRestore_phase (p : Pkt) (s : State) : (applyRestore p s).sys.phase = s.sys.phase := by
  unfold applyRestore
  simp

@[simp] theorem applyClose_phase (p : Pkt) (s : State) : (applyClose p s).sys.phase = s.sys.phase := by
  unfold applyClose
  simp

@[simp] theorem applyWithdraw_phase (p : Pkt) (s : State) : (applyWithdraw p s).sys.phase = s.sys.phase := by
  unfold applyWithdraw
  simp

@[simp] theorem applyLeaf_phase (cmd : Nat) (p : Pkt) (s : State) : (applyLeaf cmd p s).sys.phase = s.sys.phase := by
  unfold applyLeaf
  simp

@[simp] theorem applyTrainDoors_phase (p : Pkt) (s : State) : (applyTrainDoors p s).sys.phase = s.sys.phase := by
  unfold applyTrainDoors
  simp

@[simp] theorem applyTrainBerth_phase (p : Pkt) (s : State) : (applyTrainBerth p s).sys.phase = s.sys.phase := by
  unfold applyTrainBerth
  simp

@[simp] theorem applyPing_phase (p : Pkt) (s : State) : (applyPing p s).sys.phase = s.sys.phase := by
  unfold applyPing
  simp

@[simp] theorem applyStatus_phase (p : Pkt) (s : State) : (applyStatus p s).sys.phase = s.sys.phase := by
  unfold applyStatus
  (repeat' split) <;> simp

@[simp] theorem applyJournal_phase (p : Pkt) (s : State) : (applyJournal p s).sys.phase = s.sys.phase := by
  unfold applyJournal
  simp

@[simp] theorem applyCount_phase (p : Pkt) (s : State) : (applyCount p s).sys.phase = s.sys.phase := by
  unfold applyCount
  (repeat' split) <;> simp

@[simp] theorem updSui_phase (f : Sui → Sui) (s : State) : (updSui f s).sys.phase = s.sys.phase := by
  unfold updSui
  simp

@[simp] theorem timeAdvance_phase (ms : Nat) (s : State) : (timeAdvance ms s).sys.phase = s.sys.phase := by
  unfold timeAdvance
  simp

@[simp] theorem periodsPass_phase (n : Nat) (s : State) : (periodsPass n s).sys.phase = s.sys.phase := by
  unfold periodsPass
  simp

@[simp] theorem cellDamage_phase (c : Nat) (s : State) : (cellDamage c s).sys.phase = s.sys.phase := by
  unfold cellDamage
  simp

@[simp] theorem cellCount_phase (c : Nat) (s : State) : (cellCount c s).sys.phase = s.sys.phase := by
  unfold cellCount
  simp

@[simp] theorem jnlResult_phase (res cell copy : Nat) (s : State) : (jnlResult res cell copy s).sys.phase = s.sys.phase := by
  unfold jnlResult
  simp

@[simp] theorem cellWrite_phase (c kind : Nat) (payload : List Byte) (s : State) : (cellWrite c kind payload s).sys.phase = s.sys.phase := by
  unfold cellWrite
  simp

@[simp] theorem cellLater_phase (c kind : Nat) (payload : List Byte) (s : State) : (cellLater c kind payload s).sys.phase = s.sys.phase := by
  unfold cellLater
  simp

@[simp] theorem cellPut_phase (c kind : Nat) (payload : List Byte) (s : State) : (cellPut c kind payload s).sys.phase = s.sys.phase := by
  unfold cellPut
  simp

@[simp] theorem cellsDue_phase (s : State) : (cellsDue s).sys.phase = s.sys.phase := by
  unfold cellsDue
  simp

@[simp] theorem journalTag_phase (s : State) (t : Nat) : (journalTag s t).sys.phase = s.sys.phase := by
  unfold journalTag
  simp

@[simp] theorem journalCount_phase (s : State) (k : Nat) : (journalCount s k).sys.phase = s.sys.phase := by
  unfold journalCount
  simp

@[simp] theorem journalStand_phase (s : State) (k : Nat) : (journalStand s k).sys.phase = s.sys.phase := by
  unfold journalStand
  simp

@[simp] theorem loadTag_phase (s : State) (t : Nat) : (loadTag s t).sys.phase = s.sys.phase := by
  unfold loadTag
  try dsimp only
  (repeat' split) <;> simp

@[simp] theorem loadTags_phase (s : State) : (loadTags s).sys.phase = s.sys.phase := by
  unfold loadTags
  simp

@[simp] theorem startWrite_phase (x : Sel) (s : State) : (startWrite x s).sys.phase = s.sys.phase := by
  unfold startWrite
  simp

@[simp] theorem finishWrite_phase (s : State) : (finishWrite s).sys.phase = s.sys.phase := by
  unfold finishWrite
  (repeat' split) <;> simp

@[simp] theorem setXferNow_phase (x : Xfer) (s : State) : (setXferNow x s).sys.phase = s.sys.phase := by
  unfold setXferNow
  simp

@[simp] theorem setXfer_phase (x : Xfer) (s : State) : (setXfer x s).sys.phase = s.sys.phase := by
  unfold setXfer
  simp

@[simp] theorem suiResult_phase (status code : Nat) (s : State) : (suiResult status code s).sys.phase = s.sys.phase := by
  unfold suiResult
  simp

@[simp] theorem suiAnswer_phase (status : Nat) (body : List Byte) (s : State) : (suiAnswer status body s).sys.phase = s.sys.phase := by
  unfold suiAnswer
  simp

@[simp] theorem suiDenied_phase (s : State) : (suiDenied s).sys.phase = s.sys.phase := by
  unfold suiDenied
  simp

@[simp] theorem suiRefuse_phase (status : Nat) (s : State) : (suiRefuse status s).sys.phase = s.sys.phase := by
  unfold suiRefuse
  simp

@[simp] theorem suiRefuseFree_phase (s : State) : (suiRefuseFree s).sys.phase = s.sys.phase := by
  unfold suiRefuseFree
  simp

@[simp] theorem startPrepare_phase (m : Manifest) (s : State) : (startPrepare m s).sys.phase = s.sys.phase := by
  unfold startPrepare
  simp

@[simp] theorem startConfirm_phase (s : State) : (startConfirm s).sys.phase = s.sys.phase := by
  unfold startConfirm
  simp

@[simp] theorem suiConfirm_phase (s : State) : (suiConfirm s).sys.phase = s.sys.phase := by
  unfold suiConfirm
  simp

@[simp] theorem suiRevert_phase (arg : Nat) (s : State) : (suiRevert arg s).sys.phase = s.sys.phase := by
  unfold suiRevert
  simp

@[simp] theorem trialActive_phase (s : State) : (trialActive s).sys.phase = s.sys.phase := by
  unfold trialActive
  simp

@[simp] theorem answerConfirms_phase (status code : Nat) (s : State) : (answerConfirms status code s).sys.phase = s.sys.phase := by
  unfold answerConfirms
  simp

@[simp] theorem refuseConfirms_phase (s : State) : (refuseConfirms s).sys.phase = s.sys.phase := by
  unfold refuseConfirms
  simp

@[simp] theorem confirmTrial_phase (tag : Nat) (s : State) : (confirmTrial tag s).sys.phase = s.sys.phase := by
  unfold confirmTrial
  simp

@[simp] theorem trialTest_phase (s : State) : (trialTest s).sys.phase = s.sys.phase := by
  unfold trialTest
  (repeat' split) <;> simp

@[simp] theorem revokeCk_phase (k : Nat) (s : State) : (revokeCk k s).sys.phase = s.sys.phase := by
  unfold revokeCk
  simp

@[simp] theorem programCk_phase (k : Nat) (sha : List Byte) (s : State) : (programCk k sha s).sys.phase = s.sys.phase := by
  unfold programCk
  simp

@[simp] theorem refreshNext_phase (slot block : Nat) (s : State) : (refreshNext slot block s).sys.phase = s.sys.phase := by
  unfold refreshNext
  simp

@[simp] theorem served_phase (head : SorliaHead) (act : State → State) (s : State) (hf : ∀ u, (act u).sys.phase = u.sys.phase) : (served head act s).sys.phase = s.sys.phase := by
  unfold served
  simp [hf]

@[simp] theorem runtimeServed_phase (head : SorliaHead) (act : State → State) (s : State) (hf : ∀ u, (act u).sys.phase = u.sys.phase) : (runtimeServed head act s).sys.phase = s.sys.phase := by
  unfold runtimeServed
  simp [hf]

@[simp] theorem endSessions_phase (s : State) : (endSessions s).sys.phase = s.sys.phase := by
  unfold endSessions
  simp

@[simp] theorem applyConfirm_phase (p : Pkt) (s : State) : (applyConfirm p s).sys.phase = s.sys.phase := by
  unfold applyConfirm
  simp

@[simp] theorem applyOpcode_phase (p : Pkt) (s : State) : (applyOpcode p s).sys.phase = s.sys.phase := by
  unfold applyOpcode
  (repeat' split) <;> simp

@[simp] theorem applyPacket_phase (p : Pkt) (s : State) : (applyPacket p s).sys.phase = s.sys.phase := by
  unfold applyPacket
  simp

@[simp] theorem applyCommands_phase (k : Nat) (s : State) : (applyCommands k s).sys.phase = s.sys.phase := by
  induction k generalizing s with
  | zero => rfl
  | succ k ih =>
    unfold applyCommands
    split
    · rfl
    · rename_i h
      rw [ih, applyPacket_phase, popHead_phase _ _ _ h]

@[simp] theorem acceptLate_phase (s : State) : (acceptLate s).sys.phase = s.sys.phase := by
  unfold acceptLate
  simp

@[simp] theorem updPcl_phase (f : Pcl → Pcl) (s : State) : (updPcl f s).sys.phase = s.sys.phase := by
  unfold updPcl
  simp

@[simp] theorem markReplay_phase (k : Nat) (s : State) : (markReplay k s).sys.phase = s.sys.phase := by
  unfold markReplay
  simp

@[simp] theorem becomeActive_phase (why : ReplayDue) (s : State) : (becomeActive why s).sys.phase = s.sys.phase := by
  unfold becomeActive
  (repeat' split) <;> simp

@[simp] theorem startLedger_phase (s : State) : (startLedger s).sys.phase = s.sys.phase := by
  unfold startLedger
  simp

@[simp] theorem startLoad_phase (s : State) : (startLoad s).sys.phase = s.sys.phase := by
  unfold startLoad
  simp

@[simp] theorem startEpoch_phase (s : State) : (startEpoch s).sys.phase = s.sys.phase := by
  unfold startEpoch
  simp

@[simp] theorem claimStart_phase (s : State) : (claimStart s).sys.phase = s.sys.phase := by
  unfold claimStart
  simp

@[simp] theorem peerSeen_phase (state : Nat) (safe : Bool) (s : State) : (peerSeen state safe s).sys.phase = s.sys.phase := by
  unfold peerSeen
  simp

@[simp] theorem linkHeard_phase (s : State) : (linkHeard s).sys.phase = s.sys.phase := by
  unfold linkHeard
  simp

@[simp] theorem peerMismatch_phase (s : State) : (peerMismatch s).sys.phase = s.sys.phase := by
  unfold peerMismatch
  simp

@[simp] theorem pairSend_phase (ext : Bool) (differ : List Nat) (s : State) : (pairSend ext differ s).sys.phase = s.sys.phase := by
  unfold pairSend
  try dsimp only
  (repeat' split) <;> simp

@[simp] theorem loadSegs_phase (segs : List Seg) (s : State) : (loadSegs segs s).sys.phase = s.sys.phase := by
  unfold loadSegs
  simp

@[simp] theorem peerFrame_phase (f : PairFrame) (s : State) : (peerFrame f s).sys.phase = s.sys.phase := by
  unfold peerFrame
  simp

@[simp] theorem linkRx_phase (kind : Nat) (f : PairFrame) (shown act : State → State) (s : State) (hf : ∀ u, (shown u).sys.phase = u.sys.phase) (hf1 : ∀ u, (act u).sys.phase = u.sys.phase) : (linkRx kind f shown act s).sys.phase = s.sys.phase := by
  unfold linkRx
  simp [hf, hf1]

@[simp] theorem showRx_phase (f : PairFrame) (taken : Bool) (s : State) : (showRx f taken s).sys.phase = s.sys.phase := by
  unfold showRx
  simp

@[simp] theorem bulkCell_phase (s : State) (c : Nat × List Byte) : (bulkCell s c).sys.phase = s.sys.phase := by
  unfold bulkCell
  (repeat' split) <;> simp

@[simp] theorem handoverStart_phase (s : State) : (handoverStart s).sys.phase = s.sys.phase := by
  unfold handoverStart
  (repeat' split) <;> simp

@[simp] theorem handoverEnd_phase (s : State) : (handoverEnd s).sys.phase = s.sys.phase := by
  unfold handoverEnd
  simp

@[simp] theorem switchTrigger_phase (s : State) : (switchTrigger s).sys.phase = s.sys.phase := by
  unfold switchTrigger
  (repeat' split) <;> simp

@[simp] theorem takeoverStart_phase (s : State) : (takeoverStart s).sys.phase = s.sys.phase := by
  unfold takeoverStart
  (repeat' split) <;> simp

@[simp] theorem peerGone_phase (s : State) : (peerGone s).sys.phase = s.sys.phase := by
  unfold peerGone
  simp

@[simp] theorem resend_phase (t : Nat) (r : List Byte) (s : State) : (resend t r s).sys.phase = s.sys.phase := by
  unfold resend
  simp

@[simp] theorem postReplayed_phase (t d : Nat) (s : State) : (postReplayed t d s).sys.phase = s.sys.phase := by
  unfold postReplayed
  simp

@[simp] theorem releaseHeld_phase (t : Nat) (s : State) : (releaseHeld t s).sys.phase = s.sys.phase := by
  unfold releaseHeld
  (repeat' split) <;> simp

@[simp] theorem carryOn_phase (t : Nat) (g : Tag) (s : State) : (carryOn t g s).sys.phase = s.sys.phase := by
  unfold carryOn
  simp

@[simp] theorem replayTag_phase (s : State) (t : Nat) : (replayTag s t).sys.phase = s.sys.phase := by
  unfold replayTag
  try dsimp only
  (repeat' split) <;> simp

@[simp] theorem replayTags_phase (s : State) : (replayTags s).sys.phase = s.sys.phase := by
  unfold replayTags
  simp

@[simp] theorem masterIs_phase (k : Nat) (s : State) : (masterIs k s).sys.phase = s.sys.phase := by
  unfold masterIs
  simp

@[simp] theorem trimTurn_phase (s : State) : (trimTurn s).sys.phase = s.sys.phase := by
  unfold trimTurn
  simp

@[simp] theorem fillCtx_phase (s : State) : (fillCtx s).sys.phase = s.sys.phase := by
  unfold fillCtx
  simp

@[simp] theorem cascadeSend_phase (n : Nat) (s : State) : (cascadeSend n s).sys.phase = s.sys.phase := by
  unfold cascadeSend
  simp

@[simp] theorem lendDelivered_phase (msgs : List LendMsg) (s : State) : (lendDelivered msgs s).sys.phase = s.sys.phase := by
  unfold lendDelivered
  simp

@[simp] theorem lendDeliver_phase (s : State) : (lendDeliver s).sys.phase = s.sys.phase := by
  unfold lendDeliver
  simp

@[simp] theorem lendTurn_phase (s : State) : (lendTurn s).sys.phase = s.sys.phase := by
  unfold lendTurn
  simp

@[simp] theorem correlation_phase (c : Nat) (s : State) : (correlation c s).sys.phase = s.sys.phase := by
  unfold correlation
  simp

@[simp] theorem State.answerRead_phase (s : State) (w : Word) : (State.answerRead s w).sys.phase = s.sys.phase := by
  unfold State.answerRead
  simp

@[simp] theorem State.setChan_phase (s : State) (n : Nat) (c : Mbx) : (State.setChan s n c).sys.phase = s.sys.phase := by
  unfold State.setChan
  simp

@[simp] theorem mbNote_phase (n code : Nat) (s : State) : (mbNote n code s).sys.phase = s.sys.phase := by
  unfold mbNote
  simp

@[simp] theorem mbIrq_phase (n b agent : Nat) (s : State) : (mbIrq n b agent s).sys.phase = s.sys.phase := by
  unfold mbIrq
  simp

@[simp] theorem mbTake_phase (n : Nat) (s : State) : (mbTake n s).sys.phase = s.sys.phase := by
  unfold mbTake
  simp

@[simp] theorem mbDbellTake_phase (n : Nat) (s : State) : (mbDbellTake n s).sys.phase = s.sys.phase := by
  unfold mbDbellTake
  simp

@[simp] theorem mbLastRead_phase (n : Nat) (s : State) : (mbLastRead n s).sys.phase = s.sys.phase := by
  unfold mbLastRead
  simp

@[simp] theorem mbRcode_phase (n rcode : Nat) (s : State) : (mbRcode n rcode s).sys.phase = s.sys.phase := by
  unfold mbRcode
  simp

@[simp] theorem mbRefused_phase (n : Nat) (s : State) : (mbRefused n s).sys.phase = s.sys.phase := by
  unfold mbRefused
  simp

@[simp] theorem firewalled_phase (s : State) : (firewalled s).sys.phase = s.sys.phase := by
  unfold firewalled
  simp

@[simp] theorem mbDenied_phase (who n : Nat) (s : State) : (mbDenied who n s).sys.phase = s.sys.phase := by
  unfold mbDenied
  simp

@[simp] theorem mbRxReset_phase (n : Nat) (s : State) : (mbRxReset n s).sys.phase = s.sys.phase := by
  unfold mbRxReset
  simp

@[simp] theorem mbTxReset_phase (n : Nat) (s : State) : (mbTxReset n s).sys.phase = s.sys.phase := by
  unfold mbTxReset
  simp

@[simp] theorem mbProcReset_phase (p : Nat) (s : State) : (mbProcReset p s).sys.phase = s.sys.phase := by
  unfold mbProcReset
  simp

@[simp] theorem mbService_phase (s : State) : (mbService s).sys.phase = s.sys.phase := by
  unfold mbService
  simp

@[simp] theorem heartbeatTake_phase (n : Nat) (p : Proc) (s : State) : (heartbeatTake n p s).2.sys.phase = s.sys.phase := by
  unfold heartbeatTake
  (repeat' split) <;> simp

@[simp] theorem updVau_phase (f : Vau → Vau) (s : State) : (updVau f s).sys.phase = s.sys.phase := by
  unfold updVau
  simp

@[simp] theorem State.setVau_phase (s : State) (a : Nat) (w : Word) : (State.setVau s a w).sys.phase = s.sys.phase := by
  unfold State.setVau
  simp

@[simp] theorem minorityInfo_phase (k code addr : Nat) (s : State) : (minorityInfo k code addr s).sys.phase = s.sys.phase := by
  unfold minorityInfo
  simp

@[simp] theorem regionMinority_phase (k code addr : Nat) (s : State) : (regionMinority k code addr s).sys.phase = s.sys.phase := by
  unfold regionMinority
  simp

@[simp] theorem takeUnvoted_phase (es : List QEntry) (s : State) : (takeUnvoted es s).sys.phase = s.sys.phase := by
  unfold takeUnvoted
  simp

@[simp] theorem ignorePending_phase (k : Nat) (s : State) : (ignorePending k s).sys.phase = s.sys.phase := by
  unfold ignorePending
  simp

@[simp] theorem emptyQueue_phase (k : Nat) (s : State) : (emptyQueue k s).sys.phase = s.sys.phase := by
  unfold emptyQueue
  simp

@[simp] theorem noMajority_phase (three two : Nat) (s : State) : (noMajority three two s).sys.phase = s.sys.phase := by
  unfold noMajority
  simp

@[simp] theorem voterFaults_phase (dualRailBad : Bool) (s : State) : (voterFaults dualRailBad s).sys.phase = s.sys.phase := by
  unfold voterFaults
  simp

@[simp] theorem sigCompare_phase (s : State) : (sigCompare s).sys.phase = s.sys.phase := by
  unfold sigCompare
  try dsimp only
  (repeat' split) <;> simp

@[simp] theorem sigShow_phase (s : State) : (sigShow s).sys.phase = s.sys.phase := by
  unfold sigShow
  simp

@[simp] theorem injectTest_phase (detected : BitVec 7) (s : State) : (injectTest detected s).sys.phase = s.sys.phase := by
  unfold injectTest
  simp

@[simp] theorem countFence_phase (k : Nat) (s : State) : (countFence k s).sys.phase = s.sys.phase := by
  unfold countFence
  simp

@[simp] theorem endSequence_phase (s : State) : (endSequence s).sys.phase = s.sys.phase := by
  unfold endSequence
  simp

@[simp] theorem toFenced_phase (k : Nat) (s : State) : (toFenced k s).sys.phase = s.sys.phase := by
  unfold toFenced
  simp

@[simp] theorem startSequence_phase (k : Nat) (fence : Bool) (s : State) : (startSequence k fence s).sys.phase = s.sys.phase := by
  unfold startSequence
  simp

@[simp] theorem fenceRegion_phase (k : Nat) (s : State) : (fenceRegion k s).sys.phase = s.sys.phase := by
  unfold fenceRegion
  simp

@[simp] theorem splitRegion_phase (k : Nat) (s : State) : (splitRegion k s).sys.phase = s.sys.phase := by
  unfold splitRegion
  simp

@[simp] theorem setResult_phase (k r : Nat) (s : State) : (setResult k r s).sys.phase = s.sys.phase := by
  unfold setResult
  simp

@[simp] theorem sequenceFailed_phase (k code result : Nat) (s : State) : (sequenceFailed k code result s).sys.phase = s.sys.phase := by
  unfold sequenceFailed
  simp

@[simp] theorem rejoin_phase (k : Nat) (s : State) : (rejoin k s).sys.phase = s.sys.phase := by
  unfold rejoin
  simp

@[simp] theorem verifyStep_phase (crcs : List Word) (s : State) : (verifyStep crcs s).sys.phase = s.sys.phase := by
  unfold verifyStep
  (repeat' split) <;> simp

@[simp] theorem sequenceStep_phase (s : State) : (sequenceStep s).sys.phase = s.sys.phase := by
  unfold sequenceStep
  try dsimp only
  (repeat' split) <;> simp

@[simp] theorem vauVcEnd_phase (s : State) : (vauVcEnd s).sys.phase = s.sys.phase := by
  unfold vauVcEnd
  try dsimp only
  (repeat' split) <;> simp

@[simp] theorem ageTick_phase (k : Nat) (s : State) : (ageTick k s).sys.phase = s.sys.phase := by
  unfold ageTick
  simp

@[simp] theorem vauTick_phase (s : State) : (vauTick s).sys.phase = s.sys.phase := by
  unfold vauTick
  simp

@[simp] theorem vauShow_phase (s : State) : (vauShow s).sys.phase = s.sys.phase := by
  unfold vauShow
  simp

@[simp] theorem joinEntry_phase (s : State) : (joinEntry s).sys.phase = s.sys.phase := by
  unfold joinEntry
  simp

@[simp] theorem resetProc_phase (sp : Bool) (s : State) : (resetProc sp s).sys.phase = s.sys.phase := by
  unfold resetProc
  simp

@[simp] theorem heartbeatLost_phase (sp : Bool) (s : State) : (heartbeatLost sp s).sys.phase = s.sys.phase := by
  unfold heartbeatLost
  simp

@[simp] theorem iteLaunch_phase (w : Word) (s : State) : (iteLaunch w s).sys.phase = s.sys.phase := by
  unfold iteLaunch
  simp

@[simp] theorem iteEvaluate_phase (s : State) : (iteEvaluate s).sys.phase = s.sys.phase := by
  unfold iteEvaluate
  simp

@[simp] theorem afterEngine_phase (s : State) : (afterEngine s).sys.phase = s.sys.phase := by
  unfold afterEngine
  simp

@[simp] theorem iteDone_phase (s : State) : (iteDone s).sys.phase = s.sys.phase := by
  unfold iteDone
  simp

@[simp] theorem viewsUsed_phase (s : State) : (viewsUsed s).sys.phase = s.sys.phase := by
  unfold viewsUsed
  simp

@[simp] theorem dsuStepDone_phase (s : State) : (dsuStepDone s).sys.phase = s.sys.phase := by
  unfold dsuStepDone
  simp

@[simp] theorem markTick_phase (p tick : Nat) (s : State) : (markTick p tick s).sys.phase = s.sys.phase := by
  unfold markTick
  simp

@[simp] theorem hardwareMark_phase (p len : Nat) (s : State) : (hardwareMark p len s).sys.phase = s.sys.phase := by
  unfold hardwareMark
  simp

@[simp] theorem copyCheck4_phase (diff : Bool) (s : State) : (copyCheck4 diff s).sys.phase = s.sys.phase := by
  unfold copyCheck4
  simp

@[simp] theorem heartbeats_phase (s : State) : (heartbeats s).sys.phase = s.sys.phase := by
  unfold heartbeats
  simp

@[simp] theorem journalWork_phase (s : State) : (journalWork s).sys.phase = s.sys.phase := by
  unfold journalWork
  simp

@[simp] theorem bootRecord_phase (s : State) : (bootRecord s).sys.phase = s.sys.phase := by
  unfold bootRecord
  simp

@[simp] theorem postRecords_phase (s : State) : (postRecords s).sys.phase = s.sys.phase := by
  unfold postRecords
  simp

@[simp] theorem bgPerform_phase (w : BgWork) (s : State) : (bgPerform w s).sys.phase = s.sys.phase := by
  unfold bgPerform
  (repeat' split) <;> simp

@[simp] theorem bgRun_phase (n : Nat) (s : State) : (bgRun n s).sys.phase = s.sys.phase := by
  unfold bgRun
  simp

@[simp] theorem bgFinish_phase (s : State) : (bgFinish s).sys.phase = s.sys.phase := by
  unfold bgFinish
  simp

@[simp] theorem bgBegin_phase (s : State) : (bgBegin s).sys.phase = s.sys.phase := by
  unfold bgBegin
  simp

@[simp] theorem bgCarry_phase (s : State) : (bgCarry s).sys.phase = s.sys.phase := by
  unfold bgCarry
  simp

@[simp] theorem phaseMark_phase (w : Word) (tick : Nat) (s : State) : (phaseMark w tick s).sys.phase = s.sys.phase := by
  unfold phaseMark
  simp

@[simp] theorem overrun_phase (p code : Nat) (s : State) : (overrun p code s).sys.phase = s.sys.phase := by
  unfold overrun
  simp

@[simp] theorem markCheck_phase (i code : Nat) (s : State) : (markCheck i code s).sys.phase = s.sys.phase := by
  unfold markCheck
  simp

@[simp] theorem clearTops_phase (lo n : Nat) (s : State) : (clearTops lo n s).sys.phase = s.sys.phase := by
  unfold clearTops
  simp

@[simp] theorem clearFlags_phase (s : State) : (clearFlags s).sys.phase = s.sys.phase := by
  unfold clearFlags
  simp

@[simp] theorem mantleStrobe_phase (measured : Bool) (meas : Nat) (s : State) : (mantleStrobe measured meas s).sys.phase = s.sys.phase := by
  unfold mantleStrobe
  simp

@[simp] theorem travelStart_phase (s : State) : (travelStart s).sys.phase = s.sys.phase := by
  unfold travelStart
  simp

@[simp] theorem snapshotsReady_phase (s : State) : (snapshotsReady s).sys.phase = s.sys.phase := by
  unfold snapshotsReady
  simp

@[simp] theorem checkTelegrams_phase (s : State) : (checkTelegrams s).sys.phase = s.sys.phase := by
  unfold checkTelegrams
  simp

@[simp] theorem evaluateWork_phase (s : State) : (evaluateWork s).sys.phase = s.sys.phase := by
  unfold evaluateWork
  simp

@[simp] theorem takeVector_phase (received : Bool) (s : State) : (takeVector received s).sys.phase = s.sys.phase := by
  unfold takeVector
  try dsimp only
  (repeat' split) <;> simp

@[simp] theorem sealAll_phase (s : State) : (sealAll s).sys.phase = s.sys.phase := by
  unfold sealAll
  simp

@[simp] theorem mntShow_phase (s : State) : (mntShow s).sys.phase = s.sys.phase := by
  unfold mntShow
  simp

@[simp] theorem mantleCheck_phase (received : Bool) (s : State) : (mantleCheck received s).sys.phase = s.sys.phase := by
  unfold mantleCheck
  simp

@[simp] theorem readMsafe_phase (s : State) : (readMsafe s).sys.phase = s.sys.phase := by
  unfold readMsafe
  simp

@[simp] theorem readTrips_phase (s : State) : (readTrips s).sys.phase = s.sys.phase := by
  unfold readTrips
  simp

@[simp] theorem mantleRead_phase (readable : Bool) (echo : BitVec 64) (s : State) : (mantleRead readable echo s).sys.phase = s.sys.phase := by
  unfold mantleRead
  simp

@[simp] theorem safeStatus_phase (s : State) : (safeStatus s).sys.phase = s.sys.phase := by
  unfold safeStatus
  simp

@[simp] theorem lagCheck_phase (s : State) : (lagCheck s).sys.phase = s.sys.phase := by
  unfold lagCheck
  simp

@[simp] theorem signatureCompare_phase (detected : BitVec 7) (crcs : List Word) (s : State) : (signatureCompare detected crcs s).sys.phase = s.sys.phase := by
  unfold signatureCompare
  simp

@[simp] theorem checkFailed_phase (s : State) : (checkFailed s).sys.phase = s.sys.phase := by
  unfold checkFailed
  (repeat' split) <;> simp

@[simp] theorem vcEnd_phase (heartbeat : Bool) (s : State) : (vcEnd heartbeat s).sys.phase = s.sys.phase := by
  unfold vcEnd
  simp

@[simp] theorem restrictNow_phase (s : State) : (restrictNow s).sys.phase = s.sys.phase := by
  unfold restrictNow
  simp

@[simp] theorem writeOutside_phase (high : Bool) (w : Word) (codingOk : Bool) (s : State) : (writeOutside high w codingOk s).sys.phase = s.sys.phase := by
  unfold writeOutside
  simp

@[simp] theorem memRead_phase (a width : Nat) (s : State) : (memRead a width s).sys.phase = s.sys.phase := by
  unfold memRead
  simp

@[simp] theorem debugRead_phase (k a width : Nat) (s : State) : (debugRead k a width s).sys.phase = s.sys.phase := by
  unfold debugRead
  (repeat' split) <;> simp

end Sys2Proof.Machine
end

