-- ==== Sys2Proof/Laws/Queue.lean ====
section
/-!
SUPPORT. No operation touches the queue of waiting commands, one lemma per operation.
-/
namespace Sys2Proof.Machine
set_option linter.all false

@[simp] theorem ite_pending (c : Prop) [Decidable c] (a b : State) : (if c then a else b).pending = if c then a.pending else b.pending := by
  split <;> rfl

@[simp] theorem foldl_pending {β : Type} (l : List β) (f : State → β → State) (s : State) (h : ∀ s b, (f s b).pending = s.pending) :
    (l.foldl f s).pending = s.pending := by
  induction l generalizing s with
  | nil => rfl
  | cons b l ih => rw [List.foldl_cons, ih, h]

theorem foldlFst_pending {α β : Type} (l : List β) (f : State × α → β → State × α) (p : State × α) (h : ∀ p b, (f p b).1.pending = p.1.pending) :
    (l.foldl f p).1.pending = p.1.pending := by
  induction l generalizing p with
  | nil => rfl
  | cons b l ih => rw [List.foldl_cons, ih, h]

@[simp] theorem putDual_pending (base : Nat) (slotB : Bool) (w : Word) (s : State) : (putDual base slotB w s).pending = s.pending := by
  unfold putDual
  simp

@[simp] theorem timeCheckpoint_pending (s : State) : (timeCheckpoint s).pending = s.pending := by
  unfold timeCheckpoint
  simp

@[simp] theorem nseqCheckpoint_pending (s : State) : (nseqCheckpoint s).pending = s.pending := by
  unfold nseqCheckpoint
  simp

@[simp] theorem stageFit_pending (ty : Nat) (body : List Byte) (s : State) : (stageFit ty body s).pending = s.pending := by
  unfold stageFit
  simp

@[simp] theorem stageLost_pending (s : State) : (stageLost s).pending = s.pending := by
  unfold stageLost
  simp

@[simp] theorem stage_pending (ty : Nat) (body : List Byte) (s : State) : (stage ty body s).1.pending = s.pending := by
  unfold stage
  try dsimp only
  (repeat' split) <;> simp

@[simp] theorem setEvent_pending (code off : Nat) (s : State) : (setEvent code off s).pending = s.pending := by
  unfold setEvent
  (repeat' split) <;> simp

@[simp] theorem evrClose_pending (s : State) : (evrClose s).1.pending = s.pending := by
  unfold evrClose
  try dsimp only
  (repeat' split) <;> simp

@[simp] theorem evrAllocate_pending (r : LowReq) (s : State) : (evrAllocate r s).pending = s.pending := by
  unfold evrAllocate
  simp

@[simp] theorem evrRepeat_pending (s : State) : (evrRepeat s).pending = s.pending := by
  unfold evrRepeat
  (repeat' split) <;> simp

@[simp] theorem evrTake_pending (k : Nat) (r : LowReq) (s : State) : (evrTake k r s).pending = s.pending := by
  induction k generalizing r s with
  | zero => rfl
  | succ k ih =>
    unfold evrTake
    dsimp only
    (repeat' split) <;> simp [ih]

@[simp] theorem evrDrop_pending (src : Nat) (s : State) : (evrDrop src s).pending = s.pending := by
  unfold evrDrop
  simp

@[simp] theorem evrAnnounce_pending (src : Nat) (s : State) : (evrAnnounce src s).pending = s.pending := by
  unfold evrAnnounce
  simp

@[simp] theorem evrFlag_pending (r : LowReq) (s : State) : (evrFlag r s).pending = s.pending := by
  unfold evrFlag
  simp

@[simp] theorem readFlags_pending (s : State) : (readFlags s).pending = s.pending := by
  unfold readFlags
  simp

@[simp] theorem setRegs_pending (a : Nat) (ws : List Word) (s : State) : (setRegs a ws s).pending = s.pending := by
  unfold setRegs
  simp

@[simp] theorem recordLater_pending (ty : Nat) (body : List Byte) (s : State) : (recordLater ty body s).pending = s.pending := by
  unfold recordLater
  simp

@[simp] theorem mSafe_pending (code : Nat) (s : State) : (mSafe code s).pending = s.pending := by
  unfold mSafe
  simp

@[simp] theorem mFault_pending (code : Nat) (s : State) : (mFault code s).pending = s.pending := by
  unfold mFault
  simp

@[simp] theorem heartbeatCheck_pending (received : Bool) (s : State) : (heartbeatCheck received s).pending = s.pending := by
  unfold heartbeatCheck
  try dsimp only
  (repeat' split) <;> simp

@[simp] theorem sealBus_pending (b : Nat) (s : State) : (sealBus b s).pending = s.pending := by
  unfold sealBus
  simp

@[simp] theorem countMasked_pending (n : Nat) (s : State) : (countMasked n s).pending = s.pending := by
  unfold countMasked
  simp

@[simp] theorem resealBus_pending (b : Nat) (s : State) : (resealBus b s).pending = s.pending := by
  unfold resealBus
  simp

@[simp] theorem resealAfter_pending (before : Mnt) (s : State) : (resealAfter before s).pending = s.pending := by
  unfold resealAfter
  simp

@[simp] theorem outPush_pending (host : Nat) (noncons : Bool) (r : List Byte) (s : State) : (outPush host noncons r s).pending = s.pending := by
  unfold outPush
  simp

@[simp] theorem writeRbuf_pending (r : List Byte) (s : State) : (writeRbuf r s).pending = s.pending := by
  unfold writeRbuf
  simp

@[simp] theorem recordCommand_pending (t : Nat) (g : Tag) (r : List Byte) (s : State) : (recordCommand t g r s).pending = s.pending := by
  unfold recordCommand
  simp

@[simp] theorem tagDirty_pending (t : Nat) (s : State) : (tagDirty t s).pending = s.pending := by
  unfold tagDirty
  simp

@[simp] theorem storeReply_pending (r : List Byte) (s : State) : (storeReply r s).pending = s.pending := by
  unfold storeReply
  simp

@[simp] theorem abortAll_pending (cause : Nat) (s : State) : (abortAll cause s).pending = s.pending := by
  unfold abortAll
  simp

@[simp] theorem busCancel_pending (b : Nat) (s : State) : (busCancel b s).pending = s.pending := by
  unfold busCancel
  simp

@[simp] theorem clearReady_pending (s : State) : (clearReady s).pending = s.pending := by
  unfold clearReady
  simp

@[simp] theorem enterSafe_pending (code : Nat) (mantle : Bool) (s : State) : (enterSafe code mantle s).pending = s.pending := by
  unfold enterSafe
  simp

@[simp] theorem enterMaint_pending (code : Nat) (mantle : Bool) (s : State) : (enterMaint code mantle s).pending = s.pending := by
  unfold enterMaint
  simp

@[simp] theorem safeOn_pending (code : Nat) (mantle : Bool) (s : State) : (safeOn code mantle s).pending = s.pending := by
  unfold safeOn
  (repeat' split) <;> simp

@[simp] theorem raiseSAt_pending (off code obj val : Nat) (s : State) : (raiseSAt off code obj val s).pending = s.pending := by
  unfold raiseSAt
  simp

@[simp] theorem raiseS_pending (code obj val : Nat) (s : State) : (raiseS code obj val s).pending = s.pending := by
  unfold raiseS
  simp

@[simp] theorem raiseAll_pending (codes : List Nat) (s : State) : (raiseAll codes s).pending = s.pending := by
  unfold raiseAll
  (repeat' split) <;> simp

@[simp] theorem localSafeEdge_pending (e code : Nat) (s : State) : (localSafeEdge e code s).pending = s.pending := by
  unfold localSafeEdge
  simp

@[simp] theorem raiseEdge_pending (e code obj val : Nat) (s : State) : (raiseEdge e code obj val s).pending = s.pending := by
  unfold raiseEdge
  simp

@[simp] theorem obsAdd_pending (inc : Nat → Nat → Nat) (s : State) : (obsAdd inc s).pending = s.pending := by
  unfold obsAdd
  simp

@[simp] theorem obsCount_pending (i n : Nat) (s : State) : (obsCount i n s).pending = s.pending := by
  unfold obsCount
  simp

@[simp] theorem obsCountT_pending (k i n : Nat) (s : State) : (obsCountT k i n s).pending = s.pending := by
  unfold obsCountT
  simp

@[simp] theorem obsRun_pending (s : State) : (obsRun s).pending = s.pending := by
  unfold obsRun
  simp

@[simp] theorem pselWrite_pending (k : Nat) (w : Word) (s : State) : (pselWrite k w s).pending = s.pending := by
  unfold pselWrite
  simp

@[simp] theorem ovfWrite_pending (j : Nat) (w : Word) (s : State) : (ovfWrite j w s).pending = s.pending := by
  unfold ovfWrite
  simp

@[simp] theorem markWrite_pending (w : Word) (s : State) : (markWrite w s).pending = s.pending := by
  unfold markWrite
  simp

@[simp] theorem tagDraw_pending (s : State) : (tagDraw s).pending = s.pending := by
  unfold tagDraw
  simp

@[simp] theorem tagctlWrite_pending (w : Word) (s : State) : (tagctlWrite w s).pending = s.pending := by
  unfold tagctlWrite
  simp

@[simp] theorem seedWrite_pending (w : Word) (s : State) : (seedWrite w s).pending = s.pending := by
  unfold seedWrite
  simp

@[simp] theorem tagRetire_pending (pc : Word) (slotClass issueSlot fetchToIssue issueToRetire stall : Nat) (s : State) : (tagRetire pc slotClass issueSlot fetchToIssue issueToRetire stall s).pending = s.pending := by
  unfold tagRetire
  simp

@[simp] theorem counterWrap_pending (n : Nat) (s : State) : (counterWrap n s).pending = s.pending := by
  unfold counterWrap
  simp

@[simp] theorem linkSend_pending (s : State) : (linkSend s).pending = s.pending := by
  unfold linkSend
  simp

@[simp] theorem segStart_pending (s : State) : (segStart s).pending = s.pending := by
  unfold segStart
  simp

@[simp] theorem obsStart_pending (s : State) : (obsStart s).pending = s.pending := by
  unfold obsStart
  simp

@[simp] theorem segmentLatch_pending (s : State) : (segmentLatch s).pending = s.pending := by
  unfold segmentLatch
  simp

@[simp] theorem obsRejoin_pending (k : Nat) (s : State) : (obsRejoin k s).pending = s.pending := by
  unfold obsRejoin
  simp

@[simp] theorem onSlot_pending (cB rB tB : Nat) (berth : Bool) (f : SlotConf → Word → Word → Word × Word) (s : State) (i : Nat) : (onSlot cB rB tB berth f s i).pending = s.pending := by
  unfold onSlot
  simp

@[simp] theorem onLeafSlots_pending (l : Nat) (f : SlotConf → Word → Word → Word × Word) (s : State) : (onLeafSlots l f s).pending = s.pending := by
  unfold onLeafSlots
  simp

@[simp] theorem onBerthSlots_pending (e : Nat) (f : SlotConf → Word → Word → Word × Word) (s : State) : (onBerthSlots e f s).pending = s.pending := by
  unfold onBerthSlots
  simp

@[simp] theorem leafTake_pending (l trv : Nat) (vel : Int) (r : UnitRep) (s : State) : (leafTake l trv vel r s).pending = s.pending := by
  unfold leafTake
  simp

@[simp] theorem leafMissing_pending (l : Nat) (s : State) : (leafMissing l s).pending = s.pending := by
  unfold leafMissing
  simp

@[simp] theorem unitIntake_pending (u : Nat) (r : UnitRep) (due : Bool) (s : State) : (unitIntake u r due s).pending = s.pending := by
  unfold unitIntake
  simp

@[simp] theorem latchLeaves_pending (s : State) : (latchLeaves s).pending = s.pending := by
  unfold latchLeaves
  simp

@[simp] theorem clearNew_pending (s : State) : (clearNew s).pending = s.pending := by
  unfold clearNew
  simp

@[simp] theorem berthCompute_pending (s : State) (e : Nat) : (berthCompute s e).pending = s.pending := by
  unfold berthCompute
  simp

@[simp] theorem slotPut_pending (phaseOk berth : Bool) (i : Nat) (w : Word) (s : State) : (slotPut phaseOk berth i w s).pending = s.pending := by
  unfold slotPut
  simp

@[simp] theorem slotWrite_pending (berth : Bool) (i : Nat) (w : Word) (s : State) : (slotWrite berth i w s).pending = s.pending := by
  unfold slotWrite
  simp

@[simp] theorem trackWrite_pending (m : Nat) (w : Word) (s : State) : (trackWrite m w s).pending = s.pending := by
  unfold trackWrite
  simp

@[simp] theorem dsuIntake_pending (u : Nat) (r : UnitRep) (taken due : Bool) (s : State) : (dsuIntake u r taken due s).pending = s.pending := by
  unfold dsuIntake
  simp

@[simp] theorem dsuSlot_pending (i : Nat) (w : Word) (arg : Nat) (s : State) : (dsuSlot i w arg s).pending = s.pending := by
  unfold dsuSlot
  simp

@[simp] theorem armFor_pending (l : Nat) (st : LeafSt) (creep dirOpen : Bool) (s : State) : (armFor l st creep dirOpen s).pending = s.pending := by
  unfold armFor
  (repeat' split) <;> simp

@[simp] theorem enterLeaf_pending (l : Nat) (st : LeafSt) (s : State) : (enterLeaf l st s).pending = s.pending := by
  unfold enterLeaf
  simp

@[simp] theorem doorEvent_pending (v : DoorEvent) (s : State) : (doorEvent v s).pending = s.pending := by
  unfold doorEvent
  simp

@[simp] theorem logReport_pending (s : State) (l : Nat) : (logReport s l).pending = s.pending := by
  unfold logReport
  simp

@[simp] theorem logCycle_pending (l endState : Nat) (s : State) : (logCycle l endState s).pending = s.pending := by
  unfold logCycle
  simp

@[simp] theorem abortCycle_pending (l endState : Nat) (s : State) : (abortCycle l endState s).pending = s.pending := by
  unfold abortCycle
  simp

@[simp] theorem enterLocal_pending (e code : Nat) (s : State) : (enterLocal e code s).pending = s.pending := by
  unfold enterLocal
  try dsimp only
  (repeat' split) <;>
    first | (simp; done) | (refine Eq.trans (foldl_pending _ _ _ (fun s b => ?_)) ?_ <;> (repeat' split) <;> simp)

@[simp] theorem localCause_pending (e code obj val : Nat) (s : State) : (localCause e code obj val s).pending = s.pending := by
  unfold localCause
  simp

@[simp] theorem setTracked_pending (l : Nat) (b : Bool) (s : State) : (setTracked l b s).pending = s.pending := by
  unfold setTracked
  simp

@[simp] theorem startLeaf_pending (s : State) (l : Nat) : (startLeaf s l).pending = s.pending := by
  unfold startLeaf
  simp

@[simp] theorem plunger_pending (s : State) (e : Nat) : (plunger s e).pending = s.pending := by
  unfold plunger
  simp

@[simp] theorem stoInput_pending (s : State) (u : Nat) : (stoInput s u).pending = s.pending := by
  unfold stoInput
  simp

@[simp] theorem creepCheck_pending (s : State) (l : Nat) : (creepCheck s l).pending = s.pending := by
  unfold creepCheck
  simp

@[simp] theorem stepLocal_pending (s : State) (e : Nat) : (stepLocal s e).pending = s.pending := by
  unfold stepLocal
  try dsimp only
  (repeat' split) <;> simp

@[simp] theorem rampFault_pending (l code : Nat) (s : State) : (rampFault l code s).pending = s.pending := by
  unfold rampFault
  simp

@[simp] theorem stepRamp_pending (s : State) (l : Nat) : (stepRamp s l).pending = s.pending := by
  unfold stepRamp
  simp

@[simp] theorem stopLeaf_pending (unitLevel : Bool) (s : State) (l : Nat) : (stopLeaf unitLevel s l).pending = s.pending := by
  unfold stopLeaf
  simp

@[simp] theorem edgeStop_pending (e code : Nat) (s : State) : (edgeStop e code s).pending = s.pending := by
  unfold edgeStop
  simp

@[simp] theorem stepStop_pending (s : State) (e : Nat) : (stepStop s e).pending = s.pending := by
  unfold stepStop
  try dsimp only
  (repeat' split) <;> simp

@[simp] theorem setStoAtOnce_pending (u : Nat) (b : Bool) (s : State) : (setStoAtOnce u b s).pending = s.pending := by
  unfold setStoAtOnce
  simp

@[simp] theorem faultAction_pending (l : Nat) (s : State) : (faultAction l s).pending = s.pending := by
  unfold faultAction
  simp

@[simp] theorem leafFails_pending (code l : Nat) (s : State) : (leafFails code l s).pending = s.pending := by
  unfold leafFails
  simp

@[simp] theorem stepFault_pending (s : State) (l : Nat) : (stepFault s l).pending = s.pending := by
  unfold stepFault
  (repeat' split) <;> simp

@[simp] theorem leavesToClosing_pending (e : Nat) (s : State) : (leavesToClosing e s).pending = s.pending := by
  unfold leavesToClosing
  try dsimp only
  (repeat' split) <;>
    first | (simp; done) | (refine Eq.trans (foldl_pending _ _ _ (fun s b => ?_)) ?_ <;> (repeat' split) <;> simp)

@[simp] theorem edgeToClosing_pending (e : Nat) (s : State) : (edgeToClosing e s).pending = s.pending := by
  unfold edgeToClosing
  simp

@[simp] theorem liftHolds_pending (e : Nat) (s : State) : (liftHolds e s).pending = s.pending := by
  unfold liftHolds
  simp

@[simp] theorem leafRestore_pending (l : Nat) (s : State) : (leafRestore l s).pending = s.pending := by
  unfold leafRestore
  simp

@[simp] theorem edgeOpen_pending (e : Nat) (s : State) : (edgeOpen e s).pending = s.pending := by
  unfold edgeOpen
  simp

@[simp] theorem edgeCommand_pending (e : Nat) (s : State) : (edgeCommand e s).1.pending = s.pending := by
  unfold edgeCommand
  try dsimp only
  (repeat' split) <;> simp

@[simp] theorem restorationRelease_pending (e : Nat) (s : State) : (restorationRelease e s).pending = s.pending := by
  unfold restorationRelease
  try dsimp only
  (repeat' split) <;>
    first | (simp; done) | (refine Eq.trans (foldl_pending _ _ _ (fun s b => ?_)) ?_ <;> (repeat' split) <;> simp)

@[simp] theorem stepCommand_pending (s : State) (e : Nat) : (stepCommand s e).pending = s.pending := by
  unfold stepCommand
  dsimp only
  generalize hs : (if (s.edge e).st = EdgeSt.localSafe ∧ (s.edge e).restoring = true ∧ later s.sys.vcn (s.edge e).restVcn = true
    then restorationRelease e s else s) = s1
  have h1 : s1.pending = s.pending := by
    rw [← hs]
    split <;> simp
  have h2 := edgeCommand_pending e s1
  split
  · exact h1
  · split <;> rename_i h <;> rw [h] at h2 <;> simp_all

@[simp] theorem leafCommand_pending (s : State) (w : Word) : (leafCommand s w).pending = s.pending := by
  unfold leafCommand
  (repeat' split) <;> simp

@[simp] theorem closingLeaf_pending (l : Nat) (s : State) : (closingLeaf l s).pending = s.pending := by
  unfold closingLeaf
  simp

@[simp] theorem stepLeaf_pending (s : State) (l : Nat) : (stepLeaf s l).pending = s.pending := by
  unfold stepLeaf
  try dsimp only
  (repeat' split) <;> simp

@[simp] theorem provingDone_pending (e : Nat) (s : State) : (provingDone e s).pending = s.pending := by
  unfold provingDone
  simp

@[simp] theorem edgeProve_pending (e : Nat) (lt : Bool) (s : State) : (edgeProve e lt s).pending = s.pending := by
  unfold edgeProve
  try dsimp only
  (repeat' split) <;> simp

@[simp] theorem closeTimer_pending (e : Nat) (s : State) : (closeTimer e s).pending = s.pending := by
  unfold closeTimer
  try dsimp only
  (repeat' split) <;> simp

@[simp] theorem stepEdge_pending (s : State) (e : Nat) : (stepEdge s e).pending = s.pending := by
  unfold stepEdge
  simp

@[simp] theorem countCheck_pending (s : State) : (countCheck s).pending = s.pending := by
  unfold countCheck
  (repeat' split) <;> simp

@[simp] theorem dsuStep_pending (s : State) : (dsuStep s).pending = s.pending := by
  unfold dsuStep
  simp

@[simp] theorem tokSet_pending (i : Nat) (w : Word) (s : State) : (tokSet i w s).pending = s.pending := by
  unfold tokSet
  simp

@[simp] theorem acquireList_pending (xs : List Nat) (h : Nat) (s : State) : (acquireList xs h s).1.pending = s.pending := by
  unfold acquireList
  (repeat' split) <;> simp

@[simp] theorem recount_pending (s : State) : (recount s).pending = s.pending := by
  unfold recount
  simp

@[simp] theorem crdPerform_pending (o : CrdOp) (s : State) : (crdPerform o s).1.pending = s.pending := by
  unfold crdPerform
  try dsimp only
  (repeat' split) <;> simp

@[simp] theorem crdDo_pending (o : CrdOp) (s : State) : (crdDo o s).1.pending = s.pending := by
  unfold crdDo
  dsimp only
  rw [State.setReg_pending, obsCount_pending]
  dsimp only
  split <;> simp

@[simp] theorem crdWrite_pending (o : CrdOp) (s : State) : (crdWrite o s).pending = s.pending := by
  unfold crdWrite
  simp

@[simp] theorem crdResume_pending (s : State) : (crdResume s).pending = s.pending := by
  unfold crdResume
  simp

@[simp] theorem writeOpa_pending (subj timer : Nat) (s : State) : (writeOpa subj timer s).pending = s.pending := by
  unfold writeOpa
  simp

@[simp] theorem crdRun_pending (opc elem holder subj timer : Nat) (s : State) : (crdRun opc elem holder subj timer s).1.pending = s.pending := by
  unfold crdRun
  simp

@[simp] theorem loadTable_pending (t : Tbl Word) (s : State) : (loadTable t s).pending = s.pending := by
  unfold loadTable
  simp

@[simp] theorem tokExpired_pending (i : Nat) (s : State) : (tokExpired i s).pending = s.pending := by
  unfold tokExpired
  simp

@[simp] theorem tokTick_pending (s : State) (i : Nat) : (tokTick s i).pending = s.pending := by
  unfold tokTick
  simp

@[simp] theorem tokTicks_pending (s : State) : (tokTicks s).pending = s.pending := by
  unfold tokTicks
  simp

@[simp] theorem noteBus_pending (b code : Nat) (s : State) : (noteBus b code s).pending = s.pending := by
  unfold noteBus
  simp

@[simp] theorem busLocal_pending (b code : Nat) (s : State) : (busLocal b code s).pending = s.pending := by
  unfold busLocal
  simp

@[simp] theorem countFd_pending (b : Nat) (s : State) : (countFd b s).pending = s.pending := by
  unfold countFd
  simp

@[simp] theorem countOther_pending (b : Nat) (s : State) : (countOther b s).pending = s.pending := by
  unfold countOther
  simp

@[simp] theorem countUnit_pending (b u hi lo : Nat) (s : State) : (countUnit b u hi lo s).pending = s.pending := by
  unfold countUnit
  simp

@[simp] theorem send_pending (k : FrameKind) (f : Frame) (b : Nat) (s : State) : (send k f b s).pending = s.pending := by
  unfold send
  simp

@[simp] theorem busesFollow_pending (old new : ModState) (s : State) : (busesFollow old new s).pending = s.pending := by
  unfold busesFollow
  simp

@[simp] theorem busWakes_pending (b : Nat) (s : State) : (busWakes b s).pending = s.pending := by
  unfold busWakes
  simp

@[simp] theorem sendWake_pending (b : Nat) (s : State) : (sendWake b s).pending = s.pending := by
  unfold sendWake
  simp

@[simp] theorem busSleep_pending (b : Nat) (s : State) : (busSleep b s).pending = s.pending := by
  unfold busSleep
  simp

@[simp] theorem sleepEnd_pending (b : Nat) (s : State) : (sleepEnd b s).pending = s.pending := by
  unfold sleepEnd
  simp

@[simp] theorem errorPassive_pending (b : Nat) (s : State) : (errorPassive b s).pending = s.pending := by
  unfold errorPassive
  simp

@[simp] theorem brokenNote_pending (b : Nat) (s : State) : (brokenNote b s).pending = s.pending := by
  unfold brokenNote
  (repeat' split) <;> simp

@[simp] theorem busOff_pending (b : Nat) (s : State) : (busOff b s).pending = s.pending := by
  unfold busOff
  simp

@[simp] theorem txError_pending (b lec : Nat) (s : State) : (txError b lec s).pending = s.pending := by
  unfold txError
  simp

@[simp] theorem loopDelay_pending (b tdcv : Nat) (s : State) : (loopDelay b tdcv s).pending = s.pending := by
  unfold loopDelay
  simp

@[simp] theorem errorActive_pending (b : Nat) (s : State) : (errorActive b s).pending = s.pending := by
  unfold errorActive
  simp

@[simp] theorem txGood_pending (b : Nat) (s : State) : (txGood b s).pending = s.pending := by
  unfold txGood
  simp

@[simp] theorem rxGood_pending (b : Nat) (s : State) : (rxGood b s).pending = s.pending := by
  unfold rxGood
  simp

@[simp] theorem passiveEvent_pending (b : Nat) (s : State) : (passiveEvent b s).pending = s.pending := by
  unfold passiveEvent
  simp

@[simp] theorem setUnack_pending (b n : Nat) (s : State) : (setUnack b n s).pending = s.pending := by
  unfold setUnack
  simp

@[simp] theorem refUnacked_pending (b : Nat) (s : State) : (refUnacked b s).pending = s.pending := by
  unfold refUnacked
  simp

@[simp] theorem refEnd_pending (b result : Nat) (s : State) : (refEnd b result s).pending = s.pending := by
  unfold refEnd
  simp

@[simp] theorem txEnd_pending (b result tdcv : Nat) (s : State) : (txEnd b result tdcv s).pending = s.pending := by
  unfold txEnd
  (repeat' split) <;> simp

@[simp] theorem refRx_pending (b ofs : Nat) (f : Frame) (s : State) : (refRx b ofs f s).pending = s.pending := by
  unfold refRx
  try dsimp only
  (repeat' split) <;> simp

@[simp] theorem reportRx_pending (b u sof : Nat) (bs : List Byte) (s : State) : (reportRx b u sof bs s).pending = s.pending := by
  unfold reportRx
  simp

@[simp] theorem foreignRx_pending (b id sof : Nat) (fd : Bool) (s : State) : (foreignRx b id sof fd s).pending = s.pending := by
  unfold foreignRx
  simp

@[simp] theorem busTurn_pending (b : Nat) (s : State) : (busTurn b s).pending = s.pending := by
  unfold busTurn
  simp

@[simp] theorem cmdWatch_pending (b : Nat) (s : State) : (cmdWatch b s).pending = s.pending := by
  unfold cmdWatch
  simp

@[simp] theorem sleepTurn_pending (b : Nat) (s : State) : (sleepTurn b s).pending = s.pending := by
  unfold sleepTurn
  simp

@[simp] theorem snapRegs_pending (b u : Nat) (r : UnitRep) (s : State) : (snapRegs b u r s).pending = s.pending := by
  unfold snapRegs
  simp

@[simp] theorem unitTurn_pending (b : Nat) (s : State) (u : Nat) : (unitTurn b s u).pending = s.pending := by
  unfold unitTurn
  simp

@[simp] theorem reportsTurn_pending (s : State) : (reportsTurn s).pending = s.pending := by
  unfold reportsTurn
  simp

@[simp] theorem busesTurn_pending (s : State) : (busesTurn s).pending = s.pending := by
  unfold busesTurn
  simp

@[simp] theorem discStrobe_pending (s : State) (i : Nat) : (discStrobe s i).pending = s.pending := by
  unfold discStrobe
  simp

@[simp] theorem fioGate_pending (s : State) : (fioGate s).pending = s.pending := by
  unfold fioGate
  simp

@[simp] theorem commitNotes_pending (w0 w1 : Word) (s : State) : (commitNotes w0 w1 s).pending = s.pending := by
  unfold commitNotes
  simp

@[simp] theorem commit_pending (w0 w1 code : Word) (s : State) : (commit w0 w1 code s).pending = s.pending := by
  unfold commit
  simp

@[simp] theorem writeCode_pending (code : Word) (s : State) : (writeCode code s).pending = s.pending := by
  unfold writeCode
  simp

@[simp] theorem groupEdges_pending (gs : BitVec 12) (s : State) : (groupEdges gs s).pending = s.pending := by
  unfold groupEdges
  try dsimp only
  (repeat' split) <;>
    first | (simp; done) | (refine Eq.trans (foldl_pending _ _ _ (fun s b => ?_)) ?_ <;> (repeat' split) <;> simp)

@[simp] theorem groupsLocalSafe_pending (before : Word) (s : State) : (groupsLocalSafe before s).pending = s.pending := by
  unfold groupsLocalSafe
  try dsimp only
  (repeat' split) <;>
    first | (simp; done) | (refine Eq.trans (foldl_pending _ _ _ (fun s b => ?_)) ?_ <;> (repeat' split) <;> simp)

@[simp] theorem discSet_pending (i : Nat) (s : State) : (discSet i s).pending = s.pending := by
  unfold discSet
  simp

@[simp] theorem silentState_pending (s : State) : (silentState s).pending = s.pending := by
  unfold silentState
  simp

@[simp] theorem fioStrobe_pending (rb : BitVec 48) (s : State) : (fioStrobe rb s).pending = s.pending := by
  unfold fioStrobe
  simp

@[simp] theorem outputL_pending (n code : Nat) (s : State) : (outputL n code s).pending = s.pending := by
  unfold outputL
  try dsimp only
  (repeat' split) <;> simp

@[simp] theorem detect_pending (n det res code : Nat) (s : State) : (detect n det res code s).pending = s.pending := by
  unfold detect
  simp

@[simp] theorem classify_pending (n result partner : Nat) (s : State) : (classify n result partner s).pending = s.pending := by
  unfold classify
  try dsimp only
  (repeat' split) <;> simp

@[simp] theorem recountCredits_pending (s : State) : (recountCredits s).pending = s.pending := by
  unfold recountCredits
  simp

@[simp] theorem creditRecount_pending (s : State) : (creditRecount s).pending = s.pending := by
  unfold creditRecount
  simp

@[simp] theorem postRefused_pending (tag : Nat) (s : State) : (postRefused tag s).pending = s.pending := by
  unfold postRefused
  simp

@[simp] theorem postBytes_pending (r : List Byte) (s : State) : (postBytes r s).pending = s.pending := by
  unfold postBytes
  simp

@[simp] theorem postReply_pending (tag ses status detail fault : Nat) (results : List Byte) (s : State) : (postReply tag ses status detail fault results s).pending = s.pending := by
  unfold postReply
  simp

@[simp] theorem postIfActive_pending (tag ses status detail fault : Nat) (results : List Byte) (s : State) : (postIfActive tag ses status detail fault results s).pending = s.pending := by
  unfold postIfActive
  simp

@[simp] theorem postAccepted_pending (tag ses : Nat) (s : State) : (postAccepted tag ses s).pending = s.pending := by
  unfold postAccepted
  simp

@[simp] theorem answer_pending (p : Pkt) (status code : Nat) (results : List Byte) (s : State) : (answer p status code results s).pending = s.pending := by
  unfold answer
  simp

@[simp] theorem answerDuplicate_pending (host tag : Nat) (s : State) : (answerDuplicate host tag s).pending = s.pending := by
  unfold answerDuplicate
  try dsimp only
  (repeat' split) <;> simp

@[simp] theorem consume_pending (p : Pkt) (s : State) : (consume p s).pending = s.pending := by
  unfold consume
  simp

@[simp] theorem checkPacket_pending (p : Pkt) (flags : Nat) (s : State) : (checkPacket p flags s).pending = s.pending := by
  unfold checkPacket
  (repeat' split) <;> simp

@[simp] theorem feedBody_pending (k host : Nat) (body : List Byte) (s : State) : (feedBody k host body s).pending = s.pending := by
  induction k generalizing host body s with
  | zero => rfl
  | succ k ih =>
    unfold feedBody
    dsimp only
    (repeat' split) <;> simp [ih]

@[simp] theorem feedTelegram_pending (host : Nat) (telegram : List Byte) (s : State) : (feedTelegram host telegram s).pending = s.pending := by
  unfold feedTelegram
  simp

theorem popHead_pending (s t : State) (p : Pkt) (h : popHead s = some (p, t)) : t.pending = s.pending := by
  unfold popHead at h
  split at h
  · cases h
  · split at h
    · cases h
    · cases h
      rfl

@[simp] theorem markExt_pending (s : State) : (markExt s).pending = s.pending := by
  unfold markExt
  simp

@[simp] theorem dropQueued_pending (s : State) : (dropQueued s).pending = s.pending := by
  unfold dropQueued
  simp

@[simp] theorem dropHseq_pending (host : Nat) (s : State) : (dropHseq host s).pending = s.pending := by
  unfold dropHseq
  simp

@[simp] theorem cvuNote_pending (n code : Nat) (s : State) : (cvuNote n code s).pending = s.pending := by
  unfold cvuNote
  simp

@[simp] theorem free64_pending (s : State) : (free64 s).2.pending = s.pending := by
  unfold free64
  simp

@[simp] theorem cvuDiscard_pending (n : Nat) (s : State) : (cvuDiscard n s).pending = s.pending := by
  unfold cvuDiscard
  simp

@[simp] theorem cvuStart_pending (n : Nat) (s : State) : (cvuStart n s).pending = s.pending := by
  unfold cvuStart
  simp

@[simp] theorem cvuByte_pending (n : Nat) (s : State) (b : Byte) : (cvuByte n s b).pending = s.pending := by
  unfold cvuByte
  try dsimp only
  (repeat' split) <;> simp

@[simp] theorem cvuData_pending (n len : Nat) (w : Word) (s : State) : (cvuData n len w s).pending = s.pending := by
  unfold cvuData
  simp

@[simp] theorem cvuAlive_pending (n : Nat) (s : State) : (cvuAlive n s).pending = s.pending := by
  unfold cvuAlive
  simp

@[simp] theorem cvuFinish_pending (n : Nat) (s : State) : (cvuFinish n s).pending = s.pending := by
  unfold cvuFinish
  try dsimp only
  (repeat' split) <;> simp

@[simp] theorem countDrop_pending (portB : Bool) (s : State) : (countDrop portB s).pending = s.pending := by
  unfold countDrop
  simp

@[simp] theorem datagramRx_pending (portB plain : Bool) (srcIp : Word) (srcPort : Nat) (dstIp : Word) (dstPort arr : Nat) (bs : List Byte) (s : State) : (datagramRx portB plain srcIp srcPort dstIp dstPort arr bs s).pending = s.pending := by
  unfold datagramRx
  (repeat' split) <;> simp

@[simp] theorem netSnapshot_pending (s : State) : (netSnapshot s).pending = s.pending := by
  unfold netSnapshot
  simp

@[simp] theorem abResult_pending (c r : Nat) (s : State) : (abResult c r s).pending = s.pending := by
  unfold abResult
  simp

@[simp] theorem abExpire_pending (c : Nat) (s : State) : (abExpire c s).pending = s.pending := by
  unfold abExpire
  simp

@[simp] theorem conRecover_pending (c : Nat) (s : State) : (conRecover c s).pending = s.pending := by
  unfold conRecover
  simp

@[simp] theorem partnerCopy_pending (c : Nat) (portB : Bool) (s : State) : (partnerCopy c portB s).pending = s.pending := by
  unfold partnerCopy
  simp

@[simp] theorem setBase_pending (c : Nat) (portB content : Bool) (bs : List Byte) (s : State) : (setBase c portB content bs s).pending = s.pending := by
  unfold setBase
  simp

@[simp] theorem heardCopy_pending (c : Nat) (portB : Bool) (s : State) : (heardCopy c portB s).pending = s.pending := by
  unfold heardCopy
  simp

@[simp] theorem checkLater_pending (c : Nat) (portB : Bool) (bs : List Byte) (s : State) : (checkLater c portB bs s).pending = s.pending := by
  unfold checkLater
  simp

@[simp] theorem checkCopy_pending (portB : Bool) (s : State) (cp : RxCopy) : (checkCopy portB s cp).pending = s.pending := by
  unfold checkCopy
  try dsimp only
  (repeat' split) <;> simp

@[simp] theorem judgeFresh_pending (c : Nat) (s : State) : (judgeFresh c s).pending = s.pending := by
  unfold judgeFresh
  simp

@[simp] theorem dropBase_pending (c : Nat) (s : State) : (dropBase c s).pending = s.pending := by
  unfold dropBase
  simp

@[simp] theorem resync_pending (c : Nat) (s : State) : (resync c s).pending = s.pending := by
  unfold resync
  try dsimp only
  (repeat' split) <;> simp

@[simp] theorem conTurn_pending (s : State) (c : Nat) : (conTurn s c).pending = s.pending := by
  unfold conTurn
  simp

@[simp] theorem netLost_pending (portB : Bool) (s : State) : (netLost portB s).pending = s.pending := by
  unfold netLost
  simp

@[simp] theorem netRestored_pending (portB : Bool) (s : State) : (netRestored portB s).pending = s.pending := by
  unfold netRestored
  simp

@[simp] theorem netsSilent_pending (s : State) : (netsSilent s).pending = s.pending := by
  unfold netsSilent
  simp

@[simp] theorem netsTurn_pending (s : State) : (netsTurn s).pending = s.pending := by
  unfold netsTurn
  simp

@[simp] theorem telegramChecks_pending (s : State) : (telegramChecks s).pending = s.pending := by
  unfold telegramChecks
  simp

@[simp] theorem slotReady_pending (m c : Nat) (bs : List Byte) (s : State) : (slotReady m c bs s).pending = s.pending := by
  unfold slotReady
  simp

@[simp] theorem sealSlot_pending (m : Nat) (s : State) : (sealSlot m s).pending = s.pending := by
  unfold sealSlot
  simp

@[simp] theorem release_pending (s : State) : (release s).pending = s.pending := by
  unfold release
  simp

@[simp] theorem setEstate_pending (s : State) (i v : Nat) : (setEstate s i v).pending = s.pending := by
  unfold setEstate
  simp

theorem evalOne_pending (g : Nat → Bool) (s : State) (p : State × Bool) (n : Nat) : (evalOne g s p n).1.pending = p.1.pending := by
  unfold evalOne
  (repeat' split) <;> simp

@[simp] theorem evalEach_pending (g : Nat → Bool) (s : State) : (evalEach g s).1.pending = s.pending := by
  unfold evalEach
  rw [foldlFst_pending _ _ _ (evalOne_pending g s)]

@[simp] theorem evalDone_pending (digest clocks : Word) (count : Nat) (s : State) : (evalDone digest clocks count s).pending = s.pending := by
  unfold evalDone
  simp

@[simp] theorem evalFinish_pending (s out : State) : (evalFinish s out).pending = out.pending := by
  unfold evalFinish
  exact evalDone_pending ..

@[simp] theorem evaluate_pending (g : Nat → Bool) (s : State) : (evaluate g s).1.pending = s.pending := by
  unfold evaluate
  exact (evalFinish_pending ..).trans (evalEach_pending ..)

@[simp] theorem lendOut_pending (m : LendMsg) (s : State) : (lendOut m s).pending = s.pending := by
  unfold lendOut
  simp

@[simp] theorem lendRight_pending (m : LendMsg) (s : State) : (lendRight m s).pending = s.pending := by
  unfold lendRight
  simp

@[simp] theorem lendRelease_pending (s : State) : (lendRelease s).pending = s.pending := by
  unfold lendRelease
  simp

@[simp] theorem borrow_pending (ses : Nat) (s : State) (elem : Nat) : (borrow ses s elem).pending = s.pending := by
  unfold borrow
  simp

@[simp] theorem unborrow_pending (ses : Nat) (s : State) : (unborrow ses s).pending = s.pending := by
  unfold unborrow
  simp

@[simp] theorem giveBack_pending (elem holder ses : Nat) (s : State) : (giveBack elem holder ses s).pending = s.pending := by
  unfold giveBack
  simp

@[simp] theorem freeToken_pending (ses : Nat) (s : State) (elem : Nat) : (freeToken ses s elem).pending = s.pending := by
  unfold freeToken
  simp

@[simp] theorem timeToken_pending (ses t : Nat) (s : State) (elem : Nat) : (timeToken ses t s elem).pending = s.pending := by
  unfold timeToken
  simp

@[simp] theorem dueReturns_pending (s : State) : (dueReturns s).pending = s.pending := by
  unfold dueReturns
  simp

@[simp] theorem standingBlock_pending (s : State) (i : Nat) : (standingBlock s i).pending = s.pending := by
  unfold standingBlock
  simp

@[simp] theorem standingBlocks_pending (s : State) : (standingBlocks s).pending = s.pending := by
  unfold standingBlocks
  simp

@[simp] theorem lendProtocol_pending (elem : Nat) (s : State) : (lendProtocol elem s).pending = s.pending := by
  unfold lendProtocol
  simp

@[simp] theorem newEpoch_pending (slot epoch : Nat) (s : State) : (newEpoch slot epoch s).pending = s.pending := by
  unfold newEpoch
  simp

@[simp] theorem dropBorrow_pending (b : Borrow) (s : State) : (dropBorrow b s).pending = s.pending := by
  unfold dropBorrow
  simp

@[simp] theorem dropLoan_pending (elem : Nat) (s : State) : (dropLoan elem s).pending = s.pending := by
  unfold dropLoan
  simp

@[simp] theorem lendReq_pending (m : LendMsg) (s : State) : (lendReq m s).pending = s.pending := by
  unfold lendReq
  simp

@[simp] theorem lendGrant_pending (m : LendMsg) (s : State) : (lendGrant m s).pending = s.pending := by
  unfold lendGrant
  try dsimp only
  (repeat' split) <;> simp

@[simp] theorem markRefused_pending (n : Nat) (s : State) : (markRefused n s).pending = s.pending := by
  unfold markRefused
  simp

@[simp] theorem lendRefuse_pending (m : LendMsg) (s : State) : (lendRefuse m s).pending = s.pending := by
  unfold lendRefuse
  (repeat' split) <;> simp

@[simp] theorem lendTaken_pending (m : LendMsg) (s : State) : (lendTaken m s).pending = s.pending := by
  unfold lendTaken
  (repeat' split) <;> simp

@[simp] theorem lendReturn_pending (m : LendMsg) (s : State) : (lendReturn m s).pending = s.pending := by
  unfold lendReturn
  try dsimp only
  (repeat' split) <;> simp

@[simp] theorem lendReturnAck_pending (m : LendMsg) (s : State) : (lendReturnAck m s).pending = s.pending := by
  unfold lendReturnAck
  (repeat' split) <;> simp

@[simp] theorem lendAudit_pending (m : LendMsg) (s : State) : (lendAudit m s).pending = s.pending := by
  unfold lendAudit
  simp

@[simp] theorem claimed_pending (m : LendMsg) (s : State) : (claimed m s).pending = s.pending := by
  unfold claimed
  simp

@[simp] theorem lendClaim_pending (m : LendMsg) (s : State) : (lendClaim m s).pending = s.pending := by
  unfold lendClaim
  simp

@[simp] theorem lendClaimEnd_pending (m : LendMsg) (s : State) : (lendClaimEnd m s).pending = s.pending := by
  unfold lendClaimEnd
  simp

@[simp] theorem lendClaimQuery_pending (m : LendMsg) (s : State) : (lendClaimQuery m s).pending = s.pending := by
  unfold lendClaimQuery
  simp

@[simp] theorem lendApply_pending (m : LendMsg) (s : State) : (lendApply m s).pending = s.pending := by
  unfold lendApply
  (repeat' split) <;> simp

@[simp] theorem lendRepeats_pending (s : State) : (lendRepeats s).pending = s.pending := by
  unfold lendRepeats
  simp

@[simp] theorem lendAudits_pending (s : State) : (lendAudits s).pending = s.pending := by
  unfold lendAudits
  simp

@[simp] theorem askClaims_pending (s : State) (k : Nat) : (askClaims s k).pending = s.pending := by
  unfold askClaims
  simp

@[simp] theorem claimQuery_pending (s : State) : (claimQuery s).pending = s.pending := by
  unfold claimQuery
  simp

@[simp] theorem startBlocks_pending (s : State) : (startBlocks s).pending = s.pending := by
  unfold startBlocks
  simp

@[simp] theorem claimsComplete_pending (s : State) : (claimsComplete s).pending = s.pending := by
  unfold claimsComplete
  simp

@[simp] theorem newSes_pending (n : Nat) (kind : SesKind) (obj target tag : Nat) (descr : Word) (s : State) : (newSes n kind obj target tag descr s).pending = s.pending := by
  unfold newSes
  simp

@[simp] theorem endSes_pending (n : Nat) (st : SesSt) (s : State) : (endSes n st s).pending = s.pending := by
  unfold endSes
  simp

@[simp] theorem sesTo_pending (n : Nat) (st : SesSt) (s : State) : (sesTo n st s).pending = s.pending := by
  unfold sesTo
  simp

@[simp] theorem replyCreator_pending (n status detail fault : Nat) (results : List Byte) (s : State) : (replyCreator n status detail fault results s).pending = s.pending := by
  unfold replyCreator
  simp

@[simp] theorem replyEnder_pending (n status fault : Nat) (s : State) : (replyEnder n status fault s).pending = s.pending := by
  unfold replyEnder
  (repeat' split) <;> simp

@[simp] theorem refuseSes_pending (n : Nat) (locked : Bool) (index elem : Nat) (s : State) : (refuseSes n locked index elem s).pending = s.pending := by
  unfold refuseSes
  simp

@[simp] theorem refuseCond_pending (n listFirst : Nat) (s : State) : (refuseCond n listFirst s).pending = s.pending := by
  unfold refuseCond
  simp

@[simp] theorem writeList_pending (xs : List Nat) (s : State) : (writeList xs s).pending = s.pending := by
  unfold writeList
  simp

@[simp] theorem acquireFor_pending (n : Nat) (xs : List Nat) (s : State) : (acquireFor n xs s).1.pending = s.pending := by
  unfold acquireFor
  (repeat' split) <;> simp

@[simp] theorem routeTry_pending (n : Nat) (waits : Bool) (s : State) : (routeTry n waits s).pending = s.pending := by
  unfold routeTry
  simp

@[simp] theorem routeCheck_pending (n : Nat) (s : State) : (routeCheck n s).pending = s.pending := by
  unfold routeCheck
  simp

@[simp] theorem routeLendTimeout_pending (n : Nat) (s : State) : (routeLendTimeout n s).pending = s.pending := by
  unfold routeLendTimeout
  simp

@[simp] theorem routeLocking_pending (n : Nat) (s : State) : (routeLocking n s).pending = s.pending := by
  unfold routeLocking
  simp

@[simp] theorem routeSetTimeout_pending (n : Nat) (s : State) : (routeSetTimeout n s).pending = s.pending := by
  unfold routeSetTimeout
  simp

@[simp] theorem routeClear_pending (n : Nat) (s : State) : (routeClear n s).pending = s.pending := by
  unfold routeClear
  simp

@[simp] theorem seeTracks_pending (n : Nat) (s : State) : (seeTracks n s).pending = s.pending := by
  unfold seeTracks
  simp

@[simp] theorem routeOccupy_pending (n : Nat) (s : State) : (routeOccupy n s).pending = s.pending := by
  unfold routeOccupy
  simp

@[simp] theorem releaseEdge_pending (n e : Nat) (s : State) : (releaseEdge n e s).pending = s.pending := by
  unfold releaseEdge
  (repeat' split) <;> simp

@[simp] theorem routeRelease_pending (n : Nat) (s : State) : (routeRelease n s).pending = s.pending := by
  unfold routeRelease
  simp

@[simp] theorem detectionLost_pending (n : Nat) (s : State) : (detectionLost n s).pending = s.pending := by
  unfold detectionLost
  simp

@[simp] theorem routeProve_pending (n : Nat) (s : State) : (routeProve n s).pending = s.pending := by
  unfold routeProve
  simp

@[simp] theorem routeKeep_pending (n : Nat) (s : State) : (routeKeep n s).pending = s.pending := by
  unfold routeKeep
  simp

@[simp] theorem timeAll_pending (n t : Nat) (s : State) : (timeAll n t s).pending = s.pending := by
  unfold timeAll
  simp

@[simp] theorem signalUnproven_pending (n : Nat) (s : State) : (signalUnproven n s).pending = s.pending := by
  unfold signalUnproven
  simp

@[simp] theorem routeReleased_pending (n : Nat) (s : State) : (routeReleased n s).pending = s.pending := by
  unfold routeReleased
  simp

@[simp] theorem routeReleasing_pending (n : Nat) (s : State) : (routeReleasing n s).pending = s.pending := by
  unfold routeReleasing
  try dsimp only
  (repeat' split) <;> simp

@[simp] theorem approachLock_pending (n : Nat) (s : State) : (approachLock n s).pending = s.pending := by
  unfold approachLock
  simp

@[simp] theorem countDest_pending (n : Nat) (s : State) : (countDest n s).pending = s.pending := by
  unfold countDest
  simp

@[simp] theorem routeTurn_pending (n : Nat) (s : State) : (routeTurn n s).pending = s.pending := by
  unfold routeTurn
  try dsimp only
  (repeat' split) <;> simp

@[simp] theorem throwOver_pending (n : Nat) (s : State) : (throwOver n s).pending = s.pending := by
  unfold throwOver
  simp

@[simp] theorem pointTurn_pending (n : Nat) (s : State) : (pointTurn n s).pending = s.pending := by
  unfold pointTurn
  try dsimp only
  (repeat' split) <;> simp

@[simp] theorem occupyFirst_pending (n : Nat) (s : State) : (occupyFirst n s).pending = s.pending := by
  unfold occupyFirst
  simp

@[simp] theorem requestEnded_pending (n : Nat) (s : State) : (requestEnded n s).pending = s.pending := by
  unfold requestEnded
  simp

@[simp] theorem endRefused_pending (n tag : Nat) (s : State) : (endRefused n tag s).pending = s.pending := by
  unfold endRefused
  simp

@[simp] theorem startEnd_pending (n tag : Nat) (cancel : Bool) (mode : RelMode) (s : State) : (startEnd n tag cancel mode s).pending = s.pending := by
  unfold startEnd
  simp

@[simp] theorem cancelRoute_pending (n tag : Nat) (s : State) : (cancelRoute n tag s).pending = s.pending := by
  unfold cancelRoute
  try dsimp only
  (repeat' split) <;> simp

@[simp] theorem releaseTimed_pending (n tag : Nat) (s : State) : (releaseTimed n tag s).pending = s.pending := by
  unfold releaseTimed
  try dsimp only
  (repeat' split) <;> simp

@[simp] theorem cancelPoint_pending (n tag : Nat) (s : State) : (cancelPoint n tag s).pending = s.pending := by
  unfold cancelPoint
  (repeat' split) <;> simp

@[simp] theorem dueCmd_pending (e cmd ses : Nat) (tag : Option Nat) (s : State) : (dueCmd e cmd ses tag s).pending = s.pending := by
  unfold dueCmd
  simp

@[simp] theorem dueEnd_pending (e : Nat) (s : State) : (dueEnd e s).pending = s.pending := by
  unfold dueEnd
  simp

@[simp] theorem dueLost_pending (s : State) (d : DoorDue) : (dueLost s d).pending = s.pending := by
  unfold dueLost
  (repeat' split) <;> simp

@[simp] theorem dueWin_pending (d : DoorDue) (s : State) : (dueWin d s).pending = s.pending := by
  unfold dueWin
  (repeat' split) <;> simp

@[simp] theorem resolveEdge_pending (s : State) (e : Nat) : (resolveEdge s e).pending = s.pending := by
  unfold resolveEdge
  (repeat' split) <;> simp

@[simp] theorem resolveDue_pending (s : State) : (resolveDue s).pending = s.pending := by
  unfold resolveDue
  simp

@[simp] theorem corrTurn_pending (s : State) (e : Nat) : (corrTurn s e).pending = s.pending := by
  unfold corrTurn
  simp

@[simp] theorem doorReleased_pending (n : Nat) (s : State) : (doorReleased n s).pending = s.pending := by
  unfold doorReleased
  simp

@[simp] theorem doorTry_pending (n : Nat) (waits : Bool) (s : State) : (doorTry n waits s).pending = s.pending := by
  unfold doorTry
  simp

@[simp] theorem doorCheck_pending (n : Nat) (s : State) : (doorCheck n s).pending = s.pending := by
  unfold doorCheck
  simp

@[simp] theorem doorWithdraw_pending (n : Nat) (s : State) : (doorWithdraw n s).pending = s.pending := by
  unfold doorWithdraw
  simp

@[simp] theorem enableTimeout_pending (n : Nat) (s : State) : (enableTimeout n s).pending = s.pending := by
  unfold enableTimeout
  simp

@[simp] theorem doorTurn_pending (n : Nat) (s : State) : (doorTurn n s).pending = s.pending := by
  unfold doorTurn
  try dsimp only
  (repeat' split) <;> simp

@[simp] theorem sesTurn_pending (s : State) (n : Nat) : (sesTurn s n).pending = s.pending := by
  unfold sesTurn
  (repeat' split) <;> simp

@[simp] theorem sequence_pending (s : State) : (sequence s).pending = s.pending := by
  unfold sequence
  simp

@[simp] theorem freeEnded_pending (s : State) : (freeEnded s).pending = s.pending := by
  unfold freeEnded
  simp

@[simp] theorem signalWatch_pending (s : State) (i : Nat) : (signalWatch s i).pending = s.pending := by
  unfold signalWatch
  simp

@[simp] theorem signalsWatch_pending (s : State) : (signalsWatch s).pending = s.pending := by
  unfold signalsWatch
  simp

@[simp] theorem writeViews_pending (s : State) : (writeViews s).pending = s.pending := by
  unfold writeViews
  simp

@[simp] theorem endPend_pending (p : DoorPend) (status code : Nat) (results : List Byte) (s : State) : (endPend p status code results s).pending = s.pending := by
  unfold endPend
  simp

@[simp] theorem endPends_pending (e kind status code : Nat) (results : List Byte) (s : State) : (endPends e kind status code results s).pending = s.pending := by
  unfold endPends
  simp

@[simp] theorem markPends_pending (obj : Nat) (kinds : List Nat) (s : State) : (markPends obj kinds s).pending = s.pending := by
  unfold markPends
  simp

@[simp] theorem edgeAccepted_pending (e : Nat) (s : State) : (edgeAccepted e s).pending = s.pending := by
  unfold edgeAccepted
  simp

@[simp] theorem edgeRefused_pending (e code : Nat) (s : State) : (edgeRefused e code s).pending = s.pending := by
  unfold edgeRefused
  simp

@[simp] theorem edgeStopped_pending (e code : Nat) (s : State) : (edgeStopped e code s).pending = s.pending := by
  unfold edgeStopped
  try dsimp only
  (repeat' split) <;> simp

@[simp] theorem settleOne_pending (s : State) (v : DoorEvent) : (settleOne s v).pending = s.pending := by
  unfold settleOne
  try dsimp only
  (repeat' split) <;> simp

@[simp] theorem restoresDone_pending (s : State) : (restoresDone s).pending = s.pending := by
  unfold restoresDone
  simp

@[simp] theorem settleDoors_pending (s : State) : (settleDoors s).pending = s.pending := by
  unfold settleDoors
  simp

@[simp] theorem writeEstates_pending (s : State) : (writeEstates s).pending = s.pending := by
  unfold writeEstates
  simp

@[simp] theorem writeImages_pending (s : State) : (writeImages s).pending = s.pending := by
  unfold writeImages
  simp

@[simp] theorem writeBerths_pending (s : State) : (writeBerths s).pending = s.pending := by
  unfold writeBerths
  simp

@[simp] theorem writeInputs_pending (s : State) : (writeInputs s).pending = s.pending := by
  unfold writeInputs
  simp

@[simp] theorem firstCommands_pending (s : State) : (firstCommands s).pending = s.pending := by
  unfold firstCommands
  simp

@[simp] theorem hostBody_pending (n : Nat) (s : State) : (hostBody n s).2.pending = s.pending := by
  unfold hostBody
  simp

@[simp] theorem formTelegram_pending (safe : Bool) (s : State) (p : Nat × Nat) : (formTelegram safe s p).pending = s.pending := by
  unfold formTelegram telegramReady
  dsimp only
  split <;> split <;> simp

@[simp] theorem formTelegrams_pending (s : State) : (formTelegrams s).pending = s.pending := by
  unfold formTelegrams
  simp

@[simp] theorem formRestrictive_pending (s : State) : (formRestrictive s).pending = s.pending := by
  unfold formRestrictive
  simp

@[simp] theorem loadBus_pending (s : State) (e : Nat) : (loadBus s e).pending = s.pending := by
  unfold loadBus
  simp

@[simp] theorem loadBuses_pending (s : State) : (loadBuses s).pending = s.pending := by
  unfold loadBuses
  simp

@[simp] theorem writeVector_pending (s : State) : (writeVector s).pending = s.pending := by
  unfold writeVector
  simp

@[simp] theorem formContent_pending (s : State) : (formContent s).pending = s.pending := by
  unfold formContent
  simp

@[simp] theorem finish_pending (p : Pkt) (status code : Nat) (results : List Byte) (s : State) : (finish p status code results s).pending = s.pending := by
  unfold finish
  simp

@[simp] theorem complete_pending (p : Pkt) (results : List Byte) (s : State) : (complete p results s).pending = s.pending := by
  unfold complete
  simp

@[simp] theorem refuse_pending (p : Pkt) (status code obj val : Nat) (s : State) : (refuse p status code obj val s).pending = s.pending := by
  unfold refuse
  simp

@[simp] theorem badParam_pending (p : Pkt) (s : State) : (badParam p s).pending = s.pending := by
  unfold badParam
  simp

@[simp] theorem badSes_pending (p : Pkt) (s : State) : (badSes p s).pending = s.pending := by
  unfold badSes
  simp

@[simp] theorem noRight_pending (p : Pkt) (s : State) : (noRight p s).pending = s.pending := by
  unfold noRight
  simp

@[simp] theorem createSes_pending (p : Pkt) (kind : SesKind) (obj target : Nat) (descr : Word) (s : State) : (createSes p kind obj target descr s).pending = s.pending := by
  unfold createSes
  (repeat' split) <;> simp

@[simp] theorem applyRouteRequest_pending (p : Pkt) (s : State) : (applyRouteRequest p s).pending = s.pending := by
  unfold applyRouteRequest
  simp

@[simp] theorem applyRouteCancel_pending (p : Pkt) (s : State) : (applyRouteCancel p s).pending = s.pending := by
  unfold applyRouteCancel
  simp

@[simp] theorem applyReleaseTimed_pending (p : Pkt) (s : State) : (applyReleaseTimed p s).pending = s.pending := by
  unfold applyReleaseTimed
  simp

@[simp] theorem applyPointMove_pending (p : Pkt) (s : State) : (applyPointMove p s).pending = s.pending := by
  unfold applyPointMove
  simp

@[simp] theorem setStanding_pending (i : Nat) (f : Stand → Stand) (s : State) : (setStanding i f s).pending = s.pending := by
  unfold setStanding
  simp

@[simp] theorem applyBlock_pending (p : Pkt) (s : State) : (applyBlock p s).pending = s.pending := by
  unfold applyBlock
  simp

@[simp] theorem applyUnblock_pending (p : Pkt) (s : State) : (applyUnblock p s).pending = s.pending := by
  unfold applyUnblock
  simp

@[simp] theorem applyForceStop_pending (p : Pkt) (s : State) : (applyForceStop p s).pending = s.pending := by
  unfold applyForceStop
  simp

@[simp] theorem applyDoorEnable_pending (p : Pkt) (s : State) : (applyDoorEnable p s).pending = s.pending := by
  unfold applyDoorEnable
  simp

@[simp] theorem applyDoorOpen_pending (p : Pkt) (s : State) : (applyDoorOpen p s).pending = s.pending := by
  unfold applyDoorOpen
  simp

@[simp] theorem applyDoorClose_pending (p : Pkt) (s : State) : (applyDoorClose p s).pending = s.pending := by
  unfold applyDoorClose
  simp

@[simp] theorem applyRestore_pending (p : Pkt) (s : State) : (applyRestore p s).pending = s.pending := by
  unfold applyRestore
  simp

@[simp] theorem applyClose_pending (p : Pkt) (s : State) : (applyClose p s).pending = s.pending := by
  unfold applyClose
  simp

@[simp] theorem applyWithdraw_pending (p : Pkt) (s : State) : (applyWithdraw p s).pending = s.pending := by
  unfold applyWithdraw
  simp

@[simp] theorem applyLeaf_pending (cmd : Nat) (p : Pkt) (s : State) : (applyLeaf cmd p s).pending = s.pending := by
  unfold applyLeaf
  simp

@[simp] theorem applyTrainDoors_pending (p : Pkt) (s : State) : (applyTrainDoors p s).pending = s.pending := by
  unfold applyTrainDoors
  simp

@[simp] theorem applyTrainBerth_pending (p : Pkt) (s : State) : (applyTrainBerth p s).pending = s.pending := by
  unfold applyTrainBerth
  simp

@[simp] theorem applyPing_pending (p : Pkt) (s : State) : (applyPing p s).pending = s.pending := by
  unfold applyPing
  simp

@[simp] theorem applyStatus_pending (p : Pkt) (s : State) : (applyStatus p s).pending = s.pending := by
  unfold applyStatus
  (repeat' split) <;> simp

@[simp] theorem applyJournal_pending (p : Pkt) (s : State) : (applyJournal p s).pending = s.pending := by
  unfold applyJournal
  simp

@[simp] theorem applyCount_pending (p : Pkt) (s : State) : (applyCount p s).pending = s.pending := by
  unfold applyCount
  (repeat' split) <;> simp

@[simp] theorem evrStart_pending (s : State) : (evrStart s).pending = s.pending := by
  unfold evrStart
  simp

@[simp] theorem timeAdvance_pending (ms : Nat) (s : State) : (timeAdvance ms s).pending = s.pending := by
  unfold timeAdvance
  simp

@[simp] theorem periodsPass_pending (n : Nat) (s : State) : (periodsPass n s).pending = s.pending := by
  unfold periodsPass
  simp

@[simp] theorem scanCopy_pending (s : State) (r : Nat × Word × List Byte) : (scanCopy s r).pending = s.pending := by
  unfold scanCopy
  simp

@[simp] theorem ringScan_pending (s : State) : (ringScan s).pending = s.pending := by
  unfold ringScan
  try dsimp only
  (repeat' split) <;> simp

@[simp] theorem nandProgram_pending (ok : Bool) (s : State) : (nandProgram ok s).pending = s.pending := by
  unfold nandProgram
  simp

@[simp] theorem nandConfirm_pending (n : Word) (s : State) : (nandConfirm n s).pending = s.pending := by
  unfold nandConfirm
  simp

@[simp] theorem nandReport_pending (highest : Word) (s : State) : (nandReport highest s).pending = s.pending := by
  unfold nandReport
  simp

@[simp] theorem cellDamage_pending (c : Nat) (s : State) : (cellDamage c s).pending = s.pending := by
  unfold cellDamage
  simp

@[simp] theorem cellCount_pending (c : Nat) (s : State) : (cellCount c s).pending = s.pending := by
  unfold cellCount
  simp

@[simp] theorem jnlResult_pending (res cell copy : Nat) (s : State) : (jnlResult res cell copy s).pending = s.pending := by
  unfold jnlResult
  simp

@[simp] theorem cellWrite_pending (c kind : Nat) (payload : List Byte) (s : State) : (cellWrite c kind payload s).pending = s.pending := by
  unfold cellWrite
  simp

@[simp] theorem cellLater_pending (c kind : Nat) (payload : List Byte) (s : State) : (cellLater c kind payload s).pending = s.pending := by
  unfold cellLater
  simp

@[simp] theorem cellPut_pending (c kind : Nat) (payload : List Byte) (s : State) : (cellPut c kind payload s).pending = s.pending := by
  unfold cellPut
  simp

@[simp] theorem cellsDue_pending (s : State) : (cellsDue s).pending = s.pending := by
  unfold cellsDue
  simp

@[simp] theorem journalTag_pending (s : State) (t : Nat) : (journalTag s t).pending = s.pending := by
  unfold journalTag
  simp

@[simp] theorem journalCount_pending (s : State) (k : Nat) : (journalCount s k).pending = s.pending := by
  unfold journalCount
  simp

@[simp] theorem journalStand_pending (s : State) (k : Nat) : (journalStand s k).pending = s.pending := by
  unfold journalStand
  simp

@[simp] theorem loadStanding_pending (s : State) : (loadStanding s).pending = s.pending := by
  unfold loadStanding
  try dsimp only
  (repeat' split) <;>
    first | (simp; done) | (refine Eq.trans (foldl_pending _ _ _ (fun s b => ?_)) ?_ <;> (repeat' split) <;> simp)

@[simp] theorem loadCounts_pending (s : State) : (loadCounts s).pending = s.pending := by
  unfold loadCounts
  try dsimp only
  (repeat' split) <;>
    first | (simp; done) | (refine Eq.trans (foldl_pending _ _ _ (fun s b => ?_)) ?_ <;> (repeat' split) <;> simp)

@[simp] theorem loadTag_pending (s : State) (t : Nat) : (loadTag s t).pending = s.pending := by
  unfold loadTag
  try dsimp only
  (repeat' split) <;> simp

@[simp] theorem loadTags_pending (s : State) : (loadTags s).pending = s.pending := by
  unfold loadTags
  simp

@[simp] theorem mirrorCells_pending (cells : List (Nat × List Byte)) (s : State) : (mirrorCells cells s).pending = s.pending := by
  unfold mirrorCells
  simp

@[simp] theorem resetKeep_pending (s : State) : (resetKeep s).pending = s.pending := by
  unfold resetKeep
  simp

@[simp] theorem moduleReset_pending (cause : Nat) (s : State) : (moduleReset cause s).pending = s.pending := by
  unfold moduleReset
  simp

@[simp] theorem evrStarted_pending (s : State) : (evrStarted s).pending = s.pending := by
  unfold evrStarted
  simp

@[simp] theorem powerDown_pending (s : State) : (powerDown s).pending = s.pending := by
  unfold powerDown
  simp

@[simp] theorem holdReset_pending (s : State) : (holdReset s).pending = s.pending := by
  unfold holdReset
  simp

@[simp] theorem startWrite_pending (x : Sel) (s : State) : (startWrite x s).pending = s.pending := by
  unfold startWrite
  simp

@[simp] theorem repairSel_pending (s : State) : (repairSel s).pending = s.pending := by
  unfold repairSel
  try dsimp only
  (repeat' split) <;> simp

@[simp] theorem revertBoot_pending (arg : Nat) (s : State) : (revertBoot arg s).pending = s.pending := by
  unfold revertBoot
  simp

@[simp] theorem trialSelect_pending (s : State) : (trialSelect s).pending = s.pending := by
  unfold trialSelect
  simp

@[simp] theorem finishWrite_pending (s : State) : (finishWrite s).pending = s.pending := by
  unfold finishWrite
  (repeat' split) <;> simp

@[simp] theorem setXferNow_pending (x : Xfer) (s : State) : (setXferNow x s).pending = s.pending := by
  unfold setXferNow
  simp

@[simp] theorem setXfer_pending (x : Xfer) (s : State) : (setXfer x s).pending = s.pending := by
  unfold setXfer
  simp

@[simp] theorem suiResult_pending (status code : Nat) (s : State) : (suiResult status code s).pending = s.pending := by
  unfold suiResult
  simp

@[simp] theorem suiAnswer_pending (status : Nat) (body : List Byte) (s : State) : (suiAnswer status body s).pending = s.pending := by
  unfold suiAnswer
  simp

@[simp] theorem suiDenied_pending (s : State) : (suiDenied s).pending = s.pending := by
  unfold suiDenied
  simp

@[simp] theorem suiRefuse_pending (status : Nat) (s : State) : (suiRefuse status s).pending = s.pending := by
  unfold suiRefuse
  simp

@[simp] theorem suiRefuseFree_pending (s : State) : (suiRefuseFree s).pending = s.pending := by
  unfold suiRefuseFree
  simp

@[simp] theorem startPrepare_pending (m : Manifest) (s : State) : (startPrepare m s).pending = s.pending := by
  unfold startPrepare
  simp

@[simp] theorem suiPrepare_pending (s : State) : (suiPrepare s).pending = s.pending := by
  unfold suiPrepare
  try dsimp only
  (repeat' split) <;> simp

@[simp] theorem prepareDone_pending (ok : Bool) (s : State) : (prepareDone ok s).pending = s.pending := by
  unfold prepareDone
  try dsimp only
  (repeat' split) <;> simp

@[simp] theorem suiBlock_pending (j : Nat) (data : List Byte) (readbackOk : Bool) (s : State) : (suiBlock j data readbackOk s).pending = s.pending := by
  unfold suiBlock
  (repeat' split) <;> simp

@[simp] theorem suiVerify_pending (readOk programOk : Bool) (s : State) : (suiVerify readOk programOk s).pending = s.pending := by
  unfold suiVerify
  try dsimp only
  (repeat' split) <;> simp

@[simp] theorem suiActivate_pending (s : State) : (suiActivate s).pending = s.pending := by
  unfold suiActivate
  simp

@[simp] theorem startConfirm_pending (s : State) : (startConfirm s).pending = s.pending := by
  unfold startConfirm
  simp

@[simp] theorem suiConfirm_pending (s : State) : (suiConfirm s).pending = s.pending := by
  unfold suiConfirm
  simp

@[simp] theorem suiRevert_pending (arg : Nat) (s : State) : (suiRevert arg s).pending = s.pending := by
  unfold suiRevert
  simp

@[simp] theorem trialActive_pending (s : State) : (trialActive s).pending = s.pending := by
  unfold trialActive
  simp

@[simp] theorem answerConfirms_pending (status code : Nat) (s : State) : (answerConfirms status code s).pending = s.pending := by
  unfold answerConfirms
  simp

@[simp] theorem refuseConfirms_pending (s : State) : (refuseConfirms s).pending = s.pending := by
  unfold refuseConfirms
  simp

@[simp] theorem selectorDone_pending (s : State) : (selectorDone s).pending = s.pending := by
  unfold selectorDone
  try dsimp only
  (repeat' split) <;> simp

@[simp] theorem confirmTrial_pending (tag : Nat) (s : State) : (confirmTrial tag s).pending = s.pending := by
  unfold confirmTrial
  simp

@[simp] theorem trialTest_pending (s : State) : (trialTest s).pending = s.pending := by
  unfold trialTest
  (repeat' split) <;> simp

@[simp] theorem revokeCk_pending (k : Nat) (s : State) : (revokeCk k s).pending = s.pending := by
  unfold revokeCk
  simp

@[simp] theorem programCk_pending (k : Nat) (sha : List Byte) (s : State) : (programCk k sha s).pending = s.pending := by
  unfold programCk
  simp

@[simp] theorem enrolKey_pending (request : KeyRequest) (signer : Option Nat) (programOk : Bool) (s : State) : (enrolKey request signer programOk s).pending = s.pending := by
  unfold enrolKey
  try dsimp only
  (repeat' split) <;> simp

@[simp] theorem reverifyEnd_pending (slot : Nat) (ok : Bool) (s : State) : (reverifyEnd slot ok s).pending = s.pending := by
  unfold reverifyEnd
  simp

@[simp] theorem reverifyStep_pending (readOk : Bool) (s : State) : (reverifyStep readOk s).pending = s.pending := by
  unfold reverifyStep
  (repeat' split) <;> simp

@[simp] theorem refreshNext_pending (slot block : Nat) (s : State) : (refreshNext slot block s).pending = s.pending := by
  unfold refreshNext
  simp

@[simp] theorem refreshStep_pending (done : Nat) (s : State) : (refreshStep done s).pending = s.pending := by
  unfold refreshStep
  (repeat' split) <;> simp

@[simp] theorem refreshAtBoot_pending (s : State) : (refreshAtBoot s).pending = s.pending := by
  unfold refreshAtBoot
  simp

@[simp] theorem served_pending (head : SorliaHead) (act : State → State) (s : State) (hf : ∀ u, (act u).pending = u.pending) : (served head act s).pending = s.pending := by
  unfold served
  simp [hf]

@[simp] theorem runtimeServed_pending (head : SorliaHead) (act : State → State) (s : State) (hf : ∀ u, (act u).pending = u.pending) : (runtimeServed head act s).pending = s.pending := by
  unfold runtimeServed
  simp [hf]

@[simp] theorem updSession_pending (n : Nat) (f : Sorlia → Sorlia) (s : State) : (updSession n f s).pending = s.pending := by
  unfold updSession
  simp

@[simp] theorem endSession_pending (n : Nat) (s : State) : (endSession n s).pending = s.pending := by
  unfold endSession
  simp

@[simp] theorem updateRequest_pending (head : SorliaHead) (act : State → State) (s : State) (hf : ∀ u, (act u).pending = u.pending) : (updateRequest head act s).pending = s.pending := by
  unfold updateRequest
  simp [hf]

@[simp] theorem clearJournal_pending (s : State) : (clearJournal s).pending = s.pending := by
  unfold clearJournal
  simp

@[simp] theorem endSessions_pending (s : State) : (endSessions s).pending = s.pending := by
  unfold endSessions
  simp

@[simp] theorem applyConfirm_pending (p : Pkt) (s : State) : (applyConfirm p s).pending = s.pending := by
  unfold applyConfirm
  simp

@[simp] theorem applyOpcode_pending (p : Pkt) (s : State) : (applyOpcode p s).pending = s.pending := by
  unfold applyOpcode
  (repeat' split) <;> simp

@[simp] theorem applyPacket_pending (p : Pkt) (s : State) : (applyPacket p s).pending = s.pending := by
  unfold applyPacket
  simp

@[simp] theorem applyCommands_pending (k : Nat) (s : State) : (applyCommands k s).pending = s.pending := by
  induction k generalizing s with
  | zero => rfl
  | succ k ih =>
    unfold applyCommands
    split
    · rfl
    · rename_i h
      rw [ih, applyPacket_pending, popHead_pending _ _ _ h]

@[simp] theorem hostPacket_pending (p : Pkt) (s : State) : (hostPacket p s).pending = s.pending := by
  unfold hostPacket
  simp

@[simp] theorem acceptLate_pending (s : State) : (acceptLate s).pending = s.pending := by
  unfold acceptLate
  simp

@[simp] theorem holdTag_pending (s : State) (t : Nat) : (holdTag s t).pending = s.pending := by
  unfold holdTag
  simp

@[simp] theorem lockCommands_pending (s : State) : (lockCommands s).pending = s.pending := by
  unfold lockCommands
  simp

@[simp] theorem postRbuf_pending (s : State) : (postRbuf s).pending = s.pending := by
  unfold postRbuf
  simp

@[simp] theorem popOut_pending (s : State) : (popOut s).pending = s.pending := by
  unfold popOut
  simp

@[simp] theorem markReplay_pending (k : Nat) (s : State) : (markReplay k s).pending = s.pending := by
  unfold markReplay
  simp

@[simp] theorem becomeActive_pending (why : ReplayDue) (s : State) : (becomeActive why s).pending = s.pending := by
  unfold becomeActive
  (repeat' split) <;> simp

@[simp] theorem startLedger_pending (s : State) : (startLedger s).pending = s.pending := by
  unfold startLedger
  simp

@[simp] theorem startLoad_pending (s : State) : (startLoad s).pending = s.pending := by
  unfold startLoad
  simp

@[simp] theorem startEpoch_pending (s : State) : (startEpoch s).pending = s.pending := by
  unfold startEpoch
  simp

@[simp] theorem claimStart_pending (s : State) : (claimStart s).pending = s.pending := by
  unfold claimStart
  simp

@[simp] theorem coldStart_pending (s : State) : (coldStart s).pending = s.pending := by
  unfold coldStart
  simp

@[simp] theorem peerSeen_pending (state : Nat) (safe : Bool) (s : State) : (peerSeen state safe s).pending = s.pending := by
  unfold peerSeen
  simp

@[simp] theorem linkHeard_pending (s : State) : (linkHeard s).pending = s.pending := by
  unfold linkHeard
  simp

@[simp] theorem peerMismatch_pending (s : State) : (peerMismatch s).pending = s.pending := by
  unfold peerMismatch
  simp

@[simp] theorem shadowCompare_pending (peer : List Word) (ext : Bool) (s : State) : (shadowCompare peer ext s).pending = s.pending := by
  unfold shadowCompare
  simp

@[simp] theorem setRange_pending (lo hi : Nat) (t : Tbl Word) (s : State) : (setRange lo hi t s).pending = s.pending := by
  unfold setRange
  simp

@[simp] theorem pairSend_pending (ext : Bool) (differ : List Nat) (s : State) : (pairSend ext differ s).pending = s.pending := by
  unfold pairSend
  try dsimp only
  (repeat' split) <;> simp

@[simp] theorem loadSegs_pending (segs : List Seg) (s : State) : (loadSegs segs s).pending = s.pending := by
  unfold loadSegs
  simp

@[simp] theorem loadMirror_pending (m : PairFrame) (s : State) : (loadMirror m s).pending = s.pending := by
  unfold loadMirror
  simp

@[simp] theorem takeMirror_pending (m : PairFrame) (s : State) : (takeMirror m s).pending = s.pending := by
  unfold takeMirror
  simp

@[simp] theorem peerFrame_pending (f : PairFrame) (s : State) : (peerFrame f s).pending = s.pending := by
  unfold peerFrame
  simp

@[simp] theorem linkRx_pending (kind : Nat) (f : PairFrame) (shown act : State → State) (s : State) (hf : ∀ u, (shown u).pending = u.pending) (hf1 : ∀ u, (act u).pending = u.pending) : (linkRx kind f shown act s).pending = s.pending := by
  unfold linkRx
  simp [hf, hf1]

@[simp] theorem showRx_pending (f : PairFrame) (taken : Bool) (s : State) : (showRx f taken s).pending = s.pending := by
  unfold showRx
  simp

@[simp] theorem mirrorRx_pending (m : PairFrame) (s : State) : (mirrorRx m s).pending = s.pending := by
  unfold mirrorRx
  simp

@[simp] theorem mirrorMissed_pending (s : State) : (mirrorMissed s).pending = s.pending := by
  unfold mirrorMissed
  simp

@[simp] theorem responseRx_pending (r : PairFrame) (s : State) : (responseRx r s).pending = s.pending := by
  unfold responseRx
  simp

@[simp] theorem bulkCell_pending (s : State) (c : Nat × List Byte) : (bulkCell s c).pending = s.pending := by
  unfold bulkCell
  (repeat' split) <;> simp

@[simp] theorem bulkRx_pending (f : PairFrame) (s : State) : (bulkRx f s).pending = s.pending := by
  unfold bulkRx
  simp

@[simp] theorem swapTry_pending (peerOk : Bool) (s : State) : (swapTry peerOk s).pending = s.pending := by
  unfold swapTry
  simp

@[simp] theorem swapRequest_pending (peerOk : Bool) (s : State) : (swapRequest peerOk s).pending = s.pending := by
  unfold swapRequest
  simp

@[simp] theorem handoverStart_pending (s : State) : (handoverStart s).pending = s.pending := by
  unfold handoverStart
  (repeat' split) <;> simp

@[simp] theorem swapCheck_pending (s : State) : (swapCheck s).pending = s.pending := by
  unfold swapCheck
  simp

@[simp] theorem handoverEnd_pending (s : State) : (handoverEnd s).pending = s.pending := by
  unfold handoverEnd
  simp

@[simp] theorem switchTrigger_pending (s : State) : (switchTrigger s).pending = s.pending := by
  unfold switchTrigger
  (repeat' split) <;> simp

@[simp] theorem takeoverStart_pending (s : State) : (takeoverStart s).pending = s.pending := by
  unfold takeoverStart
  (repeat' split) <;> simp

@[simp] theorem edgesTakeover_pending (s : State) : (edgesTakeover s).pending = s.pending := by
  unfold edgesTakeover
  simp

@[simp] theorem joinStep_pending (s : State) : (joinStep s).pending = s.pending := by
  unfold joinStep
  simp

@[simp] theorem peerGone_pending (s : State) : (peerGone s).pending = s.pending := by
  unfold peerGone
  simp

@[simp] theorem pairStart_pending (s : State) : (pairStart s).pending = s.pending := by
  unfold pairStart
  simp

@[simp] theorem resend_pending (t : Nat) (r : List Byte) (s : State) : (resend t r s).pending = s.pending := by
  unfold resend
  simp

@[simp] theorem postReplayed_pending (t d : Nat) (s : State) : (postReplayed t d s).pending = s.pending := by
  unfold postReplayed
  simp

@[simp] theorem releaseHeld_pending (t : Nat) (s : State) : (releaseHeld t s).pending = s.pending := by
  unfold releaseHeld
  (repeat' split) <;> simp

@[simp] theorem carryOn_pending (t : Nat) (g : Tag) (s : State) : (carryOn t g s).pending = s.pending := by
  unfold carryOn
  simp

@[simp] theorem replayTag_pending (s : State) (t : Nat) : (replayTag s t).pending = s.pending := by
  unfold replayTag
  try dsimp only
  (repeat' split) <;> simp

@[simp] theorem replayTags_pending (s : State) : (replayTags s).pending = s.pending := by
  unfold replayTags
  simp

@[simp] theorem masterIs_pending (k : Nat) (s : State) : (masterIs k s).pending = s.pending := by
  unfold masterIs
  simp

@[simp] theorem setTrim_pending (phase : Int) (s : State) : (setTrim phase s).pending = s.pending := by
  unfold setTrim
  simp

@[simp] theorem trimTurn_pending (s : State) : (trimTurn s).pending = s.pending := by
  unfold trimTurn
  simp

@[simp] theorem peerMarker_pending (phase : Int) (s : State) : (peerMarker phase s).pending = s.pending := by
  unfold peerMarker
  simp

@[simp] theorem cascadeMarker_pending (frm : Nat) (phase : Int) (s : State) : (cascadeMarker frm phase s).pending = s.pending := by
  unfold cascadeMarker
  simp

@[simp] theorem fillCtx_pending (s : State) : (fillCtx s).pending = s.pending := by
  unfold fillCtx
  simp

@[simp] theorem cascadeSend_pending (n : Nat) (s : State) : (cascadeSend n s).pending = s.pending := by
  unfold cascadeSend
  simp

@[simp] theorem seeEpochs_pending (f : CascFrame) (s : State) : (seeEpochs f s).pending = s.pending := by
  unfold seeEpochs
  simp

@[simp] theorem lendDelivered_pending (msgs : List LendMsg) (s : State) : (lendDelivered msgs s).pending = s.pending := by
  unfold lendDelivered
  simp

@[simp] theorem takeCascade_pending (q : Nat) (f : CascFrame) (s : State) : (takeCascade q f s).pending = s.pending := by
  unfold takeCascade
  simp

@[simp] theorem cascadeRx_pending (f : CascFrame) (s : State) : (cascadeRx f s).pending = s.pending := by
  unfold cascadeRx
  (repeat' split) <;> simp

@[simp] theorem lendDeliver_pending (s : State) : (lendDeliver s).pending = s.pending := by
  unfold lendDeliver
  simp

@[simp] theorem lendTurn_pending (s : State) : (lendTurn s).pending = s.pending := by
  unfold lendTurn
  simp

@[simp] theorem execCvuStart_pending (unit : Nat) (s : State) (u : State) : (landing (execCvuStart unit s) u).pending = s.pending := by
  unfold execCvuStart
  simp

@[simp] theorem execCvuFinish_pending (unit : Nat) (s : State) (u : State) : (landing (execCvuFinish unit s) u).pending = s.pending := by
  unfold execCvuFinish
  simp

@[simp] theorem execCvuAbort_pending (unit : Nat) (s : State) (u : State) : (landing (execCvuAbort unit s) u).pending = s.pending := by
  unfold execCvuAbort
  simp

@[simp] theorem execCvuCtrlInvalid_pending (unit : Nat) (s : State) (u : State) : (landing (execCvuCtrlInvalid unit s) u).pending = s.pending := by
  unfold execCvuCtrlInvalid
  simp

@[simp] theorem execCvuData8_pending (unit : Nat) (w : Word) (s : State) (u : State) : (landing (execCvuData8 unit w s) u).pending = s.pending := by
  unfold execCvuData8
  simp

@[simp] theorem execCvuData16_pending (unit : Nat) (w : Word) (s : State) (u : State) : (landing (execCvuData16 unit w s) u).pending = s.pending := by
  unfold execCvuData16
  simp

@[simp] theorem execCvuData32_pending (unit : Nat) (w : Word) (s : State) (u : State) : (landing (execCvuData32 unit w s) u).pending = s.pending := by
  unfold execCvuData32
  simp

@[simp] theorem execCvuConf_pending (unit : Nat) (w : Word) (s : State) (u : State) : (landing (execCvuConf unit w s) u).pending = s.pending := by
  unfold execCvuConf
  simp

@[simp] theorem execCvuParamWrite_pending (unit param : Nat) (w : Word) (s : State) (u : State) : (landing (execCvuParamWrite unit param w s) u).pending = s.pending := by
  unfold execCvuParamWrite
  simp

@[simp] theorem execPing_pending (host tag ses : Nat) (hseq hvcn : Word) (s : State) (u : State) : (landing (execPing host tag ses hseq hvcn s) u).pending = s.pending := by
  unfold execPing
  simp

@[simp] theorem execRouteRequest_pending (host tag ses : Nat) (hseq hvcn : Word) (route : Nat) (s : State) (u : State) : (landing (execRouteRequest host tag ses hseq hvcn route s) u).pending = s.pending := by
  unfold execRouteRequest
  simp

@[simp] theorem execRouteCancel_pending (host tag ses : Nat) (hseq hvcn : Word) (object : Nat) (s : State) (u : State) : (landing (execRouteCancel host tag ses hseq hvcn object s) u).pending = s.pending := by
  unfold execRouteCancel
  simp

@[simp] theorem execRouteReleaseTimed_pending (host tag ses : Nat) (hseq hvcn : Word) (route : Nat) (s : State) (u : State) : (landing (execRouteReleaseTimed host tag ses hseq hvcn route s) u).pending = s.pending := by
  unfold execRouteReleaseTimed
  simp

@[simp] theorem execPointMove_pending (host tag ses : Nat) (hseq hvcn : Word) (elem target : Nat) (s : State) (u : State) : (landing (execPointMove host tag ses hseq hvcn elem target s) u).pending = s.pending := by
  unfold execPointMove
  simp

@[simp] theorem execElementBlock_pending (host tag ses : Nat) (hseq hvcn : Word) (elem : Nat) (s : State) (u : State) : (landing (execElementBlock host tag ses hseq hvcn elem s) u).pending = s.pending := by
  unfold execElementBlock
  simp

@[simp] theorem execElementUnblock_pending (host tag ses : Nat) (hseq hvcn : Word) (elem : Nat) (s : State) (u : State) : (landing (execElementUnblock host tag ses hseq hvcn elem s) u).pending = s.pending := by
  unfold execElementUnblock
  simp

@[simp] theorem execSignalForceStop_pending (host tag ses : Nat) (hseq hvcn : Word) (elem set_ : Nat) (s : State) (u : State) : (landing (execSignalForceStop host tag ses hseq hvcn elem set_ s) u).pending = s.pending := by
  unfold execSignalForceStop
  simp

@[simp] theorem execDoorEnable_pending (host tag ses : Nat) (hseq hvcn : Word) (edge : Nat) (s : State) (u : State) : (landing (execDoorEnable host tag ses hseq hvcn edge s) u).pending = s.pending := by
  unfold execDoorEnable
  simp

@[simp] theorem execDoorOpen_pending (host tag ses : Nat) (hseq hvcn : Word) (edge : Nat) (s : State) (u : State) : (landing (execDoorOpen host tag ses hseq hvcn edge s) u).pending = s.pending := by
  unfold execDoorOpen
  simp

@[simp] theorem execDoorClose_pending (host tag ses : Nat) (hseq hvcn : Word) (edge : Nat) (s : State) (u : State) : (landing (execDoorClose host tag ses hseq hvcn edge s) u).pending = s.pending := by
  unfold execDoorClose
  simp

@[simp] theorem execDoorCloseRestore_pending (host tag ses : Nat) (hseq hvcn : Word) (edge : Nat) (s : State) (u : State) : (landing (execDoorCloseRestore host tag ses hseq hvcn edge s) u).pending = s.pending := by
  unfold execDoorCloseRestore
  simp

@[simp] theorem execDoorWithdrawEnable_pending (host tag ses : Nat) (hseq hvcn : Word) (edge : Nat) (s : State) (u : State) : (landing (execDoorWithdrawEnable host tag ses hseq hvcn edge s) u).pending = s.pending := by
  unfold execDoorWithdrawEnable
  simp

@[simp] theorem execLeafIsolate_pending (host tag ses : Nat) (hseq hvcn : Word) (leaf : Nat) (s : State) (u : State) : (landing (execLeafIsolate host tag ses hseq hvcn leaf s) u).pending = s.pending := by
  unfold execLeafIsolate
  simp

@[simp] theorem execLeafRestore_pending (host tag ses : Nat) (hseq hvcn : Word) (leaf : Nat) (s : State) (u : State) : (landing (execLeafRestore host tag ses hseq hvcn leaf s) u).pending = s.pending := by
  unfold execLeafRestore
  simp

@[simp] theorem execTrainBerth_pending (host tag ses : Nat) (hseq hvcn : Word) (edge flags offset : Nat) (s : State) (u : State) : (landing (execTrainBerth host tag ses hseq hvcn edge flags offset s) u).pending = s.pending := by
  unfold execTrainBerth
  simp

@[simp] theorem execTrainDoors_pending (host tag ses : Nat) (hseq hvcn : Word) (edge mask : Nat) (s : State) (u : State) : (landing (execTrainDoors host tag ses hseq hvcn edge mask s) u).pending = s.pending := by
  unfold execTrainDoors
  simp

@[simp] theorem execStatusQuery_pending (host tag ses : Nat) (hseq hvcn : Word) (scope index : Nat) (s : State) (u : State) : (landing (execStatusQuery host tag ses hseq hvcn scope index s) u).pending = s.pending := by
  unfold execStatusQuery
  simp

@[simp] theorem execJournalQuery_pending (host tag ses : Nat) (hseq hvcn : Word) (ofTag : Nat) (s : State) (u : State) : (landing (execJournalQuery host tag ses hseq hvcn ofTag s) u).pending = s.pending := by
  unfold execJournalQuery
  simp

@[simp] theorem execCountQuery_pending (host tag ses : Nat) (hseq hvcn : Word) (kind index : Nat) (s : State) (u : State) : (landing (execCountQuery host tag ses hseq hvcn kind index s) u).pending = s.pending := by
  unfold execCountQuery
  simp

@[simp] theorem execUpdateConfirm_pending (host tag ses : Nat) (hseq hvcn : Word) (bundle : Word) (s : State) (u : State) : (landing (execUpdateConfirm host tag ses hseq hvcn bundle s) u).pending = s.pending := by
  unfold execUpdateConfirm
  simp

@[simp] theorem execTrainBerthExpiry_pending (edge : Nat) (s : State) (u : State) : (landing (execTrainBerthExpiry edge s) u).pending = s.pending := by
  unfold execTrainBerthExpiry
  simp

@[simp] theorem execCmdFeed_pending (portB : Bool) (copy host : Nat) (s : State) (u : State) : (landing (execCmdFeed portB copy host s) u).pending = s.pending := by
  unfold execCmdFeed
  simp

@[simp] theorem execCmdPop_pending (w : Word) (s : State) (u : State) : (landing (execCmdPop w s) u).pending = s.pending := by
  unfold execCmdPop
  rw [landing_next]
  split
  · exact applyCommands_pending ..
  · rfl

@[simp] theorem execCmdRply_pending (w : Word) (s : State) (u : State) : (landing (execCmdRply w s) u).pending = s.pending := by
  unfold execCmdRply
  simp

@[simp] theorem execCmdOutsel_pending (host : Nat) (s : State) (u : State) : (landing (execCmdOutsel host s) u).pending = s.pending := by
  unfold execCmdOutsel
  simp

@[simp] theorem execCmdOutpop_pending (w : Word) (s : State) (u : State) : (landing (execCmdOutpop w s) u).pending = s.pending := by
  unfold execCmdOutpop
  simp

@[simp] theorem execCmdLoadBegin_pending (s : State) (u : State) : (landing (execCmdLoadBegin s) u).pending = s.pending := by
  unfold execCmdLoadBegin
  simp

@[simp] theorem execCmdLoadEnd_pending (s : State) (u : State) : (landing (execCmdLoadEnd s) u).pending = s.pending := by
  unfold execCmdLoadEnd
  simp

@[simp] theorem execCmdLock_pending (w : Word) (s : State) (u : State) : (landing (execCmdLock w s) u).pending = s.pending := by
  unfold execCmdLock
  simp

@[simp] theorem applyRegs_pending (lo hi : Nat) (s : State) : (applyRegs lo hi s).pending = s.pending := by
  unfold applyRegs
  simp

@[simp] theorem withRegs_pending (s : State) : (withRegs s).pending = s.pending := by
  unfold withRegs
  simp

@[simp] theorem takeImage_pending (s : State) : (takeImage s).pending = s.pending := by
  unfold takeImage
  simp

@[simp] theorem lockGeo_pending (s : State) : (lockGeo s).pending = s.pending := by
  unfold lockGeo
  simp

@[simp] theorem journalReset_pending (s : State) : (journalReset s).pending = s.pending := by
  unfold journalReset
  simp

@[simp] theorem journalLoads_pending (s : State) : (journalLoads s).pending = s.pending := by
  unfold journalLoads
  simp

@[simp] theorem ownAddress_pending (s : State) : (ownAddress s).pending = s.pending := by
  unfold ownAddress
  (repeat' split) <;> simp

theorem checked_pending (x : Checked) (f : State → Checked) (s : State) (hx : x.state.pending = s.pending) (hf : ∀ u, (Checked.state (f u)).pending = u.pending) :
    (Checked.state (x.bind f)).pending = s.pending := by
  cases x with
  | ok u => exact (hf u).trans hx
  | error p => exact hx

theorem must_pending (b : Bool) (c : Nat) (s : State) : (Checked.state (must b c s)).pending = s.pending := by
  unfold must
  split <;> rfl

theorem blockStep_pending (lo hi l : Nat) (f : State → Bool) (c : Nat) (s : State) : (Checked.state (blockStep lo hi l f c s)).pending = s.pending := by
  unfold blockStep
  dsimp only
  split <;> simp [Checked.state]

theorem fioStep_pending (s : State) : (Checked.state (fioStep s)).pending = s.pending := by
  unfold fioStep
  dsimp only
  split <;> simp [Checked.state]

theorem sniStep_pending (s : State) : (Checked.state (sniStep s)).pending = s.pending := by
  unfold sniStep
  dsimp only
  split <;> simp [Checked.state]

theorem busSteps_pending (s : State) : (Checked.state (busSteps s)).pending = s.pending := by
  have h : ∀ (l : List Nat) (r : Checked), (Checked.state r).pending = s.pending → (Checked.state (l.foldl (fun r b => r.bind fun s =>
      blockStep (0x40060000 + 0x1000 * b) (0x40061000 + 0x1000 * b) (busReg Reg.DBC_LOCK b) (fun s => checkDbc s b) 0x080E s) r)).pending = s.pending := by
    intro l
    induction l with
    | nil => exact fun r h => h
    | cons b l ih => exact fun r hr => ih _ (checked_pending _ _ _ hr fun u => blockStep_pending _ _ _ _ _ _)
  exact h _ _ rfl

theorem configChecks_pending (s : State) : (Checked.state (configChecks s)).pending = s.pending := by
  unfold configChecks
  refine checked_pending _ _ _ (must_pending _ _ _) fun s => ?_
  dsimp only
  rw [← takeImage_pending s]
  refine checked_pending _ _ _ (must_pending _ _ _) fun s => checked_pending _ _ _ (must_pending _ _ _) fun s => checked_pending _ _ _ ?_ fun s => ?_
  · split <;> simp [Checked.state]
  · iterate 2 refine checked_pending _ _ _ (blockStep_pending _ _ _ _ _ _) fun s => ?_
    refine checked_pending _ _ _ (fioStep_pending _) fun s => checked_pending _ _ _ (busSteps_pending _) fun s => checked_pending _ _ _ (sniStep_pending _) fun s => ?_
    iterate 3 refine checked_pending _ _ _ (blockStep_pending _ _ _ _ _ _) fun s => ?_
    exact journalLoads_pending s

@[simp] theorem configFail_pending (code : Nat) (s : State) : (configFail code s).pending = s.pending := by
  unfold configFail
  simp

@[simp] theorem execTimeCheckpoint_pending (ms : Nat) (s : State) (u : State) : (landing (execTimeCheckpoint ms s) u).pending = s.pending := by
  unfold execTimeCheckpoint
  simp

@[simp] theorem execRingScanDone_pending (s : State) (u : State) : (landing (execRingScanDone s) u).pending = s.pending := by
  unfold execRingScanDone
  simp

@[simp] theorem execEvrLog_pending (w : Word) (s : State) (u : State) : (landing (execEvrLog w s) u).pending = s.pending := by
  unfold execEvrLog
  simp

@[simp] theorem execRecordRequest_pending (src code : Nat) (arg : Word) (s : State) (u : State) : (landing (execRecordRequest src code arg s) u).pending = s.pending := by
  unfold execRecordRequest
  simp

@[simp] theorem execRecordClose_pending (s : State) (u : State) : (landing (execRecordClose s) u).pending = s.pending := by
  unfold execRecordClose
  try dsimp only
  (repeat' split) <;> simp

@[simp] theorem execEvrNpost_pending (w : Word) (s : State) (u : State) : (landing (execEvrNpost w s) u).pending = s.pending := by
  unfold execEvrNpost
  simp

@[simp] theorem execNandPageProgram_pending (ok : Bool) (s : State) (u : State) : (landing (execNandPageProgram ok s) u).pending = s.pending := by
  unfold execNandPageProgram
  simp

@[simp] theorem execNandConfirm_pending (nseq : Word) (s : State) (u : State) : (landing (execNandConfirm nseq s) u).pending = s.pending := by
  unfold execNandConfirm
  simp

@[simp] theorem execNandStartReport_pending (highest : Word) (s : State) (u : State) : (landing (execNandStartReport highest s) u).pending = s.pending := by
  unfold execNandStartReport
  simp

@[simp] theorem correlation_pending (c : Nat) (s : State) : (correlation c s).pending = s.pending := by
  unfold correlation
  simp

@[simp] theorem execCorrelationDue_pending (s : State) (u : State) : (landing (execCorrelationDue s) u).pending = s.pending := by
  unfold execCorrelationDue
  simp

@[simp] theorem execJnlWrite_pending (cell copy : Nat) (readbackOk : Bool) (s : State) (u : State) : (landing (execJnlWrite cell copy readbackOk s) u).pending = s.pending := by
  unfold execJnlWrite
  simp

@[simp] theorem execJnlRead_pending (cell copy : Nat) (s : State) (u : State) : (landing (execJnlRead cell copy s) u).pending = s.pending := by
  unfold execJnlRead
  simp

@[simp] theorem execEvrLock_pending (w : Word) (s : State) (u : State) : (landing (execEvrLock w s) u).pending = s.pending := by
  unfold execEvrLock
  simp

@[simp] theorem mbNote_pending (n code : Nat) (s : State) : (mbNote n code s).pending = s.pending := by
  unfold mbNote
  simp

@[simp] theorem mbIrq_pending (n b agent : Nat) (s : State) : (mbIrq n b agent s).pending = s.pending := by
  unfold mbIrq
  simp

@[simp] theorem mbPost_pending (n len : Nat) (put : Mbx → Mbx) (s : State) : (mbPost n len put s).pending = s.pending := by
  unfold mbPost
  simp

@[simp] theorem mbTake_pending (n : Nat) (s : State) : (mbTake n s).pending = s.pending := by
  unfold mbTake
  simp

@[simp] theorem mbDbellTake_pending (n : Nat) (s : State) : (mbDbellTake n s).pending = s.pending := by
  unfold mbDbellTake
  simp

@[simp] theorem mbLastRead_pending (n : Nat) (s : State) : (mbLastRead n s).pending = s.pending := by
  unfold mbLastRead
  simp

@[simp] theorem mbRcode_pending (n rcode : Nat) (s : State) : (mbRcode n rcode s).pending = s.pending := by
  unfold mbRcode
  simp

@[simp] theorem mbRefused_pending (n : Nat) (s : State) : (mbRefused n s).pending = s.pending := by
  unfold mbRefused
  simp

@[simp] theorem firewalled_pending (s : State) : (firewalled s).pending = s.pending := by
  unfold firewalled
  simp

@[simp] theorem mbDenied_pending (who n : Nat) (s : State) : (mbDenied who n s).pending = s.pending := by
  unfold mbDenied
  simp

@[simp] theorem mbRxReset_pending (n : Nat) (s : State) : (mbRxReset n s).pending = s.pending := by
  unfold mbRxReset
  simp

@[simp] theorem mbTxReset_pending (n : Nat) (s : State) : (mbTxReset n s).pending = s.pending := by
  unfold mbTxReset
  simp

@[simp] theorem mbProcReset_pending (p : Nat) (s : State) : (mbProcReset p s).pending = s.pending := by
  unfold mbProcReset
  simp

@[simp] theorem mbService_pending (s : State) : (mbService s).pending = s.pending := by
  unfold mbService
  simp

@[simp] theorem heartbeatTake_pending (n : Nat) (p : Proc) (s : State) : (heartbeatTake n p s).2.pending = s.pending := by
  unfold heartbeatTake
  (repeat' split) <;> simp

@[simp] theorem minorityInfo_pending (k code addr : Nat) (s : State) : (minorityInfo k code addr s).pending = s.pending := by
  unfold minorityInfo
  simp

@[simp] theorem regionMinority_pending (k code addr : Nat) (s : State) : (regionMinority k code addr s).pending = s.pending := by
  unfold regionMinority
  simp

@[simp] theorem takeUnvoted_pending (es : List QEntry) (s : State) : (takeUnvoted es s).pending = s.pending := by
  unfold takeUnvoted
  simp

@[simp] theorem queueWrite_pending (k : Nat) (w : List QWrite) (s : State) : (queueWrite k w s).pending = s.pending := by
  unfold queueWrite
  simp

@[simp] theorem queueLeave_pending (k : Nat) (s : State) : (queueLeave k s).pending = s.pending := by
  unfold queueLeave
  (repeat' split) <;> simp

@[simp] theorem ignorePending_pending (k : Nat) (s : State) : (ignorePending k s).pending = s.pending := by
  unfold ignorePending
  simp

@[simp] theorem takeCopies_pending (s : State) : (takeCopies s).pending = s.pending := by
  unfold takeCopies
  simp

@[simp] theorem emptyQueue_pending (k : Nat) (s : State) : (emptyQueue k s).pending = s.pending := by
  unfold emptyQueue
  simp

@[simp] theorem copiesUsed_pending (s : State) : (copiesUsed s).pending = s.pending := by
  unfold copiesUsed
  simp

@[simp] theorem noMajority_pending (three two : Nat) (s : State) : (noMajority three two s).pending = s.pending := by
  unfold noMajority
  simp

@[simp] theorem alignHwm_pending (spread : Nat) (s : State) : (alignHwm spread s).pending = s.pending := by
  unfold alignHwm
  simp

@[simp] theorem voteTxn_pending (s : State) : (voteTxn s).1.pending = s.pending := by
  unfold voteTxn
  try dsimp only
  (repeat' split) <;> simp

@[simp] theorem voterFaults_pending (dualRailBad : Bool) (s : State) : (voterFaults dualRailBad s).pending = s.pending := by
  unfold voterFaults
  simp

@[simp] theorem storeFold_pending (x : Store) (s : State) : (storeFold x s).pending = s.pending := by
  unfold storeFold
  simp

@[simp] theorem sigCapture_pending (w : Word) (caps : List (Option CoreCapture)) (s : State) : (sigCapture w caps s).pending = s.pending := by
  unfold sigCapture
  try dsimp only
  (repeat' split) <;>
    first | (simp; done) | (simp; refine Eq.trans (foldl_pending _ _ _ (fun s b => ?_)) ?_ <;> (repeat' split) <;> simp)

@[simp] theorem sigCompare_pending (s : State) : (sigCompare s).pending = s.pending := by
  unfold sigCompare
  try dsimp only
  (repeat' split) <;> simp

@[simp] theorem sigShow_pending (s : State) : (sigShow s).pending = s.pending := by
  unfold sigShow
  simp

@[simp] theorem injectTest_pending (detected : BitVec 7) (s : State) : (injectTest detected s).pending = s.pending := by
  unfold injectTest
  simp

@[simp] theorem countFence_pending (k : Nat) (s : State) : (countFence k s).pending = s.pending := by
  unfold countFence
  simp

@[simp] theorem endSequence_pending (s : State) : (endSequence s).pending = s.pending := by
  unfold endSequence
  simp

@[simp] theorem toFenced_pending (k : Nat) (s : State) : (toFenced k s).pending = s.pending := by
  unfold toFenced
  simp

@[simp] theorem startSequence_pending (k : Nat) (fence : Bool) (s : State) : (startSequence k fence s).pending = s.pending := by
  unfold startSequence
  simp

@[simp] theorem fenceRegion_pending (k : Nat) (s : State) : (fenceRegion k s).pending = s.pending := by
  unfold fenceRegion
  simp

@[simp] theorem splitRegion_pending (k : Nat) (s : State) : (splitRegion k s).pending = s.pending := by
  unfold splitRegion
  simp

@[simp] theorem setResult_pending (k r : Nat) (s : State) : (setResult k r s).pending = s.pending := by
  unfold setResult
  simp

@[simp] theorem sequenceFailed_pending (k code result : Nat) (s : State) : (sequenceFailed k code result s).pending = s.pending := by
  unfold sequenceFailed
  simp

@[simp] theorem rejoin_pending (k : Nat) (s : State) : (rejoin k s).pending = s.pending := by
  unfold rejoin
  simp

@[simp] theorem verifyStep_pending (crcs : List Word) (s : State) : (verifyStep crcs s).pending = s.pending := by
  unfold verifyStep
  (repeat' split) <;> simp

@[simp] theorem sequenceStep_pending (s : State) : (sequenceStep s).pending = s.pending := by
  unfold sequenceStep
  try dsimp only
  (repeat' split) <;> simp

@[simp] theorem vauVcEnd_pending (s : State) : (vauVcEnd s).pending = s.pending := by
  unfold vauVcEnd
  try dsimp only
  (repeat' split) <;> simp

@[simp] theorem splitRequest_pending (w : Word) (s : State) : (splitRequest w s).pending = s.pending := by
  unfold splitRequest
  simp

@[simp] theorem selftestDone_pending (passed : Bool) (s : State) : (selftestDone passed s).pending = s.pending := by
  unfold selftestDone
  (repeat' split) <;> simp

@[simp] theorem showSample_pending (x : RegionSample) (tick : Nat) (s : State) : (showSample x tick s).pending = s.pending := by
  unfold showSample
  simp

@[simp] theorem keptOut_pending (k : Nat) (s : State) : (keptOut k s).pending = s.pending := by
  unfold keptOut
  simp

@[simp] theorem monitors_pending (supply temp phase abs : BitVec 3) (s : State) : (monitors supply temp phase abs s).pending = s.pending := by
  unfold monitors
  try dsimp only
  (repeat' split) <;> simp

@[simp] theorem monitorSamples_pending (xs : List RegionSample) (tick : Nat) (s : State) : (monitorSamples xs tick s).pending = s.pending := by
  unfold monitorSamples
  (repeat' split) <;> simp

@[simp] theorem loadAges_pending (s : State) : (loadAges s).pending = s.pending := by
  unfold loadAges
  simp

@[simp] theorem ageTick_pending (k : Nat) (s : State) : (ageTick k s).pending = s.pending := by
  unfold ageTick
  simp

@[simp] theorem vauTick_pending (s : State) : (vauTick s).pending = s.pending := by
  unfold vauTick
  simp

@[simp] theorem debugAttach_pending (k : Nat) (s : State) : (debugAttach k s).pending = s.pending := by
  unfold debugAttach
  simp

@[simp] theorem vauShow_pending (s : State) : (vauShow s).pending = s.pending := by
  unfold vauShow
  simp

@[simp] theorem restart_pending (cause : Nat) (s : State) : (restart cause s).pending = s.pending := by
  unfold restart
  simp

@[simp] theorem supplyValid_pending (s : State) : (supplyValid s).pending = s.pending := by
  unfold supplyValid
  simp

@[simp] theorem buttonRelease_pending (heldMs : Nat) (s : State) : (buttonRelease heldMs s).pending = s.pending := by
  unfold buttonRelease
  simp

@[simp] theorem buttonFault_pending (s : State) : (buttonFault s).pending = s.pending := by
  unfold buttonFault
  simp

@[simp] theorem buttonCleared_pending (s : State) : (buttonCleared s).pending = s.pending := by
  unfold buttonCleared
  simp

@[simp] theorem startRecords_pending (s : State) : (startRecords s).pending = s.pending := by
  unfold startRecords
  (repeat' split) <;> simp

@[simp] theorem selftestEnd_pending (sigs : List (Nat × BitVec 64)) (compared : Bool) (index : Nat) (s : State) : (selftestEnd sigs compared index s).pending = s.pending := by
  unfold selftestEnd
  (repeat' split) <;> simp

@[simp] theorem loadSlot_pending (s : State) : (loadSlot s).pending = s.pending := by
  unfold loadSlot
  simp

@[simp] theorem startRuntime_pending (s : State) : (startRuntime s).pending = s.pending := by
  unfold startRuntime
  simp

@[simp] theorem noValidSlot_pending (s : State) : (noValidSlot s).pending = s.pending := by
  unfold noValidSlot
  simp

@[simp] theorem slotInvalid_pending (s : State) : (slotInvalid s).pending = s.pending := by
  unfold slotInvalid
  simp

@[simp] theorem bootEnd_pending (selRead othRead : Bool) (s : State) : (bootEnd selRead othRead s).pending = s.pending := by
  unfold bootEnd
  simp

@[simp] theorem clearTransfer_pending (s : State) : (clearTransfer s).pending = s.pending := by
  unfold clearTransfer
  simp

@[simp] theorem joinEntry_pending (s : State) : (joinEntry s).pending = s.pending := by
  unfold joinEntry
  simp

@[simp] theorem configEnd_pending (s : State) : (configEnd s).pending = s.pending := by
  unfold configEnd
  split
  · rfl
  · have h := (configChecks_pending (clearTransfer { s with rt := { s.rt with bootDue := true } })).trans (clearTransfer_pending _)
    split <;> rename_i e <;> rw [e] at h <;> simp_all [Checked.state]

@[simp] theorem slotChange_pending (code : Nat) (s : State) : (slotChange code s).pending = s.pending := by
  unfold slotChange
  simp

@[simp] theorem resetProc_pending (sp : Bool) (s : State) : (resetProc sp s).pending = s.pending := by
  unfold resetProc
  simp

@[simp] theorem heartbeatLost_pending (sp : Bool) (s : State) : (heartbeatLost sp s).pending = s.pending := by
  unfold heartbeatLost
  simp

@[simp] theorem reloadEnd_pending (sp ok : Bool) (s : State) : (reloadEnd sp ok s).pending = s.pending := by
  unfold reloadEnd
  simp

@[simp] theorem selfCheckFail_pending (b : Block) (n : Nat) (s : State) : (selfCheckFail b n s).pending = s.pending := by
  unfold selfCheckFail
  (repeat' split) <;> simp

@[simp] theorem iteLaunch_pending (w : Word) (s : State) : (iteLaunch w s).pending = s.pending := by
  unfold iteLaunch
  simp

@[simp] theorem iteEvaluate_pending (s : State) : (iteEvaluate s).pending = s.pending := by
  unfold iteEvaluate
  simp

@[simp] theorem afterEngine_pending (s : State) : (afterEngine s).pending = s.pending := by
  unfold afterEngine
  simp

@[simp] theorem iteDone_pending (s : State) : (iteDone s).pending = s.pending := by
  unfold iteDone
  simp

@[simp] theorem viewsUsed_pending (s : State) : (viewsUsed s).pending = s.pending := by
  unfold viewsUsed
  simp

@[simp] theorem dsuStepDone_pending (s : State) : (dsuStepDone s).pending = s.pending := by
  unfold dsuStepDone
  simp

@[simp] theorem toPhase_pending (p : Nat) (s : State) : (toPhase p s).pending = s.pending := by
  unfold toPhase
  simp

@[simp] theorem tickNow_pending (s : State) : (tickNow s).pending = s.pending := by
  unfold tickNow
  simp

@[simp] theorem markTick_pending (p tick : Nat) (s : State) : (markTick p tick s).pending = s.pending := by
  unfold markTick
  simp

@[simp] theorem hardwareMark_pending (p len : Nat) (s : State) : (hardwareMark p len s).pending = s.pending := by
  unfold hardwareMark
  simp

@[simp] theorem hwmRead_pending (p : Nat) (s : State) : (hwmRead p s).pending = s.pending := by
  unfold hwmRead
  simp

@[simp] theorem copyCheck4_pending (diff : Bool) (s : State) : (copyCheck4 diff s).pending = s.pending := by
  unfold copyCheck4
  simp

@[simp] theorem heartbeats_pending (s : State) : (heartbeats s).pending = s.pending := by
  unfold heartbeats
  simp

@[simp] theorem journalWork_pending (s : State) : (journalWork s).pending = s.pending := by
  unfold journalWork
  simp

@[simp] theorem bootRecord_pending (s : State) : (bootRecord s).pending = s.pending := by
  unfold bootRecord
  simp

@[simp] theorem postRecords_pending (s : State) : (postRecords s).pending = s.pending := by
  unfold postRecords
  simp

@[simp] theorem bgPerform_pending (w : BgWork) (s : State) : (bgPerform w s).pending = s.pending := by
  unfold bgPerform
  (repeat' split) <;> simp

@[simp] theorem bgRun_pending (n : Nat) (s : State) : (bgRun n s).pending = s.pending := by
  unfold bgRun
  simp

@[simp] theorem bgFinish_pending (s : State) : (bgFinish s).pending = s.pending := by
  unfold bgFinish
  simp

@[simp] theorem bgBegin_pending (s : State) : (bgBegin s).pending = s.pending := by
  unfold bgBegin
  simp

@[simp] theorem bgCarry_pending (s : State) : (bgCarry s).pending = s.pending := by
  unfold bgCarry
  simp

@[simp] theorem phaseMark_pending (w : Word) (tick : Nat) (s : State) : (phaseMark w tick s).pending = s.pending := by
  unfold phaseMark
  simp

@[simp] theorem overrun_pending (p code : Nat) (s : State) : (overrun p code s).pending = s.pending := by
  unfold overrun
  simp

@[simp] theorem markCheck_pending (i code : Nat) (s : State) : (markCheck i code s).pending = s.pending := by
  unfold markCheck
  simp

@[simp] theorem vcnStep_pending (s : State) : (vcnStep s).pending = s.pending := by
  unfold vcnStep
  simp

@[simp] theorem clearTops_pending (lo n : Nat) (s : State) : (clearTops lo n s).pending = s.pending := by
  unfold clearTops
  simp

@[simp] theorem clearFlags_pending (s : State) : (clearFlags s).pending = s.pending := by
  unfold clearFlags
  simp

@[simp] theorem mantleStrobe_pending (measured : Bool) (meas : Nat) (s : State) : (mantleStrobe measured meas s).pending = s.pending := by
  unfold mantleStrobe
  simp

@[simp] theorem travelStart_pending (s : State) : (travelStart s).pending = s.pending := by
  unfold travelStart
  simp

@[simp] theorem vcStart_pending (rb : BitVec 48) (meas : Nat) (s : State) : (vcStart rb meas s).pending = s.pending := by
  unfold vcStart
  simp

@[simp] theorem snapshotsReady_pending (s : State) : (snapshotsReady s).pending = s.pending := by
  unfold snapshotsReady
  simp

@[simp] theorem checkTelegrams_pending (s : State) : (checkTelegrams s).pending = s.pending := by
  unfold checkTelegrams
  simp

@[simp] theorem evaluateWork_pending (s : State) : (evaluateWork s).pending = s.pending := by
  unfold evaluateWork
  simp

@[simp] theorem evaluateStart_pending (ready : Bool) (s : State) : (evaluateStart ready s).pending = s.pending := by
  unfold evaluateStart
  simp

@[simp] theorem agreeStart_pending (s : State) : (agreeStart s).pending = s.pending := by
  unfold agreeStart
  simp

@[simp] theorem takeVector_pending (received : Bool) (s : State) : (takeVector received s).pending = s.pending := by
  unfold takeVector
  try dsimp only
  (repeat' split) <;> simp

@[simp] theorem sealAll_pending (s : State) : (sealAll s).pending = s.pending := by
  unfold sealAll
  simp

@[simp] theorem mntShow_pending (s : State) : (mntShow s).pending = s.pending := by
  unfold mntShow
  simp

@[simp] theorem mantleCheck_pending (received : Bool) (s : State) : (mantleCheck received s).pending = s.pending := by
  unfold mantleCheck
  simp

@[simp] theorem readMsafe_pending (s : State) : (readMsafe s).pending = s.pending := by
  unfold readMsafe
  simp

@[simp] theorem readTrips_pending (s : State) : (readTrips s).pending = s.pending := by
  unfold readTrips
  simp

@[simp] theorem mantleRead_pending (readable : Bool) (echo : BitVec 64) (s : State) : (mantleRead readable echo s).pending = s.pending := by
  unfold mantleRead
  simp

@[simp] theorem commitStart_pending (sealsDone : Bool) (s : State) : (commitStart sealsDone s).pending = s.pending := by
  unfold commitStart
  simp

@[simp] theorem safeStatus_pending (s : State) : (safeStatus s).pending = s.pending := by
  unfold safeStatus
  simp

@[simp] theorem backgroundStart_pending (copyDiff : Bool) (s : State) : (backgroundStart copyDiff s).pending = s.pending := by
  unfold backgroundStart
  simp

@[simp] theorem lagCheck_pending (s : State) : (lagCheck s).pending = s.pending := by
  unfold lagCheck
  simp

@[simp] theorem closeStart_pending (s : State) : (closeStart s).pending = s.pending := by
  unfold closeStart
  simp

@[simp] theorem signatureCompare_pending (detected : BitVec 7) (crcs : List Word) (s : State) : (signatureCompare detected crcs s).pending = s.pending := by
  unfold signatureCompare
  simp

@[simp] theorem checkFailed_pending (s : State) : (checkFailed s).pending = s.pending := by
  unfold checkFailed
  (repeat' split) <;> simp

@[simp] theorem vcEnd_pending (heartbeat : Bool) (s : State) : (vcEnd heartbeat s).pending = s.pending := by
  unfold vcEnd
  simp

@[simp] theorem vcnLoad_pending (byPcl : Bool) (v : Word) (s : State) : (vcnLoad byPcl v s).pending = s.pending := by
  unfold vcnLoad
  simp

@[simp] theorem execVcStart_pending (reading : VcReading) (s : State) (u : State) : (landing (execVcStart reading s) u).pending = s.pending := by
  unfold execVcStart
  simp

@[simp] theorem execEvaluateStart_pending (ready : Bool) (s : State) (u : State) : (landing (execEvaluateStart ready s) u).pending = s.pending := by
  unfold execEvaluateStart
  simp

@[simp] theorem execAgreeStart_pending (s : State) (u : State) : (landing (execAgreeStart s) u).pending = s.pending := by
  unfold execAgreeStart
  simp

@[simp] theorem execMantleVectorCheck_pending (received : Bool) (s : State) (u : State) : (landing (execMantleVectorCheck received s) u).pending = s.pending := by
  unfold execMantleVectorCheck
  simp

@[simp] theorem execMantleStatusRead_pending (readable : Bool) (echo : BitVec 64) (s : State) (u : State) : (landing (execMantleStatusRead readable echo s) u).pending = s.pending := by
  unfold execMantleStatusRead
  simp

@[simp] theorem execCommitStart_pending (sealsDone : Bool) (s : State) (u : State) : (landing (execCommitStart sealsDone s) u).pending = s.pending := by
  unfold execCommitStart
  simp

@[simp] theorem execBackgroundStart_pending (copyDiff : Bool) (s : State) (u : State) : (landing (execBackgroundStart copyDiff s) u).pending = s.pending := by
  unfold execBackgroundStart
  simp

@[simp] theorem execCloseStart_pending (s : State) (u : State) : (landing (execCloseStart s) u).pending = s.pending := by
  unfold execCloseStart
  simp

@[simp] theorem execCreditRecount_pending (s : State) (u : State) : (landing (execCreditRecount s) u).pending = s.pending := by
  unfold execCreditRecount
  simp

@[simp] theorem execSignatureCompare_pending (results : CloseResults) (s : State) (u : State) : (landing (execSignatureCompare results s) u).pending = s.pending := by
  unfold execSignatureCompare
  simp

@[simp] theorem execVcEnd_pending (heartbeat : Bool) (s : State) (u : State) : (landing (execVcEnd heartbeat s) u).pending = s.pending := by
  unfold execVcEnd
  simp

@[simp] theorem execPhaseMark_pending (w : Word) (tick : Nat) (s : State) (u : State) : (landing (execPhaseMark w tick s) u).pending = s.pending := by
  unfold execPhaseMark
  simp

@[simp] theorem execVcnLoad_pending (byPcl : Bool) (vcn : Word) (s : State) (u : State) : (landing (execVcnLoad byPcl vcn s) u).pending = s.pending := by
  unfold execVcnLoad
  simp

@[simp] theorem execVcTimerFault_pending (s : State) (u : State) : (landing (execVcTimerFault s) u).pending = s.pending := by
  unfold execVcTimerFault
  simp

@[simp] theorem execMantleTableVerified_pending (key : List Byte) (s : State) (u : State) : (landing (execMantleTableVerified key s) u).pending = s.pending := by
  unfold execMantleTableVerified
  simp

@[simp] theorem execReferenceSend_pending (bus : Nat) (busy : Bool) (s : State) (u : State) : (landing (execReferenceSend bus busy s) u).pending = s.pending := by
  unfold execReferenceSend
  simp

@[simp] theorem execReferenceRx_pending (bus ofs id : Nat) (bytes : List Byte) (s : State) (u : State) : (landing (execReferenceRx bus ofs id bytes s) u).pending = s.pending := by
  unfold execReferenceRx
  simp

@[simp] theorem execOrderFrameSend_pending (bus : Nat) (s : State) (u : State) : (landing (execOrderFrameSend bus s) u).pending = s.pending := by
  unfold execOrderFrameSend
  simp

@[simp] theorem execDoorCommandFrameSend_pending (bus : Nat) (s : State) (u : State) : (landing (execDoorCommandFrameSend bus s) u).pending = s.pending := by
  unfold execDoorCommandFrameSend
  simp

@[simp] theorem execFrameTxEnd_pending (bus : Nat) (e : FrameEnd) (s : State) (u : State) : (landing (execFrameTxEnd bus e s) u).pending = s.pending := by
  unfold execFrameTxEnd
  simp

@[simp] theorem execReportRx_pending (bus unit sof : Nat) (bytes : List Byte) (s : State) (u : State) : (landing (execReportRx bus unit sof bytes s) u).pending = s.pending := by
  unfold execReportRx
  simp

@[simp] theorem execForeignFrameRx_pending (bus id sof : Nat) (fd : Bool) (s : State) (u : State) : (landing (execForeignFrameRx bus id sof fd s) u).pending = s.pending := by
  unfold execForeignFrameRx
  simp

@[simp] theorem execDbcErrorPassive_pending (bus : Nat) (s : State) (u : State) : (landing (execDbcErrorPassive bus s) u).pending = s.pending := by
  unfold execDbcErrorPassive
  simp

@[simp] theorem execDbcBusOff_pending (bus : Nat) (s : State) (u : State) : (landing (execDbcBusOff bus s) u).pending = s.pending := by
  unfold execDbcBusOff
  simp

@[simp] theorem execBusOffRecovery_pending (bus : Nat) (s : State) (u : State) : (landing (execBusOffRecovery bus s) u).pending = s.pending := by
  unfold execBusOffRecovery
  simp

@[simp] theorem execDbcCancel_pending (bus : Nat) (s : State) (u : State) : (landing (execDbcCancel bus s) u).pending = s.pending := by
  unfold execDbcCancel
  simp

@[simp] theorem execDbcSleep_pending (bus : Nat) (s : State) (u : State) : (landing (execDbcSleep bus s) u).pending = s.pending := by
  unfold execDbcSleep
  simp

@[simp] theorem execSleepEnter_pending (bus : Nat) (s : State) (u : State) : (landing (execSleepEnter bus s) u).pending = s.pending := by
  unfold execSleepEnter
  simp

@[simp] theorem execDbcWake_pending (bus : Nat) (s : State) (u : State) : (landing (execDbcWake bus s) u).pending = s.pending := by
  unfold execDbcWake
  simp

@[simp] theorem execWakeFrameRepeat_pending (bus : Nat) (s : State) (u : State) : (landing (execWakeFrameRepeat bus s) u).pending = s.pending := by
  unfold execWakeFrameRepeat
  simp

@[simp] theorem execWakeDetect_pending (bus : Nat) (pattern : Bool) (id dlc : Nat) (data : Byte) (s : State) (u : State) : (landing (execWakeDetect bus pattern id dlc data s) u).pending = s.pending := by
  unfold execWakeDetect
  simp

@[simp] theorem execDbcCready_pending (bus : Nat) (w : Word) (s : State) (u : State) : (landing (execDbcCready bus w s) u).pending = s.pending := by
  unfold execDbcCready
  simp

@[simp] theorem execDbcLoadingCopyWrite_pending (bus index : Nat) (w : Word) (s : State) (u : State) : (landing (execDbcLoadingCopyWrite bus index w s) u).pending = s.pending := by
  unfold execDbcLoadingCopyWrite
  simp

@[simp] theorem execDbcLock_pending (bus : Nat) (w : Word) (s : State) (u : State) : (landing (execDbcLock bus w s) u).pending = s.pending := by
  unfold execDbcLock
  simp

@[simp] theorem execLockTimeout_pending (leaf : Nat) (s : State) (u : State) : (landing (execLockTimeout leaf s) u).pending = s.pending := by
  unfold execLockTimeout
  simp

@[simp] theorem execOpenTimeout_pending (leaf : Nat) (s : State) (u : State) : (landing (execOpenTimeout leaf s) u).pending = s.pending := by
  unfold execOpenTimeout
  simp

@[simp] theorem execCloseTimeout_pending (edge : Nat) (s : State) (u : State) : (landing (execCloseTimeout edge s) u).pending = s.pending := by
  unfold execCloseTimeout
  simp

@[simp] theorem execEnableGrantTimeout_pending (edge : Nat) (s : State) (u : State) : (landing (execEnableGrantTimeout edge s) u).pending = s.pending := by
  unfold execEnableGrantTimeout
  (repeat' split) <;> simp

@[simp] theorem execDoorWaitTimeout_pending (edge : Nat) (s : State) (u : State) : (landing (execDoorWaitTimeout edge s) u).pending = s.pending := by
  unfold execDoorWaitTimeout
  (repeat' split) <;> simp

@[simp] theorem execRestorationRelease_pending (edge : Nat) (s : State) (u : State) : (landing (execRestorationRelease edge s) u).pending = s.pending := by
  unfold execRestorationRelease
  simp

@[simp] theorem ecmdWrite_pending (e : Nat) (w : Word) (s : State) : (ecmdWrite e w s).pending = s.pending := by
  unfold ecmdWrite
  simp

@[simp] theorem execEcmdEnable_pending (edge ses : Nat) (s : State) (u : State) : (landing (execEcmdEnable edge ses s) u).pending = s.pending := by
  unfold execEcmdEnable
  simp

@[simp] theorem execEcmdOpen_pending (edge : Nat) (s : State) (u : State) : (landing (execEcmdOpen edge s) u).pending = s.pending := by
  unfold execEcmdOpen
  simp

@[simp] theorem execEcmdClose_pending (edge : Nat) (s : State) (u : State) : (landing (execEcmdClose edge s) u).pending = s.pending := by
  unfold execEcmdClose
  simp

@[simp] theorem execEcmdWithdraw_pending (edge : Nat) (s : State) (u : State) : (landing (execEcmdWithdraw edge s) u).pending = s.pending := by
  unfold execEcmdWithdraw
  simp

@[simp] theorem execEcmdRestore_pending (edge : Nat) (s : State) (u : State) : (landing (execEcmdRestore edge s) u).pending = s.pending := by
  unfold execEcmdRestore
  simp

@[simp] theorem execEcmdSafeStop_pending (edge code : Nat) (s : State) (u : State) : (landing (execEcmdSafeStop edge code s) u).pending = s.pending := by
  unfold execEcmdSafeStop
  simp

@[simp] theorem execEcmdLocal_pending (edge code : Nat) (s : State) (u : State) : (landing (execEcmdLocal edge code s) u).pending = s.pending := by
  unfold execEcmdLocal
  simp

@[simp] theorem execEcmdEnd_pending (edge : Nat) (s : State) (u : State) : (landing (execEcmdEnd edge s) u).pending = s.pending := by
  unfold execEcmdEnd
  simp

@[simp] theorem lcmdWrite_pending (cmd leaf : Nat) (s : State) : (lcmdWrite cmd leaf s).pending = s.pending := by
  unfold lcmdWrite
  simp

@[simp] theorem execLcmdIsolate_pending (leaf : Nat) (s : State) (u : State) : (landing (execLcmdIsolate leaf s) u).pending = s.pending := by
  unfold execLcmdIsolate
  simp

@[simp] theorem execLcmdRestore_pending (leaf : Nat) (s : State) (u : State) : (landing (execLcmdRestore leaf s) u).pending = s.pending := by
  unfold execLcmdRestore
  simp

@[simp] theorem execDsuStep_pending (s : State) (u : State) : (landing (execDsuStep s) u).pending = s.pending := by
  unfold execDsuStep
  simp

@[simp] theorem execDsuStepTimeout_pending (s : State) (u : State) : (landing (execDsuStepTimeout s) u).pending = s.pending := by
  unfold execDsuStepTimeout
  simp

@[simp] theorem execDsuLoadBegin_pending (s : State) (u : State) : (landing (execDsuLoadBegin s) u).pending = s.pending := by
  unfold execDsuLoadBegin
  simp

@[simp] theorem execDsuLoadEnd_pending (s : State) (u : State) : (landing (execDsuLoadEnd s) u).pending = s.pending := by
  unfold execDsuLoadEnd
  simp

@[simp] theorem execDsuConfLock_pending (w : Word) (s : State) (u : State) : (landing (execDsuConfLock w s) u).pending = s.pending := by
  unfold execDsuConfLock
  simp

@[simp] theorem execSsTimeout_pending (leaf : Nat) (s : State) (u : State) : (landing (execSsTimeout leaf s) u).pending = s.pending := by
  unfold execSsTimeout
  simp

@[simp] theorem execCorrExpiry_pending (edge : Nat) (s : State) (u : State) : (landing (execCorrExpiry edge s) u).pending = s.pending := by
  unfold execCorrExpiry
  simp

@[simp] theorem execIteLaunch_pending (w : Word) (s : State) (u : State) : (landing (execIteLaunch w s) u).pending = s.pending := by
  unfold execIteLaunch
  simp

@[simp] theorem execIteDone_pending (s : State) (u : State) : (landing (execIteDone s) u).pending = s.pending := by
  unfold execIteDone
  simp

@[simp] theorem execIteOvertime_pending (s : State) (u : State) : (landing (execIteOvertime s) u).pending = s.pending := by
  unfold execIteOvertime
  simp

@[simp] theorem execIteLock_pending (w : Word) (s : State) (u : State) : (landing (execIteLock w s) u).pending = s.pending := by
  unfold execIteLock
  simp

@[simp] theorem execGdRamWrite_pending (addr : Nat) (w : Word) (s : State) (u : State) : (landing (execGdRamWrite addr w s) u).pending = s.pending := by
  unfold execGdRamWrite
  simp

@[simp] theorem execDsuStepDone_pending (s : State) (u : State) : (landing (execDsuStepDone s) u).pending = s.pending := by
  unfold execDsuStepDone
  simp

@[simp] theorem execInputFilterChange_pending (pathB : Bool) (input : Nat) (value : Bool) (s : State) (u : State) : (landing (execInputFilterChange pathB input value s) u).pending = s.pending := by
  unfold execInputFilterChange
  simp

@[simp] theorem execInputDiscrepancy_pending (input : Nat) (s : State) (u : State) : (landing (execInputDiscrepancy input s) u).pending = s.pending := by
  unfold execInputDiscrepancy
  simp

@[simp] theorem execFeedStateChange_pending (feed st : Nat) (s : State) (u : State) : (landing (execFeedStateChange feed st s) u).pending = s.pending := by
  unfold execFeedStateChange
  simp

@[simp] theorem execFeedRecovery_pending (feed : Nat) (s : State) (u : State) : (landing (execFeedRecovery feed s) u).pending = s.pending := by
  unfold execFeedRecovery
  simp

@[simp] theorem execContactSupplyLimit_pending (supply : Nat) (s : State) (u : State) : (landing (execContactSupplyLimit supply s) u).pending = s.pending := by
  unfold execContactSupplyLimit
  simp

@[simp] theorem execContactSupplyRecovery_pending (supply : Nat) (s : State) (u : State) : (landing (execContactSupplyRecovery supply s) u).pending = s.pending := by
  unfold execContactSupplyRecovery
  simp

@[simp] theorem execOutputCommit_pending (w0 w1 code : Word) (s : State) (u : State) : (landing (execOutputCommit w0 w1 code s) u).pending = s.pending := by
  unfold execOutputCommit
  simp

@[simp] theorem execOutputOnDelay_pending (s : State) (u : State) : (landing (execOutputOnDelay s) u).pending = s.pending := by
  unfold execOutputOnDelay
  simp

@[simp] theorem execSilentState_pending (s : State) (u : State) : (landing (execSilentState s) u).pending = s.pending := by
  unfold execSilentState
  simp

@[simp] theorem execTestPulse_pending (off : Bool) (s : State) (u : State) : (landing (execTestPulse off s) u).pending = s.pending := by
  unfold execTestPulse
  simp

@[simp] theorem execPulseMissing_pending (output : Nat) (s : State) (u : State) : (landing (execPulseMissing output s) u).pending = s.pending := by
  unfold execPulseMissing
  simp

@[simp] theorem execOffReadsHigh_pending (output : Nat) (s : State) (u : State) : (landing (execOffReadsHigh output s) u).pending = s.pending := by
  unfold execOffReadsHigh
  simp

@[simp] theorem execOutputLow_pending (output : Nat) (s : State) (u : State) : (landing (execOutputLow output s) u).pending = s.pending := by
  unfold execOutputLow
  simp

@[simp] theorem execUndeclaredOutputEnergised_pending (output : Nat) (s : State) (u : State) : (landing (execUndeclaredOutputEnergised output s) u).pending = s.pending := by
  unfold execUndeclaredOutputEnergised
  simp

@[simp] theorem execClassificationResult_pending (output result partner : Nat) (s : State) (u : State) : (landing (execClassificationResult output result partner s) u).pending = s.pending := by
  unfold execClassificationResult
  simp

@[simp] theorem execFioGrestore_pending (w : Word) (s : State) (u : State) : (landing (execFioGrestore w s) u).pending = s.pending := by
  unfold execFioGrestore
  simp

@[simp] theorem execFioLock_pending (w : Word) (s : State) (u : State) : (landing (execFioLock w s) u).pending = s.pending := by
  unfold execFioLock
  simp

@[simp] theorem execCrdAcquire_pending (holder count : Nat) (s : State) (u : State) : (landing (execCrdAcquire holder count s) u).pending = s.pending := by
  unfold execCrdAcquire
  simp

@[simp] theorem execCrdRelease_pending (elem : Nat) (s : State) (u : State) : (landing (execCrdRelease elem s) u).pending = s.pending := by
  unfold execCrdRelease
  simp

@[simp] theorem execCrdTimed_pending (elem : Nat) (s : State) (u : State) : (landing (execCrdTimed elem s) u).pending = s.pending := by
  unfold execCrdTimed
  simp

@[simp] theorem execCrdTransfer_pending (elem holder : Nat) (s : State) (u : State) : (landing (execCrdTransfer elem holder s) u).pending = s.pending := by
  unfold execCrdTransfer
  simp

@[simp] theorem execCrdBlock_pending (elem holder : Nat) (s : State) (u : State) : (landing (execCrdBlock elem holder s) u).pending = s.pending := by
  unfold execCrdBlock
  simp

@[simp] theorem execCrdUnblock_pending (elem : Nat) (s : State) (u : State) : (landing (execCrdUnblock elem s) u).pending = s.pending := by
  unfold execCrdUnblock
  simp

@[simp] theorem execCrdLend_pending (elem holder : Nat) (s : State) (u : State) : (landing (execCrdLend elem holder s) u).pending = s.pending := by
  unfold execCrdLend
  simp

@[simp] theorem execCrdUnlend_pending (elem : Nat) (s : State) (u : State) : (landing (execCrdUnlend elem s) u).pending = s.pending := by
  unfold execCrdUnlend
  simp

@[simp] theorem execCrdReclaim_pending (elem : Nat) (s : State) (u : State) : (landing (execCrdReclaim elem s) u).pending = s.pending := by
  unfold execCrdReclaim
  simp

@[simp] theorem execCrdTake_pending (elem holder : Nat) (s : State) (u : State) : (landing (execCrdTake elem holder s) u).pending = s.pending := by
  unfold execCrdTake
  simp

@[simp] theorem execCrdGiveback_pending (elem : Nat) (s : State) (u : State) : (landing (execCrdGiveback elem s) u).pending = s.pending := by
  unfold execCrdGiveback
  simp

@[simp] theorem execCrdStartTimed_pending (elem : Nat) (s : State) (u : State) : (landing (execCrdStartTimed elem s) u).pending = s.pending := by
  unfold execCrdStartTimed
  simp

@[simp] theorem execCrdLoadBegin_pending (s : State) (u : State) : (landing (execCrdLoadBegin s) u).pending = s.pending := by
  unfold execCrdLoadBegin
  simp

@[simp] theorem execCrdLoadEnd_pending (s : State) (u : State) : (landing (execCrdLoadEnd s) u).pending = s.pending := by
  unfold execCrdLoadEnd
  simp

@[simp] theorem execCrdOpInvalid_pending (opc : Nat) (s : State) (u : State) : (landing (execCrdOpInvalid opc s) u).pending = s.pending := by
  unfold execCrdOpInvalid
  simp

@[simp] theorem execCrdHeldOpResume_pending (s : State) (u : State) : (landing (execCrdHeldOpResume s) u).pending = s.pending := by
  unfold execCrdHeldOpResume
  simp

@[simp] theorem execCrdCensusGo_pending (w : Word) (s : State) (u : State) : (landing (execCrdCensusGo w s) u).pending = s.pending := by
  unfold execCrdCensusGo
  simp

@[simp] theorem census_pending (s : State) : (census s).pending = s.pending := by
  unfold census
  simp

@[simp] theorem execCensusComplete_pending (s : State) (u : State) : (landing (execCensusComplete s) u).pending = s.pending := by
  unfold execCensusComplete
  simp

@[simp] theorem execCrdFreeze_pending (w : Word) (s : State) (u : State) : (landing (execCrdFreeze w s) u).pending = s.pending := by
  unfold execCrdFreeze
  simp

@[simp] theorem execCrdAttrLock_pending (w : Word) (s : State) (u : State) : (landing (execCrdAttrLock w s) u).pending = s.pending := by
  unfold execCrdAttrLock
  simp

@[simp] theorem lendTakeMsg_pending (kind : Nat) (m : LendMsg) (s : State) : (lendTakeMsg kind m s).pending = s.pending := by
  unfold lendTakeMsg
  simp

@[simp] theorem execLendReq_pending (m : LendMsg) (s : State) (u : State) : (landing (execLendReq m s) u).pending = s.pending := by
  unfold execLendReq
  simp

@[simp] theorem execLendGrant_pending (m : LendMsg) (s : State) (u : State) : (landing (execLendGrant m s) u).pending = s.pending := by
  unfold execLendGrant
  simp

@[simp] theorem execLendRefuse_pending (m : LendMsg) (s : State) (u : State) : (landing (execLendRefuse m s) u).pending = s.pending := by
  unfold execLendRefuse
  simp

@[simp] theorem execLendTaken_pending (m : LendMsg) (s : State) (u : State) : (landing (execLendTaken m s) u).pending = s.pending := by
  unfold execLendTaken
  simp

@[simp] theorem execLendReturn_pending (m : LendMsg) (s : State) (u : State) : (landing (execLendReturn m s) u).pending = s.pending := by
  unfold execLendReturn
  simp

@[simp] theorem execLendReturnAck_pending (m : LendMsg) (s : State) (u : State) : (landing (execLendReturnAck m s) u).pending = s.pending := by
  unfold execLendReturnAck
  simp

@[simp] theorem execLendAudit_pending (m : LendMsg) (s : State) (u : State) : (landing (execLendAudit m s) u).pending = s.pending := by
  unfold execLendAudit
  simp

@[simp] theorem execLendClaim_pending (m : LendMsg) (s : State) (u : State) : (landing (execLendClaim m s) u).pending = s.pending := by
  unfold execLendClaim
  simp

@[simp] theorem execLendClaimEnd_pending (m : LendMsg) (s : State) (u : State) : (landing (execLendClaimEnd m s) u).pending = s.pending := by
  unfold execLendClaimEnd
  simp

@[simp] theorem execLendClaimQuery_pending (m : LendMsg) (s : State) (u : State) : (landing (execLendClaimQuery m s) u).pending = s.pending := by
  unfold execLendClaimQuery
  simp

@[simp] theorem execLendMessageRepeat_pending (s : State) (u : State) : (landing (execLendMessageRepeat s) u).pending = s.pending := by
  unfold execLendMessageRepeat
  simp

@[simp] theorem execAuditDue_pending (s : State) (u : State) : (landing (execAuditDue s) u).pending = s.pending := by
  unfold execAuditDue
  simp

@[simp] theorem execClaimQueryRepeat_pending (s : State) (u : State) : (landing (execClaimQueryRepeat s) u).pending = s.pending := by
  unfold execClaimQueryRepeat
  simp

@[simp] theorem execClaimsComplete_pending (s : State) (u : State) : (landing (execClaimsComplete s) u).pending = s.pending := by
  unfold execClaimsComplete
  simp

@[simp] theorem execMbxDbellPost_pending (who chan : Nat) (value : Word) (s : State) (u : State) : (landing (execMbxDbellPost who chan value s) u).pending = s.pending := by
  unfold execMbxDbellPost
  simp

@[simp] theorem execMbxDbellTake_pending (who chan : Nat) (s : State) (u : State) : (landing (execMbxDbellTake who chan s) u).pending = s.pending := by
  unfold execMbxDbellTake
  simp

@[simp] theorem execMbxSend_pending (who chan len : Nat) (staged : List Word) (s : State) (u : State) : (landing (execMbxSend who chan len staged s) u).pending = s.pending := by
  unfold execMbxSend
  simp

@[simp] theorem execMbxTake_pending (who chan : Nat) (s : State) (u : State) : (landing (execMbxTake who chan s) u).pending = s.pending := by
  unfold execMbxTake
  simp

@[simp] theorem execMbxRcodeWrite_pending (who chan rcode : Nat) (s : State) (u : State) : (landing (execMbxRcodeWrite who chan rcode s) u).pending = s.pending := by
  unfold execMbxRcodeWrite
  simp

@[simp] theorem execMantleInputFilterChange_pending (input : Nat) (value : Bool) (s : State) (u : State) : (landing (execMantleInputFilterChange input value s) u).pending = s.pending := by
  unfold execMantleInputFilterChange
  simp

@[simp] theorem execMantleListenerFrame_pending (bus id : Nat) (fd : Bool) (bytes : List Byte) (s : State) (u : State) : (landing (execMantleListenerFrame bus id fd bytes s) u).pending = s.pending := by
  unfold execMantleListenerFrame
  simp

@[simp] theorem restrictNow_pending (s : State) : (restrictNow s).pending = s.pending := by
  unfold restrictNow
  simp

@[simp] theorem writeOutside_pending (high : Bool) (w : Word) (codingOk : Bool) (s : State) : (writeOutside high w codingOk s).pending = s.pending := by
  unfold writeOutside
  simp

@[simp] theorem execMntTvecSet_pending (high : Bool) (w : Word) (codingOk : Bool) (s : State) (u : State) : (landing (execMntTvecSet high w codingOk s) u).pending = s.pending := by
  unfold execMntTvecSet
  simp

@[simp] theorem execMntHeartbeat_pending (w : Word) (s : State) (u : State) : (landing (execMntHeartbeat w s) u).pending = s.pending := by
  unfold execMntHeartbeat
  simp

@[simp] theorem execMantleTableLoad_pending (bytes : List Byte) (s : State) (u : State) : (landing (execMantleTableLoad bytes s) u).pending = s.pending := by
  unfold execMantleTableLoad
  simp

@[simp] theorem execMantleSelfCheckFail_pending (listener : Bool) (s : State) (u : State) : (landing (execMantleSelfCheckFail listener s) u).pending = s.pending := by
  unfold execMantleSelfCheckFail
  simp

@[simp] theorem execMantleVcTiming_pending (s : State) (u : State) : (landing (execMantleVcTiming s) u).pending = s.pending := by
  unfold execMantleVcTiming
  simp

@[simp] theorem execMantleSupplyReset_pending (s : State) (u : State) : (landing (execMantleSupplyReset s) u).pending = s.pending := by
  unfold execMantleSupplyReset
  simp

@[simp] theorem execDatagramRx_pending (portB plain : Bool) (srcIp : Word) (srcPort : Nat) (dstIp : Word) (dstPort arr : Nat) (bytes : List Byte) (s : State) (u : State) : (landing (execDatagramRx portB plain srcIp srcPort dstIp dstPort arr bytes s) u).pending = s.pending := by
  unfold execDatagramRx
  simp

@[simp] theorem execAbWindowExpiry_pending (cnum : Nat) (s : State) (u : State) : (landing (execAbWindowExpiry cnum s) u).pending = s.pending := by
  unfold execAbWindowExpiry
  simp

@[simp] theorem execSeqBaseDrop_pending (cnum : Nat) (s : State) (u : State) : (landing (execSeqBaseDrop cnum s) u).pending = s.pending := by
  unfold execSeqBaseDrop
  simp

@[simp] theorem execConnectionStale_pending (cnum : Nat) (s : State) (u : State) : (landing (execConnectionStale cnum s) u).pending = s.pending := by
  unfold execConnectionStale
  simp

@[simp] theorem execPhyLinkChange_pending (portB up : Bool) (s : State) (u : State) : (landing (execPhyLinkChange portB up s) u).pending = s.pending := by
  unfold execPhyLinkChange
  simp

@[simp] theorem execNetworkStateStart_pending (s : State) (u : State) : (landing (execNetworkStateStart s) u).pending = s.pending := by
  unfold execNetworkStateStart
  simp

@[simp] theorem execNetworkLost_pending (portB : Bool) (s : State) (u : State) : (landing (execNetworkLost portB s) u).pending = s.pending := by
  unfold execNetworkLost
  simp

@[simp] theorem execNetworkRestored_pending (portB : Bool) (s : State) (u : State) : (landing (execNetworkRestored portB s) u).pending = s.pending := by
  unfold execNetworkRestored
  simp

@[simp] theorem execNetsSilent_pending (s : State) (u : State) : (landing (execNetsSilent s) u).pending = s.pending := by
  unfold execNetsSilent
  simp

@[simp] theorem execNetsSilentLimit_pending (s : State) (u : State) : (landing (execNetsSilentLimit s) u).pending = s.pending := by
  unfold execNetsSilentLimit
  simp

@[simp] theorem execSniTxcReady_pending (slot cnum : Nat) (bytes : List Byte) (s : State) (u : State) : (landing (execSniTxcReady slot cnum bytes s) u).pending = s.pending := by
  unfold execSniTxcReady
  simp

@[simp] theorem execSniLock_pending (w : Word) (s : State) (u : State) : (landing (execSniLock w s) u).pending = s.pending := by
  unfold execSniLock
  simp

@[simp] theorem execObsPsel_pending (k : Nat) (w : Word) (s : State) (u : State) : (landing (execObsPsel k w s) u).pending = s.pending := by
  unfold execObsPsel
  simp

@[simp] theorem execObsMark_pending (w : Word) (s : State) (u : State) : (landing (execObsMark w s) u).pending = s.pending := by
  unfold execObsMark
  simp

@[simp] theorem execObsTagctl_pending (w : Word) (s : State) (u : State) : (landing (execObsTagctl w s) u).pending = s.pending := by
  unfold execObsTagctl
  simp

@[simp] theorem execObsTagseed_pending (w : Word) (s : State) (u : State) : (landing (execObsTagseed w s) u).pending = s.pending := by
  unfold execObsTagseed
  simp

@[simp] theorem execInstructionTag_pending (pc : Word) (slotClass issueSlot fetchToIssue issueToRetire stall : Nat) (s : State) (u : State) : (landing (execInstructionTag pc slotClass issueSlot fetchToIssue issueToRetire stall s) u).pending = s.pending := by
  unfold execInstructionTag
  simp

@[simp] theorem execCounterWrap_pending (counter : Nat) (s : State) (u : State) : (landing (execCounterWrap counter s) u).pending = s.pending := by
  unfold execCounterWrap
  simp

@[simp] theorem execPclMctrlGo_pending (w : Word) (differ : List Nat) (s : State) (u : State) : (landing (execPclMctrlGo w differ s) u).pending = s.pending := by
  unfold execPclMctrlGo
  simp

@[simp] theorem execMirrorRx_pending (m : Machine.PairFrame) (s : State) (u : State) : (landing (execMirrorRx m s) u).pending = s.pending := by
  unfold execMirrorRx
  simp

@[simp] theorem execResponseRx_pending (r : Machine.PairFrame) (s : State) (u : State) : (landing (execResponseRx r s) u).pending = s.pending := by
  unfold execResponseRx
  simp

@[simp] theorem execBulkRx_pending (f : Machine.PairFrame) (s : State) (u : State) : (landing (execBulkRx f s) u).pending = s.pending := by
  unfold execBulkRx
  simp

@[simp] theorem execMirrorMissed_pending (s : State) (u : State) : (landing (execMirrorMissed s) u).pending = s.pending := by
  unfold execMirrorMissed
  simp

@[simp] theorem execPclSwap_pending (w : Word) (peerOk : Bool) (s : State) (u : State) : (landing (execPclSwap w peerOk s) u).pending = s.pending := by
  unfold execPclSwap
  simp

@[simp] theorem execSwapDue_pending (peerOk : Bool) (s : State) (u : State) : (landing (execSwapDue peerOk s) u).pending = s.pending := by
  unfold execSwapDue
  (repeat' split) <;> simp

@[simp] theorem execSwapRetry_pending (peerOk : Bool) (s : State) (u : State) : (landing (execSwapRetry peerOk s) u).pending = s.pending := by
  unfold execSwapRetry
  simp

@[simp] theorem execSorliaSwapRequest_pending (peerOk : Bool) (s : State) (u : State) : (landing (execSorliaSwapRequest peerOk s) u).pending = s.pending := by
  unfold execSorliaSwapRequest
  simp

@[simp] theorem execHandoverVc_pending (s : State) (u : State) : (landing (execHandoverVc s) u).pending = s.pending := by
  unfold execHandoverVc
  simp

@[simp] theorem execSwapConfirmCheck_pending (s : State) (u : State) : (landing (execSwapConfirmCheck s) u).pending = s.pending := by
  unfold execSwapConfirmCheck
  simp

@[simp] theorem execSwitchoverTrigger_pending (s : State) (u : State) : (landing (execSwitchoverTrigger s) u).pending = s.pending := by
  unfold execSwitchoverTrigger
  simp

@[simp] theorem execTakeoverActive_pending (s : State) (u : State) : (landing (execTakeoverActive s) u).pending = s.pending := by
  unfold execTakeoverActive
  simp

@[simp] theorem execJoinTimeout_pending (s : State) (u : State) : (landing (execJoinTimeout s) u).pending = s.pending := by
  unfold execJoinTimeout
  simp

@[simp] theorem execTimingMarkerRx_pending (peer : Bool) (frm : Nat) (phase : Int) (s : State) (u : State) : (landing (execTimingMarkerRx peer frm phase s) u).pending = s.pending := by
  unfold execTimingMarkerRx
  simp

@[simp] theorem execPclCtx_pending (w : Word) (s : State) (u : State) : (landing (execPclCtx w s) u).pending = s.pending := by
  unfold execPclCtx
  simp

@[simp] theorem execCascadeFrameRx_pending (f : Machine.CascFrame) (s : State) (u : State) : (landing (execCascadeFrameRx f s) u).pending = s.pending := by
  unfold execCascadeFrameRx
  simp

@[simp] theorem execPclEpoch_pending (w : Word) (s : State) (u : State) : (landing (execPclEpoch w s) u).pending = s.pending := by
  unfold execPclEpoch
  simp

@[simp] theorem execPclLock_pending (w : Word) (s : State) (u : State) : (landing (execPclLock w s) u).pending = s.pending := by
  unfold execPclLock
  simp

@[simp] theorem execLogicSupplyValid_pending (s : State) (u : State) : (landing (execLogicSupplyValid s) u).pending = s.pending := by
  unfold execLogicSupplyValid
  simp

@[simp] theorem execLogicSupplyPowerDown_pending (s : State) (u : State) : (landing (execLogicSupplyPowerDown s) u).pending = s.pending := by
  unfold execLogicSupplyPowerDown
  simp

@[simp] theorem execLogicSupplyOutOfRange_pending (high : Bool) (s : State) (u : State) : (landing (execLogicSupplyOutOfRange high s) u).pending = s.pending := by
  unfold execLogicSupplyOutOfRange
  simp

@[simp] theorem execRefClockLost_pending (s : State) (u : State) : (landing (execRefClockLost s) u).pending = s.pending := by
  unfold execRefClockLost
  simp

@[simp] theorem execSelftestComplete_pending (sigs : List (Nat × BitVec 64)) (compared : Bool) (index : Nat) (s : State) (u : State) : (landing (execSelftestComplete sigs compared index s) u).pending = s.pending := by
  unfold execSelftestComplete
  simp

@[simp] theorem execBootComplete_pending (selRead othRead : Bool) (s : State) (u : State) : (landing (execBootComplete selRead othRead s) u).pending = s.pending := by
  unfold execBootComplete
  simp

@[simp] theorem execConfigCheckComplete_pending (s : State) (u : State) : (landing (execConfigCheckComplete s) u).pending = s.pending := by
  unfold execConfigCheckComplete
  simp

@[simp] theorem execResetButtonRelease_pending (heldMs : Nat) (s : State) (u : State) : (landing (execResetButtonRelease heldMs s) u).pending = s.pending := by
  unfold execResetButtonRelease
  simp

@[simp] theorem execResetButtonFault_pending (s : State) (u : State) : (landing (execResetButtonFault s) u).pending = s.pending := by
  unfold execResetButtonFault
  simp

@[simp] theorem execResetButtonFaultCleared_pending (s : State) (u : State) : (landing (execResetButtonFaultCleared s) u).pending = s.pending := by
  unfold execResetButtonFaultCleared
  simp

@[simp] theorem execSysSafeReq_pending (w : Word) (s : State) (u : State) : (landing (execSysSafeReq w s) u).pending = s.pending := by
  unfold execSysSafeReq
  simp

@[simp] theorem execProcessorHeartbeatTimeout_pending (sp : Bool) (s : State) (u : State) : (landing (execProcessorHeartbeatTimeout sp s) u).pending = s.pending := by
  unfold execProcessorHeartbeatTimeout
  simp

@[simp] theorem execProcessorReloadDone_pending (sp ok : Bool) (s : State) (u : State) : (landing (execProcessorReloadDone sp ok s) u).pending = s.pending := by
  unfold execProcessorReloadDone
  simp

@[simp] theorem execFirewallViolation_pending (sp : Bool) (_addr : Nat) (s : State) (u : State) : (landing (execFirewallViolation sp _addr s) u).pending = s.pending := by
  unfold execFirewallViolation
  simp

@[simp] theorem execUnmappedAccess_pending (write : Bool) (_addr : Nat) (s : State) (u : State) : (landing (execUnmappedAccess write _addr s) u).pending = s.pending := by
  unfold execUnmappedAccess
  simp

@[simp] theorem execSlotCodeChange_pending (code : Nat) (s : State) (u : State) : (landing (execSlotCodeChange code s) u).pending = s.pending := by
  unfold execSlotCodeChange
  simp

@[simp] theorem execBlockSelfCheckFail_pending (block : Block) (n : Nat) (s : State) (u : State) : (landing (execBlockSelfCheckFail block n s) u).pending = s.pending := by
  unfold execBlockSelfCheckFail
  simp

@[simp] theorem execLedAmberEnd_pending (s : State) (u : State) : (landing (execLedAmberEnd s) u).pending = s.pending := by
  unfold execLedAmberEnd
  simp

@[simp] theorem execPdsTrack_pending (m : Nat) (w : Word) (s : State) (u : State) : (landing (execPdsTrack m w s) u).pending = s.pending := by
  unfold execPdsTrack
  simp

@[simp] theorem execPdsSlotc_pending (slot : Nat) (w : Word) (s : State) (u : State) : (landing (execPdsSlotc slot w s) u).pending = s.pending := by
  unfold execPdsSlotc
  simp

@[simp] theorem execPdsBslotc_pending (slot : Nat) (w : Word) (s : State) (u : State) : (landing (execPdsBslotc slot w s) u).pending = s.pending := by
  unfold execPdsBslotc
  simp

@[simp] theorem execPdsBin_pending (edge : Nat) (w : Word) (s : State) (u : State) : (landing (execPdsBin edge w s) u).pending = s.pending := by
  unfold execPdsBin
  simp

@[simp] theorem execPdsConfLock_pending (w : Word) (s : State) (u : State) : (landing (execPdsConfLock w s) u).pending = s.pending := by
  unfold execPdsConfLock
  simp

@[simp] theorem execLeafLost_pending (leaf : Nat) (s : State) (u : State) : (landing (execLeafLost leaf s) u).pending = s.pending := by
  unfold execLeafLost
  simp

@[simp] theorem freeBytes_pending (n : Nat) (s : State) : (freeBytes n s).2.pending = s.pending := by
  unfold freeBytes
  simp

@[simp] theorem execSorliaChallenge_pending (head : SorliaHead) (s : State) (u : State) : (landing (execSorliaChallenge head s) u).pending = s.pending := by
  unfold execSorliaChallenge
  simp

@[simp] theorem execSorliaAuthenticate_pending (head : SorliaHead) (key : Nat) (body : AuthBody) (s : State) (u : State) : (landing (execSorliaAuthenticate head key body s) u).pending = s.pending := by
  unfold execSorliaAuthenticate
  simp

@[simp] theorem execSorliaLock_pending (head : SorliaHead) (s : State) (u : State) : (landing (execSorliaLock head s) u).pending = s.pending := by
  unfold execSorliaLock
  rw [landing_next]
  refine served_pending _ _ _ fun t => ?_
  dsimp only
  (repeat' split) <;> simp

@[simp] theorem execSorliaPrepare_pending (head : SorliaHead) (manifest : List Byte) (s : State) (u : State) : (landing (execSorliaPrepare head manifest s) u).pending = s.pending := by
  unfold execSorliaPrepare
  simp

@[simp] theorem execSorliaBlock_pending (head : SorliaHead) (block : Nat) (data : List Byte) (readbackOk : Bool) (s : State) (u : State) : (landing (execSorliaBlock head block data readbackOk s) u).pending = s.pending := by
  unfold execSorliaBlock
  simp

@[simp] theorem execSorliaVerify_pending (head : SorliaHead) (readOk programOk : Bool) (s : State) (u : State) : (landing (execSorliaVerify head readOk programOk s) u).pending = s.pending := by
  unfold execSorliaVerify
  simp

@[simp] theorem execSorliaActivate_pending (head : SorliaHead) (s : State) (u : State) : (landing (execSorliaActivate head s) u).pending = s.pending := by
  unfold execSorliaActivate
  simp

@[simp] theorem releaseLock_pending (s : State) : (releaseLock s).pending = s.pending := by
  unfold releaseLock
  simp

@[simp] theorem execSorliaRelease_pending (head : SorliaHead) (s : State) (u : State) : (landing (execSorliaRelease head s) u).pending = s.pending := by
  unfold execSorliaRelease
  simp

@[simp] theorem attest_pending (nonce : List Byte) (s : State) : (attest nonce s).pending = s.pending := by
  unfold attest
  simp

@[simp] theorem execSorliaAttest_pending (head : SorliaHead) (nonce : List Byte) (s : State) (u : State) : (landing (execSorliaAttest head nonce s) u).pending = s.pending := by
  unfold execSorliaAttest
  simp

@[simp] theorem execSorliaKeyEnrol_pending (head : SorliaHead) (request : KeyRequest) (signer : Option Nat) (programOk : Bool) (s : State) (u : State) : (landing (execSorliaKeyEnrol head request signer programOk s) u).pending = s.pending := by
  unfold execSorliaKeyEnrol
  simp

@[simp] theorem execSorliaJournalClear_pending (head : SorliaHead) (s : State) (u : State) : (landing (execSorliaJournalClear head s) u).pending = s.pending := by
  unfold execSorliaJournalClear
  simp

@[simp] theorem execSorliaSessionEnd_pending (session : Nat) (s : State) (u : State) : (landing (execSorliaSessionEnd session s) u).pending = s.pending := by
  unfold execSorliaSessionEnd
  simp

@[simp] theorem execUpdateLockTimeout_pending (s : State) (u : State) : (landing (execUpdateLockTimeout s) u).pending = s.pending := by
  unfold execUpdateLockTimeout
  (repeat' split) <;> simp

@[simp] theorem suiOp_pending (key : Nat) (act : State → State) (s : State) (hf : ∀ u, (act u).pending = u.pending) : (suiOp key act s).pending = s.pending := by
  unfold suiOp
  simp [hf]

@[simp] theorem execSuiPrepare_pending (key : Nat) (s : State) (u : State) : (landing (execSuiPrepare key s) u).pending = s.pending := by
  unfold execSuiPrepare
  simp

@[simp] theorem execSuiBlock_pending (key block : Nat) (data : List Byte) (readbackOk : Bool) (s : State) (u : State) : (landing (execSuiBlock key block data readbackOk s) u).pending = s.pending := by
  unfold execSuiBlock
  simp

@[simp] theorem execSuiVerify_pending (key : Nat) (readOk programOk : Bool) (s : State) (u : State) : (landing (execSuiVerify key readOk programOk s) u).pending = s.pending := by
  unfold execSuiVerify
  simp

@[simp] theorem execSuiActivate_pending (key : Nat) (s : State) (u : State) : (landing (execSuiActivate key s) u).pending = s.pending := by
  unfold execSuiActivate
  simp

@[simp] theorem execSuiConfirm_pending (key : Nat) (s : State) (u : State) : (landing (execSuiConfirm key s) u).pending = s.pending := by
  unfold execSuiConfirm
  simp

@[simp] theorem execSuiRevert_pending (key : Nat) (s : State) (u : State) : (landing (execSuiRevert key s) u).pending = s.pending := by
  unfold execSuiRevert
  rw [landing_next]
  refine suiOp_pending (hf := fun u => ?_) ..
  split <;> simp

@[simp] theorem execSuiAttest_pending (key : Nat) (nonce : List Byte) (s : State) (u : State) : (landing (execSuiAttest key nonce s) u).pending = s.pending := by
  unfold execSuiAttest
  simp

@[simp] theorem execSuiReverifyStep_pending (key : Nat) (readOk : Bool) (s : State) (u : State) : (landing (execSuiReverifyStep key readOk s) u).pending = s.pending := by
  unfold execSuiReverifyStep
  simp

@[simp] theorem execSuiRefreshStep_pending (key done : Nat) (s : State) (u : State) : (landing (execSuiRefreshStep key done s) u).pending = s.pending := by
  unfold execSuiRefreshStep
  simp

@[simp] theorem execSuiEnrol_pending (key : Nat) (request : KeyRequest) (signer : Option Nat) (programOk : Bool) (s : State) (u : State) : (landing (execSuiEnrol key request signer programOk s) u).pending = s.pending := by
  unfold execSuiEnrol
  simp

@[simp] theorem execSuiRelease_pending (key : Nat) (s : State) (u : State) : (landing (execSuiRelease key s) u).pending = s.pending := by
  unfold execSuiRelease
  simp

@[simp] theorem execSuiOpComplete_pending (ok : Bool) (s : State) (u : State) : (landing (execSuiOpComplete ok s) u).pending = s.pending := by
  unfold execSuiOpComplete
  simp

@[simp] theorem execSelectorWriteDone_pending (s : State) (u : State) : (landing (execSelectorWriteDone s) u).pending = s.pending := by
  unfold execSelectorWriteDone
  simp

@[simp] theorem execTrialDeadline_pending (s : State) (u : State) : (landing (execTrialDeadline s) u).pending = s.pending := by
  unfold execTrialDeadline
  (repeat' split) <;> simp

@[simp] theorem execReverifyDue_pending (s : State) (u : State) : (landing (execReverifyDue s) u).pending = s.pending := by
  unfold execReverifyDue
  (repeat' split) <;> simp

@[simp] theorem execRefreshDue_pending (s : State) (u : State) : (landing (execRefreshDue s) u).pending = s.pending := by
  unfold execRefreshDue
  (repeat' split) <;> simp

@[simp] theorem execSorliaMaintenanceRequest_pending (s : State) (u : State) : (landing (execSorliaMaintenanceRequest s) u).pending = s.pending := by
  unfold execSorliaMaintenanceRequest
  (repeat' split) <;> simp

@[simp] theorem execSorliaRestartRequest_pending (s : State) (u : State) : (landing (execSorliaRestartRequest s) u).pending = s.pending := by
  unfold execSorliaRestartRequest
  (repeat' split) <;> simp

@[simp] theorem blockNote_pending (b : RegBlock) (u : Nat) (s : State) : (blockNote b u s).pending = s.pending := by
  unfold blockNote
  (repeat' split) <;> simp

@[simp] theorem accessNote_pending (r : RegAt) (s : State) : (accessNote r s).pending = s.pending := by
  unfold accessNote
  (repeat' split) <;> simp

@[simp] theorem readOnlyWrite_pending (r : RegAt) (s : State) : (readOnlyWrite r s).pending = s.pending := by
  unfold readOnlyWrite
  simp

@[simp] theorem plainWrite_pending (a : Nat) (r : RegAt) (w : Word) (s : State) : (plainWrite a r w s).pending = s.pending := by
  unfold plainWrite
  simp

@[simp] theorem tagLoad_pending (t : Nat) (w : Word) (s : State) : (tagLoad t w s).pending = s.pending := by
  unfold tagLoad
  try dsimp only
  (repeat' split) <;> simp

@[simp] theorem tseqLoad_pending (t : Nat) (w : Word) (s : State) : (tseqLoad t w s).pending = s.pending := by
  unfold tseqLoad
  simp

@[simp] theorem countLoad_pending (lo i : Nat) (w : Word) (s : State) : (countLoad lo i w s).pending = s.pending := by
  unfold countLoad
  simp

@[simp] theorem loadingWrite_pending (a : Nat) (r : RegAt) (w : Word) (s : State) : (loadingWrite a r w s).pending = s.pending := by
  unfold loadingWrite
  simp

@[simp] theorem vauWrite_pending (lo : Nat) (w : Word) (s : State) : ((vauWrite lo w s).getD s).pending = s.pending := by
  unfold vauWrite
  try dsimp only
  (repeat' split) <;> simp

@[simp] theorem mntWrite_pending (lo : Nat) (w : Word) (s : State) : ((mntWrite lo w s).getD s).pending = s.pending := by
  unfold mntWrite
  (repeat' split) <;> simp

@[simp] theorem iteWrite_pending (lo : Nat) (w : Word) (s : State) : ((iteWrite lo w s).getD s).pending = s.pending := by
  unfold iteWrite
  (repeat' split) <;> simp

@[simp] theorem crdRegWrite_pending (lo : Nat) (w : Word) (s : State) : ((crdRegWrite lo w s).getD s).pending = s.pending := by
  unfold crdRegWrite
  (repeat' split) <;> simp

@[simp] theorem pdsWrite_pending (lo i : Nat) (w : Word) (s : State) : ((pdsWrite lo i w s).getD s).pending = s.pending := by
  unfold pdsWrite
  (repeat' split) <;> simp

@[simp] theorem dsuWrite_pending (lo i : Nat) (w : Word) (s : State) : ((dsuWrite lo i w s).getD s).pending = s.pending := by
  unfold dsuWrite
  (repeat' split) <;> simp

@[simp] theorem dbcWrite_pending (lo i b : Nat) (w : Word) (s : State) : ((dbcWrite lo i b w s).getD s).pending = s.pending := by
  unfold dbcWrite
  (repeat' split) <;> simp

@[simp] theorem txbufWrite_pending (k : Nat) (w : Word) (s : State) : (txbufWrite k w s).pending = s.pending := by
  unfold txbufWrite
  simp

@[simp] theorem txcWrite_pending (m : Nat) (w : Word) (s : State) : (txcWrite m w s).pending = s.pending := by
  unfold txcWrite
  simp

@[simp] theorem sniWrite_pending (lo i : Nat) (w : Word) (s : State) : ((sniWrite lo i w s).getD s).pending = s.pending := by
  unfold sniWrite
  (repeat' split) <;> simp

@[simp] theorem cmdWrite_pending (lo i : Nat) (w : Word) (s : State) : ((cmdWrite lo i w s).getD s).pending = s.pending := by
  unfold cmdWrite
  (repeat' split) <;> simp

@[simp] theorem fioWrite_pending (lo : Nat) (w : Word) (s : State) : ((fioWrite lo w s).getD s).pending = s.pending := by
  unfold fioWrite
  (repeat' split) <;> simp

@[simp] theorem cvuCtrl_pending (n : Nat) (w : Word) (s : State) : (cvuCtrl n w s).pending = s.pending := by
  unfold cvuCtrl
  (repeat' split) <;> simp

@[simp] theorem cvuWrite_pending (lo n : Nat) (w : Word) (s : State) : ((cvuWrite lo n w s).getD s).pending = s.pending := by
  unfold cvuWrite
  (repeat' split) <;> simp

@[simp] theorem mbxWrite_pending (who lo i n : Nat) (w : Word) (s : State) : ((mbxWrite who lo i n w s).getD s).pending = s.pending := by
  unfold mbxWrite
  try dsimp only
  (repeat' split) <;> simp

@[simp] theorem evrWrite_pending (lo : Nat) (w : Word) (s : State) : ((evrWrite lo w s).getD s).pending = s.pending := by
  unfold evrWrite
  (repeat' split) <;> simp

@[simp] theorem jnlWrite_pending (w : Word) (s : State) : (jnlWrite w s).pending = s.pending := by
  unfold jnlWrite
  try dsimp only
  (repeat' split) <;> simp

@[simp] theorem pclWrite_pending (lo : Nat) (w : Word) (s : State) : ((pclWrite lo w s).getD s).pending = s.pending := by
  unfold pclWrite
  try dsimp only
  (repeat' split) <;> simp

@[simp] theorem suiWrite_pending (w : Word) (s : State) : (suiWrite w s).pending = s.pending := by
  unfold suiWrite
  try dsimp only
  (repeat' split) <;> simp

@[simp] theorem obsWrite_pending (lo i : Nat) (w : Word) (s : State) : ((obsWrite lo i w s).getD s).pending = s.pending := by
  unfold obsWrite
  (repeat' split) <;> simp

@[simp] theorem sysWrite_pending (lo : Nat) (w : Word) (s : State) : ((sysWrite lo w s).getD s).pending = s.pending := by
  unfold sysWrite
  (repeat' split) <;> simp

@[simp] theorem operationWrite_pending (r : RegAt) (w : Word) (s : State) : ((operationWrite r w s).getD s).pending = s.pending := by
  unfold operationWrite
  try dsimp only
  (repeat' split) <;> simp

@[simp] theorem codeWrite_pending (a : Nat) (r : RegAt) (w : Word) (s : State) : (codeWrite a r w s).pending = s.pending := by
  unfold codeWrite
  (repeat' split) <;> simp

@[simp] theorem regWrite_pending (a : Nat) (r : RegAt) (w : Word) (s : State) : (regWrite a r w s).pending = s.pending := by
  unfold regWrite
  have h := operationWrite_pending r w s
  split <;> rename_i e
  · rw [e] at h
    exact h
  · simp

@[simp] theorem memWrite_pending (a width : Nat) (w : Word) (s : State) : (memWrite a width w s).pending = s.pending := by
  unfold memWrite
  simp

@[simp] theorem memRead_pending (a width : Nat) (s : State) : (memRead a width s).pending = s.pending := by
  unfold memRead
  simp

@[simp] theorem accessWrite_pending (a width : Nat) (w : Word) (s : State) : (accessWrite a width w s).pending = s.pending := by
  unfold accessWrite
  (repeat' split) <;> simp

@[simp] theorem monitorFresh_pending (s : State) : (monitorFresh s).pending = s.pending := by
  unfold monitorFresh
  simp

@[simp] theorem readValue_pending (a : Nat) (r : RegAt) (s : State) : (readValue a r s).2.pending = s.pending := by
  unfold readValue
  try dsimp only
  (repeat' split) <;> simp

@[simp] theorem rxRead_pending (i n : Nat) (s : State) : (rxRead i n s).pending = s.pending := by
  unfold rxRead
  simp

@[simp] theorem mbxRead_pending (who a : Nat) (r : RegAt) (s : State) : (mbxRead who a r s).pending = s.pending := by
  unfold mbxRead
  dsimp only
  (repeat' split) <;> simp

@[simp] theorem regRead_pending (a : Nat) (r : RegAt) (s : State) : (regRead a r s).pending = s.pending := by
  unfold regRead
  try dsimp only
  (repeat' split) <;> simp

@[simp] theorem accessRead_pending (a width : Nat) (s : State) : (accessRead a width s).pending = s.pending := by
  unfold accessRead
  (repeat' split) <;> simp

@[simp] theorem procWrite_pending (who a width : Nat) (w : Word) (s : State) : (procWrite who a width w s).pending = s.pending := by
  unfold procWrite
  (repeat' split) <;> simp

@[simp] theorem procRead_pending (who a width : Nat) (s : State) : (procRead who a width s).pending = s.pending := by
  unfold procRead
  (repeat' split) <;> simp

@[simp] theorem debugRead_pending (k a width : Nat) (s : State) : (debugRead k a width s).pending = s.pending := by
  unfold debugRead
  (repeat' split) <;> simp

@[simp] theorem agentWrite_pending (who a width : Nat) (w : Word) (s : State) : (agentWrite who a width w s).pending = s.pending := by
  unfold agentWrite
  simp

@[simp] theorem agentRead_pending (who a width : Nat) (s : State) : (agentRead who a width s).pending = s.pending := by
  unfold agentRead
  simp

@[simp] theorem execRegisterWrite_pending (at_ : BusAddr) (width : Nat) (w : Word) (s : State) (u : State) : (landing (execRegisterWrite at_ width w s) u).pending = s.pending := by
  unfold execRegisterWrite
  simp

@[simp] theorem execRegisterRead_pending (at_ : BusAddr) (width : Nat) (s : State) (u : State) : (landing (execRegisterRead at_ width s) u).pending = s.pending := by
  unfold execRegisterRead
  simp

@[simp] theorem execRouteWaitTimeout_pending (ses : Nat) (s : State) (u : State) : (landing (execRouteWaitTimeout ses s) u).pending = s.pending := by
  unfold execRouteWaitTimeout
  simp

@[simp] theorem execLendTimeout_pending (ses : Nat) (s : State) (u : State) : (landing (execLendTimeout ses s) u).pending = s.pending := by
  unfold execLendTimeout
  simp

@[simp] theorem execSetTimeout_pending (ses : Nat) (s : State) (u : State) : (landing (execSetTimeout ses s) u).pending = s.pending := by
  unfold execSetTimeout
  simp

@[simp] theorem execThrowTimeout_pending (ses : Nat) (s : State) (u : State) : (landing (execThrowTimeout ses s) u).pending = s.pending := by
  unfold execThrowTimeout
  simp

@[simp] theorem execSignalStopTimeout_pending (ses : Nat) (s : State) (u : State) : (landing (execSignalStopTimeout ses s) u).pending = s.pending := by
  unfold execSignalStopTimeout
  simp

@[simp] theorem execTokenTimerExpire_pending (elem : Nat) (s : State) (u : State) : (landing (execTokenTimerExpire elem s) u).pending = s.pending := by
  unfold execTokenTimerExpire
  simp

@[simp] theorem issue_pending (t : Txn) (s : State) : (issue t s).pending = s.pending := by
  unfold issue
  (repeat' split) <;> simp

@[simp] theorem gatherCopies_pending (w0 w1 w2 : List QWrite) (s : State) : (gatherCopies w0 w1 w2 s).pending = s.pending := by
  unfold gatherCopies
  simp

@[simp] theorem decideTxn_pending (n : Nat) (b : Bool) (s : State) : (decideTxn n b s).pending = s.pending := by
  unfold decideTxn
  have h : (alignHwm n (copiesUsed (voteTxn s).1)).pending = s.pending := by simp
  split
  · simp
  · dsimp only
    split
    · rw [issue_pending]
      exact h
    · exact h

@[simp] theorem execVotedTransaction_pending (w0 w1 w2 : List QWrite) (spread : Nat) (checkerA checkerB : Bool) (s : State) (u : State) : (landing (execVotedTransaction w0 w1 w2 spread checkerA checkerB s) u).pending = s.pending := by
  unfold execVotedTransaction
  simp

@[simp] theorem execAlignWindowClose_pending (w0 w1 w2 : List QWrite) (spread : Nat) (s : State) (u : State) : (landing (execAlignWindowClose w0 w1 w2 spread s) u).pending = s.pending := by
  unfold execAlignWindowClose
  simp

@[simp] theorem execAlignQueueEntryLeaves_pending (region : Nat) (s : State) (u : State) : (landing (execAlignQueueEntryLeaves region s) u).pending = s.pending := by
  unfold execAlignQueueEntryLeaves
  simp

@[simp] theorem execVauSigCapture_pending (w : Word) (c0 c1 c2 : Option CoreCapture) (s : State) (u : State) : (landing (execVauSigCapture w c0 c1 c2 s) u).pending = s.pending := by
  unfold execVauSigCapture
  simp

@[simp] theorem execMemoryUncorrectable_pending (region : Nat) (s : State) (u : State) : (landing (execMemoryUncorrectable region s) u).pending = s.pending := by
  unfold execMemoryUncorrectable
  simp

@[simp] theorem execMemoryCorrected_pending (region : Nat) (s : State) (u : State) : (landing (execMemoryCorrected region s) u).pending = s.pending := by
  unfold execMemoryCorrected
  simp

@[simp] theorem execRegionOutOfTolerance_pending (s0 s1 s2 : RegionSample) (tick : Nat) (s : State) (u : State) : (landing (execRegionOutOfTolerance s0 s1 s2 tick s) u).pending = s.pending := by
  unfold execRegionOutOfTolerance
  simp

@[simp] theorem execVauSplitReq_pending (w : Word) (s : State) (u : State) : (landing (execVauSplitReq w s) u).pending = s.pending := by
  unfold execVauSplitReq
  simp

@[simp] theorem execSelftestDue_pending (region : Nat) (s : State) (u : State) : (landing (execSelftestDue region s) u).pending = s.pending := by
  unfold execSelftestDue
  simp

@[simp] theorem execSelftestOverdue_pending (region : Nat) (s : State) (u : State) : (landing (execSelftestOverdue region s) u).pending = s.pending := by
  unfold execSelftestOverdue
  simp

@[simp] theorem execRejoinSelftestDone_pending (passed : Bool) (s : State) (u : State) : (landing (execRejoinSelftestDone passed s) u).pending = s.pending := by
  unfold execRejoinSelftestDone
  simp

@[simp] theorem execDebugAttach_pending (region : Nat) (s : State) (u : State) : (landing (execDebugAttach region s) u).pending = s.pending := by
  unfold execDebugAttach
  simp

end Sys2Proof.Machine
end

