-- ==== Sys2Proof/Laws/SafeLatch.lean ====
section
/-!
SUPPORT. Every operation but a reset leaves the module in SAFE once it is there: one lemma per operation that the module state lemmas do not cover.
-/
namespace Sys2Proof.Machine
set_option linter.all false

@[simp] theorem ite_safe (c : Prop) [Decidable c] (a b : State) (ha : c → (a).sys.state = .safe) (hb : ¬ c → (b).sys.state = .safe) : ((if c then a else b)).sys.state = .safe := by
  split
  · exact ha ‹_›
  · exact hb ‹_›

@[simp] theorem foldl_safe {β : Type} (l : List β) (f : State → β → State) (s : State) (h : (s).sys.state = .safe) (hf : ∀ s b, (s).sys.state = .safe → ((f s b)).sys.state = .safe) :
    ((l.foldl f s)).sys.state = .safe := by
  induction l generalizing s with
  | nil => exact h
  | cons b l ih => exact ih _ (hf s b h)

theorem foldlFst_safe {α β : Type} (l : List β) (f : State × α → β → State × α) (p : State × α) (h : (p.1).sys.state = .safe)
    (hf : ∀ p b, (p.1).sys.state = .safe → ((f p b).1).sys.state = .safe) : ((l.foldl f p).1).sys.state = .safe := by
  induction l generalizing p with
  | nil => exact h
  | cons b l ih => exact ih _ (hf p b h)

@[simp] theorem landing_next' (s u : State) : landing (.next s) u = s := rfl

@[simp] theorem landing_ite' (c : Prop) [Decidable c] (a b : Host.Outcome State Fault Refusal) (u : State) :
    landing (if c then a else b) u = if c then landing a u else landing b u := by
  split <;> rfl

@[simp] theorem enterSafe_safe (code : Nat) (m : Bool) (s : State) : (enterSafe code m s).sys.state = .safe := by
  unfold enterSafe
  dsimp only
  split <;> simp

@[simp] theorem safeOn_safe (code : Nat) (mantle : Bool) (s : State) (h : (s).sys.state = .safe) : ((safeOn code mantle s)).sys.state = .safe := by
  unfold safeOn
  first | exact h | (simp (maxDischargeDepth := 9) [h]; done) | (simp_all (maxDischargeDepth := 9); done)

@[simp] theorem raiseSAt_safe (off code obj val : Nat) (s : State) (h : (s).sys.state = .safe) : ((raiseSAt off code obj val s)).sys.state = .safe := by
  unfold raiseSAt
  first | exact h | (simp (maxDischargeDepth := 9) [h]; done) | (simp_all (maxDischargeDepth := 9); done)

@[simp] theorem raiseS_safe (code obj val : Nat) (s : State) (h : (s).sys.state = .safe) : ((raiseS code obj val s)).sys.state = .safe := by
  unfold raiseS
  first | exact h | (simp (maxDischargeDepth := 9) [h]; done) | (simp_all (maxDischargeDepth := 9); done)

@[simp] theorem raiseAll_safe (codes : List Nat) (s : State) (h : (s).sys.state = .safe) : ((raiseAll codes s)).sys.state = .safe := by
  unfold raiseAll
  (repeat' split) <;> first | exact h | (simp (maxDischargeDepth := 9) [h]; done) | (simp_all (maxDischargeDepth := 9); done)

@[simp] theorem countCheck_safe (s : State) (h : (s).sys.state = .safe) : ((countCheck s)).sys.state = .safe := by
  unfold countCheck
  (repeat' split) <;> first | exact h | (simp (maxDischargeDepth := 9) [h]; done) | (simp_all (maxDischargeDepth := 9); done)

@[simp] theorem dsuStep_safe (s : State) (h : (s).sys.state = .safe) : ((dsuStep s)).sys.state = .safe := by
  unfold dsuStep
  first | exact h | (simp (maxDischargeDepth := 9) [h]; done) | (simp_all (maxDischargeDepth := 9); done)

@[simp] theorem refRx_safe (b ofs : Nat) (f : Frame) (s : State) (h : (s).sys.state = .safe) : ((refRx b ofs f s)).sys.state = .safe := by
  unfold refRx
  try dsimp only
  (repeat' split) <;> first | exact h | (simp (maxDischargeDepth := 9) [h]; done) | (simp_all (maxDischargeDepth := 9); done)

@[simp] theorem commit_safe (w0 w1 code : Word) (s : State) (h : (s).sys.state = .safe) : ((commit w0 w1 code s)).sys.state = .safe := by
  unfold commit
  first | exact h | (simp (maxDischargeDepth := 9) [h]; done) | (simp_all (maxDischargeDepth := 9); done)

@[simp] theorem writeCode_safe (code : Word) (s : State) (h : (s).sys.state = .safe) : ((writeCode code s)).sys.state = .safe := by
  unfold writeCode
  first | exact h | (simp (maxDischargeDepth := 9) [h]; done) | (simp_all (maxDischargeDepth := 9); done)

@[simp] theorem silentState_safe (s : State) (h : (s).sys.state = .safe) : ((silentState s)).sys.state = .safe := by
  unfold silentState
  first | exact h | (simp (maxDischargeDepth := 9) [h]; done) | (simp_all (maxDischargeDepth := 9); done)

@[simp] theorem fioStrobe_safe (rb : BitVec 48) (s : State) (h : (s).sys.state = .safe) : ((fioStrobe rb s)).sys.state = .safe := by
  unfold fioStrobe
  first | exact h | (simp (maxDischargeDepth := 9) [h]; done) | (simp_all (maxDischargeDepth := 9); done)

@[simp] theorem classify_safe (n result partner : Nat) (s : State) (h : (s).sys.state = .safe) : ((classify n result partner s)).sys.state = .safe := by
  unfold classify
  try dsimp only
  (repeat' split) <;> first | exact h | (simp (maxDischargeDepth := 9) [h]; done) | (simp_all (maxDischargeDepth := 9); done)

@[simp] theorem creditRecount_safe (s : State) (h : (s).sys.state = .safe) : ((creditRecount s)).sys.state = .safe := by
  unfold creditRecount
  first | exact h | (simp (maxDischargeDepth := 9) [h]; done) | (simp_all (maxDischargeDepth := 9); done)

@[simp] theorem postRefused_safe (tag : Nat) (s : State) (h : (s).sys.state = .safe) : ((postRefused tag s)).sys.state = .safe := by
  unfold postRefused
  first | exact h | (simp (maxDischargeDepth := 9) [h]; done) | (simp_all (maxDischargeDepth := 9); done)

@[simp] theorem postBytes_safe (r : List Byte) (s : State) (h : (s).sys.state = .safe) : ((postBytes r s)).sys.state = .safe := by
  unfold postBytes
  first | exact h | (simp (maxDischargeDepth := 9) [h]; done) | (simp_all (maxDischargeDepth := 9); done)

@[simp] theorem postReply_safe (tag ses status detail fault : Nat) (results : List Byte) (s : State) (h : (s).sys.state = .safe) : ((postReply tag ses status detail fault results s)).sys.state = .safe := by
  unfold postReply
  first | exact h | (simp (maxDischargeDepth := 9) [h]; done) | (simp_all (maxDischargeDepth := 9); done)

@[simp] theorem postIfActive_safe (tag ses status detail fault : Nat) (results : List Byte) (s : State) (h : (s).sys.state = .safe) : ((postIfActive tag ses status detail fault results s)).sys.state = .safe := by
  unfold postIfActive
  first | exact h | (simp (maxDischargeDepth := 9) [h]; done) | (simp_all (maxDischargeDepth := 9); done)

@[simp] theorem postAccepted_safe (tag ses : Nat) (s : State) (h : (s).sys.state = .safe) : ((postAccepted tag ses s)).sys.state = .safe := by
  unfold postAccepted
  first | exact h | (simp (maxDischargeDepth := 9) [h]; done) | (simp_all (maxDischargeDepth := 9); done)

theorem popHead_safe (s : State) (h : s.sys.state = .safe) : popHead s = none := by
  unfold popHead
  split <;> simp [h]

@[simp] theorem netLost_safe (portB : Bool) (s : State) (h : (s).sys.state = .safe) : ((netLost portB s)).sys.state = .safe := by
  unfold netLost
  first | exact h | (simp (maxDischargeDepth := 9) [h]; done) | (simp_all (maxDischargeDepth := 9); done)

@[simp] theorem netsTurn_safe (s : State) (h : (s).sys.state = .safe) : ((netsTurn s)).sys.state = .safe := by
  unfold netsTurn
  first | exact h | (simp (maxDischargeDepth := 9) [h]; done) | (simp_all (maxDischargeDepth := 9); done)

@[simp] theorem telegramChecks_safe (s : State) (h : (s).sys.state = .safe) : ((telegramChecks s)).sys.state = .safe := by
  unfold telegramChecks
  first | exact h | (simp (maxDischargeDepth := 9) [h]; done) | (simp_all (maxDischargeDepth := 9); done)

@[simp] theorem replyCreator_safe (n status detail fault : Nat) (results : List Byte) (s : State) (h : (s).sys.state = .safe) : ((replyCreator n status detail fault results s)).sys.state = .safe := by
  unfold replyCreator
  first | exact h | (simp (maxDischargeDepth := 9) [h]; done) | (simp_all (maxDischargeDepth := 9); done)

@[simp] theorem replyEnder_safe (n status fault : Nat) (s : State) (h : (s).sys.state = .safe) : ((replyEnder n status fault s)).sys.state = .safe := by
  unfold replyEnder
  (repeat' split) <;> first | exact h | (simp (maxDischargeDepth := 9) [h]; done) | (simp_all (maxDischargeDepth := 9); done)

@[simp] theorem refuseSes_safe (n : Nat) (locked : Bool) (index elem : Nat) (s : State) (h : s.sys.state = .safe) : (refuseSes n locked index elem s).sys.state = .safe := by
  simp (maxDischargeDepth := 9) [refuseSes, h]

@[simp] theorem refuseCond_safe (n listFirst : Nat) (s : State) (h : s.sys.state = .safe) : (refuseCond n listFirst s).sys.state = .safe := by
  simp (maxDischargeDepth := 9) [refuseCond, h]

@[simp] theorem routeTry_safe (n : Nat) (waits : Bool) (s : State) (h : (s).sys.state = .safe) : ((routeTry n waits s)).sys.state = .safe := by
  unfold routeTry
  first | exact h | (simp (maxDischargeDepth := 9) [h]; done) | (simp_all (maxDischargeDepth := 9); done)

@[simp] theorem routeCheck_safe (n : Nat) (s : State) (h : (s).sys.state = .safe) : ((routeCheck n s)).sys.state = .safe := by
  unfold routeCheck
  first | exact h | (simp (maxDischargeDepth := 9) [h]; done) | (simp_all (maxDischargeDepth := 9); done)

@[simp] theorem routeLendTimeout_safe (n : Nat) (s : State) (h : s.sys.state = .safe) : (routeLendTimeout n s).sys.state = .safe := by
  simp (maxDischargeDepth := 9) [routeLendTimeout, h]

@[simp] theorem routeLocking_safe (n : Nat) (s : State) (h : (s).sys.state = .safe) : ((routeLocking n s)).sys.state = .safe := by
  unfold routeLocking
  first | exact h | (simp (maxDischargeDepth := 9) [h]; done) | (simp_all (maxDischargeDepth := 9); done)

@[simp] theorem routeSetTimeout_safe (n : Nat) (s : State) (h : s.sys.state = .safe) : (routeSetTimeout n s).sys.state = .safe := by
  simp (maxDischargeDepth := 9) [routeSetTimeout, h]

@[simp] theorem routeClear_safe (n : Nat) (s : State) (h : (s).sys.state = .safe) : ((routeClear n s)).sys.state = .safe := by
  unfold routeClear
  first | exact h | (simp (maxDischargeDepth := 9) [h]; done) | (simp_all (maxDischargeDepth := 9); done)

@[simp] theorem routeProve_safe (n : Nat) (s : State) (h : (s).sys.state = .safe) : ((routeProve n s)).sys.state = .safe := by
  unfold routeProve
  first | exact h | (simp (maxDischargeDepth := 9) [h]; done) | (simp_all (maxDischargeDepth := 9); done)

@[simp] theorem routeReleased_safe (n : Nat) (s : State) (h : (s).sys.state = .safe) : ((routeReleased n s)).sys.state = .safe := by
  unfold routeReleased
  first | exact h | (simp (maxDischargeDepth := 9) [h]; done) | (simp_all (maxDischargeDepth := 9); done)

@[simp] theorem routeReleasing_safe (n : Nat) (s : State) (h : (s).sys.state = .safe) : ((routeReleasing n s)).sys.state = .safe := by
  unfold routeReleasing
  try dsimp only
  (repeat' split) <;> first | exact h | (simp (maxDischargeDepth := 9) [h]; done) | (simp_all (maxDischargeDepth := 9); done)

@[simp] theorem routeTurn_safe (n : Nat) (s : State) (h : (s).sys.state = .safe) : ((routeTurn n s)).sys.state = .safe := by
  unfold routeTurn
  try dsimp only
  (repeat' split) <;> first | exact h | (simp (maxDischargeDepth := 9) [h]; done) | (simp_all (maxDischargeDepth := 9); done)

@[simp] theorem throwOver_safe (n : Nat) (s : State) (h : s.sys.state = .safe) : (throwOver n s).sys.state = .safe := by
  simp (maxDischargeDepth := 9) [throwOver, h]

@[simp] theorem pointTurn_safe (n : Nat) (s : State) (h : s.sys.state = .safe) : (pointTurn n s).sys.state = .safe := by
  unfold pointTurn
  dsimp only
  (repeat' split) <;> simp (maxDischargeDepth := 9) [h]

@[simp] theorem requestEnded_safe (n : Nat) (s : State) (h : (s).sys.state = .safe) : ((requestEnded n s)).sys.state = .safe := by
  unfold requestEnded
  first | exact h | (simp (maxDischargeDepth := 9) [h]; done) | (simp_all (maxDischargeDepth := 9); done)

@[simp] theorem endRefused_safe (n tag : Nat) (s : State) (h : (s).sys.state = .safe) : ((endRefused n tag s)).sys.state = .safe := by
  unfold endRefused
  first | exact h | (simp (maxDischargeDepth := 9) [h]; done) | (simp_all (maxDischargeDepth := 9); done)

@[simp] theorem cancelRoute_safe (n t : Nat) (s : State) (h : s.sys.state = .safe) : (cancelRoute n t s).sys.state = .safe := by
  unfold cancelRoute
  dsimp only
  (repeat' split) <;> simp (maxDischargeDepth := 9) [h]

@[simp] theorem releaseTimed_safe (n tag : Nat) (s : State) (h : s.sys.state = .safe) : (releaseTimed n tag s).sys.state = .safe := by
  have h1 : (occupyFirst n s).sys.state = .safe := (occupyFirst_state n s).trans h
  unfold releaseTimed
  generalize occupyFirst n s = u at h1 ⊢
  dsimp only
  split
  all_goals first
    | (rw [timeAll_state]; exact requestEnded_safe _ _ (by rw [startEnd_state, note_state]; exact h1))
    | exact endRefused_safe _ _ _ h1

@[simp] theorem cancelPoint_safe (n t : Nat) (s : State) (h : s.sys.state = .safe) : (cancelPoint n t s).sys.state = .safe := by
  unfold cancelPoint
  split <;> simp (maxDischargeDepth := 9) [h]

@[simp] theorem dueLost_safe (s : State) (d : DoorDue) (h : (s).sys.state = .safe) : ((dueLost s d)).sys.state = .safe := by
  unfold dueLost
  (repeat' split) <;> first | exact h | (simp (maxDischargeDepth := 9) [h]; done) | (simp_all (maxDischargeDepth := 9); done)

@[simp] theorem resolveEdge_safe (s : State) (e : Nat) (h : (s).sys.state = .safe) : ((resolveEdge s e)).sys.state = .safe := by
  unfold resolveEdge
  (repeat' split) <;> first | exact h | (simp (maxDischargeDepth := 9) [h]; done) | (simp_all (maxDischargeDepth := 9); done)

@[simp] theorem resolveDue_safe (s : State) (h : (s).sys.state = .safe) : ((resolveDue s)).sys.state = .safe := by
  unfold resolveDue
  first | exact h | (simp (maxDischargeDepth := 9) [h]; done) | (simp_all (maxDischargeDepth := 9); done)

@[simp] theorem doorReleased_safe (n : Nat) (s : State) (h : s.sys.state = .safe) : (doorReleased n s).sys.state = .safe := by
  simp (maxDischargeDepth := 9) [doorReleased, h]

@[simp] theorem doorTry_safe (n : Nat) (waits : Bool) (s : State) (h : (s).sys.state = .safe) : ((doorTry n waits s)).sys.state = .safe := by
  unfold doorTry
  first | exact h | (simp (maxDischargeDepth := 9) [h]; done) | (simp_all (maxDischargeDepth := 9); done)

@[simp] theorem doorCheck_safe (n : Nat) (s : State) (h : (s).sys.state = .safe) : ((doorCheck n s)).sys.state = .safe := by
  unfold doorCheck
  first | exact h | (simp (maxDischargeDepth := 9) [h]; done) | (simp_all (maxDischargeDepth := 9); done)

@[simp] theorem doorWithdraw_safe (n : Nat) (s : State) (h : (s).sys.state = .safe) : ((doorWithdraw n s)).sys.state = .safe := by
  unfold doorWithdraw
  first | exact h | (simp (maxDischargeDepth := 9) [h]; done) | (simp_all (maxDischargeDepth := 9); done)

@[simp] theorem enableTimeout_safe (n : Nat) (s : State) (h : s.sys.state = .safe) : (enableTimeout n s).sys.state = .safe := by
  simp (maxDischargeDepth := 9) [enableTimeout, h]

@[simp] theorem doorTurn_safe (n : Nat) (s : State) (h : s.sys.state = .safe) : (doorTurn n s).sys.state = .safe := by
  unfold doorTurn
  dsimp only
  (repeat' split) <;> simp (maxDischargeDepth := 9) [h]

@[simp] theorem sesTurn_safe (s : State) (n : Nat) (h : s.sys.state = .safe) : (sesTurn s n).sys.state = .safe := by
  unfold sesTurn
  (repeat' split) <;> simp [h]

@[simp] theorem sequence_safe (s : State) (h : (s).sys.state = .safe) : ((sequence s)).sys.state = .safe := by
  unfold sequence
  first | exact h | (simp (maxDischargeDepth := 9) [h]; done) | (simp_all (maxDischargeDepth := 9); done)

@[simp] theorem endPend_safe (p : DoorPend) (status code : Nat) (results : List Byte) (s : State) (h : (s).sys.state = .safe) : ((endPend p status code results s)).sys.state = .safe := by
  unfold endPend
  first | exact h | (simp (maxDischargeDepth := 9) [h]; done) | (simp_all (maxDischargeDepth := 9); done)

@[simp] theorem endPends_safe (e kind status code : Nat) (results : List Byte) (s : State) (h : (s).sys.state = .safe) : ((endPends e kind status code results s)).sys.state = .safe := by
  unfold endPends
  first | exact h | (simp (maxDischargeDepth := 9) [h]; done) | (simp_all (maxDischargeDepth := 9); done)

@[simp] theorem edgeAccepted_safe (e : Nat) (s : State) (h : (s).sys.state = .safe) : ((edgeAccepted e s)).sys.state = .safe := by
  unfold edgeAccepted
  first | exact h | (simp (maxDischargeDepth := 9) [h]; done) | (simp_all (maxDischargeDepth := 9); done)

@[simp] theorem edgeRefused_safe (e code : Nat) (s : State) (h : (s).sys.state = .safe) : ((edgeRefused e code s)).sys.state = .safe := by
  unfold edgeRefused
  first | exact h | (simp (maxDischargeDepth := 9) [h]; done) | (simp_all (maxDischargeDepth := 9); done)

@[simp] theorem edgeStopped_safe (e code : Nat) (s : State) (h : (s).sys.state = .safe) : ((edgeStopped e code s)).sys.state = .safe := by
  unfold edgeStopped
  try dsimp only
  (repeat' split) <;> first | exact h | (simp (maxDischargeDepth := 9) [h]; done) | (simp_all (maxDischargeDepth := 9); done)

@[simp] theorem settleOne_safe (s : State) (v : DoorEvent) (h : (s).sys.state = .safe) : ((settleOne s v)).sys.state = .safe := by
  unfold settleOne
  try dsimp only
  (repeat' split) <;> first | exact h | (simp (maxDischargeDepth := 9) [h]; done) | (simp_all (maxDischargeDepth := 9); done)

@[simp] theorem restoresDone_safe (s : State) (h : (s).sys.state = .safe) : ((restoresDone s)).sys.state = .safe := by
  unfold restoresDone
  first | exact h | (simp (maxDischargeDepth := 9) [h]; done) | (simp_all (maxDischargeDepth := 9); done)

@[simp] theorem settleDoors_safe (s : State) (h : (s).sys.state = .safe) : ((settleDoors s)).sys.state = .safe := by
  unfold settleDoors
  first | exact h | (simp (maxDischargeDepth := 9) [h]; done) | (simp_all (maxDischargeDepth := 9); done)

@[simp] theorem finish_safe (p : Pkt) (status code : Nat) (results : List Byte) (s : State) (h : (s).sys.state = .safe) : ((finish p status code results s)).sys.state = .safe := by
  unfold finish
  first | exact h | (simp (maxDischargeDepth := 9) [h]; done) | (simp_all (maxDischargeDepth := 9); done)

@[simp] theorem complete_safe (p : Pkt) (results : List Byte) (s : State) (h : (s).sys.state = .safe) : ((complete p results s)).sys.state = .safe := by
  unfold complete
  first | exact h | (simp (maxDischargeDepth := 9) [h]; done) | (simp_all (maxDischargeDepth := 9); done)

@[simp] theorem refuse_safe (p : Pkt) (status code obj val : Nat) (s : State) (h : (s).sys.state = .safe) : ((refuse p status code obj val s)).sys.state = .safe := by
  unfold refuse
  first | exact h | (simp (maxDischargeDepth := 9) [h]; done) | (simp_all (maxDischargeDepth := 9); done)

@[simp] theorem badParam_safe (p : Pkt) (s : State) (h : (s).sys.state = .safe) : ((badParam p s)).sys.state = .safe := by
  unfold badParam
  first | exact h | (simp (maxDischargeDepth := 9) [h]; done) | (simp_all (maxDischargeDepth := 9); done)

@[simp] theorem badSes_safe (p : Pkt) (s : State) (h : (s).sys.state = .safe) : ((badSes p s)).sys.state = .safe := by
  unfold badSes
  first | exact h | (simp (maxDischargeDepth := 9) [h]; done) | (simp_all (maxDischargeDepth := 9); done)

@[simp] theorem noRight_safe (p : Pkt) (s : State) (h : (s).sys.state = .safe) : ((noRight p s)).sys.state = .safe := by
  unfold noRight
  first | exact h | (simp (maxDischargeDepth := 9) [h]; done) | (simp_all (maxDischargeDepth := 9); done)

@[simp] theorem createSes_safe (p : Pkt) (kind : SesKind) (obj target : Nat) (descr : Word) (s : State) (h : (s).sys.state = .safe) : ((createSes p kind obj target descr s)).sys.state = .safe := by
  unfold createSes
  (repeat' split) <;> first | exact h | (simp (maxDischargeDepth := 9) [h]; done) | (simp_all (maxDischargeDepth := 9); done)

@[simp] theorem applyRouteRequest_safe (p : Pkt) (s : State) (h : (s).sys.state = .safe) : ((applyRouteRequest p s)).sys.state = .safe := by
  unfold applyRouteRequest
  first | exact h | (simp (maxDischargeDepth := 9) [h]; done) | (simp_all (maxDischargeDepth := 9); done)

@[simp] theorem applyRouteCancel_safe (p : Pkt) (s : State) (h : s.sys.state = .safe) : (applyRouteCancel p s).sys.state = .safe := by
  unfold applyRouteCancel
  (repeat' split) <;> simp (maxDischargeDepth := 9) [h]

@[simp] theorem applyReleaseTimed_safe (p : Pkt) (s : State) (h : (s).sys.state = .safe) : ((applyReleaseTimed p s)).sys.state = .safe := by
  unfold applyReleaseTimed
  first | exact h | (simp (maxDischargeDepth := 9) [h]; done) | (simp_all (maxDischargeDepth := 9); done)

@[simp] theorem applyPointMove_safe (p : Pkt) (s : State) (h : (s).sys.state = .safe) : ((applyPointMove p s)).sys.state = .safe := by
  unfold applyPointMove
  first | exact h | (simp (maxDischargeDepth := 9) [h]; done) | (simp_all (maxDischargeDepth := 9); done)

@[simp] theorem applyBlock_safe (p : Pkt) (s : State) (h : (s).sys.state = .safe) : ((applyBlock p s)).sys.state = .safe := by
  unfold applyBlock
  first | exact h | (simp (maxDischargeDepth := 9) [h]; done) | (simp_all (maxDischargeDepth := 9); done)

@[simp] theorem applyUnblock_safe (p : Pkt) (s : State) (h : (s).sys.state = .safe) : ((applyUnblock p s)).sys.state = .safe := by
  unfold applyUnblock
  first | exact h | (simp (maxDischargeDepth := 9) [h]; done) | (simp_all (maxDischargeDepth := 9); done)

@[simp] theorem applyForceStop_safe (p : Pkt) (s : State) (h : (s).sys.state = .safe) : ((applyForceStop p s)).sys.state = .safe := by
  unfold applyForceStop
  first | exact h | (simp (maxDischargeDepth := 9) [h]; done) | (simp_all (maxDischargeDepth := 9); done)

@[simp] theorem applyDoorEnable_safe (p : Pkt) (s : State) (h : (s).sys.state = .safe) : ((applyDoorEnable p s)).sys.state = .safe := by
  unfold applyDoorEnable
  first | exact h | (simp (maxDischargeDepth := 9) [h]; done) | (simp_all (maxDischargeDepth := 9); done)

@[simp] theorem applyDoorOpen_safe (p : Pkt) (s : State) (h : (s).sys.state = .safe) : ((applyDoorOpen p s)).sys.state = .safe := by
  unfold applyDoorOpen
  first | exact h | (simp (maxDischargeDepth := 9) [h]; done) | (simp_all (maxDischargeDepth := 9); done)

@[simp] theorem applyDoorClose_safe (p : Pkt) (s : State) (h : (s).sys.state = .safe) : ((applyDoorClose p s)).sys.state = .safe := by
  unfold applyDoorClose
  first | exact h | (simp (maxDischargeDepth := 9) [h]; done) | (simp_all (maxDischargeDepth := 9); done)

@[simp] theorem applyRestore_safe (p : Pkt) (s : State) (h : (s).sys.state = .safe) : ((applyRestore p s)).sys.state = .safe := by
  unfold applyRestore
  first | exact h | (simp (maxDischargeDepth := 9) [h]; done) | (simp_all (maxDischargeDepth := 9); done)

@[simp] theorem applyClose_safe (p : Pkt) (s : State) (h : (s).sys.state = .safe) : ((applyClose p s)).sys.state = .safe := by
  unfold applyClose
  first | exact h | (simp (maxDischargeDepth := 9) [h]; done) | (simp_all (maxDischargeDepth := 9); done)

@[simp] theorem applyWithdraw_safe (p : Pkt) (s : State) (h : (s).sys.state = .safe) : ((applyWithdraw p s)).sys.state = .safe := by
  unfold applyWithdraw
  first | exact h | (simp (maxDischargeDepth := 9) [h]; done) | (simp_all (maxDischargeDepth := 9); done)

@[simp] theorem applyLeaf_safe (cmd : Nat) (p : Pkt) (s : State) (h : (s).sys.state = .safe) : ((applyLeaf cmd p s)).sys.state = .safe := by
  unfold applyLeaf
  first | exact h | (simp (maxDischargeDepth := 9) [h]; done) | (simp_all (maxDischargeDepth := 9); done)

@[simp] theorem applyTrainDoors_safe (p : Pkt) (s : State) (h : (s).sys.state = .safe) : ((applyTrainDoors p s)).sys.state = .safe := by
  unfold applyTrainDoors
  first | exact h | (simp (maxDischargeDepth := 9) [h]; done) | (simp_all (maxDischargeDepth := 9); done)

@[simp] theorem applyTrainBerth_safe (p : Pkt) (s : State) (h : (s).sys.state = .safe) : ((applyTrainBerth p s)).sys.state = .safe := by
  unfold applyTrainBerth
  first | exact h | (simp (maxDischargeDepth := 9) [h]; done) | (simp_all (maxDischargeDepth := 9); done)

@[simp] theorem applyPing_safe (p : Pkt) (s : State) (h : (s).sys.state = .safe) : ((applyPing p s)).sys.state = .safe := by
  unfold applyPing
  first | exact h | (simp (maxDischargeDepth := 9) [h]; done) | (simp_all (maxDischargeDepth := 9); done)

@[simp] theorem applyStatus_safe (p : Pkt) (s : State) (h : (s).sys.state = .safe) : ((applyStatus p s)).sys.state = .safe := by
  unfold applyStatus
  (repeat' split) <;> first | exact h | (simp (maxDischargeDepth := 9) [h]; done) | (simp_all (maxDischargeDepth := 9); done)

@[simp] theorem applyJournal_safe (p : Pkt) (s : State) (h : (s).sys.state = .safe) : ((applyJournal p s)).sys.state = .safe := by
  unfold applyJournal
  first | exact h | (simp (maxDischargeDepth := 9) [h]; done) | (simp_all (maxDischargeDepth := 9); done)

@[simp] theorem applyCount_safe (p : Pkt) (s : State) (h : (s).sys.state = .safe) : ((applyCount p s)).sys.state = .safe := by
  unfold applyCount
  (repeat' split) <;> first | exact h | (simp (maxDischargeDepth := 9) [h]; done) | (simp_all (maxDischargeDepth := 9); done)

@[simp] theorem cellWrite_safe (c kind : Nat) (payload : List Byte) (s : State) (h : (s).sys.state = .safe) : ((cellWrite c kind payload s)).sys.state = .safe := by
  unfold cellWrite
  (repeat' split) <;> first | exact h | (simp (maxDischargeDepth := 9) [h]; done) | (simp_all (maxDischargeDepth := 9); done)

@[simp] theorem cellPut_safe (c kind : Nat) (payload : List Byte) (s : State) (h : (s).sys.state = .safe) : ((cellPut c kind payload s)).sys.state = .safe := by
  unfold cellPut
  first | exact h | (simp (maxDischargeDepth := 9) [h]; done) | (simp_all (maxDischargeDepth := 9); done)

@[simp] theorem cellsDue_safe (s : State) (h : (s).sys.state = .safe) : ((cellsDue s)).sys.state = .safe := by
  unfold cellsDue
  first | exact h | (simp (maxDischargeDepth := 9) [h]; done) | (simp_all (maxDischargeDepth := 9); done)

@[simp] theorem journalTag_safe (s : State) (t : Nat) (h : (s).sys.state = .safe) : ((journalTag s t)).sys.state = .safe := by
  unfold journalTag
  first | exact h | (simp (maxDischargeDepth := 9) [h]; done) | (simp_all (maxDischargeDepth := 9); done)

@[simp] theorem journalCount_safe (s : State) (k : Nat) (h : (s).sys.state = .safe) : ((journalCount s k)).sys.state = .safe := by
  unfold journalCount
  first | exact h | (simp (maxDischargeDepth := 9) [h]; done) | (simp_all (maxDischargeDepth := 9); done)

@[simp] theorem journalStand_safe (s : State) (k : Nat) (h : (s).sys.state = .safe) : ((journalStand s k)).sys.state = .safe := by
  unfold journalStand
  first | exact h | (simp (maxDischargeDepth := 9) [h]; done) | (simp_all (maxDischargeDepth := 9); done)

@[simp] theorem mirrorCells_safe (cells : List (Nat × List Byte)) (s : State) (h : (s).sys.state = .safe) : ((mirrorCells cells s)).sys.state = .safe := by
  unfold mirrorCells
  first | exact h | (simp (maxDischargeDepth := 9) [h]; done) | (simp_all (maxDischargeDepth := 9); done)

@[simp] theorem setXferNow_safe (x : Xfer) (s : State) (h : s.sys.state = .safe) : (setXferNow x s).sys.state = .safe := by
  unfold setXferNow
  apply cellWrite_safe
  simp [h]

@[simp] theorem setXfer_safe (x : Xfer) (s : State) (h : s.sys.state = .safe) : (setXfer x s).sys.state = .safe := by
  unfold setXfer
  split
  · exact setXferNow_safe _ _ h
  · exact h

@[simp] theorem startPrepare_safe (m : Manifest) (s : State) (h : s.sys.state = .safe) : (startPrepare m s).sys.state = .safe := by
  unfold startPrepare
  exact setXfer_safe _ _ h

@[simp] theorem prepareDone_safe (ok : Bool) (s : State) (h : s.sys.state = .safe) : (prepareDone ok s).sys.state = .safe := by
  unfold prepareDone
  try dsimp only
  (repeat' split) <;> first | exact h | (simp (maxDischargeDepth := 9) [h]; done) | (simp_all (maxDischargeDepth := 9); done)

@[simp] theorem suiBlock_safe (j : Nat) (data : List Byte) (readbackOk : Bool) (s : State) (h : s.sys.state = .safe) : (suiBlock j data readbackOk s).sys.state = .safe := by
  unfold suiBlock
  try dsimp only
  (repeat' split) <;> first | exact h | (simp (maxDischargeDepth := 9) [h]; done) | (simp_all (maxDischargeDepth := 9); done)

@[simp] theorem suiVerify_safe (readOk programOk : Bool) (s : State) (h : s.sys.state = .safe) : (suiVerify readOk programOk s).sys.state = .safe := by
  unfold suiVerify
  try dsimp only
  (repeat' split) <;> first | exact h | (simp (maxDischargeDepth := 9) [h]; done) | (simp_all (maxDischargeDepth := 9); done)

@[simp] theorem suiPrepare_safe (s : State) (h : (s).sys.state = .safe) : ((suiPrepare s)).sys.state = .safe := by
  unfold suiPrepare
  try dsimp only
  (repeat' split) <;> first | exact h | (simp (maxDischargeDepth := 9) [h]; done) | (simp_all (maxDischargeDepth := 9); done)

@[simp] theorem clearTransfer_safe (s : State) (h : s.sys.state = .safe) : (clearTransfer s).sys.state = .safe := by
  unfold clearTransfer
  dsimp only
  split
  · exact setXfer_safe _ _ h
  · exact h

/-- An operation of SUI, and a request of the update session, keep SAFE where what they perform does. -/
theorem suiOp_safe (key : Nat) (act : State → State) (s : State) (h : s.sys.state = .safe) (hf : ∀ u, u.sys.state = .safe → (act u).sys.state = .safe) :
    (suiOp key act s).sys.state = .safe := by
  unfold suiOp
  split
  · exact hf s h
  · simp [h]

theorem updateRequest_safe (head : SorliaHead) (act : State → State) (s : State) (h : s.sys.state = .safe)
    (hf : ∀ u, u.sys.state = .safe → (act u).sys.state = .safe) : (updateRequest head act s).sys.state = .safe := by
  unfold updateRequest served
  dsimp only
  (repeat' split) <;> first | exact h | (simp [h]; done) | exact hf _ (by simp [h])

@[simp] theorem execSorliaPrepare_safe (head : SorliaHead) (manifest : List Byte) (s u : State) (h : s.sys.state = .safe) :
    (landing (execSorliaPrepare head manifest s) u).sys.state = .safe :=
  updateRequest_safe head (fun s => suiPrepare (updSui (fun u => { u with staged := some manifest }) s)) s h fun v k => suiPrepare_safe _ k

@[simp] theorem execSorliaBlock_safe (head : SorliaHead) (block : Nat) (data : List Byte) (readbackOk : Bool) (s u : State) (h : s.sys.state = .safe) :
    (landing (execSorliaBlock head block data readbackOk s) u).sys.state = .safe := updateRequest_safe _ _ s h fun v k => suiBlock_safe _ _ _ _ k

@[simp] theorem execSorliaVerify_safe (head : SorliaHead) (readOk programOk : Bool) (s u : State) (h : s.sys.state = .safe) :
    (landing (execSorliaVerify head readOk programOk s) u).sys.state = .safe := updateRequest_safe _ _ s h fun v k => suiVerify_safe _ _ _ k

@[simp] theorem execSuiPrepare_safe (key : Nat) (s u : State) (h : s.sys.state = .safe) : (landing (execSuiPrepare key s) u).sys.state = .safe :=
  suiOp_safe _ _ s h fun v k => suiPrepare_safe _ k

@[simp] theorem execSuiBlock_safe (key block : Nat) (data : List Byte) (readbackOk : Bool) (s u : State) (h : s.sys.state = .safe) :
    (landing (execSuiBlock key block data readbackOk s) u).sys.state = .safe := suiOp_safe _ _ s h fun v k => suiBlock_safe _ _ _ _ k

@[simp] theorem execSuiVerify_safe (key : Nat) (readOk programOk : Bool) (s u : State) (h : s.sys.state = .safe) :
    (landing (execSuiVerify key readOk programOk s) u).sys.state = .safe := suiOp_safe _ _ s h fun v k => suiVerify_safe _ _ _ k

@[simp] theorem suiWrite_safe (w : Word) (s : State) (h : s.sys.state = .safe) : (suiWrite w s).sys.state = .safe := by
  unfold suiWrite
  dsimp only
  split <;> simp (maxDischargeDepth := 9) [h, freeBytes]

@[simp] theorem answerConfirms_safe (status code : Nat) (s : State) (h : (s).sys.state = .safe) : ((answerConfirms status code s)).sys.state = .safe := by
  unfold answerConfirms
  first | exact h | (simp (maxDischargeDepth := 9) [h]; done) | (simp_all (maxDischargeDepth := 9); done)

@[simp] theorem refuseConfirms_safe (s : State) (h : (s).sys.state = .safe) : ((refuseConfirms s)).sys.state = .safe := by
  unfold refuseConfirms
  first | exact h | (simp (maxDischargeDepth := 9) [h]; done) | (simp_all (maxDischargeDepth := 9); done)

/-- The end of a selector write, but for the reset that ends an activation. -/
theorem selectorDone_safe (s : State) (h : s.sys.state = .safe) (k : s.sui.busy ≠ 4) : (selectorDone s).sys.state = .safe := by
  unfold selectorDone
  dsimp only
  (repeat' split) <;> simp_all (maxDischargeDepth := 9)

@[simp] theorem confirmTrial_safe (tag : Nat) (s : State) (h : (s).sys.state = .safe) : ((confirmTrial tag s)).sys.state = .safe := by
  unfold confirmTrial
  first | exact h | (simp (maxDischargeDepth := 9) [h]; done) | (simp_all (maxDischargeDepth := 9); done)

@[simp] theorem applyConfirm_safe (p : Pkt) (s : State) (h : (s).sys.state = .safe) : ((applyConfirm p s)).sys.state = .safe := by
  unfold applyConfirm
  first | exact h | (simp (maxDischargeDepth := 9) [h]; done) | (simp_all (maxDischargeDepth := 9); done)

@[simp] theorem applyOpcode_safe (p : Pkt) (s : State) (h : s.sys.state = .safe) : (applyOpcode p s).sys.state = .safe := by
  unfold applyOpcode
  split
  · exact applyPing_safe _ _ h
  · exact applyRouteRequest_safe _ _ h
  · exact applyRouteCancel_safe _ _ h
  · exact applyReleaseTimed_safe _ _ h
  · exact applyPointMove_safe _ _ h
  · exact applyBlock_safe _ _ h
  · exact applyUnblock_safe _ _ h
  · exact applyForceStop_safe _ _ h
  · exact applyDoorEnable_safe _ _ h
  · exact applyDoorOpen_safe _ _ h
  · exact applyClose_safe _ _ h
  · exact applyWithdraw_safe _ _ h
  · exact applyLeaf_safe _ _ _ h
  · exact applyLeaf_safe _ _ _ h
  · exact applyTrainBerth_safe _ _ h
  · exact applyTrainDoors_safe _ _ h
  · exact applyStatus_safe _ _ h
  · exact applyJournal_safe _ _ h
  · exact applyCount_safe _ _ h
  · exact applyConfirm_safe _ _ h
  · exact h

@[simp] theorem applyPacket_safe (p : Pkt) (s : State) (h : s.sys.state = .safe) : (applyPacket p s).sys.state = .safe := by
  unfold applyPacket
  split <;> simp [h]

@[simp] theorem applyCommands_safe (k : Nat) (s : State) (h : s.sys.state = .safe) : (applyCommands k s).sys.state = .safe := by
  cases k with
  | zero => exact h
  | succ k =>
    unfold applyCommands
    rw [popHead_safe s h]
    exact h

@[simp] theorem hostPacket_safe (p : Pkt) (s : State) (h : (s).sys.state = .safe) : ((hostPacket p s)).sys.state = .safe := by
  unfold hostPacket
  first | exact h | (simp (maxDischargeDepth := 9) [h]; done) | (simp_all (maxDischargeDepth := 9); done)

@[simp] theorem acceptLate_safe (s : State) (h : (s).sys.state = .safe) : ((acceptLate s)).sys.state = .safe := by
  unfold acceptLate
  first | exact h | (simp (maxDischargeDepth := 9) [h]; done) | (simp_all (maxDischargeDepth := 9); done)

@[simp] theorem postRbuf_safe (s : State) (h : (s).sys.state = .safe) : ((postRbuf s)).sys.state = .safe := by
  unfold postRbuf
  first | exact h | (simp (maxDischargeDepth := 9) [h]; done) | (simp_all (maxDischargeDepth := 9); done)

@[simp] theorem peerSeen_safe (state : Nat) (safe : Bool) (s : State) (h : (s).sys.state = .safe) : ((peerSeen state safe s)).sys.state = .safe := by
  unfold peerSeen
  first | exact h | (simp (maxDischargeDepth := 9) [h]; done) | (simp_all (maxDischargeDepth := 9); done)

@[simp] theorem loadMirror_safe (m : PairFrame) (s : State) (h : (s).sys.state = .safe) : ((loadMirror m s)).sys.state = .safe := by
  unfold loadMirror
  first | exact h | (simp (maxDischargeDepth := 9) [h]; done) | (simp_all (maxDischargeDepth := 9); done)

@[simp] theorem takeMirror_safe (m : PairFrame) (s : State) (h : (s).sys.state = .safe) : ((takeMirror m s)).sys.state = .safe := by
  unfold takeMirror
  first | exact h | (simp (maxDischargeDepth := 9) [h]; done) | (simp_all (maxDischargeDepth := 9); done)

@[simp] theorem peerFrame_safe (f : PairFrame) (s : State) (h : (s).sys.state = .safe) : ((peerFrame f s)).sys.state = .safe := by
  unfold peerFrame
  first | exact h | (simp (maxDischargeDepth := 9) [h]; done) | (simp_all (maxDischargeDepth := 9); done)

@[simp] theorem linkRx_safe (kind : Nat) (f : PairFrame) (shown act : State → State) (s : State) (h : s.sys.state = .safe)
    (hf : ∀ u, u.sys.state = .safe → (shown u).sys.state = .safe) (hg : ∀ u, u.sys.state = .safe → (act u).sys.state = .safe) :
    (linkRx kind f shown act s).sys.state = .safe := by
  unfold linkRx
  (repeat' split) <;> first | exact h | exact hg _ (peerFrame_safe _ _ (hf _ h)) | simp [h]

@[simp] theorem mirrorRx_safe (m : PairFrame) (s : State) (h : s.sys.state = .safe) : (mirrorRx m s).sys.state = .safe := by
  unfold mirrorRx
  refine linkRx_safe _ _ _ _ _ h (fun u k => by simp [showRx, k]) fun u k => ?_
  split <;> simp [k]

@[simp] theorem responseRx_safe (r : PairFrame) (s : State) (h : s.sys.state = .safe) : (responseRx r s).sys.state = .safe := by
  unfold responseRx
  exact linkRx_safe _ _ _ _ _ h (fun u k => by simp [showRx, k]) fun u k => k

@[simp] theorem bulkRx_safe (f : PairFrame) (s : State) (h : s.sys.state = .safe) : (bulkRx f s).sys.state = .safe := by
  unfold bulkRx
  refine linkRx_safe _ _ _ _ _ h (fun u k => k) fun u k => ?_
  simp [k]

@[simp] theorem execMirrorRx_safe (m : PairFrame) (s u : State) (h : s.sys.state = .safe) : (landing (execMirrorRx m s) u).sys.state = .safe := mirrorRx_safe m s h

@[simp] theorem execResponseRx_safe (r : PairFrame) (s u : State) (h : s.sys.state = .safe) : (landing (execResponseRx r s) u).sys.state = .safe := responseRx_safe r s h

@[simp] theorem execBulkRx_safe (f : PairFrame) (s u : State) (h : s.sys.state = .safe) : (landing (execBulkRx f s) u).sys.state = .safe := bulkRx_safe f s h

@[simp] theorem handoverStart_safe (s : State) (h : (s).sys.state = .safe) : ((handoverStart s)).sys.state = .safe := by
  unfold handoverStart
  first | exact h | (simp (maxDischargeDepth := 9) [h]; done) | (simp_all (maxDischargeDepth := 9); done)

@[simp] theorem handoverEnd_safe (s : State) (h : s.sys.state = .safe) : (handoverEnd s).sys.state = .safe := by
  unfold handoverEnd
  simp [h]

@[simp] theorem switchTrigger_safe (s : State) (h : (s).sys.state = .safe) : ((switchTrigger s)).sys.state = .safe := by
  unfold switchTrigger
  first | exact h | (simp (maxDischargeDepth := 9) [h]; done) | (simp_all (maxDischargeDepth := 9); done)

@[simp] theorem takeoverStart_safe (s : State) (h : s.sys.state = .safe) : (takeoverStart s).sys.state = .safe := by
  unfold takeoverStart
  split <;> simp [h]

@[simp] theorem joinStep_safe (s : State) (h : (s).sys.state = .safe) : ((joinStep s)).sys.state = .safe := by
  unfold joinStep
  first | exact h | (simp (maxDischargeDepth := 9) [h]; done) | (simp_all (maxDischargeDepth := 9); done)

@[simp] theorem pairStart_safe (s : State) (h : s.sys.state = .safe) : (pairStart s).sys.state = .safe := by
  unfold pairStart
  exact joinStep_safe _ (takeoverStart_safe _ (handoverStart_safe _ (handoverEnd_safe _ (by simp [h]))))

@[simp] theorem postReplayed_safe (t d : Nat) (s : State) (h : (s).sys.state = .safe) : ((postReplayed t d s)).sys.state = .safe := by
  unfold postReplayed
  first | exact h | (simp (maxDischargeDepth := 9) [h]; done) | (simp_all (maxDischargeDepth := 9); done)

@[simp] theorem releaseHeld_safe (t : Nat) (s : State) (h : (s).sys.state = .safe) : ((releaseHeld t s)).sys.state = .safe := by
  unfold releaseHeld
  (repeat' split) <;> first | exact h | (simp (maxDischargeDepth := 9) [h]; done) | (simp_all (maxDischargeDepth := 9); done)

@[simp] theorem carryOn_safe (t : Nat) (g : Tag) (s : State) (h : (s).sys.state = .safe) : ((carryOn t g s)).sys.state = .safe := by
  unfold carryOn
  first | exact h | (simp (maxDischargeDepth := 9) [h]; done) | (simp_all (maxDischargeDepth := 9); done)

@[simp] theorem replayTag_safe (s : State) (t : Nat) (h : s.sys.state = .safe) : (replayTag s t).sys.state = .safe := by
  unfold replayTag
  dsimp only
  (repeat' split) <;> simp (maxDischargeDepth := 9) [h]

@[simp] theorem replayTags_safe (s : State) (h : s.sys.state = .safe) : (replayTags s).sys.state = .safe := by
  unfold replayTags
  split
  · exact h
  · exact foldl_safe _ _ _ h replayTag_safe

@[simp] theorem takeCascade_safe (q : Nat) (f : CascFrame) (s : State) (h : (s).sys.state = .safe) : ((takeCascade q f s)).sys.state = .safe := by
  unfold takeCascade
  first | exact h | (simp (maxDischargeDepth := 9) [h]; done) | (simp_all (maxDischargeDepth := 9); done)

@[simp] theorem cascadeRx_safe (f : CascFrame) (s : State) (h : (s).sys.state = .safe) : ((cascadeRx f s)).sys.state = .safe := by
  unfold cascadeRx
  (repeat' split) <;> first | exact h | (simp (maxDischargeDepth := 9) [h]; done) | (simp_all (maxDischargeDepth := 9); done)

@[simp] theorem execPing_safe (host tag ses : Nat) (hseq hvcn : Word) (s : State) (u : State) (h : (s).sys.state = .safe) : ((landing (execPing host tag ses hseq hvcn s) u)).sys.state = .safe := by
  unfold execPing
  first | exact h | (simp (maxDischargeDepth := 9) [h]; done) | (simp_all (maxDischargeDepth := 9); done)

@[simp] theorem execRouteRequest_safe (host tag ses : Nat) (hseq hvcn : Word) (route : Nat) (s : State) (u : State) (h : (s).sys.state = .safe) : ((landing (execRouteRequest host tag ses hseq hvcn route s) u)).sys.state = .safe := by
  unfold execRouteRequest
  first | exact h | (simp (maxDischargeDepth := 9) [h]; done) | (simp_all (maxDischargeDepth := 9); done)

@[simp] theorem execRouteCancel_safe (host tag ses : Nat) (hseq hvcn : Word) (object : Nat) (s : State) (u : State) (h : (s).sys.state = .safe) : ((landing (execRouteCancel host tag ses hseq hvcn object s) u)).sys.state = .safe := by
  unfold execRouteCancel
  first | exact h | (simp (maxDischargeDepth := 9) [h]; done) | (simp_all (maxDischargeDepth := 9); done)

@[simp] theorem execRouteReleaseTimed_safe (host tag ses : Nat) (hseq hvcn : Word) (route : Nat) (s : State) (u : State) (h : (s).sys.state = .safe) : ((landing (execRouteReleaseTimed host tag ses hseq hvcn route s) u)).sys.state = .safe := by
  unfold execRouteReleaseTimed
  first | exact h | (simp (maxDischargeDepth := 9) [h]; done) | (simp_all (maxDischargeDepth := 9); done)

@[simp] theorem execPointMove_safe (host tag ses : Nat) (hseq hvcn : Word) (elem target : Nat) (s : State) (u : State) (h : (s).sys.state = .safe) : ((landing (execPointMove host tag ses hseq hvcn elem target s) u)).sys.state = .safe := by
  unfold execPointMove
  first | exact h | (simp (maxDischargeDepth := 9) [h]; done) | (simp_all (maxDischargeDepth := 9); done)

@[simp] theorem execElementBlock_safe (host tag ses : Nat) (hseq hvcn : Word) (elem : Nat) (s : State) (u : State) (h : (s).sys.state = .safe) : ((landing (execElementBlock host tag ses hseq hvcn elem s) u)).sys.state = .safe := by
  unfold execElementBlock
  first | exact h | (simp (maxDischargeDepth := 9) [h]; done) | (simp_all (maxDischargeDepth := 9); done)

@[simp] theorem execElementUnblock_safe (host tag ses : Nat) (hseq hvcn : Word) (elem : Nat) (s : State) (u : State) (h : (s).sys.state = .safe) : ((landing (execElementUnblock host tag ses hseq hvcn elem s) u)).sys.state = .safe := by
  unfold execElementUnblock
  first | exact h | (simp (maxDischargeDepth := 9) [h]; done) | (simp_all (maxDischargeDepth := 9); done)

@[simp] theorem execSignalForceStop_safe (host tag ses : Nat) (hseq hvcn : Word) (elem set_ : Nat) (s : State) (u : State) (h : (s).sys.state = .safe) : ((landing (execSignalForceStop host tag ses hseq hvcn elem set_ s) u)).sys.state = .safe := by
  unfold execSignalForceStop
  first | exact h | (simp (maxDischargeDepth := 9) [h]; done) | (simp_all (maxDischargeDepth := 9); done)

@[simp] theorem execDoorEnable_safe (host tag ses : Nat) (hseq hvcn : Word) (edge : Nat) (s : State) (u : State) (h : (s).sys.state = .safe) : ((landing (execDoorEnable host tag ses hseq hvcn edge s) u)).sys.state = .safe := by
  unfold execDoorEnable
  first | exact h | (simp (maxDischargeDepth := 9) [h]; done) | (simp_all (maxDischargeDepth := 9); done)

@[simp] theorem execDoorOpen_safe (host tag ses : Nat) (hseq hvcn : Word) (edge : Nat) (s : State) (u : State) (h : (s).sys.state = .safe) : ((landing (execDoorOpen host tag ses hseq hvcn edge s) u)).sys.state = .safe := by
  unfold execDoorOpen
  first | exact h | (simp (maxDischargeDepth := 9) [h]; done) | (simp_all (maxDischargeDepth := 9); done)

@[simp] theorem execDoorClose_safe (host tag ses : Nat) (hseq hvcn : Word) (edge : Nat) (s : State) (u : State) (h : (s).sys.state = .safe) : ((landing (execDoorClose host tag ses hseq hvcn edge s) u)).sys.state = .safe := by
  unfold execDoorClose
  first | exact h | (simp (maxDischargeDepth := 9) [h]; done) | (simp_all (maxDischargeDepth := 9); done)

@[simp] theorem execDoorCloseRestore_safe (host tag ses : Nat) (hseq hvcn : Word) (edge : Nat) (s : State) (u : State) (h : (s).sys.state = .safe) : ((landing (execDoorCloseRestore host tag ses hseq hvcn edge s) u)).sys.state = .safe := by
  unfold execDoorCloseRestore
  first | exact h | (simp (maxDischargeDepth := 9) [h]; done) | (simp_all (maxDischargeDepth := 9); done)

@[simp] theorem execDoorWithdrawEnable_safe (host tag ses : Nat) (hseq hvcn : Word) (edge : Nat) (s : State) (u : State) (h : (s).sys.state = .safe) : ((landing (execDoorWithdrawEnable host tag ses hseq hvcn edge s) u)).sys.state = .safe := by
  unfold execDoorWithdrawEnable
  first | exact h | (simp (maxDischargeDepth := 9) [h]; done) | (simp_all (maxDischargeDepth := 9); done)

@[simp] theorem execLeafIsolate_safe (host tag ses : Nat) (hseq hvcn : Word) (leaf : Nat) (s : State) (u : State) (h : (s).sys.state = .safe) : ((landing (execLeafIsolate host tag ses hseq hvcn leaf s) u)).sys.state = .safe := by
  unfold execLeafIsolate
  first | exact h | (simp (maxDischargeDepth := 9) [h]; done) | (simp_all (maxDischargeDepth := 9); done)

@[simp] theorem execLeafRestore_safe (host tag ses : Nat) (hseq hvcn : Word) (leaf : Nat) (s : State) (u : State) (h : (s).sys.state = .safe) : ((landing (execLeafRestore host tag ses hseq hvcn leaf s) u)).sys.state = .safe := by
  unfold execLeafRestore
  first | exact h | (simp (maxDischargeDepth := 9) [h]; done) | (simp_all (maxDischargeDepth := 9); done)

@[simp] theorem execTrainBerth_safe (host tag ses : Nat) (hseq hvcn : Word) (edge flags offset : Nat) (s : State) (u : State) (h : (s).sys.state = .safe) : ((landing (execTrainBerth host tag ses hseq hvcn edge flags offset s) u)).sys.state = .safe := by
  unfold execTrainBerth
  first | exact h | (simp (maxDischargeDepth := 9) [h]; done) | (simp_all (maxDischargeDepth := 9); done)

@[simp] theorem execTrainDoors_safe (host tag ses : Nat) (hseq hvcn : Word) (edge mask : Nat) (s : State) (u : State) (h : (s).sys.state = .safe) : ((landing (execTrainDoors host tag ses hseq hvcn edge mask s) u)).sys.state = .safe := by
  unfold execTrainDoors
  first | exact h | (simp (maxDischargeDepth := 9) [h]; done) | (simp_all (maxDischargeDepth := 9); done)

@[simp] theorem execStatusQuery_safe (host tag ses : Nat) (hseq hvcn : Word) (scope index : Nat) (s : State) (u : State) (h : (s).sys.state = .safe) : ((landing (execStatusQuery host tag ses hseq hvcn scope index s) u)).sys.state = .safe := by
  unfold execStatusQuery
  first | exact h | (simp (maxDischargeDepth := 9) [h]; done) | (simp_all (maxDischargeDepth := 9); done)

@[simp] theorem execJournalQuery_safe (host tag ses : Nat) (hseq hvcn : Word) (ofTag : Nat) (s : State) (u : State) (h : (s).sys.state = .safe) : ((landing (execJournalQuery host tag ses hseq hvcn ofTag s) u)).sys.state = .safe := by
  unfold execJournalQuery
  first | exact h | (simp (maxDischargeDepth := 9) [h]; done) | (simp_all (maxDischargeDepth := 9); done)

@[simp] theorem execCountQuery_safe (host tag ses : Nat) (hseq hvcn : Word) (kind index : Nat) (s : State) (u : State) (h : (s).sys.state = .safe) : ((landing (execCountQuery host tag ses hseq hvcn kind index s) u)).sys.state = .safe := by
  unfold execCountQuery
  first | exact h | (simp (maxDischargeDepth := 9) [h]; done) | (simp_all (maxDischargeDepth := 9); done)

@[simp] theorem execUpdateConfirm_safe (host tag ses : Nat) (hseq hvcn : Word) (bundle : Word) (s : State) (u : State) (h : (s).sys.state = .safe) : ((landing (execUpdateConfirm host tag ses hseq hvcn bundle s) u)).sys.state = .safe := by
  unfold execUpdateConfirm
  first | exact h | (simp (maxDischargeDepth := 9) [h]; done) | (simp_all (maxDischargeDepth := 9); done)

@[simp] theorem execCmdPop_safe (w : Word) (s : State) (u : State) (h : s.sys.state = .safe) : (landing (execCmdPop w s) u).sys.state = .safe := by
  unfold execCmdPop
  split <;> simp [h]

@[simp] theorem execCmdRply_safe (w : Word) (s : State) (u : State) (h : (s).sys.state = .safe) : ((landing (execCmdRply w s) u)).sys.state = .safe := by
  unfold execCmdRply
  first | exact h | (simp (maxDischargeDepth := 9) [h]; done) | (simp_all (maxDischargeDepth := 9); done)

@[simp] theorem execCmdLoadEnd_safe (s : State) (u : State) (h : (s).sys.state = .safe) : ((landing (execCmdLoadEnd s) u)).sys.state = .safe := by
  unfold execCmdLoadEnd
  first | exact h | (simp (maxDischargeDepth := 9) [h]; done) | (simp_all (maxDischargeDepth := 9); done)

@[simp] theorem journalLoads_safe (s : State) (h : (s).sys.state = .safe) : ((journalLoads s)).sys.state = .safe := by
  unfold journalLoads
  first | exact h | (simp (maxDischargeDepth := 9) [h]; done) | (simp_all (maxDischargeDepth := 9); done)

@[simp] theorem configFail_safe (code : Nat) (s : State) (h : (s).sys.state = .safe) : ((configFail code s)).sys.state = .safe := by
  unfold configFail
  first | exact h | (simp (maxDischargeDepth := 9) [h]; done) | (simp_all (maxDischargeDepth := 9); done)

@[simp] theorem execJnlWrite_safe (cell copy : Nat) (readbackOk : Bool) (s : State) (u : State) (h : (s).sys.state = .safe) : ((landing (execJnlWrite cell copy readbackOk s) u)).sys.state = .safe := by
  unfold execJnlWrite
  first | exact h | (simp (maxDischargeDepth := 9) [h]; done) | (simp_all (maxDischargeDepth := 9); done)

@[simp] theorem regionMinority_safe (k code addr : Nat) (s : State) (h : (s).sys.state = .safe) : ((regionMinority k code addr s)).sys.state = .safe := by
  unfold regionMinority
  first | exact h | (simp (maxDischargeDepth := 9) [h]; done) | (simp_all (maxDischargeDepth := 9); done)

@[simp] theorem noMajority_safe (three two : Nat) (s : State) (h : (s).sys.state = .safe) : ((noMajority three two s)).sys.state = .safe := by
  unfold noMajority
  first | exact h | (simp (maxDischargeDepth := 9) [h]; done) | (simp_all (maxDischargeDepth := 9); done)

@[simp] theorem voteTxn_safe (s : State) (h : s.sys.state = .safe) : (voteTxn s).1.sys.state = .safe := by
  unfold voteTxn
  (repeat' split) <;> simp (maxDischargeDepth := 9) [h]

@[simp] theorem voterFaults_safe (dualRailBad : Bool) (s : State) (h : (s).sys.state = .safe) : ((voterFaults dualRailBad s)).sys.state = .safe := by
  unfold voterFaults
  first | exact h | (simp (maxDischargeDepth := 9) [h]; done) | (simp_all (maxDischargeDepth := 9); done)

@[simp] theorem sigCompare_safe (s : State) (h : (s).sys.state = .safe) : ((sigCompare s)).sys.state = .safe := by
  unfold sigCompare
  try dsimp only
  (repeat' split) <;> first | exact h | (simp (maxDischargeDepth := 9) [h]; done) | (simp_all (maxDischargeDepth := 9); done)

@[simp] theorem injectTest_safe (detected : BitVec 7) (s : State) (h : (s).sys.state = .safe) : ((injectTest detected s)).sys.state = .safe := by
  unfold injectTest
  first | exact h | (simp (maxDischargeDepth := 9) [h]; done) | (simp_all (maxDischargeDepth := 9); done)

@[simp] theorem monitors_safe (supply temp phase abs : BitVec 3) (s : State) (h : (s).sys.state = .safe) : ((monitors supply temp phase abs s)).sys.state = .safe := by
  unfold monitors
  try dsimp only
  (repeat' split) <;> first | exact h | (simp (maxDischargeDepth := 9) [h]; done) | (simp_all (maxDischargeDepth := 9); done)

@[simp] theorem monitorSamples_safe (xs : List RegionSample) (tick : Nat) (s : State) (h : s.sys.state = .safe) : (monitorSamples xs tick s).sys.state = .safe := by
  unfold monitorSamples
  split <;> simp [h]

@[simp] theorem debugAttach_safe (k : Nat) (s : State) (h : (s).sys.state = .safe) : ((debugAttach k s)).sys.state = .safe := by
  unfold debugAttach
  first | exact h | (simp (maxDischargeDepth := 9) [h]; done) | (simp_all (maxDischargeDepth := 9); done)

@[simp] theorem supplyValid_safe (s : State) (h : (s).sys.state = .safe) : ((supplyValid s)).sys.state = .safe := by
  unfold supplyValid
  first | exact h | (simp (maxDischargeDepth := 9) [h]; done) | (simp_all (maxDischargeDepth := 9); done)

@[simp] theorem selftestEnd_safe (sigs : List (Nat × BitVec 64)) (compared : Bool) (index : Nat) (s : State) (h : (s).sys.state = .safe) : ((selftestEnd sigs compared index s)).sys.state = .safe := by
  unfold selftestEnd
  first | exact h | (simp (maxDischargeDepth := 9) [h]; done) | (simp_all (maxDischargeDepth := 9); done)

@[simp] theorem bootEnd_safe (selRead othRead : Bool) (s : State) (h : (s).sys.state = .safe) : ((bootEnd selRead othRead s)).sys.state = .safe := by
  unfold bootEnd
  first | exact h | (simp (maxDischargeDepth := 9) [h]; done) | (simp_all (maxDischargeDepth := 9); done)

@[simp] theorem configEnd_safe (s : State) (h : s.sys.state = .safe) : (configEnd s).sys.state = .safe := by
  unfold configEnd
  simp [h]

@[simp] theorem slotChange_safe (code : Nat) (s : State) (h : (s).sys.state = .safe) : ((slotChange code s)).sys.state = .safe := by
  unfold slotChange
  first | exact h | (simp (maxDischargeDepth := 9) [h]; done) | (simp_all (maxDischargeDepth := 9); done)

@[simp] theorem selfCheckFail_safe (b : Block) (n : Nat) (s : State) (h : (s).sys.state = .safe) : ((selfCheckFail b n s)).sys.state = .safe := by
  unfold selfCheckFail
  (repeat' split) <;> first | exact h | (simp (maxDischargeDepth := 9) [h]; done) | (simp_all (maxDischargeDepth := 9); done)

@[simp] theorem iteLaunch_safe (w : Word) (s : State) (h : (s).sys.state = .safe) : ((iteLaunch w s)).sys.state = .safe := by
  unfold iteLaunch
  first | exact h | (simp (maxDischargeDepth := 9) [h]; done) | (simp_all (maxDischargeDepth := 9); done)

@[simp] theorem iteEvaluate_safe (s : State) (h : (s).sys.state = .safe) : ((iteEvaluate s)).sys.state = .safe := by
  unfold iteEvaluate
  first | exact h | (simp (maxDischargeDepth := 9) [h]; done) | (simp_all (maxDischargeDepth := 9); done)

@[simp] theorem afterEngine_safe (s : State) (h : s.sys.state = .safe) : (afterEngine s).sys.state = .safe := by
  unfold afterEngine
  simp [h, sequences]

@[simp] theorem iteDone_safe (s : State) (h : s.sys.state = .safe) : (iteDone s).sys.state = .safe := by
  unfold iteDone
  split
  · exact afterEngine_safe _ (by simp (maxDischargeDepth := 9) [h])
  · exact h

@[simp] theorem dsuStepDone_safe (s : State) (h : s.sys.state = .safe) : (dsuStepDone s).sys.state = .safe := by
  unfold dsuStepDone
  (repeat' split) <;> simp_all (maxDischargeDepth := 9) [sequences]

@[simp] theorem copyCheck4_safe (diff : Bool) (s : State) (h : (s).sys.state = .safe) : ((copyCheck4 diff s)).sys.state = .safe := by
  unfold copyCheck4
  first | exact h | (simp (maxDischargeDepth := 9) [h]; done) | (simp_all (maxDischargeDepth := 9); done)

@[simp] theorem journalWork_safe (s : State) (h : (s).sys.state = .safe) : ((journalWork s)).sys.state = .safe := by
  unfold journalWork
  first | exact h | (simp (maxDischargeDepth := 9) [h]; done) | (simp_all (maxDischargeDepth := 9); done)

@[simp] theorem bgPerform_safe (w : BgWork) (s : State) (h : s.sys.state = .safe) : (bgPerform w s).sys.state = .safe := by
  cases w <;> simp [bgPerform, h]

@[simp] theorem bgRun_safe (n : Nat) (s : State) (h : (s).sys.state = .safe) : ((bgRun n s)).sys.state = .safe := by
  unfold bgRun
  first | exact h | (simp (maxDischargeDepth := 9) [h]; done) | (simp_all (maxDischargeDepth := 9); done)

@[simp] theorem bgFinish_safe (s : State) (h : (s).sys.state = .safe) : ((bgFinish s)).sys.state = .safe := by
  unfold bgFinish
  first | exact h | (simp (maxDischargeDepth := 9) [h]; done) | (simp_all (maxDischargeDepth := 9); done)

@[simp] theorem bgBegin_safe (s : State) (h : (s).sys.state = .safe) : ((bgBegin s)).sys.state = .safe := by
  unfold bgBegin
  first | exact h | (simp (maxDischargeDepth := 9) [h]; done) | (simp_all (maxDischargeDepth := 9); done)

@[simp] theorem bgCarry_safe (s : State) (h : (s).sys.state = .safe) : ((bgCarry s)).sys.state = .safe := by
  unfold bgCarry
  first | exact h | (simp (maxDischargeDepth := 9) [h]; done) | (simp_all (maxDischargeDepth := 9); done)

@[simp] theorem phaseMark_safe (w : Word) (tick : Nat) (s : State) (h : (s).sys.state = .safe) : ((phaseMark w tick s)).sys.state = .safe := by
  unfold phaseMark
  first | exact h | (simp (maxDischargeDepth := 9) [h]; done) | (simp_all (maxDischargeDepth := 9); done)

@[simp] theorem overrun_safe (p code : Nat) (s : State) (h : (s).sys.state = .safe) : ((overrun p code s)).sys.state = .safe := by
  unfold overrun
  first | exact h | (simp (maxDischargeDepth := 9) [h]; done) | (simp_all (maxDischargeDepth := 9); done)

@[simp] theorem markCheck_safe (i code : Nat) (s : State) (h : (s).sys.state = .safe) : ((markCheck i code s)).sys.state = .safe := by
  unfold markCheck
  first | exact h | (simp (maxDischargeDepth := 9) [h]; done) | (simp_all (maxDischargeDepth := 9); done)

@[simp] theorem vcStart_safe (rb : BitVec 48) (meas : Nat) (s : State) (h : s.sys.state = .safe) : (vcStart rb meas s).sys.state = .safe := by
  unfold vcStart
  split <;> simp (maxDischargeDepth := 30) [h]

@[simp] theorem checkTelegrams_safe (s : State) (h : (s).sys.state = .safe) : ((checkTelegrams s)).sys.state = .safe := by
  unfold checkTelegrams
  first | exact h | (simp (maxDischargeDepth := 9) [h]; done) | (simp_all (maxDischargeDepth := 9); done)

@[simp] theorem evaluateWork_safe (s : State) (h : (s).sys.state = .safe) : ((evaluateWork s)).sys.state = .safe := by
  unfold evaluateWork
  first | exact h | (simp (maxDischargeDepth := 9) [h]; done) | (simp_all (maxDischargeDepth := 9); done)

@[simp] theorem evaluateStart_safe (ready : Bool) (s : State) (h : (s).sys.state = .safe) : ((evaluateStart ready s)).sys.state = .safe := by
  unfold evaluateStart
  first | exact h | (simp (maxDischargeDepth := 9) [h]; done) | (simp_all (maxDischargeDepth := 9); done)

@[simp] theorem agreeStart_safe (s : State) (h : (s).sys.state = .safe) : ((agreeStart s)).sys.state = .safe := by
  unfold agreeStart
  first | exact h | (simp (maxDischargeDepth := 9) [h]; done) | (simp_all (maxDischargeDepth := 9); done)

@[simp] theorem mantleCheck_safe (received : Bool) (s : State) (h : (s).sys.state = .safe) : ((mantleCheck received s)).sys.state = .safe := by
  unfold mantleCheck
  first | exact h | (simp (maxDischargeDepth := 9) [h]; done) | (simp_all (maxDischargeDepth := 9); done)

@[simp] theorem readMsafe_safe (s : State) (h : (s).sys.state = .safe) : ((readMsafe s)).sys.state = .safe := by
  unfold readMsafe
  first | exact h | (simp (maxDischargeDepth := 9) [h]; done) | (simp_all (maxDischargeDepth := 9); done)

@[simp] theorem mantleRead_safe (readable : Bool) (echo : BitVec 64) (s : State) (h : (s).sys.state = .safe) : ((mantleRead readable echo s)).sys.state = .safe := by
  unfold mantleRead
  first | exact h | (simp (maxDischargeDepth := 9) [h]; done) | (simp_all (maxDischargeDepth := 9); done)

@[simp] theorem commitStart_safe (sealsDone : Bool) (s : State) (h : (s).sys.state = .safe) : ((commitStart sealsDone s)).sys.state = .safe := by
  unfold commitStart
  first | exact h | (simp (maxDischargeDepth := 9) [h]; done) | (simp_all (maxDischargeDepth := 9); done)

@[simp] theorem backgroundStart_safe (copyDiff : Bool) (s : State) (h : s.sys.state = .safe) : (backgroundStart copyDiff s).sys.state = .safe := by
  unfold backgroundStart
  split <;> simp (maxDischargeDepth := 9) [h]

@[simp] theorem lagCheck_safe (s : State) (h : (s).sys.state = .safe) : ((lagCheck s)).sys.state = .safe := by
  unfold lagCheck
  first | exact h | (simp (maxDischargeDepth := 9) [h]; done) | (simp_all (maxDischargeDepth := 9); done)

@[simp] theorem closeStart_safe (s : State) (h : (s).sys.state = .safe) : ((closeStart s)).sys.state = .safe := by
  unfold closeStart
  first | exact h | (simp (maxDischargeDepth := 9) [h]; done) | (simp_all (maxDischargeDepth := 9); done)

@[simp] theorem signatureCompare_safe (detected : BitVec 7) (crcs : List Word) (s : State) (h : s.sys.state = .safe) : (signatureCompare detected crcs s).sys.state = .safe := by
  unfold signatureCompare
  dsimp only
  (repeat' split) <;> simp (maxDischargeDepth := 9) [h]

@[simp] theorem checkFailed_safe (s : State) (h : s.sys.state = .safe) : (checkFailed s).sys.state = .safe := by
  unfold checkFailed
  split <;> simp [h]

@[simp] theorem vcEnd_safe (heartbeat : Bool) (s : State) (h : s.sys.state = .safe) : (vcEnd heartbeat s).sys.state = .safe := by
  unfold vcEnd
  split <;> simp (maxDischargeDepth := 9) [h]

@[simp] theorem execVcStart_safe (v : VcReading) (s u : State) (h : s.sys.state = .safe) : (landing (execVcStart v s) u).sys.state = .safe := vcStart_safe v.pins v.meas s h

@[simp] theorem execEvaluateStart_safe (ready : Bool) (s : State) (u : State) (h : (s).sys.state = .safe) : ((landing (execEvaluateStart ready s) u)).sys.state = .safe := by
  unfold execEvaluateStart
  first | exact h | (simp (maxDischargeDepth := 9) [h]; done) | (simp_all (maxDischargeDepth := 9); done)

@[simp] theorem execAgreeStart_safe (s : State) (u : State) (h : (s).sys.state = .safe) : ((landing (execAgreeStart s) u)).sys.state = .safe := by
  unfold execAgreeStart
  first | exact h | (simp (maxDischargeDepth := 9) [h]; done) | (simp_all (maxDischargeDepth := 9); done)

@[simp] theorem execMantleVectorCheck_safe (received : Bool) (s : State) (u : State) (h : (s).sys.state = .safe) : ((landing (execMantleVectorCheck received s) u)).sys.state = .safe := by
  unfold execMantleVectorCheck
  first | exact h | (simp (maxDischargeDepth := 9) [h]; done) | (simp_all (maxDischargeDepth := 9); done)

@[simp] theorem execMantleStatusRead_safe (readable : Bool) (echo : BitVec 64) (s : State) (u : State) (h : (s).sys.state = .safe) : ((landing (execMantleStatusRead readable echo s) u)).sys.state = .safe := by
  unfold execMantleStatusRead
  first | exact h | (simp (maxDischargeDepth := 9) [h]; done) | (simp_all (maxDischargeDepth := 9); done)

@[simp] theorem execCommitStart_safe (sealsDone : Bool) (s : State) (u : State) (h : (s).sys.state = .safe) : ((landing (execCommitStart sealsDone s) u)).sys.state = .safe := by
  unfold execCommitStart
  first | exact h | (simp (maxDischargeDepth := 9) [h]; done) | (simp_all (maxDischargeDepth := 9); done)

@[simp] theorem execBackgroundStart_safe (b : Bool) (s u : State) (h : s.sys.state = .safe) : (landing (execBackgroundStart b s) u).sys.state = .safe := backgroundStart_safe b s h

@[simp] theorem execCloseStart_safe (s : State) (u : State) (h : (s).sys.state = .safe) : ((landing (execCloseStart s) u)).sys.state = .safe := by
  unfold execCloseStart
  first | exact h | (simp (maxDischargeDepth := 9) [h]; done) | (simp_all (maxDischargeDepth := 9); done)

@[simp] theorem execCreditRecount_safe (s : State) (u : State) (h : (s).sys.state = .safe) : ((landing (execCreditRecount s) u)).sys.state = .safe := by
  unfold execCreditRecount
  first | exact h | (simp (maxDischargeDepth := 9) [h]; done) | (simp_all (maxDischargeDepth := 9); done)

@[simp] theorem execSignatureCompare_safe (results : CloseResults) (s u : State) (h : s.sys.state = .safe) : (landing (execSignatureCompare results s) u).sys.state = .safe := signatureCompare_safe results.detected results.crcs s h

@[simp] theorem execVcEnd_safe (heartbeat : Bool) (s u : State) (h : s.sys.state = .safe) : (landing (execVcEnd heartbeat s) u).sys.state = .safe := vcEnd_safe heartbeat s h

@[simp] theorem execPhaseMark_safe (w : Word) (tick : Nat) (s : State) (u : State) (h : (s).sys.state = .safe) : ((landing (execPhaseMark w tick s) u)).sys.state = .safe := by
  unfold execPhaseMark
  first | exact h | (simp (maxDischargeDepth := 9) [h]; done) | (simp_all (maxDischargeDepth := 9); done)

@[simp] theorem execVcTimerFault_safe (s : State) (u : State) (h : (s).sys.state = .safe) : ((landing (execVcTimerFault s) u)).sys.state = .safe := by
  unfold execVcTimerFault
  first | exact h | (simp (maxDischargeDepth := 9) [h]; done) | (simp_all (maxDischargeDepth := 9); done)

@[simp] theorem execReferenceRx_safe (bus ofs id : Nat) (bytes : List Byte) (s : State) (u : State) (h : (s).sys.state = .safe) : ((landing (execReferenceRx bus ofs id bytes s) u)).sys.state = .safe := by
  unfold execReferenceRx
  first | exact h | (simp (maxDischargeDepth := 9) [h]; done) | (simp_all (maxDischargeDepth := 9); done)

@[simp] theorem execLockTimeout_safe (leaf : Nat) (s : State) (u : State) (h : (s).sys.state = .safe) : ((landing (execLockTimeout leaf s) u)).sys.state = .safe := by
  unfold execLockTimeout
  first | exact h | (simp (maxDischargeDepth := 9) [h]; done) | (simp_all (maxDischargeDepth := 9); done)

@[simp] theorem execOpenTimeout_safe (leaf : Nat) (s : State) (u : State) (h : (s).sys.state = .safe) : ((landing (execOpenTimeout leaf s) u)).sys.state = .safe := by
  unfold execOpenTimeout
  first | exact h | (simp (maxDischargeDepth := 9) [h]; done) | (simp_all (maxDischargeDepth := 9); done)

@[simp] theorem execCloseTimeout_safe (edge : Nat) (s : State) (u : State) (h : (s).sys.state = .safe) : ((landing (execCloseTimeout edge s) u)).sys.state = .safe := by
  unfold execCloseTimeout
  first | exact h | (simp (maxDischargeDepth := 9) [h]; done) | (simp_all (maxDischargeDepth := 9); done)

@[simp] theorem execEnableGrantTimeout_safe (edge : Nat) (s : State) (u : State) (h : s.sys.state = .safe) : (landing (execEnableGrantTimeout edge s) u).sys.state = .safe := by
  unfold execEnableGrantTimeout
  (repeat' split) <;> simp [h]

@[simp] theorem execDoorWaitTimeout_safe (edge : Nat) (s : State) (u : State) (h : (s).sys.state = .safe) : ((landing (execDoorWaitTimeout edge s) u)).sys.state = .safe := by
  unfold execDoorWaitTimeout
  (repeat' split) <;> first | exact h | (simp (maxDischargeDepth := 9) [h]; done) | (simp_all (maxDischargeDepth := 9); done)

@[simp] theorem execRestorationRelease_safe (edge : Nat) (s : State) (u : State) (h : (s).sys.state = .safe) : ((landing (execRestorationRelease edge s) u)).sys.state = .safe := by
  unfold execRestorationRelease
  first | exact h | (simp (maxDischargeDepth := 9) [h]; done) | (simp_all (maxDischargeDepth := 9); done)

@[simp] theorem execDsuStep_safe (s : State) (u : State) (h : (s).sys.state = .safe) : ((landing (execDsuStep s) u)).sys.state = .safe := by
  unfold execDsuStep
  first | exact h | (simp (maxDischargeDepth := 9) [h]; done) | (simp_all (maxDischargeDepth := 9); done)

@[simp] theorem execDsuStepTimeout_safe (s : State) (u : State) (h : (s).sys.state = .safe) : ((landing (execDsuStepTimeout s) u)).sys.state = .safe := by
  unfold execDsuStepTimeout
  first | exact h | (simp (maxDischargeDepth := 9) [h]; done) | (simp_all (maxDischargeDepth := 9); done)

@[simp] theorem execDsuLoadEnd_safe (s : State) (u : State) (h : (s).sys.state = .safe) : ((landing (execDsuLoadEnd s) u)).sys.state = .safe := by
  unfold execDsuLoadEnd
  first | exact h | (simp (maxDischargeDepth := 9) [h]; done) | (simp_all (maxDischargeDepth := 9); done)

@[simp] theorem execIteLaunch_safe (w : Word) (s : State) (u : State) (h : (s).sys.state = .safe) : ((landing (execIteLaunch w s) u)).sys.state = .safe := by
  unfold execIteLaunch
  first | exact h | (simp (maxDischargeDepth := 9) [h]; done) | (simp_all (maxDischargeDepth := 9); done)

@[simp] theorem execIteDone_safe (s u : State) (h : s.sys.state = .safe) : (landing (execIteDone s) u).sys.state = .safe := iteDone_safe s h

@[simp] theorem execIteOvertime_safe (s : State) (u : State) (h : (s).sys.state = .safe) : ((landing (execIteOvertime s) u)).sys.state = .safe := by
  unfold execIteOvertime
  first | exact h | (simp (maxDischargeDepth := 9) [h]; done) | (simp_all (maxDischargeDepth := 9); done)

@[simp] theorem execGdRamWrite_safe (addr : Nat) (w : Word) (s : State) (u : State) (h : (s).sys.state = .safe) : ((landing (execGdRamWrite addr w s) u)).sys.state = .safe := by
  unfold execGdRamWrite
  first | exact h | (simp (maxDischargeDepth := 9) [h]; done) | (simp_all (maxDischargeDepth := 9); done)

@[simp] theorem execDsuStepDone_safe (s u : State) (h : s.sys.state = .safe) : (landing (execDsuStepDone s) u).sys.state = .safe := dsuStepDone_safe s h

@[simp] theorem execOutputCommit_safe (w0 w1 code : Word) (s : State) (u : State) (h : (s).sys.state = .safe) : ((landing (execOutputCommit w0 w1 code s) u)).sys.state = .safe := by
  unfold execOutputCommit
  first | exact h | (simp (maxDischargeDepth := 9) [h]; done) | (simp_all (maxDischargeDepth := 9); done)

@[simp] theorem execSilentState_safe (s : State) (u : State) (h : (s).sys.state = .safe) : ((landing (execSilentState s) u)).sys.state = .safe := by
  unfold execSilentState
  first | exact h | (simp (maxDischargeDepth := 9) [h]; done) | (simp_all (maxDischargeDepth := 9); done)

@[simp] theorem execClassificationResult_safe (output result partner : Nat) (s : State) (u : State) (h : (s).sys.state = .safe) : ((landing (execClassificationResult output result partner s) u)).sys.state = .safe := by
  unfold execClassificationResult
  first | exact h | (simp (maxDischargeDepth := 9) [h]; done) | (simp_all (maxDischargeDepth := 9); done)

@[simp] theorem census_safe (s : State) (h : (s).sys.state = .safe) : ((census s)).sys.state = .safe := by
  unfold census
  first | exact h | (simp (maxDischargeDepth := 9) [h]; done) | (simp_all (maxDischargeDepth := 9); done)

@[simp] theorem execCensusComplete_safe (s : State) (u : State) (h : (s).sys.state = .safe) : ((landing (execCensusComplete s) u)).sys.state = .safe := by
  unfold execCensusComplete
  first | exact h | (simp (maxDischargeDepth := 9) [h]; done) | (simp_all (maxDischargeDepth := 9); done)

@[simp] theorem execNetworkLost_safe (portB : Bool) (s : State) (u : State) (h : (s).sys.state = .safe) : ((landing (execNetworkLost portB s) u)).sys.state = .safe := by
  unfold execNetworkLost
  first | exact h | (simp (maxDischargeDepth := 9) [h]; done) | (simp_all (maxDischargeDepth := 9); done)

@[simp] theorem execNetsSilentLimit_safe (s : State) (u : State) (h : (s).sys.state = .safe) : ((landing (execNetsSilentLimit s) u)).sys.state = .safe := by
  unfold execNetsSilentLimit
  first | exact h | (simp (maxDischargeDepth := 9) [h]; done) | (simp_all (maxDischargeDepth := 9); done)

@[simp] theorem execPclMctrlGo_safe (w : Word) (differ : List Nat) (s : State) (u : State) (h : (s).sys.state = .safe) : ((landing (execPclMctrlGo w differ s) u)).sys.state = .safe := by
  unfold execPclMctrlGo
  first | exact h | (simp (maxDischargeDepth := 9) [h]; done) | (simp_all (maxDischargeDepth := 9); done)

@[simp] theorem execHandoverVc_safe (s : State) (u : State) (h : (s).sys.state = .safe) : ((landing (execHandoverVc s) u)).sys.state = .safe := by
  unfold execHandoverVc
  first | exact h | (simp (maxDischargeDepth := 9) [h]; done) | (simp_all (maxDischargeDepth := 9); done)

@[simp] theorem execSwitchoverTrigger_safe (s : State) (u : State) (h : (s).sys.state = .safe) : ((landing (execSwitchoverTrigger s) u)).sys.state = .safe := by
  unfold execSwitchoverTrigger
  first | exact h | (simp (maxDischargeDepth := 9) [h]; done) | (simp_all (maxDischargeDepth := 9); done)

@[simp] theorem execTakeoverActive_safe (s u : State) (h : s.sys.state = .safe) : (landing (execTakeoverActive s) u).sys.state = .safe := takeoverStart_safe s h

@[simp] theorem execJoinTimeout_safe (s : State) (u : State) (h : (s).sys.state = .safe) : ((landing (execJoinTimeout s) u)).sys.state = .safe := by
  unfold execJoinTimeout
  first | exact h | (simp (maxDischargeDepth := 9) [h]; done) | (simp_all (maxDischargeDepth := 9); done)

@[simp] theorem execCascadeFrameRx_safe (f : Machine.CascFrame) (s : State) (u : State) (h : (s).sys.state = .safe) : ((landing (execCascadeFrameRx f s) u)).sys.state = .safe := by
  unfold execCascadeFrameRx
  first | exact h | (simp (maxDischargeDepth := 9) [h]; done) | (simp_all (maxDischargeDepth := 9); done)

@[simp] theorem execLogicSupplyValid_safe (s u : State) (h : s.sys.state = .safe) : (landing (execLogicSupplyValid s) u).sys.state = .safe := by
  unfold execLogicSupplyValid supplyValid
  simp [h]

@[simp] theorem execLogicSupplyOutOfRange_safe (high : Bool) (s : State) (u : State) (h : (s).sys.state = .safe) : ((landing (execLogicSupplyOutOfRange high s) u)).sys.state = .safe := by
  unfold execLogicSupplyOutOfRange
  first | exact h | (simp (maxDischargeDepth := 9) [h]; done) | (simp_all (maxDischargeDepth := 9); done)

@[simp] theorem execRefClockLost_safe (s : State) (u : State) (h : (s).sys.state = .safe) : ((landing (execRefClockLost s) u)).sys.state = .safe := by
  unfold execRefClockLost
  first | exact h | (simp (maxDischargeDepth := 9) [h]; done) | (simp_all (maxDischargeDepth := 9); done)

@[simp] theorem execSelftestComplete_safe (sigs : List (Nat × BitVec 64)) (compared : Bool) (index : Nat) (s : State) (u : State) (h : (s).sys.state = .safe) : ((landing (execSelftestComplete sigs compared index s) u)).sys.state = .safe := by
  unfold execSelftestComplete
  first | exact h | (simp (maxDischargeDepth := 9) [h]; done) | (simp_all (maxDischargeDepth := 9); done)

@[simp] theorem execBootComplete_safe (selRead othRead : Bool) (s : State) (u : State) (h : (s).sys.state = .safe) : ((landing (execBootComplete selRead othRead s) u)).sys.state = .safe := by
  unfold execBootComplete
  first | exact h | (simp (maxDischargeDepth := 9) [h]; done) | (simp_all (maxDischargeDepth := 9); done)

@[simp] theorem execConfigCheckComplete_safe (s : State) (u : State) (h : (s).sys.state = .safe) : ((landing (execConfigCheckComplete s) u)).sys.state = .safe := by
  unfold execConfigCheckComplete
  first | exact h | (simp (maxDischargeDepth := 9) [h]; done) | (simp_all (maxDischargeDepth := 9); done)

@[simp] theorem execSysSafeReq_safe (w : Word) (s : State) (u : State) (h : (s).sys.state = .safe) : ((landing (execSysSafeReq w s) u)).sys.state = .safe := by
  unfold execSysSafeReq
  first | exact h | (simp (maxDischargeDepth := 9) [h]; done) | (simp_all (maxDischargeDepth := 9); done)

@[simp] theorem execSlotCodeChange_safe (code : Nat) (s : State) (u : State) (h : (s).sys.state = .safe) : ((landing (execSlotCodeChange code s) u)).sys.state = .safe := by
  unfold execSlotCodeChange
  first | exact h | (simp (maxDischargeDepth := 9) [h]; done) | (simp_all (maxDischargeDepth := 9); done)

@[simp] theorem execBlockSelfCheckFail_safe (block : Block) (n : Nat) (s : State) (u : State) (h : (s).sys.state = .safe) : ((landing (execBlockSelfCheckFail block n s) u)).sys.state = .safe := by
  unfold execBlockSelfCheckFail
  first | exact h | (simp (maxDischargeDepth := 9) [h]; done) | (simp_all (maxDischargeDepth := 9); done)

@[simp] theorem execSuiOpComplete_safe (ok : Bool) (s : State) (u : State) (h : (s).sys.state = .safe) : ((landing (execSuiOpComplete ok s) u)).sys.state = .safe := by
  unfold execSuiOpComplete
  try dsimp only
  (repeat' split) <;> first | exact h | (simp (maxDischargeDepth := 9) [h]; done) | (simp_all (maxDischargeDepth := 9); done)

@[simp] theorem execSorliaMaintenanceRequest_safe (s : State) (u : State) (h : (s).sys.state = .safe) : ((landing (execSorliaMaintenanceRequest s) u)).sys.state = .safe := by
  unfold execSorliaMaintenanceRequest
  first | exact h | (simp (maxDischargeDepth := 9) [h]; done) | (simp_all (maxDischargeDepth := 9); done)

@[simp] theorem iteWrite_safe (lo : Nat) (w : Word) (s : State) (h : (s).sys.state = .safe) : (((iteWrite lo w s).getD s)).sys.state = .safe := by
  unfold iteWrite
  (repeat' split) <;> first | exact h | (simp (maxDischargeDepth := 9) [h]; done) | (simp_all (maxDischargeDepth := 9); done)

@[simp] theorem dsuWrite_safe (lo i : Nat) (w : Word) (s : State) (h : (s).sys.state = .safe) : (((dsuWrite lo i w s).getD s)).sys.state = .safe := by
  unfold dsuWrite
  (repeat' split) <;> first | exact h | (simp (maxDischargeDepth := 9) [h]; done) | (simp_all (maxDischargeDepth := 9); done)

@[simp] theorem cmdWrite_safe (lo i : Nat) (w : Word) (s : State) (h : (s).sys.state = .safe) : (((cmdWrite lo i w s).getD s)).sys.state = .safe := by
  unfold cmdWrite
  (repeat' split) <;> first | exact h | (simp (maxDischargeDepth := 9) [h]; done) | (simp_all (maxDischargeDepth := 9); done)

@[simp] theorem fioWrite_safe (lo : Nat) (w : Word) (s : State) (h : (s).sys.state = .safe) : (((fioWrite lo w s).getD s)).sys.state = .safe := by
  unfold fioWrite
  (repeat' split) <;> first | exact h | (simp (maxDischargeDepth := 9) [h]; done) | (simp_all (maxDischargeDepth := 9); done)

@[simp] theorem jnlWrite_safe (w : Word) (s : State) (h : (s).sys.state = .safe) : ((jnlWrite w s)).sys.state = .safe := by
  unfold jnlWrite
  try dsimp only
  (repeat' split) <;> first | exact h | (simp (maxDischargeDepth := 9) [h]; done) | (simp_all (maxDischargeDepth := 9); done)

@[simp] theorem pclWrite_safe (lo : Nat) (w : Word) (s : State) (h : (s).sys.state = .safe) : (((pclWrite lo w s).getD s)).sys.state = .safe := by
  unfold pclWrite
  try dsimp only
  (repeat' split) <;> first | exact h | (simp (maxDischargeDepth := 9) [h]; done) | (simp_all (maxDischargeDepth := 9); done)

@[simp] theorem sysWrite_safe (lo : Nat) (w : Word) (s : State) (h : (s).sys.state = .safe) : (((sysWrite lo w s).getD s)).sys.state = .safe := by
  unfold sysWrite
  (repeat' split) <;> first | exact h | (simp (maxDischargeDepth := 9) [h]; done) | (simp_all (maxDischargeDepth := 9); done)

@[simp] theorem operationWrite_safe (r : RegAt) (w : Word) (s : State) (h : (s).sys.state = .safe) : (((operationWrite r w s).getD s)).sys.state = .safe := by
  unfold operationWrite
  try dsimp only
  (repeat' split) <;> first | exact h | (simp (maxDischargeDepth := 9) [h]; done) | (simp_all (maxDischargeDepth := 9); done)

@[simp] theorem regWrite_safe (a : Nat) (r : RegAt) (w : Word) (s : State) (h : (s).sys.state = .safe) : ((regWrite a r w s)).sys.state = .safe := by
  unfold regWrite
  have k := operationWrite_safe r w s h
  split <;> rename_i e
  · rw [e] at k
    exact k
  · simp [h]

@[simp] theorem memWrite_safe (a width : Nat) (w : Word) (s : State) (h : (s).sys.state = .safe) : ((memWrite a width w s)).sys.state = .safe := by
  unfold memWrite
  first | exact h | (simp (maxDischargeDepth := 9) [h]; done) | (simp_all (maxDischargeDepth := 9); done)

@[simp] theorem accessWrite_safe (a width : Nat) (w : Word) (s : State) (h : (s).sys.state = .safe) : ((accessWrite a width w s)).sys.state = .safe := by
  unfold accessWrite
  (repeat' split) <;> first | exact h | (simp (maxDischargeDepth := 9) [h]; done) | (simp_all (maxDischargeDepth := 9); done)

@[simp] theorem agentWrite_safe (who a width : Nat) (w : Word) (s : State) (h : (s).sys.state = .safe) : ((agentWrite who a width w s)).sys.state = .safe := by
  unfold agentWrite
  first | exact h | (simp (maxDischargeDepth := 9) [h]; done) | (simp_all (maxDischargeDepth := 9); done)

@[simp] theorem execRegisterWrite_safe (at_ : BusAddr) (width : Nat) (w : Word) (s : State) (u : State) (h : (s).sys.state = .safe) : ((landing (execRegisterWrite at_ width w s) u)).sys.state = .safe := by
  unfold execRegisterWrite
  first | exact h | (simp (maxDischargeDepth := 9) [h]; done) | (simp_all (maxDischargeDepth := 9); done)

@[simp] theorem execRouteWaitTimeout_safe (ses : Nat) (s : State) (u : State) (h : (s).sys.state = .safe) : ((landing (execRouteWaitTimeout ses s) u)).sys.state = .safe := by
  unfold execRouteWaitTimeout
  first | exact h | (simp (maxDischargeDepth := 9) [h]; done) | (simp_all (maxDischargeDepth := 9); done)

@[simp] theorem execLendTimeout_safe (ses : Nat) (s : State) (u : State) (h : (s).sys.state = .safe) : ((landing (execLendTimeout ses s) u)).sys.state = .safe := by
  unfold execLendTimeout
  first | exact h | (simp (maxDischargeDepth := 9) [h]; done) | (simp_all (maxDischargeDepth := 9); done)

@[simp] theorem execSetTimeout_safe (ses : Nat) (s : State) (u : State) (h : (s).sys.state = .safe) : ((landing (execSetTimeout ses s) u)).sys.state = .safe := by
  unfold execSetTimeout
  first | exact h | (simp (maxDischargeDepth := 9) [h]; done) | (simp_all (maxDischargeDepth := 9); done)

@[simp] theorem execThrowTimeout_safe (ses : Nat) (s : State) (u : State) (h : (s).sys.state = .safe) : ((landing (execThrowTimeout ses s) u)).sys.state = .safe := by
  unfold execThrowTimeout
  first | exact h | (simp (maxDischargeDepth := 9) [h]; done) | (simp_all (maxDischargeDepth := 9); done)

@[simp] theorem execSignalStopTimeout_safe (ses : Nat) (s : State) (u : State) (h : (s).sys.state = .safe) : ((landing (execSignalStopTimeout ses s) u)).sys.state = .safe := by
  unfold execSignalStopTimeout
  first | exact h | (simp (maxDischargeDepth := 9) [h]; done) | (simp_all (maxDischargeDepth := 9); done)

@[simp] theorem issue_safe (t : Txn) (s : State) (h : (s).sys.state = .safe) : ((issue t s)).sys.state = .safe := by
  unfold issue
  (repeat' split) <;> first | exact h | (simp (maxDischargeDepth := 9) [h]; done) | (simp_all (maxDischargeDepth := 9); done)

@[simp] theorem decideTxn_safe (spread : Nat) (dualRailBad : Bool) (s : State) (h : s.sys.state = .safe) : (decideTxn spread dualRailBad s).sys.state = .safe := by
  unfold decideTxn
  dsimp only
  (repeat' split) <;> simp (maxDischargeDepth := 9) [h]

@[simp] theorem execVotedTransaction_safe (w0 w1 w2 : List QWrite) (spread : Nat) (checkerA checkerB : Bool) (s : State) (u : State) (h : (s).sys.state = .safe) : ((landing (execVotedTransaction w0 w1 w2 spread checkerA checkerB s) u)).sys.state = .safe := by
  unfold execVotedTransaction
  first | exact h | (simp (maxDischargeDepth := 9) [h]; done) | (simp_all (maxDischargeDepth := 9); done)

@[simp] theorem execAlignWindowClose_safe (w0 w1 w2 : List QWrite) (spread : Nat) (s : State) (u : State) (h : (s).sys.state = .safe) : ((landing (execAlignWindowClose w0 w1 w2 spread s) u)).sys.state = .safe := by
  unfold execAlignWindowClose
  first | exact h | (simp (maxDischargeDepth := 9) [h]; done) | (simp_all (maxDischargeDepth := 9); done)

@[simp] theorem execAlignQueueEntryLeaves_safe (region : Nat) (s : State) (u : State) (h : (s).sys.state = .safe) : ((landing (execAlignQueueEntryLeaves region s) u)).sys.state = .safe := by
  unfold execAlignQueueEntryLeaves
  first | exact h | (simp (maxDischargeDepth := 9) [h]; done) | (simp_all (maxDischargeDepth := 9); done)

@[simp] theorem execMemoryUncorrectable_safe (region : Nat) (s : State) (u : State) (h : (s).sys.state = .safe) : ((landing (execMemoryUncorrectable region s) u)).sys.state = .safe := by
  unfold execMemoryUncorrectable
  first | exact h | (simp (maxDischargeDepth := 9) [h]; done) | (simp_all (maxDischargeDepth := 9); done)

@[simp] theorem execDebugAttach_safe (region : Nat) (s : State) (u : State) (h : (s).sys.state = .safe) : ((landing (execDebugAttach region s) u)).sys.state = .safe := by
  unfold execDebugAttach
  first | exact h | (simp (maxDischargeDepth := 9) [h]; done) | (simp_all (maxDischargeDepth := 9); done)

@[simp] theorem execRegionOutOfTolerance_safe (s0 s1 s2 : RegionSample) (tick : Nat) (s : State) (u : State) (h : (s).sys.state = .safe) : ((landing (execRegionOutOfTolerance s0 s1 s2 tick s) u)).sys.state = .safe := by
  unfold execRegionOutOfTolerance
  first | exact h | (simp (maxDischargeDepth := 9) [h]; done) | (simp_all (maxDischargeDepth := 9); done)

end Sys2Proof.Machine
end

