-- ==== Sys2Proof/Laws/Vcn.lean ====
section
/-!
SUPPORT. Which operations leave the VCN, one lemma per operation.
-/
namespace Sys2Proof.Machine
set_option linter.all false

@[simp] theorem ite_vcn (c : Prop) [Decidable c] (a b : State) : (if c then a else b).sys.vcn = if c then a.sys.vcn else b.sys.vcn := by
  split <;> rfl

@[simp] theorem foldl_vcn {β : Type} (l : List β) (f : State → β → State) (s : State) (h : ∀ s b, (f s b).sys.vcn = s.sys.vcn) :
    (l.foldl f s).sys.vcn = s.sys.vcn := by
  induction l generalizing s with
  | nil => rfl
  | cons b l ih => rw [List.foldl_cons, ih, h]

theorem foldlFst_vcn {α β : Type} (l : List β) (f : State × α → β → State × α) (p : State × α) (h : ∀ p b, (f p b).1.sys.vcn = p.1.sys.vcn) :
    (l.foldl f p).1.sys.vcn = p.1.sys.vcn := by
  induction l generalizing p with
  | nil => rfl
  | cons b l ih => rw [List.foldl_cons, ih, h]

@[simp] theorem State.setReg_vcn (s : State) (a : Nat) (w : Word) : (State.setReg s a w).sys.vcn = s.sys.vcn := by
  unfold State.setReg
  simp

@[simp] theorem State.setRegF_vcn (s : State) (a hi lo v : Nat) : (State.setRegF s a hi lo v).sys.vcn = s.sys.vcn := by
  unfold State.setRegF
  simp

@[simp] theorem State.setRegB_vcn (s : State) (a i : Nat) (b : Bool) : (State.setRegB s a i b).sys.vcn = s.sys.vcn := by
  unfold State.setRegB
  simp

@[simp] theorem State.mramPut_vcn (s : State) (off : Nat) (bs : List Byte) : (State.mramPut s off bs).sys.vcn = s.sys.vcn := by
  unfold State.mramPut
  simp

@[simp] theorem State.takeFree_vcn (s : State) : (State.takeFree s).2.sys.vcn = s.sys.vcn := by
  unfold State.takeFree
  simp

@[simp] theorem putDual_vcn (base : Nat) (slotB : Bool) (w : Word) (s : State) : (putDual base slotB w s).sys.vcn = s.sys.vcn := by
  unfold putDual
  simp

@[simp] theorem nseqCheckpoint_vcn (s : State) : (nseqCheckpoint s).sys.vcn = s.sys.vcn := by
  unfold nseqCheckpoint
  simp

@[simp] theorem stageFit_vcn (ty : Nat) (body : List Byte) (s : State) : (stageFit ty body s).sys.vcn = s.sys.vcn := by
  unfold stageFit
  simp

@[simp] theorem stageLost_vcn (s : State) : (stageLost s).sys.vcn = s.sys.vcn := by
  unfold stageLost
  simp

@[simp] theorem stage_vcn (ty : Nat) (body : List Byte) (s : State) : (stage ty body s).1.sys.vcn = s.sys.vcn := by
  unfold stage
  try dsimp only
  (repeat' split) <;> simp

@[simp] theorem setEvent_vcn (code off : Nat) (s : State) : (setEvent code off s).sys.vcn = s.sys.vcn := by
  unfold setEvent
  (repeat' split) <;> simp

@[simp] theorem evrClose_vcn (s : State) : (evrClose s).1.sys.vcn = s.sys.vcn := by
  unfold evrClose
  try dsimp only
  (repeat' split) <;> simp

@[simp] theorem evrAllocate_vcn (r : LowReq) (s : State) : (evrAllocate r s).sys.vcn = s.sys.vcn := by
  unfold evrAllocate
  simp

@[simp] theorem evrRepeat_vcn (s : State) : (evrRepeat s).sys.vcn = s.sys.vcn := by
  unfold evrRepeat
  (repeat' split) <;> simp

@[simp] theorem evrTake_vcn (k : Nat) (r : LowReq) (s : State) : (evrTake k r s).sys.vcn = s.sys.vcn := by
  induction k generalizing r s with
  | zero => rfl
  | succ k ih =>
    unfold evrTake
    dsimp only
    (repeat' split) <;> simp [ih]

@[simp] theorem evrDrop_vcn (src : Nat) (s : State) : (evrDrop src s).sys.vcn = s.sys.vcn := by
  unfold evrDrop
  simp

@[simp] theorem evrAnnounce_vcn (src : Nat) (s : State) : (evrAnnounce src s).sys.vcn = s.sys.vcn := by
  unfold evrAnnounce
  simp

@[simp] theorem evrRequest_vcn (r : LowReq) (s : State) : (evrRequest r s).sys.vcn = s.sys.vcn := by
  unfold evrRequest
  simp

@[simp] theorem evrFlag_vcn (r : LowReq) (s : State) : (evrFlag r s).sys.vcn = s.sys.vcn := by
  unfold evrFlag
  simp

@[simp] theorem readFlags_vcn (s : State) : (readFlags s).sys.vcn = s.sys.vcn := by
  unfold readFlags
  simp

@[simp] theorem noteAt_vcn (off code obj val : Nat) (s : State) : (noteAt off code obj val s).sys.vcn = s.sys.vcn := by
  unfold noteAt
  simp

@[simp] theorem note_vcn (code obj val : Nat) (s : State) : (note code obj val s).sys.vcn = s.sys.vcn := by
  unfold note
  simp

@[simp] theorem noteIf_vcn (c : Bool) (code obj val : Nat) (s : State) : (noteIf c code obj val s).sys.vcn = s.sys.vcn := by
  unfold noteIf
  simp

@[simp] theorem setRegs_vcn (a : Nat) (ws : List Word) (s : State) : (setRegs a ws s).sys.vcn = s.sys.vcn := by
  unfold setRegs
  simp

@[simp] theorem postNand_vcn (ty : Nat) (body : List Byte) (s : State) : (postNand ty body s).sys.vcn = s.sys.vcn := by
  unfold postNand
  simp

@[simp] theorem recordLater_vcn (ty : Nat) (body : List Byte) (s : State) : (recordLater ty body s).sys.vcn = s.sys.vcn := by
  unfold recordLater
  simp

@[simp] theorem mSafe_vcn (code : Nat) (s : State) : (mSafe code s).sys.vcn = s.sys.vcn := by
  unfold mSafe
  simp

@[simp] theorem mFault_vcn (code : Nat) (s : State) : (mFault code s).sys.vcn = s.sys.vcn := by
  unfold mFault
  simp

@[simp] theorem sealBus_vcn (b : Nat) (s : State) : (sealBus b s).sys.vcn = s.sys.vcn := by
  unfold sealBus
  simp

@[simp] theorem countMasked_vcn (n : Nat) (s : State) : (countMasked n s).sys.vcn = s.sys.vcn := by
  unfold countMasked
  simp

@[simp] theorem resealBus_vcn (b : Nat) (s : State) : (resealBus b s).sys.vcn = s.sys.vcn := by
  unfold resealBus
  simp

@[simp] theorem resealAfter_vcn (before : Mnt) (s : State) : (resealAfter before s).sys.vcn = s.sys.vcn := by
  unfold resealAfter
  simp

@[simp] theorem State.setTag_vcn (s : State) (t : Nat) (g : Tag) : (State.setTag s t g).sys.vcn = s.sys.vcn := by
  unfold State.setTag
  simp

@[simp] theorem outPush_vcn (host : Nat) (noncons : Bool) (r : List Byte) (s : State) : (outPush host noncons r s).sys.vcn = s.sys.vcn := by
  unfold outPush
  simp

@[simp] theorem writeRbuf_vcn (r : List Byte) (s : State) : (writeRbuf r s).sys.vcn = s.sys.vcn := by
  unfold writeRbuf
  simp

@[simp] theorem recordCommand_vcn (t : Nat) (g : Tag) (r : List Byte) (s : State) : (recordCommand t g r s).sys.vcn = s.sys.vcn := by
  unfold recordCommand
  simp

@[simp] theorem tagDirty_vcn (t : Nat) (s : State) : (tagDirty t s).sys.vcn = s.sys.vcn := by
  unfold tagDirty
  simp

@[simp] theorem storeReply_vcn (r : List Byte) (s : State) : (storeReply r s).sys.vcn = s.sys.vcn := by
  unfold storeReply
  simp

@[simp] theorem abortAll_vcn (cause : Nat) (s : State) : (abortAll cause s).sys.vcn = s.sys.vcn := by
  unfold abortAll
  simp

@[simp] theorem State.setBus_vcn (s : State) (b : Nat) (d : Dbc) : (State.setBus s b d).sys.vcn = s.sys.vcn := by
  unfold State.setBus
  simp

@[simp] theorem clearReady_vcn (s : State) : (clearReady s).sys.vcn = s.sys.vcn := by
  unfold clearReady
  simp

@[simp] theorem enterSafe_vcn (code : Nat) (mantle : Bool) (s : State) : (enterSafe code mantle s).sys.vcn = s.sys.vcn := by
  unfold enterSafe
  simp

@[simp] theorem enterMaint_vcn (code : Nat) (mantle : Bool) (s : State) : (enterMaint code mantle s).sys.vcn = s.sys.vcn := by
  unfold enterMaint
  simp

@[simp] theorem safeOn_vcn (code : Nat) (mantle : Bool) (s : State) : (safeOn code mantle s).sys.vcn = s.sys.vcn := by
  unfold safeOn
  (repeat' split) <;> simp

@[simp] theorem raiseSAt_vcn (off code obj val : Nat) (s : State) : (raiseSAt off code obj val s).sys.vcn = s.sys.vcn := by
  unfold raiseSAt
  simp

@[simp] theorem raiseS_vcn (code obj val : Nat) (s : State) : (raiseS code obj val s).sys.vcn = s.sys.vcn := by
  unfold raiseS
  simp

@[simp] theorem raiseAll_vcn (codes : List Nat) (s : State) : (raiseAll codes s).sys.vcn = s.sys.vcn := by
  unfold raiseAll
  (repeat' split) <;> simp

@[simp] theorem State.setEdge_vcn (s : State) (e : Nat) (d : DEdge) : (State.setEdge s e d).sys.vcn = s.sys.vcn := by
  unfold State.setEdge
  simp

@[simp] theorem localSafeEdge_vcn (e code : Nat) (s : State) : (localSafeEdge e code s).sys.vcn = s.sys.vcn := by
  unfold localSafeEdge
  simp

@[simp] theorem raiseEdge_vcn (e code obj val : Nat) (s : State) : (raiseEdge e code obj val s).sys.vcn = s.sys.vcn := by
  unfold raiseEdge
  simp

@[simp] theorem obsAdd_vcn (inc : Nat → Nat → Nat) (s : State) : (obsAdd inc s).sys.vcn = s.sys.vcn := by
  unfold obsAdd
  simp

@[simp] theorem obsCount_vcn (i n : Nat) (s : State) : (obsCount i n s).sys.vcn = s.sys.vcn := by
  unfold obsCount
  simp

@[simp] theorem obsCountT_vcn (k i n : Nat) (s : State) : (obsCountT k i n s).sys.vcn = s.sys.vcn := by
  unfold obsCountT
  simp

@[simp] theorem obsRun_vcn (s : State) : (obsRun s).sys.vcn = s.sys.vcn := by
  unfold obsRun
  simp

@[simp] theorem ovfWrite_vcn (j : Nat) (w : Word) (s : State) : (ovfWrite j w s).sys.vcn = s.sys.vcn := by
  unfold ovfWrite
  simp

@[simp] theorem tagDraw_vcn (s : State) : (tagDraw s).sys.vcn = s.sys.vcn := by
  unfold tagDraw
  simp

@[simp] theorem linkSend_vcn (s : State) : (linkSend s).sys.vcn = s.sys.vcn := by
  unfold linkSend
  simp

@[simp] theorem segStart_vcn (s : State) : (segStart s).sys.vcn = s.sys.vcn := by
  unfold segStart
  simp

@[simp] theorem obsStart_vcn (s : State) : (obsStart s).sys.vcn = s.sys.vcn := by
  unfold obsStart
  simp

@[simp] theorem segmentLatch_vcn (s : State) : (segmentLatch s).sys.vcn = s.sys.vcn := by
  unfold segmentLatch
  simp

@[simp] theorem obsRejoin_vcn (k : Nat) (s : State) : (obsRejoin k s).sys.vcn = s.sys.vcn := by
  unfold obsRejoin
  simp

@[simp] theorem State.setLeaf_vcn (s : State) (l : Nat) (p : PLeaf) : (State.setLeaf s l p).sys.vcn = s.sys.vcn := by
  unfold State.setLeaf
  simp

@[simp] theorem onSlot_vcn (cB rB tB : Nat) (berth : Bool) (f : SlotConf → Word → Word → Word × Word) (s : State) (i : Nat) : (onSlot cB rB tB berth f s i).sys.vcn = s.sys.vcn := by
  unfold onSlot
  simp

@[simp] theorem onLeafSlots_vcn (l : Nat) (f : SlotConf → Word → Word → Word × Word) (s : State) : (onLeafSlots l f s).sys.vcn = s.sys.vcn := by
  unfold onLeafSlots
  simp

@[simp] theorem onBerthSlots_vcn (e : Nat) (f : SlotConf → Word → Word → Word × Word) (s : State) : (onBerthSlots e f s).sys.vcn = s.sys.vcn := by
  unfold onBerthSlots
  simp

@[simp] theorem leafTake_vcn (l trv : Nat) (vel : Int) (r : UnitRep) (s : State) : (leafTake l trv vel r s).sys.vcn = s.sys.vcn := by
  unfold leafTake
  simp

@[simp] theorem leafMissing_vcn (l : Nat) (s : State) : (leafMissing l s).sys.vcn = s.sys.vcn := by
  unfold leafMissing
  simp

@[simp] theorem unitIntake_vcn (u : Nat) (r : UnitRep) (due : Bool) (s : State) : (unitIntake u r due s).sys.vcn = s.sys.vcn := by
  unfold unitIntake
  simp

@[simp] theorem latchLeaves_vcn (s : State) : (latchLeaves s).sys.vcn = s.sys.vcn := by
  unfold latchLeaves
  simp

@[simp] theorem clearNew_vcn (s : State) : (clearNew s).sys.vcn = s.sys.vcn := by
  unfold clearNew
  simp

@[simp] theorem berthCompute_vcn (s : State) (e : Nat) : (berthCompute s e).sys.vcn = s.sys.vcn := by
  unfold berthCompute
  simp

@[simp] theorem dsuIntake_vcn (u : Nat) (r : UnitRep) (taken due : Bool) (s : State) : (dsuIntake u r taken due s).sys.vcn = s.sys.vcn := by
  unfold dsuIntake
  simp

@[simp] theorem updEdge_vcn (e : Nat) (f : DEdge → DEdge) (s : State) : (updEdge e f s).sys.vcn = s.sys.vcn := by
  unfold updEdge
  simp

@[simp] theorem setStoAtOnce_vcn (u : Nat) (b : Bool) (s : State) : (setStoAtOnce u b s).sys.vcn = s.sys.vcn := by
  unfold setStoAtOnce
  simp

@[simp] theorem tokSet_vcn (i : Nat) (w : Word) (s : State) : (tokSet i w s).sys.vcn = s.sys.vcn := by
  unfold tokSet
  simp

@[simp] theorem acquireList_vcn (xs : List Nat) (h : Nat) (s : State) : (acquireList xs h s).1.sys.vcn = s.sys.vcn := by
  unfold acquireList
  (repeat' split) <;> simp

@[simp] theorem recount_vcn (s : State) : (recount s).sys.vcn = s.sys.vcn := by
  unfold recount
  simp

@[simp] theorem crdPerform_vcn (o : CrdOp) (s : State) : (crdPerform o s).1.sys.vcn = s.sys.vcn := by
  unfold crdPerform
  try dsimp only
  (repeat' split) <;> simp

@[simp] theorem crdDo_vcn (o : CrdOp) (s : State) : (crdDo o s).1.sys.vcn = s.sys.vcn := by
  unfold crdDo
  dsimp only
  rw [State.setReg_vcn, obsCount_vcn]
  dsimp only
  split <;> simp

@[simp] theorem writeOpa_vcn (subj timer : Nat) (s : State) : (writeOpa subj timer s).sys.vcn = s.sys.vcn := by
  unfold writeOpa
  simp

@[simp] theorem crdRun_vcn (opc elem holder subj timer : Nat) (s : State) : (crdRun opc elem holder subj timer s).1.sys.vcn = s.sys.vcn := by
  unfold crdRun
  simp

@[simp] theorem tokExpired_vcn (i : Nat) (s : State) : (tokExpired i s).sys.vcn = s.sys.vcn := by
  unfold tokExpired
  simp

@[simp] theorem tokTick_vcn (s : State) (i : Nat) : (tokTick s i).sys.vcn = s.sys.vcn := by
  unfold tokTick
  simp

@[simp] theorem tokTicks_vcn (s : State) : (tokTicks s).sys.vcn = s.sys.vcn := by
  unfold tokTicks
  simp

@[simp] theorem updBus_vcn (b : Nat) (f : Dbc → Dbc) (s : State) : (updBus b f s).sys.vcn = s.sys.vcn := by
  unfold updBus
  simp

@[simp] theorem noteBus_vcn (b code : Nat) (s : State) : (noteBus b code s).sys.vcn = s.sys.vcn := by
  unfold noteBus
  simp

@[simp] theorem busLocal_vcn (b code : Nat) (s : State) : (busLocal b code s).sys.vcn = s.sys.vcn := by
  unfold busLocal
  simp

@[simp] theorem countUnit_vcn (b u hi lo : Nat) (s : State) : (countUnit b u hi lo s).sys.vcn = s.sys.vcn := by
  unfold countUnit
  simp

@[simp] theorem busesFollow_vcn (old new : ModState) (s : State) : (busesFollow old new s).sys.vcn = s.sys.vcn := by
  unfold busesFollow
  simp

@[simp] theorem sleepEnd_vcn (b : Nat) (s : State) : (sleepEnd b s).sys.vcn = s.sys.vcn := by
  unfold sleepEnd
  simp

@[simp] theorem brokenNote_vcn (b : Nat) (s : State) : (brokenNote b s).sys.vcn = s.sys.vcn := by
  unfold brokenNote
  (repeat' split) <;> simp

@[simp] theorem busTurn_vcn (b : Nat) (s : State) : (busTurn b s).sys.vcn = s.sys.vcn := by
  unfold busTurn
  simp

@[simp] theorem cmdWatch_vcn (b : Nat) (s : State) : (cmdWatch b s).sys.vcn = s.sys.vcn := by
  unfold cmdWatch
  simp

@[simp] theorem sleepTurn_vcn (b : Nat) (s : State) : (sleepTurn b s).sys.vcn = s.sys.vcn := by
  unfold sleepTurn
  simp

@[simp] theorem snapRegs_vcn (b u : Nat) (r : UnitRep) (s : State) : (snapRegs b u r s).sys.vcn = s.sys.vcn := by
  unfold snapRegs
  simp

@[simp] theorem unitTurn_vcn (b : Nat) (s : State) (u : Nat) : (unitTurn b s u).sys.vcn = s.sys.vcn := by
  unfold unitTurn
  simp

@[simp] theorem reportsTurn_vcn (s : State) : (reportsTurn s).sys.vcn = s.sys.vcn := by
  unfold reportsTurn
  simp

@[simp] theorem busesTurn_vcn (s : State) : (busesTurn s).sys.vcn = s.sys.vcn := by
  unfold busesTurn
  simp

@[simp] theorem discStrobe_vcn (s : State) (i : Nat) : (discStrobe s i).sys.vcn = s.sys.vcn := by
  unfold discStrobe
  simp

@[simp] theorem fioGate_vcn (s : State) : (fioGate s).sys.vcn = s.sys.vcn := by
  unfold fioGate
  simp

@[simp] theorem groupEdges_vcn (gs : BitVec 12) (s : State) : (groupEdges gs s).sys.vcn = s.sys.vcn := by
  unfold groupEdges
  try dsimp only
  (repeat' split) <;>
    first | (simp; done) | (refine Eq.trans (foldl_vcn _ _ _ (fun s b => ?_)) ?_ <;> (repeat' split) <;> simp)

@[simp] theorem groupsLocalSafe_vcn (before : Word) (s : State) : (groupsLocalSafe before s).sys.vcn = s.sys.vcn := by
  unfold groupsLocalSafe
  try dsimp only
  (repeat' split) <;>
    first | (simp; done) | (refine Eq.trans (foldl_vcn _ _ _ (fun s b => ?_)) ?_ <;> (repeat' split) <;> simp)

@[simp] theorem discSet_vcn (i : Nat) (s : State) : (discSet i s).sys.vcn = s.sys.vcn := by
  unfold discSet
  simp

@[simp] theorem silentState_vcn (s : State) : (silentState s).sys.vcn = s.sys.vcn := by
  unfold silentState
  simp

@[simp] theorem fioStrobe_vcn (rb : BitVec 48) (s : State) : (fioStrobe rb s).sys.vcn = s.sys.vcn := by
  unfold fioStrobe
  simp

@[simp] theorem recountCredits_vcn (s : State) : (recountCredits s).sys.vcn = s.sys.vcn := by
  unfold recountCredits
  simp

@[simp] theorem postRefused_vcn (tag : Nat) (s : State) : (postRefused tag s).sys.vcn = s.sys.vcn := by
  unfold postRefused
  simp

@[simp] theorem postBytes_vcn (r : List Byte) (s : State) : (postBytes r s).sys.vcn = s.sys.vcn := by
  unfold postBytes
  simp

@[simp] theorem postReply_vcn (tag ses status detail fault : Nat) (results : List Byte) (s : State) : (postReply tag ses status detail fault results s).sys.vcn = s.sys.vcn := by
  unfold postReply
  simp

@[simp] theorem postIfActive_vcn (tag ses status detail fault : Nat) (results : List Byte) (s : State) : (postIfActive tag ses status detail fault results s).sys.vcn = s.sys.vcn := by
  unfold postIfActive
  simp

@[simp] theorem postAccepted_vcn (tag ses : Nat) (s : State) : (postAccepted tag ses s).sys.vcn = s.sys.vcn := by
  unfold postAccepted
  simp

@[simp] theorem answer_vcn (p : Pkt) (status code : Nat) (results : List Byte) (s : State) : (answer p status code results s).sys.vcn = s.sys.vcn := by
  unfold answer
  simp

@[simp] theorem answerDuplicate_vcn (host tag : Nat) (s : State) : (answerDuplicate host tag s).sys.vcn = s.sys.vcn := by
  unfold answerDuplicate
  try dsimp only
  (repeat' split) <;> simp

@[simp] theorem consume_vcn (p : Pkt) (s : State) : (consume p s).sys.vcn = s.sys.vcn := by
  unfold consume
  simp

@[simp] theorem checkPacket_vcn (p : Pkt) (flags : Nat) (s : State) : (checkPacket p flags s).sys.vcn = s.sys.vcn := by
  unfold checkPacket
  (repeat' split) <;> simp

@[simp] theorem feedBody_vcn (k host : Nat) (body : List Byte) (s : State) : (feedBody k host body s).sys.vcn = s.sys.vcn := by
  induction k generalizing host body s with
  | zero => rfl
  | succ k ih =>
    unfold feedBody
    dsimp only
    (repeat' split) <;> simp [ih]

@[simp] theorem feedTelegram_vcn (host : Nat) (telegram : List Byte) (s : State) : (feedTelegram host telegram s).sys.vcn = s.sys.vcn := by
  unfold feedTelegram
  simp

theorem popHead_vcn (s t : State) (p : Pkt) (h : popHead s = some (p, t)) : t.sys.vcn = s.sys.vcn := by
  unfold popHead at h
  split at h
  · cases h
  · split at h
    · cases h
    · cases h
      rfl

@[simp] theorem markExt_vcn (s : State) : (markExt s).sys.vcn = s.sys.vcn := by
  unfold markExt
  simp

@[simp] theorem dropQueued_vcn (s : State) : (dropQueued s).sys.vcn = s.sys.vcn := by
  unfold dropQueued
  simp

@[simp] theorem dropHseq_vcn (host : Nat) (s : State) : (dropHseq host s).sys.vcn = s.sys.vcn := by
  unfold dropHseq
  simp

@[simp] theorem State.setCon_vcn (s : State) (c : Nat) (v : Conn) : (State.setCon s c v).sys.vcn = s.sys.vcn := by
  unfold State.setCon
  simp

@[simp] theorem updCon_vcn (c : Nat) (f : Conn → Conn) (s : State) : (updCon c f s).sys.vcn = s.sys.vcn := by
  unfold updCon
  simp

@[simp] theorem netSnapshot_vcn (s : State) : (netSnapshot s).sys.vcn = s.sys.vcn := by
  unfold netSnapshot
  simp

@[simp] theorem abResult_vcn (c r : Nat) (s : State) : (abResult c r s).sys.vcn = s.sys.vcn := by
  unfold abResult
  simp

@[simp] theorem abExpire_vcn (c : Nat) (s : State) : (abExpire c s).sys.vcn = s.sys.vcn := by
  unfold abExpire
  simp

@[simp] theorem conRecover_vcn (c : Nat) (s : State) : (conRecover c s).sys.vcn = s.sys.vcn := by
  unfold conRecover
  simp

@[simp] theorem partnerCopy_vcn (c : Nat) (portB : Bool) (s : State) : (partnerCopy c portB s).sys.vcn = s.sys.vcn := by
  unfold partnerCopy
  simp

@[simp] theorem setBase_vcn (c : Nat) (portB content : Bool) (bs : List Byte) (s : State) : (setBase c portB content bs s).sys.vcn = s.sys.vcn := by
  unfold setBase
  simp

@[simp] theorem heardCopy_vcn (c : Nat) (portB : Bool) (s : State) : (heardCopy c portB s).sys.vcn = s.sys.vcn := by
  unfold heardCopy
  simp

@[simp] theorem checkLater_vcn (c : Nat) (portB : Bool) (bs : List Byte) (s : State) : (checkLater c portB bs s).sys.vcn = s.sys.vcn := by
  unfold checkLater
  simp

@[simp] theorem checkCopy_vcn (portB : Bool) (s : State) (cp : RxCopy) : (checkCopy portB s cp).sys.vcn = s.sys.vcn := by
  unfold checkCopy
  try dsimp only
  (repeat' split) <;> simp

@[simp] theorem judgeFresh_vcn (c : Nat) (s : State) : (judgeFresh c s).sys.vcn = s.sys.vcn := by
  unfold judgeFresh
  simp

@[simp] theorem dropBase_vcn (c : Nat) (s : State) : (dropBase c s).sys.vcn = s.sys.vcn := by
  unfold dropBase
  simp

@[simp] theorem resync_vcn (c : Nat) (s : State) : (resync c s).sys.vcn = s.sys.vcn := by
  unfold resync
  try dsimp only
  (repeat' split) <;> simp

@[simp] theorem conTurn_vcn (s : State) (c : Nat) : (conTurn s c).sys.vcn = s.sys.vcn := by
  unfold conTurn
  simp

@[simp] theorem netLost_vcn (portB : Bool) (s : State) : (netLost portB s).sys.vcn = s.sys.vcn := by
  unfold netLost
  simp

@[simp] theorem netRestored_vcn (portB : Bool) (s : State) : (netRestored portB s).sys.vcn = s.sys.vcn := by
  unfold netRestored
  simp

@[simp] theorem netsSilent_vcn (s : State) : (netsSilent s).sys.vcn = s.sys.vcn := by
  unfold netsSilent
  simp

@[simp] theorem netsTurn_vcn (s : State) : (netsTurn s).sys.vcn = s.sys.vcn := by
  unfold netsTurn
  simp

@[simp] theorem telegramChecks_vcn (s : State) : (telegramChecks s).sys.vcn = s.sys.vcn := by
  unfold telegramChecks
  simp

@[simp] theorem slotReady_vcn (m c : Nat) (bs : List Byte) (s : State) : (slotReady m c bs s).sys.vcn = s.sys.vcn := by
  unfold slotReady
  simp

@[simp] theorem release_vcn (s : State) : (release s).sys.vcn = s.sys.vcn := by
  unfold release
  simp

@[simp] theorem setEstate_vcn (s : State) (i v : Nat) : (setEstate s i v).sys.vcn = s.sys.vcn := by
  unfold setEstate
  simp

@[simp] theorem State.setSes_vcn (s : State) (n : Nat) (x : Session) : (State.setSes s n x).sys.vcn = s.sys.vcn := by
  unfold State.setSes
  simp

@[simp] theorem updSes_vcn (n : Nat) (f : Session → Session) (s : State) : (updSes n f s).sys.vcn = s.sys.vcn := by
  unfold updSes
  simp

@[simp] theorem lendOut_vcn (m : LendMsg) (s : State) : (lendOut m s).sys.vcn = s.sys.vcn := by
  unfold lendOut
  simp

@[simp] theorem lendRight_vcn (m : LendMsg) (s : State) : (lendRight m s).sys.vcn = s.sys.vcn := by
  unfold lendRight
  simp

@[simp] theorem unborrow_vcn (ses : Nat) (s : State) : (unborrow ses s).sys.vcn = s.sys.vcn := by
  unfold unborrow
  simp

@[simp] theorem giveBack_vcn (elem holder ses : Nat) (s : State) : (giveBack elem holder ses s).sys.vcn = s.sys.vcn := by
  unfold giveBack
  simp

@[simp] theorem freeToken_vcn (ses : Nat) (s : State) (elem : Nat) : (freeToken ses s elem).sys.vcn = s.sys.vcn := by
  unfold freeToken
  simp

@[simp] theorem timeToken_vcn (ses t : Nat) (s : State) (elem : Nat) : (timeToken ses t s elem).sys.vcn = s.sys.vcn := by
  unfold timeToken
  simp

@[simp] theorem standingBlock_vcn (s : State) (i : Nat) : (standingBlock s i).sys.vcn = s.sys.vcn := by
  unfold standingBlock
  simp

@[simp] theorem standingBlocks_vcn (s : State) : (standingBlocks s).sys.vcn = s.sys.vcn := by
  unfold standingBlocks
  simp

@[simp] theorem lendProtocol_vcn (elem : Nat) (s : State) : (lendProtocol elem s).sys.vcn = s.sys.vcn := by
  unfold lendProtocol
  simp

@[simp] theorem newEpoch_vcn (slot epoch : Nat) (s : State) : (newEpoch slot epoch s).sys.vcn = s.sys.vcn := by
  unfold newEpoch
  simp

@[simp] theorem dropBorrow_vcn (b : Borrow) (s : State) : (dropBorrow b s).sys.vcn = s.sys.vcn := by
  unfold dropBorrow
  simp

@[simp] theorem dropLoan_vcn (elem : Nat) (s : State) : (dropLoan elem s).sys.vcn = s.sys.vcn := by
  unfold dropLoan
  simp

@[simp] theorem lendReq_vcn (m : LendMsg) (s : State) : (lendReq m s).sys.vcn = s.sys.vcn := by
  unfold lendReq
  simp

@[simp] theorem lendGrant_vcn (m : LendMsg) (s : State) : (lendGrant m s).sys.vcn = s.sys.vcn := by
  unfold lendGrant
  try dsimp only
  (repeat' split) <;> simp

@[simp] theorem markRefused_vcn (n : Nat) (s : State) : (markRefused n s).sys.vcn = s.sys.vcn := by
  unfold markRefused
  simp

@[simp] theorem lendRefuse_vcn (m : LendMsg) (s : State) : (lendRefuse m s).sys.vcn = s.sys.vcn := by
  unfold lendRefuse
  (repeat' split) <;> simp

@[simp] theorem lendTaken_vcn (m : LendMsg) (s : State) : (lendTaken m s).sys.vcn = s.sys.vcn := by
  unfold lendTaken
  (repeat' split) <;> simp

@[simp] theorem lendReturn_vcn (m : LendMsg) (s : State) : (lendReturn m s).sys.vcn = s.sys.vcn := by
  unfold lendReturn
  try dsimp only
  (repeat' split) <;> simp

@[simp] theorem lendReturnAck_vcn (m : LendMsg) (s : State) : (lendReturnAck m s).sys.vcn = s.sys.vcn := by
  unfold lendReturnAck
  (repeat' split) <;> simp

@[simp] theorem lendAudit_vcn (m : LendMsg) (s : State) : (lendAudit m s).sys.vcn = s.sys.vcn := by
  unfold lendAudit
  simp

@[simp] theorem claimed_vcn (m : LendMsg) (s : State) : (claimed m s).sys.vcn = s.sys.vcn := by
  unfold claimed
  simp

@[simp] theorem lendClaim_vcn (m : LendMsg) (s : State) : (lendClaim m s).sys.vcn = s.sys.vcn := by
  unfold lendClaim
  simp

@[simp] theorem lendClaimEnd_vcn (m : LendMsg) (s : State) : (lendClaimEnd m s).sys.vcn = s.sys.vcn := by
  unfold lendClaimEnd
  simp

@[simp] theorem lendClaimQuery_vcn (m : LendMsg) (s : State) : (lendClaimQuery m s).sys.vcn = s.sys.vcn := by
  unfold lendClaimQuery
  simp

@[simp] theorem lendApply_vcn (m : LendMsg) (s : State) : (lendApply m s).sys.vcn = s.sys.vcn := by
  unfold lendApply
  (repeat' split) <;> simp

@[simp] theorem lendRepeats_vcn (s : State) : (lendRepeats s).sys.vcn = s.sys.vcn := by
  unfold lendRepeats
  simp

@[simp] theorem lendAudits_vcn (s : State) : (lendAudits s).sys.vcn = s.sys.vcn := by
  unfold lendAudits
  simp

@[simp] theorem askClaims_vcn (s : State) (k : Nat) : (askClaims s k).sys.vcn = s.sys.vcn := by
  unfold askClaims
  simp

@[simp] theorem claimQuery_vcn (s : State) : (claimQuery s).sys.vcn = s.sys.vcn := by
  unfold claimQuery
  simp

@[simp] theorem startBlocks_vcn (s : State) : (startBlocks s).sys.vcn = s.sys.vcn := by
  unfold startBlocks
  simp

@[simp] theorem claimsComplete_vcn (s : State) : (claimsComplete s).sys.vcn = s.sys.vcn := by
  unfold claimsComplete
  simp

@[simp] theorem newSes_vcn (n : Nat) (kind : SesKind) (obj target tag : Nat) (descr : Word) (s : State) : (newSes n kind obj target tag descr s).sys.vcn = s.sys.vcn := by
  unfold newSes
  simp

@[simp] theorem endSes_vcn (n : Nat) (st : SesSt) (s : State) : (endSes n st s).sys.vcn = s.sys.vcn := by
  unfold endSes
  simp

@[simp] theorem replyCreator_vcn (n status detail fault : Nat) (results : List Byte) (s : State) : (replyCreator n status detail fault results s).sys.vcn = s.sys.vcn := by
  unfold replyCreator
  simp

@[simp] theorem replyEnder_vcn (n status fault : Nat) (s : State) : (replyEnder n status fault s).sys.vcn = s.sys.vcn := by
  unfold replyEnder
  (repeat' split) <;> simp

@[simp] theorem seeTracks_vcn (n : Nat) (s : State) : (seeTracks n s).sys.vcn = s.sys.vcn := by
  unfold seeTracks
  simp

@[simp] theorem routeOccupy_vcn (n : Nat) (s : State) : (routeOccupy n s).sys.vcn = s.sys.vcn := by
  unfold routeOccupy
  simp

@[simp] theorem timeAll_vcn (n t : Nat) (s : State) : (timeAll n t s).sys.vcn = s.sys.vcn := by
  unfold timeAll
  simp

@[simp] theorem routeReleased_vcn (n : Nat) (s : State) : (routeReleased n s).sys.vcn = s.sys.vcn := by
  unfold routeReleased
  simp

@[simp] theorem occupyFirst_vcn (n : Nat) (s : State) : (occupyFirst n s).sys.vcn = s.sys.vcn := by
  unfold occupyFirst
  simp

@[simp] theorem requestEnded_vcn (n : Nat) (s : State) : (requestEnded n s).sys.vcn = s.sys.vcn := by
  unfold requestEnded
  simp

@[simp] theorem endRefused_vcn (n tag : Nat) (s : State) : (endRefused n tag s).sys.vcn = s.sys.vcn := by
  unfold endRefused
  simp

@[simp] theorem startEnd_vcn (n tag : Nat) (cancel : Bool) (mode : RelMode) (s : State) : (startEnd n tag cancel mode s).sys.vcn = s.sys.vcn := by
  unfold startEnd
  simp

@[simp] theorem cancelRoute_vcn (n tag : Nat) (s : State) : (cancelRoute n tag s).sys.vcn = s.sys.vcn := by
  unfold cancelRoute
  try dsimp only
  (repeat' split) <;> simp

@[simp] theorem releaseTimed_vcn (n tag : Nat) (s : State) : (releaseTimed n tag s).sys.vcn = s.sys.vcn := by
  unfold releaseTimed
  try dsimp only
  (repeat' split) <;> simp

@[simp] theorem cancelPoint_vcn (n tag : Nat) (s : State) : (cancelPoint n tag s).sys.vcn = s.sys.vcn := by
  unfold cancelPoint
  (repeat' split) <;> simp

@[simp] theorem dueCmd_vcn (e cmd ses : Nat) (tag : Option Nat) (s : State) : (dueCmd e cmd ses tag s).sys.vcn = s.sys.vcn := by
  unfold dueCmd
  simp

@[simp] theorem corrTurn_vcn (s : State) (e : Nat) : (corrTurn s e).sys.vcn = s.sys.vcn := by
  unfold corrTurn
  simp

@[simp] theorem freeEnded_vcn (s : State) : (freeEnded s).sys.vcn = s.sys.vcn := by
  unfold freeEnded
  simp

@[simp] theorem writeEstates_vcn (s : State) : (writeEstates s).sys.vcn = s.sys.vcn := by
  unfold writeEstates
  simp

@[simp] theorem writeImages_vcn (s : State) : (writeImages s).sys.vcn = s.sys.vcn := by
  unfold writeImages
  simp

@[simp] theorem writeBerths_vcn (s : State) : (writeBerths s).sys.vcn = s.sys.vcn := by
  unfold writeBerths
  simp

@[simp] theorem writeInputs_vcn (s : State) : (writeInputs s).sys.vcn = s.sys.vcn := by
  unfold writeInputs
  simp

@[simp] theorem hostBody_vcn (n : Nat) (s : State) : (hostBody n s).2.sys.vcn = s.sys.vcn := by
  unfold hostBody
  simp

@[simp] theorem formTelegram_vcn (safe : Bool) (s : State) (p : Nat × Nat) : (formTelegram safe s p).sys.vcn = s.sys.vcn := by
  unfold formTelegram telegramReady
  dsimp only
  split <;> split <;> simp

@[simp] theorem formRestrictive_vcn (s : State) : (formRestrictive s).sys.vcn = s.sys.vcn := by
  unfold formRestrictive
  simp

@[simp] theorem finish_vcn (p : Pkt) (status code : Nat) (results : List Byte) (s : State) : (finish p status code results s).sys.vcn = s.sys.vcn := by
  unfold finish
  simp

@[simp] theorem complete_vcn (p : Pkt) (results : List Byte) (s : State) : (complete p results s).sys.vcn = s.sys.vcn := by
  unfold complete
  simp

@[simp] theorem refuse_vcn (p : Pkt) (status code obj val : Nat) (s : State) : (refuse p status code obj val s).sys.vcn = s.sys.vcn := by
  unfold refuse
  simp

@[simp] theorem badParam_vcn (p : Pkt) (s : State) : (badParam p s).sys.vcn = s.sys.vcn := by
  unfold badParam
  simp

@[simp] theorem badSes_vcn (p : Pkt) (s : State) : (badSes p s).sys.vcn = s.sys.vcn := by
  unfold badSes
  simp

@[simp] theorem noRight_vcn (p : Pkt) (s : State) : (noRight p s).sys.vcn = s.sys.vcn := by
  unfold noRight
  simp

@[simp] theorem createSes_vcn (p : Pkt) (kind : SesKind) (obj target : Nat) (descr : Word) (s : State) : (createSes p kind obj target descr s).sys.vcn = s.sys.vcn := by
  unfold createSes
  (repeat' split) <;> simp

@[simp] theorem applyRouteRequest_vcn (p : Pkt) (s : State) : (applyRouteRequest p s).sys.vcn = s.sys.vcn := by
  unfold applyRouteRequest
  simp

@[simp] theorem applyRouteCancel_vcn (p : Pkt) (s : State) : (applyRouteCancel p s).sys.vcn = s.sys.vcn := by
  unfold applyRouteCancel
  simp

@[simp] theorem applyReleaseTimed_vcn (p : Pkt) (s : State) : (applyReleaseTimed p s).sys.vcn = s.sys.vcn := by
  unfold applyReleaseTimed
  simp

@[simp] theorem applyPointMove_vcn (p : Pkt) (s : State) : (applyPointMove p s).sys.vcn = s.sys.vcn := by
  unfold applyPointMove
  simp

@[simp] theorem setStanding_vcn (i : Nat) (f : Stand → Stand) (s : State) : (setStanding i f s).sys.vcn = s.sys.vcn := by
  unfold setStanding
  simp

@[simp] theorem applyBlock_vcn (p : Pkt) (s : State) : (applyBlock p s).sys.vcn = s.sys.vcn := by
  unfold applyBlock
  simp

@[simp] theorem applyUnblock_vcn (p : Pkt) (s : State) : (applyUnblock p s).sys.vcn = s.sys.vcn := by
  unfold applyUnblock
  simp

@[simp] theorem applyForceStop_vcn (p : Pkt) (s : State) : (applyForceStop p s).sys.vcn = s.sys.vcn := by
  unfold applyForceStop
  simp

@[simp] theorem applyDoorEnable_vcn (p : Pkt) (s : State) : (applyDoorEnable p s).sys.vcn = s.sys.vcn := by
  unfold applyDoorEnable
  simp

@[simp] theorem applyDoorOpen_vcn (p : Pkt) (s : State) : (applyDoorOpen p s).sys.vcn = s.sys.vcn := by
  unfold applyDoorOpen
  simp

@[simp] theorem applyDoorClose_vcn (p : Pkt) (s : State) : (applyDoorClose p s).sys.vcn = s.sys.vcn := by
  unfold applyDoorClose
  simp

@[simp] theorem applyRestore_vcn (p : Pkt) (s : State) : (applyRestore p s).sys.vcn = s.sys.vcn := by
  unfold applyRestore
  simp

@[simp] theorem applyClose_vcn (p : Pkt) (s : State) : (applyClose p s).sys.vcn = s.sys.vcn := by
  unfold applyClose
  simp

@[simp] theorem applyWithdraw_vcn (p : Pkt) (s : State) : (applyWithdraw p s).sys.vcn = s.sys.vcn := by
  unfold applyWithdraw
  simp

@[simp] theorem applyLeaf_vcn (cmd : Nat) (p : Pkt) (s : State) : (applyLeaf cmd p s).sys.vcn = s.sys.vcn := by
  unfold applyLeaf
  simp

@[simp] theorem applyTrainDoors_vcn (p : Pkt) (s : State) : (applyTrainDoors p s).sys.vcn = s.sys.vcn := by
  unfold applyTrainDoors
  simp

@[simp] theorem applyTrainBerth_vcn (p : Pkt) (s : State) : (applyTrainBerth p s).sys.vcn = s.sys.vcn := by
  unfold applyTrainBerth
  simp

@[simp] theorem applyPing_vcn (p : Pkt) (s : State) : (applyPing p s).sys.vcn = s.sys.vcn := by
  unfold applyPing
  simp

@[simp] theorem applyStatus_vcn (p : Pkt) (s : State) : (applyStatus p s).sys.vcn = s.sys.vcn := by
  unfold applyStatus
  (repeat' split) <;> simp

@[simp] theorem applyJournal_vcn (p : Pkt) (s : State) : (applyJournal p s).sys.vcn = s.sys.vcn := by
  unfold applyJournal
  simp

@[simp] theorem applyCount_vcn (p : Pkt) (s : State) : (applyCount p s).sys.vcn = s.sys.vcn := by
  unfold applyCount
  (repeat' split) <;> simp

@[simp] theorem updSui_vcn (f : Sui → Sui) (s : State) : (updSui f s).sys.vcn = s.sys.vcn := by
  unfold updSui
  simp

@[simp] theorem timeAdvance_vcn (ms : Nat) (s : State) : (timeAdvance ms s).sys.vcn = s.sys.vcn := by
  unfold timeAdvance
  simp

@[simp] theorem periodsPass_vcn (n : Nat) (s : State) : (periodsPass n s).sys.vcn = s.sys.vcn := by
  unfold periodsPass
  simp

@[simp] theorem cellDamage_vcn (c : Nat) (s : State) : (cellDamage c s).sys.vcn = s.sys.vcn := by
  unfold cellDamage
  simp

@[simp] theorem cellCount_vcn (c : Nat) (s : State) : (cellCount c s).sys.vcn = s.sys.vcn := by
  unfold cellCount
  simp

@[simp] theorem jnlResult_vcn (res cell copy : Nat) (s : State) : (jnlResult res cell copy s).sys.vcn = s.sys.vcn := by
  unfold jnlResult
  simp

@[simp] theorem cellWrite_vcn (c kind : Nat) (payload : List Byte) (s : State) : (cellWrite c kind payload s).sys.vcn = s.sys.vcn := by
  unfold cellWrite
  simp

@[simp] theorem cellLater_vcn (c kind : Nat) (payload : List Byte) (s : State) : (cellLater c kind payload s).sys.vcn = s.sys.vcn := by
  unfold cellLater
  simp

@[simp] theorem cellPut_vcn (c kind : Nat) (payload : List Byte) (s : State) : (cellPut c kind payload s).sys.vcn = s.sys.vcn := by
  unfold cellPut
  simp

@[simp] theorem cellsDue_vcn (s : State) : (cellsDue s).sys.vcn = s.sys.vcn := by
  unfold cellsDue
  simp

@[simp] theorem loadTag_vcn (s : State) (t : Nat) : (loadTag s t).sys.vcn = s.sys.vcn := by
  unfold loadTag
  try dsimp only
  (repeat' split) <;> simp

@[simp] theorem loadTags_vcn (s : State) : (loadTags s).sys.vcn = s.sys.vcn := by
  unfold loadTags
  simp

@[simp] theorem startWrite_vcn (x : Sel) (s : State) : (startWrite x s).sys.vcn = s.sys.vcn := by
  unfold startWrite
  simp

@[simp] theorem finishWrite_vcn (s : State) : (finishWrite s).sys.vcn = s.sys.vcn := by
  unfold finishWrite
  (repeat' split) <;> simp

@[simp] theorem setXferNow_vcn (x : Xfer) (s : State) : (setXferNow x s).sys.vcn = s.sys.vcn := by
  unfold setXferNow
  simp

@[simp] theorem setXfer_vcn (x : Xfer) (s : State) : (setXfer x s).sys.vcn = s.sys.vcn := by
  unfold setXfer
  simp

@[simp] theorem suiResult_vcn (status code : Nat) (s : State) : (suiResult status code s).sys.vcn = s.sys.vcn := by
  unfold suiResult
  simp

@[simp] theorem suiAnswer_vcn (status : Nat) (body : List Byte) (s : State) : (suiAnswer status body s).sys.vcn = s.sys.vcn := by
  unfold suiAnswer
  simp

@[simp] theorem suiDenied_vcn (s : State) : (suiDenied s).sys.vcn = s.sys.vcn := by
  unfold suiDenied
  simp

@[simp] theorem suiRefuse_vcn (status : Nat) (s : State) : (suiRefuse status s).sys.vcn = s.sys.vcn := by
  unfold suiRefuse
  simp

@[simp] theorem suiRefuseFree_vcn (s : State) : (suiRefuseFree s).sys.vcn = s.sys.vcn := by
  unfold suiRefuseFree
  simp

@[simp] theorem startPrepare_vcn (m : Manifest) (s : State) : (startPrepare m s).sys.vcn = s.sys.vcn := by
  unfold startPrepare
  simp

@[simp] theorem startConfirm_vcn (s : State) : (startConfirm s).sys.vcn = s.sys.vcn := by
  unfold startConfirm
  simp

@[simp] theorem suiConfirm_vcn (s : State) : (suiConfirm s).sys.vcn = s.sys.vcn := by
  unfold suiConfirm
  simp

@[simp] theorem suiRevert_vcn (arg : Nat) (s : State) : (suiRevert arg s).sys.vcn = s.sys.vcn := by
  unfold suiRevert
  simp

@[simp] theorem trialActive_vcn (s : State) : (trialActive s).sys.vcn = s.sys.vcn := by
  unfold trialActive
  simp

@[simp] theorem answerConfirms_vcn (status code : Nat) (s : State) : (answerConfirms status code s).sys.vcn = s.sys.vcn := by
  unfold answerConfirms
  simp

@[simp] theorem refuseConfirms_vcn (s : State) : (refuseConfirms s).sys.vcn = s.sys.vcn := by
  unfold refuseConfirms
  simp

@[simp] theorem confirmTrial_vcn (tag : Nat) (s : State) : (confirmTrial tag s).sys.vcn = s.sys.vcn := by
  unfold confirmTrial
  simp

@[simp] theorem trialTest_vcn (s : State) : (trialTest s).sys.vcn = s.sys.vcn := by
  unfold trialTest
  (repeat' split) <;> simp

@[simp] theorem revokeCk_vcn (k : Nat) (s : State) : (revokeCk k s).sys.vcn = s.sys.vcn := by
  unfold revokeCk
  simp

@[simp] theorem programCk_vcn (k : Nat) (sha : List Byte) (s : State) : (programCk k sha s).sys.vcn = s.sys.vcn := by
  unfold programCk
  simp

@[simp] theorem refreshNext_vcn (slot block : Nat) (s : State) : (refreshNext slot block s).sys.vcn = s.sys.vcn := by
  unfold refreshNext
  simp

@[simp] theorem served_vcn (head : SorliaHead) (act : State → State) (s : State) (hf : ∀ u, (act u).sys.vcn = u.sys.vcn) : (served head act s).sys.vcn = s.sys.vcn := by
  unfold served
  simp [hf]

@[simp] theorem runtimeServed_vcn (head : SorliaHead) (act : State → State) (s : State) (hf : ∀ u, (act u).sys.vcn = u.sys.vcn) : (runtimeServed head act s).sys.vcn = s.sys.vcn := by
  unfold runtimeServed
  simp [hf]

@[simp] theorem applyConfirm_vcn (p : Pkt) (s : State) : (applyConfirm p s).sys.vcn = s.sys.vcn := by
  unfold applyConfirm
  simp

@[simp] theorem applyOpcode_vcn (p : Pkt) (s : State) : (applyOpcode p s).sys.vcn = s.sys.vcn := by
  unfold applyOpcode
  (repeat' split) <;> simp

@[simp] theorem applyPacket_vcn (p : Pkt) (s : State) : (applyPacket p s).sys.vcn = s.sys.vcn := by
  unfold applyPacket
  simp

@[simp] theorem applyCommands_vcn (k : Nat) (s : State) : (applyCommands k s).sys.vcn = s.sys.vcn := by
  induction k generalizing s with
  | zero => rfl
  | succ k ih =>
    unfold applyCommands
    split
    · rfl
    · rename_i h
      rw [ih, applyPacket_vcn, popHead_vcn _ _ _ h]

@[simp] theorem updPcl_vcn (f : Pcl → Pcl) (s : State) : (updPcl f s).sys.vcn = s.sys.vcn := by
  unfold updPcl
  simp

@[simp] theorem markReplay_vcn (k : Nat) (s : State) : (markReplay k s).sys.vcn = s.sys.vcn := by
  unfold markReplay
  simp

@[simp] theorem becomeActive_vcn (why : ReplayDue) (s : State) : (becomeActive why s).sys.vcn = s.sys.vcn := by
  unfold becomeActive
  (repeat' split) <;> simp

@[simp] theorem startLedger_vcn (s : State) : (startLedger s).sys.vcn = s.sys.vcn := by
  unfold startLedger
  simp

@[simp] theorem startEpoch_vcn (s : State) : (startEpoch s).sys.vcn = s.sys.vcn := by
  unfold startEpoch
  simp

@[simp] theorem claimStart_vcn (s : State) : (claimStart s).sys.vcn = s.sys.vcn := by
  unfold claimStart
  simp

@[simp] theorem peerSeen_vcn (state : Nat) (safe : Bool) (s : State) : (peerSeen state safe s).sys.vcn = s.sys.vcn := by
  unfold peerSeen
  simp

@[simp] theorem linkHeard_vcn (s : State) : (linkHeard s).sys.vcn = s.sys.vcn := by
  unfold linkHeard
  simp

@[simp] theorem peerMismatch_vcn (s : State) : (peerMismatch s).sys.vcn = s.sys.vcn := by
  unfold peerMismatch
  simp

@[simp] theorem loadSegs_vcn (segs : List Seg) (s : State) : (loadSegs segs s).sys.vcn = s.sys.vcn := by
  unfold loadSegs
  simp

@[simp] theorem peerFrame_vcn (f : PairFrame) (s : State) : (peerFrame f s).sys.vcn = s.sys.vcn := by
  unfold peerFrame
  simp

@[simp] theorem linkRx_vcn (kind : Nat) (f : PairFrame) (shown act : State → State) (s : State) (hf : ∀ u, (shown u).sys.vcn = u.sys.vcn) (hf1 : ∀ u, (act u).sys.vcn = u.sys.vcn) : (linkRx kind f shown act s).sys.vcn = s.sys.vcn := by
  unfold linkRx
  simp [hf, hf1]

@[simp] theorem showRx_vcn (f : PairFrame) (taken : Bool) (s : State) : (showRx f taken s).sys.vcn = s.sys.vcn := by
  unfold showRx
  simp

@[simp] theorem bulkCell_vcn (s : State) (c : Nat × List Byte) : (bulkCell s c).sys.vcn = s.sys.vcn := by
  unfold bulkCell
  (repeat' split) <;> simp

@[simp] theorem handoverStart_vcn (s : State) : (handoverStart s).sys.vcn = s.sys.vcn := by
  unfold handoverStart
  (repeat' split) <;> simp

@[simp] theorem handoverEnd_vcn (s : State) : (handoverEnd s).sys.vcn = s.sys.vcn := by
  unfold handoverEnd
  simp

@[simp] theorem takeoverStart_vcn (s : State) : (takeoverStart s).sys.vcn = s.sys.vcn := by
  unfold takeoverStart
  (repeat' split) <;> simp

@[simp] theorem peerGone_vcn (s : State) : (peerGone s).sys.vcn = s.sys.vcn := by
  unfold peerGone
  simp

@[simp] theorem masterIs_vcn (k : Nat) (s : State) : (masterIs k s).sys.vcn = s.sys.vcn := by
  unfold masterIs
  simp

@[simp] theorem trimTurn_vcn (s : State) : (trimTurn s).sys.vcn = s.sys.vcn := by
  unfold trimTurn
  simp

@[simp] theorem fillCtx_vcn (s : State) : (fillCtx s).sys.vcn = s.sys.vcn := by
  unfold fillCtx
  simp

@[simp] theorem lendDelivered_vcn (msgs : List LendMsg) (s : State) : (lendDelivered msgs s).sys.vcn = s.sys.vcn := by
  unfold lendDelivered
  simp

@[simp] theorem lendDeliver_vcn (s : State) : (lendDeliver s).sys.vcn = s.sys.vcn := by
  unfold lendDeliver
  simp

@[simp] theorem lendTurn_vcn (s : State) : (lendTurn s).sys.vcn = s.sys.vcn := by
  unfold lendTurn
  simp

@[simp] theorem correlation_vcn (c : Nat) (s : State) : (correlation c s).sys.vcn = s.sys.vcn := by
  unfold correlation
  simp

@[simp] theorem firewalled_vcn (s : State) : (firewalled s).sys.vcn = s.sys.vcn := by
  unfold firewalled
  simp

@[simp] theorem updVau_vcn (f : Vau → Vau) (s : State) : (updVau f s).sys.vcn = s.sys.vcn := by
  unfold updVau
  simp

@[simp] theorem State.setVau_vcn (s : State) (a : Nat) (w : Word) : (State.setVau s a w).sys.vcn = s.sys.vcn := by
  unfold State.setVau
  simp

@[simp] theorem takeUnvoted_vcn (es : List QEntry) (s : State) : (takeUnvoted es s).sys.vcn = s.sys.vcn := by
  unfold takeUnvoted
  simp

@[simp] theorem ignorePending_vcn (k : Nat) (s : State) : (ignorePending k s).sys.vcn = s.sys.vcn := by
  unfold ignorePending
  simp

@[simp] theorem voterFaults_vcn (dualRailBad : Bool) (s : State) : (voterFaults dualRailBad s).sys.vcn = s.sys.vcn := by
  unfold voterFaults
  simp

@[simp] theorem ageTick_vcn (k : Nat) (s : State) : (ageTick k s).sys.vcn = s.sys.vcn := by
  unfold ageTick
  simp

@[simp] theorem vauTick_vcn (s : State) : (vauTick s).sys.vcn = s.sys.vcn := by
  unfold vauTick
  simp

@[simp] theorem joinEntry_vcn (s : State) : (joinEntry s).sys.vcn = s.sys.vcn := by
  unfold joinEntry
  simp

@[simp] theorem toPhase_vcn (p : Nat) (s : State) : (toPhase p s).sys.vcn = s.sys.vcn := by
  unfold toPhase
  simp

@[simp] theorem markTick_vcn (p tick : Nat) (s : State) : (markTick p tick s).sys.vcn = s.sys.vcn := by
  unfold markTick
  simp

@[simp] theorem hardwareMark_vcn (p len : Nat) (s : State) : (hardwareMark p len s).sys.vcn = s.sys.vcn := by
  unfold hardwareMark
  simp

@[simp] theorem postRecords_vcn (s : State) : (postRecords s).sys.vcn = s.sys.vcn := by
  unfold postRecords
  simp

@[simp] theorem overrun_vcn (p code : Nat) (s : State) : (overrun p code s).sys.vcn = s.sys.vcn := by
  unfold overrun
  simp

@[simp] theorem markCheck_vcn (i code : Nat) (s : State) : (markCheck i code s).sys.vcn = s.sys.vcn := by
  unfold markCheck
  simp

@[simp] theorem clearTops_vcn (lo n : Nat) (s : State) : (clearTops lo n s).sys.vcn = s.sys.vcn := by
  unfold clearTops
  simp

@[simp] theorem clearFlags_vcn (s : State) : (clearFlags s).sys.vcn = s.sys.vcn := by
  unfold clearFlags
  simp

@[simp] theorem mantleStrobe_vcn (measured : Bool) (meas : Nat) (s : State) : (mantleStrobe measured meas s).sys.vcn = s.sys.vcn := by
  unfold mantleStrobe
  simp

@[simp] theorem travelStart_vcn (s : State) : (travelStart s).sys.vcn = s.sys.vcn := by
  unfold travelStart
  simp

@[simp] theorem snapshotsReady_vcn (s : State) : (snapshotsReady s).sys.vcn = s.sys.vcn := by
  unfold snapshotsReady
  simp

@[simp] theorem checkTelegrams_vcn (s : State) : (checkTelegrams s).sys.vcn = s.sys.vcn := by
  unfold checkTelegrams
  simp

@[simp] theorem evaluateWork_vcn (s : State) : (evaluateWork s).sys.vcn = s.sys.vcn := by
  unfold evaluateWork
  simp

@[simp] theorem evaluateStart_vcn (ready : Bool) (s : State) : (evaluateStart ready s).sys.vcn = s.sys.vcn := by
  unfold evaluateStart
  simp

@[simp] theorem agreeStart_vcn (s : State) : (agreeStart s).sys.vcn = s.sys.vcn := by
  unfold agreeStart
  simp

@[simp] theorem commitStart_vcn (sealsDone : Bool) (s : State) : (commitStart sealsDone s).sys.vcn = s.sys.vcn := by
  unfold commitStart
  simp

@[simp] theorem restrictNow_vcn (s : State) : (restrictNow s).sys.vcn = s.sys.vcn := by
  unfold restrictNow
  simp

@[simp] theorem writeOutside_vcn (high : Bool) (w : Word) (codingOk : Bool) (s : State) : (writeOutside high w codingOk s).sys.vcn = s.sys.vcn := by
  unfold writeOutside
  simp

end Sys2Proof.Machine
end

