-- ==== Sys2Proof/Machine/Leds.lean ====
section
/-!
DEFINITION. What the eight front-panel LEDs show (R505), a function of the state; the supply voltage that LED1 judges is an argument.
-/
namespace Sys2Proof.Machine

/-- A display: dark, steady, slow flashing (1 Hz), fast flashing (4 Hz). -/
inductive LedShow where
  | off | green | amber | red | greenSlow | amberSlow | amberFast | redSlow | redFast
  deriving DecidableEq, Repr, Inhabited

/-- LED1 PWR, by the logic supply in millivolts. -/
def led1 (mv : Nat) : LedShow :=
  if 18000 ≤ mv ∧ mv ≤ 32000 then .green else if (17000 ≤ mv ∧ mv < 18000) ∨ (32000 < mv ∧ mv ≤ 33000) then .amber else .off

/-- LED2 STATE. -/
def led2 (s : State) : LedShow :=
  if s.sys.hold != .none then .redFast
  else match s.sys.state with
    | .safe => .red
    | .maint => .amber
    | .kindling | .boot => .amberFast
    | .configCheck | .join => .amberSlow
    | .banked => .greenSlow
    | .active => .green
    | .off => .off

/-- LED3 TRIAD. -/
def led3 (s : State) : LedShow :=
  if s.vau.debug then .red
  else match s.sys.mode with
    | .t2f => .amber
    | .t2s => .greenSlow
    | .t3 => .green

/-- LED4 NET A and LED5 NET B. -/
def ledNet (n : Net) : LedShow := if n.lost then .red else if n.on then .green else .off

/-- LED6 DOOR BUS. The table has no row for a declared bus that is off or listens: dark; a bus without a declared unit, which sleeps for
good (R270), does not light it (DEDUCED, log entry 52). -/
def led6 (s : State) : LedShow :=
  let eq := (List.range 8).filter (busEquipped s)
  if eq.any fun b => (s.bus b).err == 2 || (s.bus b).st == .safeTx || (s.bus b).st == .silent then .red
  else if (List.range 8).any fun e => (s.edge e).st == .localSafe || (busEquipped s e && (s.bus e).st == .sleep) then .amber
  else if eq.all fun b => (s.bus b).st == .master || (s.bus b).st == .backup then .green
  else .off

/-- LED7 SERVICE. -/
def led7 (s : State) : LedShow :=
  if onTrial s.sui || s.sui.revertPending then .amberFast
  else if s.sui.lock.isSome then .amberSlow
  else if s.sui.sessions.any fun p => p.2.open_ then .green
  else .off

/-- LED8 FAULT. -/
def led8 (s : State) : LedShow :=
  if s.sys.state == .safe || s.sys.hold != .none then .red
  else if localSafeWord s != 0 then .redSlow
  else if s.sys.mode != .t3 || s.sni.netA.lost || s.sni.netB.lost then .amber
  else .off

/-- The LEDs, LED1 first: all amber for 100 ms from the release of the regions; LED3–LED7 stay off while the SP is in reset. -/
def leds (mv : Nat) (s : State) : List LedShow :=
  if s.sys.state = .off then List.replicate 8 .off
  else if s.sys.ledAmber then List.replicate 8 .amber
  else
    let sp (x : LedShow) : LedShow := if s.sys.sp.reset then .off else x
    [led1 mv, led2 s, sp (led3 s), sp (ledNet s.sni.netA), sp (ledNet s.sni.netB), sp (led6 s), sp (led7 s), led8 s]

end Sys2Proof.Machine
end

