-- ==== Sys2Proof/Tests/Slice0.lean ====
section
/-!
SUPPORT. Small tests: ill-formed operands that the checks refuse, worked values of the spec, and for every statement with hypotheses states
and operands that meet them.
-/
namespace Sys2Proof.Tests
open Sys2Proof.Machine
set_option Elab.async false

/-! ### Ill-formed operands -/

/-- Terms with one operand outside the numbers that the spec gives it are refused; each check of WellFormed has its own. -/
theorem test_ill_formed_1 : (
    [.firewallViolation false 0x100000000, .unmappedAccess false 0x100000000, .slotCodeChange 32, .blockSelfCheckFail .crd 16, 
     .registerWrite ⟨6, 0⟩ 32 0, .registerWrite ⟨0, 0x100000000⟩ 32 0, .registerWrite ⟨0, 0⟩ 24 0, .vcStart ⟨0, 0x8000⟩, .phaseMark 0 0x61ad, 
     .alignQueueEntryLeaves 3, .memoryUncorrectable 3, .selftestDue 3, .selftestOverdue 3, .debugAttach 3, .mantleInputFilterChange 32 false, 
     .regionOutOfTolerance default default default 0x61ad, .mantleListenerFrame 8 0 true [], .mantleListenerFrame 0 2048 true [], .gdRamWrite 0x100000000 0, .routeRequest 8 0 0 0 0 0, 
     .routeRequest 0 256 0 0 0 0, .routeRequest 0 0 256 0 0 0, .routeRequest 0 0 0 0 0 0x10000, .routeCancel 8 0 0 0 0 0, 
     .routeCancel 0 256 0 0 0 0, .routeCancel 0 0 256 0 0 0, .routeCancel 0 0 0 0 0 0x10000, .routeReleaseTimed 8 0 0 0 0 0, 
     .routeReleaseTimed 0 256 0 0 0 0, .routeReleaseTimed 0 0 256 0 0 0, .routeReleaseTimed 0 0 0 0 0 0x10000, .pointMove 8 0 0 0 0 0 0, 
     .pointMove 0 256 0 0 0 0 0, .pointMove 0 0 256 0 0 0 0, .pointMove 0 0 0 0 0 0x10000 0, .pointMove 0 0 0 0 0 0 256, 
     .routeWaitTimeout 256, .lendTimeout 256, .setTimeout 256, .throwTimeout 256, .signalStopTimeout 256] : List Instr).all (fun i => !i.wf) = true := by decide

/-- The same for further commands. -/
theorem test_ill_formed_2 : (
    [.crdAcquire 256 0, .crdAcquire 0 128, .crdRelease 1024, .crdTimed 1024, .crdTransfer 1024 0, .crdTransfer 0 256, .crdBlock 1024 0, 
     .crdBlock 0 256, .crdUnblock 1024, .crdLend 1024 0, .crdLend 0 256, .crdUnlend 1024, .crdReclaim 1024, .crdTake 1024 0, .crdTake 0 256, 
     .crdGiveback 1024, .crdStartTimed 1024, .crdOpInvalid 1, .tokenTimerExpire 1024, .elementBlock 8 0 0 0 0 0, .elementBlock 0 256 0 0 0 0, 
     .elementBlock 0 0 256 0 0 0, .elementBlock 0 0 0 0 0 0x10000, .elementUnblock 8 0 0 0 0 0, .elementUnblock 0 256 0 0 0 0, 
     .elementUnblock 0 0 256 0 0 0, .elementUnblock 0 0 0 0 0 0x10000, .pdsTrack 8 0, .pdsSlotc 512 0, .pdsBslotc 32 0, .pdsBin 8 0, 
     .leafLost 256, .ecmdEnable 8 0, .ecmdEnable 0 256, .ecmdOpen 8, .ecmdClose 8, .ecmdWithdraw 8, .ecmdRestore 8, .ecmdSafeStop 8 0, 
     .ecmdSafeStop 0 0x10000] : List Instr).all (fun i => !i.wf) = true := by decide

/-- The same for further commands. -/
theorem test_ill_formed_3 : (
    [.ecmdLocal 8 0, .ecmdLocal 0 0x10000, .ecmdEnd 8, .lcmdIsolate 256, .lcmdRestore 256, .lockTimeout 256, .openTimeout 256, 
     .closeTimeout 8, .ssTimeout 256, .corrExpiry 8, .enableGrantTimeout 8, .doorWaitTimeout 8, .restorationRelease 8, 
     .doorEnable 8 0 0 0 0 0, .doorEnable 0 256 0 0 0 0, .doorEnable 0 0 256 0 0 0, .doorEnable 0 0 0 0 0 256, .doorOpen 8 0 0 0 0 0, 
     .doorOpen 0 256 0 0 0 0, .doorOpen 0 0 256 0 0 0, .doorOpen 0 0 0 0 0 256, .doorClose 8 0 0 0 0 0, .doorClose 0 256 0 0 0 0, 
     .doorClose 0 0 256 0 0 0, .doorClose 0 0 0 0 0 256, .doorCloseRestore 8 0 0 0 0 0, .doorCloseRestore 0 256 0 0 0 0, 
     .doorCloseRestore 0 0 256 0 0 0, .doorCloseRestore 0 0 0 0 0 256, .doorWithdrawEnable 8 0 0 0 0 0, .doorWithdrawEnable 0 256 0 0 0 0, 
     .doorWithdrawEnable 0 0 256 0 0 0, .doorWithdrawEnable 0 0 0 0 0 256, .leafIsolate 8 0 0 0 0 0, .leafIsolate 0 256 0 0 0 0, 
     .leafIsolate 0 0 256 0 0 0, .leafIsolate 0 0 0 0 0 256, .leafRestore 8 0 0 0 0 0, .leafRestore 0 256 0 0 0 0, 
     .leafRestore 0 0 256 0 0 0] : List Instr).all (fun i => !i.wf) = true := by decide

/-- The same for further commands. -/
theorem test_ill_formed_4 : (
    [.leafRestore 0 0 0 0 0 256, .trainDoors 8 0 0 0 0 0 0, .trainDoors 0 256 0 0 0 0 0, .trainDoors 0 0 256 0 0 0 0, 
     .trainDoors 0 0 0 0 0 256 0, .trainDoors 0 0 0 0 0 0 0x10000, .trainBerth 8 0 0 0 0 0 0 0, .trainBerth 0 256 0 0 0 0 0 0, 
     .trainBerth 0 0 256 0 0 0 0 0, .trainBerth 0 0 0 0 0 256 0 0, .trainBerth 0 0 0 0 0 0 256 0, .trainBerth 0 0 0 0 0 0 0 0x10000, 
     .trainBerthExpiry 8, .referenceSend 8 false, .referenceRx 8 0 0 [], .referenceRx 0 1001 0 [], .referenceRx 0 0 0x20000000 [], 
     .orderFrameSend 8, .doorCommandFrameSend 8, .frameTxEnd 8 ⟨0, 0⟩, .frameTxEnd 0 ⟨8, 0⟩, .frameTxEnd 0 ⟨0, 128⟩, .reportRx 8 0 0 [], 
     .reportRx 0 16 0 [], .reportRx 0 0 1000 [], .foreignFrameRx 8 0 0 false, .foreignFrameRx 0 0x20000000 0 false, 
     .foreignFrameRx 0 0 1000 false, .dbcErrorPassive 8, .dbcBusOff 8, .busOffRecovery 8, .dbcCancel 8, .dbcSleep 8, .sleepEnter 8, 
     .dbcWake 8, .wakeFrameRepeat 8, .wakeDetect 8 false 0 0 0, .wakeDetect 0 false 0x20000000 0 0, .wakeDetect 0 false 0 9 0, 
     .dbcCready 8 0] : List Instr).all (fun i => !i.wf) = true := by decide

/-- The same for further commands. -/
theorem test_ill_formed_5 : (
    [.dbcLoadingCopyWrite 8 0 0, .dbcLoadingCopyWrite 0 7 0, .dbcLock 8 0, .datagramRx false false 0 0x10000 0 0 0 [], 
     .datagramRx false false 0 0 0 0x10000 0 [], .datagramRx false false 0 0 0 0 256 [], .abWindowExpiry 136, .seqBaseDrop 136, 
     .connectionStale 136, .sniTxcReady 64 0 [], .sniTxcReady 0 136 [], .cmdFeed false 64 0, .cmdFeed false 0 8, .cmdOutsel 8, 
     .ping 8 0 0 0 0, .ping 0 256 0 0 0, .ping 0 0 256 0 0, .signalForceStop 8 0 0 0 0 0 0, .signalForceStop 0 256 0 0 0 0 0, 
     .signalForceStop 0 0 256 0 0 0 0, .signalForceStop 0 0 0 0 0 0x10000 0, .signalForceStop 0 0 0 0 0 0 256, .statusQuery 8 0 0 0 0 0 0, 
     .statusQuery 0 256 0 0 0 0 0, .statusQuery 0 0 256 0 0 0 0, .statusQuery 0 0 0 0 0 256 0, .statusQuery 0 0 0 0 0 0 0x10000, 
     .journalQuery 8 0 0 0 0 0, .journalQuery 0 256 0 0 0 0, .journalQuery 0 0 256 0 0 0, .journalQuery 0 0 0 0 0 256, 
     .countQuery 8 0 0 0 0 0 0, .countQuery 0 256 0 0 0 0 0, .countQuery 0 0 256 0 0 0 0, .countQuery 0 0 0 0 0 256 0, 
     .countQuery 0 0 0 0 0 0 0x10000, .updateConfirm 8 0 0 0 0 0, .updateConfirm 0 256 0 0 0 0, .updateConfirm 0 0 256 0 0 0, 
     .inputFilterChange false 96 false] : List Instr).all (fun i => !i.wf) = true := by decide

/-- The same for further commands. -/
theorem test_ill_formed_6 : (
    [.inputFilterChange true 64 false, .inputDiscrepancy 64, .feedStateChange 6 0, .feedStateChange 0 5, .feedRecovery 6, 
     .contactSupplyLimit 8, .pulseMissing 48, .offReadsHigh 48, .outputLow 48, .undeclaredOutputEnergised 48, .classificationResult 48 0 0, 
     .classificationResult 0 6 0, .classificationResult 0 0 64, .cvuStart 8, .cvuFinish 8, .cvuAbort 8, .cvuCtrlInvalid 8, .cvuData8 8 0, 
     .cvuData16 8 0, .cvuData32 8 0, .cvuConf 8 0, .cvuParamWrite 8 0 0, .cvuParamWrite 0 8 0, .mbxDbellPost 3 0 0, .mbxDbellPost 0 8 0, 
     .mbxDbellTake 3 0, .mbxDbellTake 0 8, .mbxSend 3 8 0 [], .mbxSend 0 16 0 [], .mbxSend 0 8 128 [], .mbxSend 0 7 0 [], .mbxTake 3 8, 
     .mbxTake 0 16, .mbxTake 0 7, .mbxRcodeWrite 3 12 0, .mbxRcodeWrite 0 16 0, .mbxRcodeWrite 0 12 0x10000, .mbxRcodeWrite 0 11 0, 
     .recordRequest 16 0 0, .recordRequest 0 0x10000 0] : List Instr).all (fun i => !i.wf) = true := by decide

/-- The same for further commands. -/
theorem test_ill_formed_7 : (
    [.jnlWrite 0x1000 0 false, .jnlWrite 0 2 false, .jnlRead 0x1000 0, .jnlRead 0 2, .timingMarkerRx false 16 0, 
     .sorliaAuthenticate ⟨0, 0, 0⟩ 8 ⟨List.replicate 97 0, List.replicate 96 0⟩, .sorliaAuthenticate ⟨0, 0, 0⟩ 0 ⟨[], List.replicate 96 0⟩,
     .sorliaLock ⟨0, 0x11, 0⟩, .sorliaLock ⟨0, 0x10, 0x10000⟩, .sorliaBlock ⟨0, 0x12, 0⟩ 0x100000000 [] false, .suiPrepare 0x10000, .suiBlock 0x10000 0 [] false, 
     .suiBlock 0 0x1000 [] false, .suiVerify 0x10000 false false, .suiActivate 0x10000, .suiConfirm 0x10000, .suiRevert 0x10000, 
     .suiAttest 0x10000 [], .suiReverifyStep 0x10000 false, .suiRefreshStep 0x10000 0, .suiRefreshStep 0 5, .suiEnrol 0x10000 (.revoke 0) none false, 
     .suiRelease 0x10000, .obsPsel 8 0, .memoryCorrected 3, .counterWrap 56, .contactSupplyRecovery 8, .registerRead ⟨6, 0⟩ 32, 
     .registerRead ⟨0, 0x100000000⟩ 32, .registerRead ⟨0, 0⟩ 24] : List Instr).all (fun i => !i.wf) = true := by decide

/-- The bounds themselves are accepted. -/
theorem test_well_formed : ([.slotCodeChange 31, .registerWrite ⟨2, 0x40000000⟩ 8 0, .inputFilterChange true 63 false, .inputFilterChange false 95 true,
    .crdAcquire 255 127, .mbxSend 2 15 127 [], .jnlRead 0xFFF 1, .counterWrap 55, .ping 7 255 255 0 0, .reportRx 7 15 999 []] : List Instr).all (·.wf)
    = true := by decide

/-! ### Worked cases of the spec -/

/-- The module in a module state and a phase, with the VC timer running and the SP and the CP released. -/
def sAt (m : ModState) (p : Nat) : State :=
  { State.reset with sys := { State.reset.sys with state := m, phase := p, vcOn := true, cp := default, sp := default } }

/-- The same with registers written. -/
def withRegs (s : State) : List (Nat × Word) → State
  | [] => s
  | (a, w) :: l => withRegs (s.setReg a w) l

/-- What a command that answers a next state makes hold. -/
def after (c : Instr) (s : State) (p : State → Bool) : Bool :=
  match exec c s with
  | .next t => p t
  | _ => false

/-- The time tag of R9: power cycle 37, 1,000,000,000 ms. -/
theorem test_time_tag : Evr.tag { (default : Evr) with cyc := 37, ms := 1000000000 } = 0x000094003B9ACA00 := by decide +kernel

/-- The token entry of chapter 06: timed release by session 1, 120,000 VC. -/
theorem test_token_entry : mkTok 2 120000 1 = 0x41D4C001#32 := by decide +kernel

/-- The same entry by CRD_TIMED: session 1, timer 1200 × 100. -/
theorem test_crd_timed : after (.crdTimed 1016) ({ (withRegs (sAt .active 1) [(Reg.CRD_ATTR + 252, 0x10000), (Reg.CRD_OPA, 0x0101D4C0)]) with
    crd := { State.reset.crd with tok := [(1016, mkTok 1 0 1)], nFree := 1023, nHeld := 1 } }) (fun t => t.tok 1016 == 0x41D4C001#32
      && t.crd.nHeld == 0 && t.crd.nRel == 1) = true := by decide +kernel

/-- Leaf 183's crossing (chapter 07): result and time of slot 366. -/
theorem test_speed_check : slotStep (slotConf false 0x4C1403E8 0x300) 9000003
    { t0 := 1004, t1 := 998, v0 := -781, v1 := -755, ofs0 := -2400, dt := 2000, miss := 0, jumped := false } 0x40000000 0
    = (0x6801FD04#32, 0x5443FBD5#32) := by decide +kernel

/-- The latched positions of the same case: 1003, 1000 and 997. -/
theorem test_latched_positions :
    latchedPos { (default : PLeaf) with st := .valid, trv := 1004, vel := -781, vcn := 9000000, start := 600 } 9000001 = 1003
      ∧ latchedPos { (default : PLeaf) with st := .valid, trv := 1004, vel := -781, vcn := 9000000, start := 600 } 9000002 = 1000
      ∧ latchedPos { (default : PLeaf) with st := .valid, trv := 998, vel := -755, vcn := 9000002, start := 600 } 9000003 = 997 := by decide +kernel

/-- The envelope of leaf 183 (chapter 08): S = 660 has limit 1022, which 617 meets and 1025 does not; S = 220 has 1301. -/
theorem test_envelope : envelope 1000 20 128 1280 660 617 617 = (false, 1022) ∧ envelope 1000 20 128 1280 660 1025 1025 = (true, 1022)
    ∧ envelope 1000 20 128 1280 220 1206 1206 = (false, 1301) ∧ envelope 1000 20 128 1280 820 256 256 = (false, 896) := by decide +kernel

/-- The frame identifiers of chapter 09: the door command frame on DB5 and the report of unit 11 bear FIDs 0x2820 and 0x290B, so a frame
sealed for another bus or unit fails its check. -/
theorem test_frame_identifier : scrcOk 5 0x20 (safeFrame 5 0x20 0 [1, 2]).bytes = true ∧ scrcOk 4 0x20 (safeFrame 5 0x20 0 [1, 2]).bytes = false
    ∧ (safeFrame 5 0x10B 7 [1]).bytes = [1, 7] ++ ((safeFrame 5 0x10B 7 [1]).bytes.drop 2)
    ∧ crcScrc [0x29, 0x0B, 7, 1] = BitVec.ofNat 24 (ofBe ((safeFrame 5 0x10B 7 [1]).bytes.drop 2)) := by decide +kernel

/-- The standard check value of CRC-32C over "123456789". -/
theorem test_crc32c : crc32c [0x31, 0x32, 0x33, 0x34, 0x35, 0x36, 0x37, 0x38, 0x39] = 0xE3069283#32 := by decide +kernel

/-- The open unit of chapter 13 after its START, with a mode in CVU_CONF. -/
def cvuOpen (conf : Word) : State :=
  (withRegs State.reset [(Reg.CVU_CONF, conf)]).setUnitC 0 { (default : Cvu) with open_ := true, crc := 0xFFFFFFFF }

/-- What the five writes of chapter 13 leave: the check value and the count. -/
theorem test_check_unit : (let s := cvuData 0 1 0x39 (cvuData 0 4 0x38373635 (cvuData 0 4 0x34333231 (cvuOpen 0x18000020)))
    ((s.unitC 0).count = 9 ∧ ((cvuFinish 0 s).unitC 0).result = 0xE3069283#64)) := by decide +kernel

/-- The same in CHECK mode: the four check bytes are withheld and match. -/
theorem test_check_unit_check : (let s := cvuFinish 0 (cvuData 0 4 0xE3069283 (cvuData 0 1 0x39 (cvuData 0 4 0x38373635 (cvuData 0 4 0x34333231
      (cvuOpen 0x98000020)))))
    ((s.unitC 0).check = 0xE3069283#64 ∧ (s.unitC 0).result = 0xE3069283#64 ∧ (s.unitC 0).matched = true ∧ (s.unitC 0).count = 13)) := by decide +kernel

/-- The ring slot of chapter 15. -/
theorem test_ring_slot : ringOff 84811 = 0x396960 := by decide

/-- The record of chapter 15 in its slot: RSEQ 0x004C_4BBB, code 0x0901 of the intake. -/
theorem test_record_words : (lowWords { (default : Evr) with cyc := 37, ms := 1000000000, rseq := 0x004C4BBB } ⟨3, 0x0901, 0xF0000000⟩ 0x3B9ABA60).take 5
    = [0x004C4BBB#32, 0x3B9ACA00#32, 0x00009400#32, 0x5A030901#32, 0x3B9ABA60#32] := by decide +kernel

/-- Repeat 999 of that record: word 5 reads E7 03 18 FC. -/
theorem test_record_repeat : (evrRepeat { State.reset with evr := { State.reset.evr with newest := some ⟨0x004C4BBB, 84811, 0x0901, 3, 0xF0000000, 0, 998,
    true⟩ } }).mramGet (0x396960 + 20) 4 = [0xE7, 0x03, 0x18, 0xFC] := by decide +kernel

/-- The condition list of route 7 (chapter 05). -/
def route7 : List Word := [0x40021000, 0x40031000, 0x400B1000, 0x43F81000, 0x10027000, 0x100B7000, 0x20036000, 0x30052000, 0x5BF87000, 0x67F86000]

/-- What the engine finds at 130 µs with the point `p`, the tokens `tok`, T02 and T11 clear, the signal at stop, edge 0 closed. -/
def route7Result (p : Word) (tok : Nat → Word) : Option Word :=
  (condList { st := withRegs State.reset [(Reg.ITE_ESTATE + 4, 0x00000801 + p), (Reg.ITE_ESTATE + 8, 0x08100000), (Reg.ITE_ESTATE + 20, 0x08010000),
    (Reg.ITE_ESTATE + 4 * 508, 0x00000900)], tok := tok, ses := 1, rtActive := fun _ => false } 11 0 route7).map resWord

/-- The point lies reverse and the tokens are free: C holds, P and K fail first at word 6. Normal and held by session 1: P and K hold. (The spec prints
0x8107_0600 for fields whose sum is 0x8106_0600: log entry 53.) -/
theorem test_route7_result : route7Result 0x08080000 (fun _ => 0) = some 0x81060600#32 ∧ route7Result 0x08040000 (fun _ => mkTok 1 0 1) = some 0x86000000#32 := by decide +kernel

/-! ### Keys, signatures and a slot, made with a tool of our own from the standards that chapter 17 names -/

/-- A public key. -/
def keyX : List Byte := beBytes 97 0x047ae9e1db1160794c70c1ef071be5191f6c66240f4608fbe8a44ecd36c3ed5db97500f2e4d84e3fb45850fd6f4303302bd8ac21444cd80d241538d8034b399a0dee3636eb5cb00b9499d061a571db0f14bb47ed79453948ed63f3a6ccbbf6e74f

/-- The manifest of group SP, signed with that key. -/
def manifest1 : List Byte := beBytes 416 0x424c444e0100010001010000010001000000ffff0000ffff0000ffff0000ffff0100010001000100000000000001020304050607049fcc645fde242bfe4fb0df684877ad82c68660a3d77c54bef0ad2783e9511a29cd5d78e40f1f8512f195372df4031972ed57d5fbffb63b1ef9cf110cb680cef5e0f17c661378e0921804edb0cc218fb2673ba83919e463d469cbada5e51ef0b5000000047ae9e1db1160794c70c1ef071be5191f6c66240f4608fbe8a44ecd36c3ed5db97500f2e4d84e3fb45850fd6f4303302bd8ac21444cd80d241538d8034b399a0dee3636eb5cb00b9499d061a571db0f14bb47ed79453948ed63f3a6ccbbf6e74f000000000000000100000001000000742778ad96c7c733145a22879994e03573fcda2447a3f806ea0836bddbc77fbbee2591c2888efda42f99369221492c3d000000000000000010709169adf7f46fb6862f47d3c390f00f7cd61c05bc5c92443d3866e52675ab5bbf2f76fcca87938176ed333f20a1effe2745e052b89a804b0db7baa1c10d2ff0f4235dd6a69ae2407b6bd532cdde3612e364ef35d02d7625b97d954a1ee996

/-- The manifest of group CP, signed with that key. -/
def manifest2 : List Byte := beBytes 416 0x424c444e0100020002010000010001000000ffff0000ffff0000ffff0000ffff0100010001000100000000000001020304050607049fcc645fde242bfe4fb0df684877ad82c68660a3d77c54bef0ad2783e9511a29cd5d78e40f1f8512f195372df4031972ed57d5fbffb63b1ef9cf110cb680cef5e0f17c661378e0921804edb0cc218fb2673ba83919e463d469cbada5e51ef0b5000000047ae9e1db1160794c70c1ef071be5191f6c66240f4608fbe8a44ecd36c3ed5db97500f2e4d84e3fb45850fd6f4303302bd8ac21444cd80d241538d8034b399a0dee3636eb5cb00b9499d061a571db0f14bb47ed79453948ed63f3a6ccbbf6e74f000000000000000200000001000000036fab2ee4b04a087c8c58fcddbc1123c9fe5b55b2b73023ce3f1f7e638e759e9909b1f47101d368277737ba633e2e7300000000000000007b914da3156244ec7ebddc261ec3a71a3668375a1d4b3c16c3d9b6cc7b0aa2b3bddea0f98fb972810437168295262d4c1945d8fbca553aec5fd746539a93acc83809bfe79ff51b8af502b68a479a9ebf45b91296bb2849c715acb04d088058fe

/-- The manifest of group TRIAD, signed with that key. -/
def manifest3 : List Byte := beBytes 416 0x424c444e0100030003010000010001000000ffff0000ffff0000ffff0000ffff0100010001000100000000000001020304050607049fcc645fde242bfe4fb0df684877ad82c68660a3d77c54bef0ad2783e9511a29cd5d78e40f1f8512f195372df4031972ed57d5fbffb63b1ef9cf110cb680cef5e0f17c661378e0921804edb0cc218fb2673ba83919e463d469cbada5e51ef0b5000000047ae9e1db1160794c70c1ef071be5191f6c66240f4608fbe8a44ecd36c3ed5db97500f2e4d84e3fb45850fd6f4303302bd8ac21444cd80d241538d8034b399a0dee3636eb5cb00b9499d061a571db0f14bb47ed79453948ed63f3a6ccbbf6e74f0000000000000003000000010000006af11c83586822c3c74bb3ccef728bae5cfee67cad82dd7402711e530bec782fc02aff273569d22ddffb3b145f3437680000000000000000f93cc2b67510913674f21b9c2f56d6fdb167061b7cbfabcd3fc027bcb2a2cb2b11a64fa616c56943c57bfb8fe7773a2c817e09d46d879e8bedd3819f3a4ca9afa1190b3cde0bf283e12c1a3c9d5d0bf89574b1d23f86fcac0e64dca449640a7c

/-- The manifest of group DATA, signed with that key. -/
def manifest4 : List Byte := beBytes 544 0x424c444e0100040404010000010001000000ffff0000ffff0000ffff0000ffff01000100010003004d0000000001020304050607049fcc645fde242bfe4fb0df684877ad82c68660a3d77c54bef0ad2783e9511a29cd5d78e40f1f8512f195372df4031972ed57d5fbffb63b1ef9cf110cb680cef5e0f17c661378e0921804edb0cc218fb2673ba83919e463d469cbada5e51ef0b5000000047ae9e1db1160794c70c1ef071be5191f6c66240f4608fbe8a44ecd36c3ed5db97500f2e4d84e3fb45850fd6f4303302bd8ac21444cd80d241538d8034b399a0dee3636eb5cb00b9499d061a571db0f14bb47ed79453948ed63f3a6ccbbf6e74f000000000000000400000001000000dbbf74e273d077c92a5b4e36b848316a4937c33537e488ae41d4519d3a785b95668dde7d227c9e5dfcdf8bbadf993c7100000000000000000500000001000000ef5c3812079c4ac51a1c0510d66f3652a694b591431569a6cf33103a38eb2c12c8a366b99eb341a9efeb3ce29a543968000000000000000006000000010000003a31ca443b6cae3717b4a4f19972bc92413645380e4990e4fe4dc322386494fadaa2b63b4f62be6e2b7077e982bb7ada0000000000000000d409af5f50a84a60c8aadd00f845177f244bef86395173aa1da2938e160df1be3f7443b032c43d1e62aafceaa499a28f24bf0612f1d6568915cce89fc94c99c53af2870c0c67671224c5fde697fee71f0294d45fbe985a7fd6659b95b321e47d

/-- The one block of group TRIAD, encrypted for a unit with the encryption key 0x2718281. -/
def block3 : List Byte := beBytes 17 0x5b5027d6267b5b4e61074220abf6d5fd30

/-- A configuration image that declares the key as the first maintainer's. -/
def image4 : List Byte := beBytes 80 0x3147464301000000500000004d0000000100000004000c0000000000f8ff926584fa072475d878e9f499b0a4d7146994b148d98b7ec760b8e4cb1467535eacecf9ae072f3b79dccc277db5c327cea84e

/-- The key's signature over a challenge of 32 zero bytes and a serial number of 16 zero bytes. -/
def authSig : List Byte := beBytes 96 0x63110061e15a51190cef8c3d91f0d705e8a3015d93ba0d39a29cf53272ef075aa258c6a1784f7f42f377dd785ac4ce376b81f25905fcbefd6c0fed3c08756da15477bc2d2112cf0abd4ec0369b669c82ca4c3343b0fc50f8c3a79415f288eaf5

/-- The header of a slot with these four manifests, its SLOT_SEQ 1. -/
def slotHead : List Byte := beBytes 96 0x544f4c530100000001010000000005000000000000000000000000000201000000000600000000000000000000000000030100000000070000000000000000000000000004010000000008000000090000000a0000000000c30e2f1fa5c33c5a

/-- Bytes as they stand in the NOR from an offset on. -/
def cells : Nat → List Byte → Tbl Byte
  | _, [] => []
  | o, b :: bs => (o, ~~~b) :: cells (o + 1) bs

/-- The parts of those manifests, of one byte each. -/
def slotParts : Tbl Byte := [(0x50000, ~~~0x11#8), (0x60000, ~~~0x22#8), (0x70000, ~~~0x33#8), (0x80000, ~~~0x44#8), (0x90000, ~~~0x55#8), (0xA0000, ~~~0x66#8)]

/-- SUI with the key in VK0 and CK0 and slot 0 full: header, manifests, parts. -/
def slotSui : Sui :=
  { State.reset.sui with
    nor := cells 0 slotHead ++ cells 0x10000 manifest1 ++ cells 0x20000 manifest2 ++ cells 0x30000 manifest3 ++ cells 0x40000 manifest4 ++ slotParts
    vk := [(0, sha384 keyX)], ck := [(0, sha384 keyX)], ckProg := 1, encKey := 0x2718281 }

theorem get_append (A B : Tbl Byte) (k : Nat) (h : ∀ p ∈ A, p.1 ≠ k) : Tbl.get (A ++ B) k = Tbl.get B k := by
  induction A with
  | nil => rfl
  | cons p A ih =>
    obtain ⟨j, v⟩ := p
    rw [List.cons_append, Tbl.get, if_neg (h (j, v) (by simp)), ih fun p hp => h p (by simp [hp])]

theorem get_dropWhile (t : Tbl Byte) (o k : Nat) (h : o ≤ k) : Tbl.get (t.dropWhile fun p => decide (p.1 < o)) k = Tbl.get t k := by
  induction t with
  | nil => rfl
  | cons p t ih =>
    obtain ⟨j, v⟩ := p
    by_cases hj : j < o
    · rw [List.dropWhile_cons_of_pos (by simpa using hj), ih, Tbl.get, if_neg (by omega)]
    · rw [List.dropWhile_cons_of_neg (by simpa using hj)]

theorem get_cells (o : Nat) (bs : List Byte) (C : Tbl Byte) (i : Nat) (h : i < bs.length) : Tbl.get (cells o bs ++ C) (o + i) = ~~~bs[i] := by
  induction bs generalizing o i with
  | nil => simp at h
  | cons b bs ih =>
    cases i with
    | zero => simp [cells, Tbl.get]
    | succ i =>
      rw [cells, List.cons_append, Tbl.get, if_neg (by omega), show o + (i + 1) = o + 1 + i by omega, ih _ _ (by simpa using h)]
      simp

theorem cells_below (o e : Nat) (bs : List Byte) (h : o + bs.length ≤ e) : ∀ p ∈ cells o bs, p.1 < e := by
  induction bs generalizing o with
  | nil => simp [cells]
  | cons b bs ih =>
    simp only [List.length_cons] at h
    intro p hp
    rw [cells, List.mem_cons] at hp
    rcases hp with rfl | hp
    · show o < e
      omega
    · exact ih (o + 1) (by omega) p hp

/-- The bytes that stand between lower ones and others are read as they stand. -/
theorem norGet_cells (u : Sui) (A C : Tbl Byte) (o n : Nat) (bs : List Byte) (hu : u.nor = A ++ (cells o bs ++ C)) (hA : ∀ p ∈ A, p.1 < o) (hn : n ≤ bs.length) :
    u.norGet o n = bs.take n := by
  apply List.ext_getElem
  · simp [Sui.norGet, hn]
  · intro i h1 h2
    have hi : i < n := by simpa [Sui.norGet] using h1
    simp only [Sui.norGet, List.getElem_map, List.getElem_range, List.getElem_take]
    rw [get_dropWhile _ _ _ (by omega), hu, get_append _ _ _ fun p hp => by have := hA p hp; omega, get_cells _ _ _ _ (by omega)]
    simp

theorem manifest_cells (u : Sui) (A C : Tbl Byte) (o g k : Nat) (bs : List Byte) (ho : 0x10000 * (g + 1) = o) (hu : u.nor = A ++ (cells o bs ++ C))
    (hA : ∀ p ∈ A, p.1 < o) (hl : bs.length = 352 + 64 * k) (hk : halfAt (bs.take 40) 38 = k) (h5 : k ≤ 5) : u.manifest 0 g = manifestOf bs := by
  unfold Sui.manifest Sui.manifestBytes
  simp only [slotOff, Nat.mul_zero, Nat.zero_add, ho]
  rw [norGet_cells u A C _ 40 bs hu hA (by omega), hk, Nat.min_eq_right h5, ← hl, norGet_cells u A C _ _ bs hu hA (Nat.le_refl _), List.take_length]

theorem slot_below : (∀ p ∈ cells 0 slotHead, p.1 < 0x10000) ∧ (∀ p ∈ cells 0x10000 manifest1, p.1 < 0x20000)
    ∧ (∀ p ∈ cells 0x20000 manifest2, p.1 < 0x30000) ∧ (∀ p ∈ cells 0x30000 manifest3, p.1 < 0x40000) :=
  ⟨cells_below _ _ _ (by decide +kernel), cells_below _ _ _ (by decide +kernel), cells_below _ _ _ (by decide +kernel), cells_below _ _ _ (by decide +kernel)⟩

/-- The four manifests of the slot. -/
theorem slot_manifests : slotSui.manifest 0 0 = manifestOf manifest1 ∧ slotSui.manifest 0 1 = manifestOf manifest2 ∧ slotSui.manifest 0 2 = manifestOf manifest3
    ∧ slotSui.manifest 0 3 = manifestOf manifest4 := by
  obtain ⟨h0, h1, h2, h3⟩ := slot_below
  have w {A : Tbl Byte} {a b : Nat} (h : ∀ p ∈ A, p.1 < a) (hab : a ≤ b) : ∀ p ∈ A, p.1 < b := fun p hp => Nat.lt_of_lt_of_le (h p hp) hab
  have j {A B : Tbl Byte} {b : Nat} (h : ∀ p ∈ A, p.1 < b) (k : ∀ p ∈ B, p.1 < b) : ∀ p ∈ A ++ B, p.1 < b := fun p hp =>
    (List.mem_append.mp hp).elim (h p) (k p)
  refine ⟨?_, ?_, ?_, ?_⟩
  · exact manifest_cells slotSui (cells 0 slotHead) (cells 0x20000 manifest2 ++ (cells 0x30000 manifest3 ++ (cells 0x40000 manifest4 ++ slotParts)))
      0x10000 0 1 manifest1 rfl (by simp only [slotSui, List.append_assoc]) h0 (by decide +kernel) (by decide +kernel) (by decide)
  · exact manifest_cells slotSui (cells 0 slotHead ++ cells 0x10000 manifest1) (cells 0x30000 manifest3 ++ (cells 0x40000 manifest4 ++ slotParts))
      0x20000 1 1 manifest2 rfl (by simp only [slotSui, List.append_assoc]) (j (w h0 (by decide)) h1) (by decide +kernel) (by decide +kernel) (by decide)
  · exact manifest_cells slotSui (cells 0 slotHead ++ cells 0x10000 manifest1 ++ cells 0x20000 manifest2) (cells 0x40000 manifest4 ++ slotParts)
      0x30000 2 1 manifest3 rfl (by simp only [slotSui, List.append_assoc]) (j (j (w h0 (by decide)) (w h1 (by decide))) h2)
      (by decide +kernel) (by decide +kernel) (by decide)
  · exact manifest_cells slotSui (cells 0 slotHead ++ cells 0x10000 manifest1 ++ cells 0x20000 manifest2 ++ cells 0x30000 manifest3) slotParts
      0x40000 3 3 manifest4 rfl (by simp only [slotSui, List.append_assoc]) (j (j (j (w h0 (by decide)) (w h1 (by decide))) (w h2 (by decide))) h3)
      (by decide +kernel) (by decide +kernel) (by decide)

theorem slot_head : slotSui.head 0 = slotHead := by
  have h := norGet_cells slotSui [] (cells 0x10000 manifest1 ++ (cells 0x20000 manifest2 ++ (cells 0x30000 manifest3 ++ (cells 0x40000 manifest4 ++ slotParts))))
    0 96 slotHead (by simp only [slotSui, List.append_assoc, List.nil_append]) (by simp) (by decide +kernel)
  exact h.trans (by decide +kernel)

theorem crc32c_append (a b : List Byte) : crc32c (a ++ b) = crc32cMore (crc32c a) b := by
  simp [crc32c, crc32cMore, List.foldl_append]

theorem slot_crc : crc32c (slotHead.take 88) = wordAt slotHead 88 := by
  have a : crc32c (slotHead.take 44) = 0x8E3DCBF6#32 := by decide +kernel
  have h : slotHead.take 88 = slotHead.take 44 ++ (slotHead.drop 44).take 44 := by decide +kernel
  rw [h, crc32c_append, a]
  decide +kernel

/-- The slot is committed, every manifest of it is valid, and every part has its hash. -/
theorem slot_committed : committed slotSui 0 = true ∧ wordAt (slotSui.head 0) 0 = 0x534C4F54#32 := by
  simp only [committed, slot_head, slot_crc, beq_self_eq_true, Bool.and_true]
  decide +kernel

theorem slot_manifest1 : ((manifestOf manifest1).any fun m => m.group == 0 + 1 && manifestOk slotSui m) = true := by decide +kernel

theorem slot_manifest2 : ((manifestOf manifest2).any fun m => m.group == 1 + 1 && manifestOk slotSui m) = true := by decide +kernel

theorem slot_manifest3 : ((manifestOf manifest3).any fun m => m.group == 2 + 1 && manifestOk slotSui m) = true := by decide +kernel

theorem slot_manifest4 : ((manifestOf manifest4).any fun m => m.group == 3 + 1 && manifestOk slotSui m) = true := by decide +kernel

theorem slot_manifestsOk : manifestsOk slotSui 0 = true := by
  obtain ⟨h0, h1, h2, h3⟩ := slot_manifests
  simp only [manifestsOk, List.all_cons, List.all_nil, h0, h1, h2, h3, slot_manifest1, slot_manifest2, slot_manifest3, slot_manifest4, Bool.and_true]

theorem slot_part (o : Nat) (h : 0x50000 ≤ o) : slotSui.norGet o 1 = [~~~(Tbl.get slotParts o)] := by
  have n : slotSui.nor = cells 0 slotHead ++ (cells 0x10000 manifest1 ++ (cells 0x20000 manifest2 ++ (cells 0x30000 manifest3 ++
    (cells 0x40000 manifest4 ++ slotParts)))) := by simp only [slotSui, List.append_assoc]
  have k (a : Nat) (bs : List Byte) (ha : a + bs.length ≤ 0x50000) : ∀ p ∈ cells a bs, p.1 ≠ o := fun p hp => by
    have := cells_below a 0x50000 bs ha p hp
    omega
  show [~~~(Tbl.get (slotSui.nor.dropWhile fun p => decide (p.1 < o)) (o + 0))] = _
  rw [Nat.add_zero, get_dropWhile _ _ _ (by omega), n, get_append (cells _ _) _ o (k _ _ (by decide +kernel)), get_append (cells _ _) _ o (k _ _ (by decide +kernel)),
    get_append (cells _ _) _ o (k _ _ (by decide +kernel)), get_append (cells _ _) _ o (k _ _ (by decide +kernel)), get_append (cells _ _) _ o (k _ _ (by decide +kernel))]

/-- The parts have their hashes at the offsets given. -/
def partsAt (offs : List (List Nat)) : Bool :=
  [(0, manifest1), (1, manifest2), (2, manifest3), (3, manifest4)].all fun p => (manifestOf p.2).all fun m =>
    (List.range m.parts.length).all fun k => (m.parts.getD k default).len == 1
      && decide (0x50000 ≤ (offs.getD p.1 []).getD k 0) && sha384 [~~~(Tbl.get slotParts ((offs.getD p.1 []).getD k 0))] == (m.parts.getD k default).sha

theorem slot_partsAt (offs : List (List Nat)) (h : partsAt offs = true) (g : Nat) (bs : List Byte)
    (hg : (g, bs) ∈ [(0, manifest1), (1, manifest2), (2, manifest3), (3, manifest4)]) :
    ((manifestOf bs).all fun m => hashesOk slotSui 0 (offs.getD g []) m) = true := by
  have h1 := List.all_eq_true.mp h _ hg
  cases hm : manifestOf bs with
  | none => rfl
  | some m =>
    simp only [hm, Option.all_some] at h1 ⊢
    refine List.all_eq_true.mpr fun k hk => ?_
    have h2 := List.all_eq_true.mp h1 k hk
    simp only [Bool.and_eq_true, beq_iff_eq, decide_eq_true_eq] at h2
    obtain ⟨⟨h3, h4⟩, h5⟩ := h2
    simp only [partBytes, slotOff, Nat.mul_zero, Nat.zero_add, h3]
    rw [slot_part _ h4, h5, beq_self_eq_true]

theorem slot_hashes : slotHashes slotSui 0 = true := by
  obtain ⟨h0, h1, h2, h3⟩ := slot_manifests
  have h := slot_partsAt [[0x50000, 0, 0, 0], [0x60000, 0, 0, 0], [0x70000, 0, 0, 0], [0x80000, 0x90000, 0xA0000, 0]] (by decide +kernel)
  have o : ((List.range 4).map fun g => headPlaces slotSui 0 g) = [[0x50000, 0, 0, 0], [0x60000, 0, 0, 0], [0x70000, 0, 0, 0], [0x80000, 0x90000, 0xA0000, 0]] := by
    simp only [headPlaces, slot_head]
    decide +kernel
  rw [← o] at h
  simp only [slotHashes, List.all_cons, List.all_nil, h0, h1, h2, h3, Bool.and_true, Bool.and_eq_true]
  exact ⟨h 0 _ (by simp), h 1 _ (by simp), h 2 _ (by simp), h 3 _ (by simp)⟩

theorem slot_ok : slotOk slotSui 0 = true := by
  simp only [slotOk, slot_committed.1, slot_committed.2, slot_manifestsOk, slot_hashes, beq_self_eq_true, Bool.and_true]

theorem slot_below_parts : ∀ p ∈ slotSui.nor, p.1 < 0xB0000 := by
  have c (o : Nat) (bs : List Byte) (h : o + bs.length ≤ 0xB0000) := cells_below o 0xB0000 bs h
  intro p hp
  simp only [slotSui, List.mem_append] at hp
  rcases hp with ((((hp | hp) | hp) | hp) | hp) | hp
  · exact c 0 slotHead (by decide +kernel) p hp
  · exact c 0x10000 manifest1 (by decide +kernel) p hp
  · exact c 0x20000 manifest2 (by decide +kernel) p hp
  · exact c 0x30000 manifest3 (by decide +kernel) p hp
  · exact c 0x40000 manifest4 (by decide +kernel) p hp
  · exact (by decide : ∀ p ∈ slotParts, p.1 < 0xB0000) p hp

/-- A list whose elements all pass is dropped whole. -/
theorem dropWhile_all {α : Type} (f : α → Bool) (l : List α) (h : ∀ p ∈ l, f p = true) : l.dropWhile f = [] := by
  induction l with
  | nil => rfl
  | cons a l ih =>
    rw [List.dropWhile_cons, if_pos (h a (List.mem_cons_self ..))]
    exact ih fun p hp => h p (List.mem_cons_of_mem _ hp)

/-- Beyond the parts the NOR is erased: no selector copy, no refresh record, and slot 1 is empty. -/
theorem slot_blank (off n : Nat) (h : 0xB0000 ≤ off) : slotSui.norGet off n = List.replicate n 0xFF#8 := by
  have d : slotSui.nor.dropWhile (fun p => decide (p.1 < off)) = [] := by
    apply dropWhile_all
    intro p hp
    simpa using Nat.lt_of_lt_of_le (slot_below_parts p hp) h
  simp only [Sui.norGet, d]
  refine List.ext_getElem (by simp) fun i _ _ => ?_
  simp [Tbl.get]
  decide

theorem slot_newestSel (u : Sui) (h : u.nor = slotSui.nor) : newestSel u = none := by
  have e (k : Bool) : Sui.sel u k = none := by
    have g : u.norGet (selOff k) 40 = slotSui.norGet (selOff k) 40 := by rw [Sui.norGet, h, Sui.norGet]
    rw [Sui.sel, g, slot_blank _ _ (by cases k <;> decide)]
    decide +kernel
  rw [newestSel, e, e]
  rfl

theorem slot_offTrial (u : Sui) (h : u.nor = slotSui.nor) : onTrial u = false := by
  simp only [onTrial, selNow, slot_newestSel u h, Option.map_none, Option.getD_none]
  rfl

/-- slotSui with slot 1 named as the running one. -/
def slotSui1 : Sui := { slotSui with running := 1 }
/-! ### States that meet the hypotheses of the statements -/

/-- A small site in slot 0: owned track 0, point 1 and signal 2, track 3 of slot 1, an edge in platform 0 with berth track 0, and route 0 from
signal 2 over track 0. Host 0 has tags 0 to 3 with both rights; edge 0 has door unit 0 with both leaves, tracked. -/
def site (m : ModState) (p : Nat) : State :=
  { withRegs (sAt m p) [(Reg.CRD_ATTR, 0x95), (Reg.CRD_ATTR + 252, 0x550000), (Reg.CMD_HOST, 0xE0000400), (Reg.CMD_LOCK, 1),
      (Reg.DSU_ECONF, 0x34780001), (Reg.PDS_DECL, 3), (Reg.PDS_TRACK, 3)] with
    gd := [(20, 1), (24, 0x40), (28, 0x40), (29, 0x40), (32, 0x60), (33, 0x40), (36, 1), (40, 0x64), (41, 0x40),
      (64, 1), (80, 2), (83, 1), (85, 1), (92, 10), (96, 3), (112, 1), (113, 1), (16320, 4),
      (16448, 1), (16449, 0xFF), (16450, 2), (16463, 1), (16468, 5), (16470, 7), (16474, 1), (16476, 1), (16477, 1), (16482, 4)]
    cmd := { State.reset.cmd with
      tag := (List.range 4).map fun i => (i, { (default : Tag) with st := .held }), nFree := 252, nHeld := 4, creditOk := true } }

/-- The site with a token entry. -/
def siteTok (i : Nat) (w : Word) : State := { site .active 1 with crd := { State.reset.crd with tok := [(i, w)], nFree := 1023 } }

/-- The site with a session. -/
def siteSes (n : Nat) (x : Session) (s : State) : State := s.setSes n { x with used := true }

/-- A lending message from slot 1 in epoch 1. -/
def lendMsg (elem : Nat) : LendMsg := { kind := 1, from_ := 1, to_ := 0, epoch := 1, elem := elem, orphan := false, lseq := 5, vcn := 0 }

/-- The site that knows the epoch of slot 1, with books. -/
def siteLend (i : Nat) (w : Word) (bs : List Borrow) (ls : List Loan) : State :=
  { siteTok i w with lend := { State.reset.lend with epochs := [(1, 2)], borrows := bs, loans := ls } }

theorem test_meets_StepRunsFrontCommand : ({ State.reset with pending := [.refClockLost] } : State).pending = .refClockLost :: [] := rfl

theorem test_meets_StepIdlesOnEmptyQueue : State.reset.pending = [] := rfl

theorem test_meets_CommandsLeaveTheQueue : after .refClockLost State.reset (fun _ => true) = true
    ∧ (∀ c ∈ (({ State.reset with pending := [.refClockLost] } : State).pending), WellFormed c) := by decide +kernel

theorem test_meets_SafeIsLatched : (sAt .safe 1).sys.state = .safe ∧ (sAt .safe 1).sui.busy ≠ 4
    ∧ (∀ c, (sAt .safe 1).pending.head? = some c → c ≠ .logicSupplyPowerDown) := ⟨rfl, by decide, by intro c h; cases h⟩

theorem test_meets_ClassSEventsEnterSafe : (sAt .join 1).live = true ∧ (sAt .banked 1).live = true ∧ (sAt .active 1).live = true
    ∧ slotCodeOk { sAt .active 1 with sys := { (sAt .active 1).sys with slotCode := 1 % 32 } } = false ∧ field 0xC0A1 15 0 = 0xC0A1
    ∧ ({ sAt .active 1 with ite := { State.reset.ite with busy := true } } : State).ite.busy = true
    ∧ (let s := { sAt .active 1 with dsu := { State.reset.dsu with go := true } }; s.live = true ∧ s.dsu.go = true ∧ s.dsu.done = false)
    ∧ (let s := { sAt .active 1 with sni := { State.reset.sni with netA := { State.reset.sni.netA with on := true, quiet := 2001 }, netB := { State.reset.sni.netB with quiet := 2001 } } }
       s.live = true ∧ s.sni.netA.on = true ∧ s.regF Reg.SNI_NETT 31 16 < silence s) := by decide +kernel

theorem test_meets_ClassSElsewhere : ((sAt .configCheck 1).sys.state = .configCheck ∧ classSEvent (sAt .configCheck 1) (.sysSafeReq 0xC0A1) = some 0x0106)
    ∧ (State.reset.sys.state = .kindling ∧ classSEvent State.reset .refClockLost = some 0x0103 ∧ State.reset.live = false)
    ∧ (let s := { sAt .safe 1 with ite := { State.reset.ite with busy := true } }; s.sys.state = .safe ∧ classSEvent s .iteOvertime = some 0x0409)
    ∧ (let s := { sAt .maint 1 with dsu := { State.reset.dsu with go := true } }; s.sys.state = .maint ∧ classSEvent s .dsuStepTimeout = some 0x0713)
    ∧ ((sAt .off 1).sys.state = .off ∧ classSEvent (sAt .off 1) (.blockSelfCheckFail .pcl 0) = some 0x0E12)
    ∧ ((sAt .boot 1).sys.state = .boot ∧ classSEvent (sAt .boot 1) (.logicSupplyOutOfRange true) = some 0x0102)
    ∧ (let s := { sAt .safe 1 with conf := { State.reset.conf with modules := [default] } }
       s.sys.state = .safe ∧ s.conf.modules ≠ [] ∧ slotCodeOk { s with sys := { s.sys with slotCode := 1 % 32 } } = false)
    ∧ field 0xC0A2 15 0 ≠ 0xC0A1 ∧ slotCodeOk { State.reset with sys := { State.reset.sys with slotCode := 0 % 32 } } = true := by decide +kernel

theorem test_meets_SupplyAndReset : (sAt .off 0).sys.state = .off ∧ (sAt .off 0).sys.buttonFault = false ∧ State.reset.sys.state ≠ .off
    ∧ (100 ≤ 100 ∧ 100 ≤ 10000) ∧ (100 ≤ 10000 ∧ 10000 ≤ 10000) ∧ ¬ (100 ≤ 99) ∧ ¬ (10001 ≤ 10000) ∧ (sAt .maint 1).sys.state = .maint
    ∧ (sAt .maint 1).sys.sp.reset = false ∧ (sAt .maint 1).sui.recovery = false ∧ (sAt .active 1).live = true ∧ (sAt .active 1).sys.sp.reset = false
    ∧ (sAt .active 1).sui.recovery = false
    ∧ ({ State.reset with sys := { State.reset.sys with buttonFault := true } } : State).sys.buttonFault = true := by decide

theorem test_meets_MaintenanceRequest : ((sAt .join 1).sys.state = .join ∧ (sAt .join 1).sys.sp.reset = false)
    ∧ ((sAt .active 1).sys.state = .active ∧ (sAt .active 1).sys.sp.reset = false) ∧ ((sAt .banked 1).sys.state = .banked ∧ (sAt .banked 1).sys.sp.reset = false)
    ∧ (let s := { sAt .boot 0 with sys := { (sAt .boot 0).sys with maintFlag := true } }
       s.sys.state = .boot ∧ s.sys.maintFlag = true ∧ s.sys.state ≠ .off ∧ s.sys.buttonFault = false)
    ∧ (let s := { sAt .off 0 with sys := { (sAt .off 0).sys with maintFlag := true } }
       s.sys.state = .off ∧ s.sys.maintFlag = true ∧ s.sys.buttonFault = false) := by decide

/-- A module in BOOT with the slot of slotSui. -/
def bootSlot (flag : Bool) : State := { sAt .boot 0 with sys := { (sAt .boot 0).sys with maintFlag := flag }, sui := slotSui }

theorem test_meets_boots (flag : Bool) : (bootSlot flag).sys.state = .boot ∧ (bootSlot flag).sys.maintFlag = flag ∧ (bootSlot flag).vau.debug = false
    ∧ slotOk (finishWrite (bootSlot flag)).sui (finishWrite (bootSlot flag)).sui.running = true := ⟨rfl, rfl, rfl, slot_ok⟩

theorem test_meets_StartChain : State.reset.sys.state = .kindling ∧ State.reset.sys.hold = .none
    ∧ (List.replicate 41 (0, 0#64)).map (·.2) = State.reset.sui.testRefs
    ∧ selftestFault State.reset.sui ((3, 1) :: List.replicate 40 (0, 0)) true 0 = some (3, 0) ∧ (sAt .boot 0).sys.state = .boot
    ∧ (sAt .configCheck 0).sys.state = .configCheck ∧ (sAt .configCheck 0).rt.checkFail = none
    ∧ (let t := withRegs (sAt .configCheck 5) [(Reg.SYS_PHASE_DONE, 0xF)]
       let s := { t with rt := { t.rt with checkFail := some 0x1003 } }
       s.sys.vcOn = true ∧ s.regB Reg.SYS_PHASE_DONE 3 = true ∧ s.sys.state = .configCheck ∧ s.rt.checkFail = some 0x1003) := by decide +kernel

/-- The other slot boots where the selector names the empty one. -/
theorem test_meets_StartChain_other (s : State) (hs : s = { bootSlot false with sui := slotSui1 }) :
    s.sys.state = .boot ∧ s.sys.maintFlag = false ∧ s.vau.debug = false
    ∧ (false && slotOk (finishWrite s).sui (finishWrite s).sui.running) = false
    ∧ (let u := { (slotInvalid (finishWrite s)).sui with running := otherSlot (finishWrite s).sui.running }; slotOk u u.running = true) := by
  have k : finishWrite s = s := by rw [hs]; rfl
  have u : s.sui = slotSui1 := by rw [hs]
  have m : (slotInvalid s).sui = slotSui1 := by
    simp only [slotInvalid, u, slot_offTrial slotSui1 rfl, Bool.false_eq_true, if_false, note, noteAt_sui]
  refine ⟨by rw [hs]; rfl, by rw [hs]; rfl, by rw [hs]; rfl, rfl, ?_⟩
  simp only [k, m, u]
  exact slot_ok

theorem test_meets_ProcessorReset : (sAt .active 1).sys.cp.reset = false ∧ (sAt .active 1).sys.sp.reset = false
    ∧ (let s := { sAt .active 1 with sys := { (sAt .active 1).sys with cp := ⟨0, true, false, 0⟩ } }
       s.sys.cp.reset = true ∧ s.sys.cp.dead = false ∧ s.sys.cp.tries = 0)
    ∧ (let s := { sAt .active 1 with sys := { (sAt .active 1).sys with cp := ⟨0, true, false, 1⟩ } }
       s.sys.cp.reset = true ∧ s.sys.cp.dead = false ∧ s.sys.cp.tries ≠ 0) := by decide

theorem test_meets_FirewallBlocks : ownChan 1 0x40000000 = none ∧ ownChan 2 0x40000000 = none ∧ agentRuns 1 (sAt .active 1) = true
    ∧ agentRuns 2 (sAt .active 1) = true ∧ agentRuns (if true then 2 else 1) (sAt .active 1) = true ∧ agentRuns (if false then 2 else 1) State.reset = false := by
  decide +kernel

theorem test_meets_UnmappedAccess : blockAt 0x50000000 = none ∧ inSram 0x50000000 32 = false ∧ inGd 0x50000000 32 = false
    ∧ inRom 0x50000000 32 = false := by decide +kernel

theorem test_meets_RegisterAccessCodes : (∃ r, regAt Reg.ITE_INPUT = some r ∧ r.block.base ≠ 0x40090000 ∧ operationWrite r 1 State.reset = none ∧ r.row.acc = .rw)
    ∧ (∃ r, regAt Reg.PDS_CONF = some r ∧ r.block.base ≠ 0x40090000 ∧ operationWrite r 1 State.reset = none ∧ r.row.acc = .lock ∧ locked r State.reset = false)
    ∧ (∃ r, regAt Reg.PDS_CONF = some r ∧ operationWrite r 1 (withRegs State.reset [(Reg.PDS_CONF_LOCK, 1)]) = none
        ∧ locked r (withRegs State.reset [(Reg.PDS_CONF_LOCK, 1)]) = true)
    ∧ (∃ r, regAt Reg.ITE_EVENT = some r ∧ r.block.base ≠ 0x40090000 ∧ operationWrite r 1 State.reset = none ∧ r.row.acc = .w1c)
    ∧ (∃ r, regAt Reg.ITE_INPUT = some r ∧ r.row.acc = .rw ∧ r.block.base ≠ 0x400A1000 ∧ isHi r.row.lo = false ∧ pairHi r.row.lo = false
        ∧ openValue Reg.ITE_INPUT = false)
    ∧ (∃ r, regAt Reg.MNT_HEARTBEAT = some r ∧ r.block.base ≠ 0x40090000 ∧ r.block.base ≠ 0x400A1000 ∧ r.row.acc = .wo) := by
  refine ⟨⟨_, rfl, ?_⟩, ⟨_, rfl, ?_⟩, ⟨_, rfl, ?_⟩, ⟨_, rfl, ?_⟩, ⟨_, rfl, ?_⟩, ⟨_, rfl, ?_⟩⟩ <;> decide +kernel

theorem test_meets_GeographicDataRam : 0 + 4 ≤ 0x200000 ∧ 0x1FFFFC + 4 ≤ 0x200000 ∧ State.reset.regB Reg.ITE_LOCK 0 = false
    ∧ (let s := withRegs (sAt .active 1) [(Reg.ITE_LOCK, 1)]; s.regB Reg.ITE_LOCK 0 = true ∧ s.live = true) ∧ bitAt 1#32 0 = true
    ∧ after .refClockLost State.reset (fun _ => true) = true := by decide +kernel

theorem test_meets_GeographicDataStaysCanonical : Tbl.wf (site .active 1).gd = true := by decide +kernel

theorem test_meets_PhaseBoundaries : (sAt .active 1).sys.vcOn = true ∧ State.reset.sys.vcOn = false := by decide

theorem test_meets_MantleTakesVector :
    (let s := { sAt .active 2 with mnt := { State.reset.mnt with tfrozen := some (setBit 0#64 63 true) } }
     s.sys.vcOn = true ∧ s.mnt.tfrozen = some (setBit 0#64 63 true) ∧ s.mnt.tsetBad = false ∧ consistent (takeVector true s) = true)
    ∧ (let s := { sAt .active 2 with mnt := { State.reset.mnt with st := .run, tfrozen := some (setBit 0#64 63 true) } }
       s.mnt.tfrozen = some (setBit 0#64 63 true) ∧ s.mnt.tsetBad = false ∧ consistent (takeVector true s) = true)
    ∧ (let s := { sAt .active 2 with mnt := { State.reset.mnt with st := .run } }
       s.sys.vcOn = true ∧ mWatches s.mnt = true ∧ s.mnt.tsetBad = false ∧ s.mnt.vecAbsent = 0)
    ∧ (let s := { sAt .active 2 with mnt := { State.reset.mnt with st := .hold, vecAbsent := 1 } }
       s.sys.vcOn = true ∧ mWatches s.mnt = true ∧ s.mnt.tsetBad = false ∧ s.mnt.vecAbsent ≠ 0) := by decide +kernel

theorem test_meets_MantleStatusRead : (sAt .active 2).sys.vcOn = true ∧ (sAt .active 2).live = true
    ∧ (sAt .active 2).mnt.tfrozen.getD 0 = 0 ∧ (sAt .active 2).mnt.st ≠ .msafe := by decide

theorem test_meets_MantleWritesAndInputs : (sAt .active 1).sys.phase = 1 ∧ (sAt .active 2).sys.phase ≠ 1 ∧ (sAt .active 5).sys.phase = 5
    ∧ (sAt .active 4).sys.phase ≠ 5 ∧ 31 < 32 ∧ (sAt .active 2).mnt.outLo = false ∧ (sAt .active 2).mnt.outHi = false ∧ (sAt .active 2).mnt.st ≠ .msafe
    ∧ (let s := { sAt .active 2 with mnt := { State.reset.mnt with outLo := true } }; s.sys.phase ≠ 1 ∧ s.mnt.outLo = true)
    ∧ (let s := { sAt .active 2 with mnt := { State.reset.mnt with outHi := true } }; s.sys.phase ≠ 1 ∧ s.mnt.outHi = true)
    ∧ (1#32 ≠ 0x80000000 ∧ 1#32 ≠ 0)
    ∧ (let s := { State.reset with mnt := { State.reset.mnt with tab := (List.range 1024).map fun i => (i, 0xFF#8), tabOk := true } }
       let bs := (safeFrame 7 0x10F 0 (List.replicate 12 0)).bytes
       (true && bs.length == 16 && scrcOk 7 (0x100 + 15) bs && (mUnits s.mnt 7).testBit 15) = true) := by decide +kernel

theorem test_meets_MantleTableAndFaults : State.reset.mnt.st = .wait ∧ ({ State.reset.mnt with st := .idle } : Mnt).st ≠ .wait
    ∧ ({ State.reset.mnt with st := .idle } : Mnt).st ≠ .msafe := by decide

theorem test_meets_PhaseMarksAndVcnLoad : (∀ i, i < 4 → ∃ p, p < 6 ∧ (sAt .active p).sys.phase = markPhase i)
    ∧ (∀ i, i < 4 → (sAt .active 0).sys.phase ≠ markPhase i)
    ∧ (let s := sAt .join 1; s.sys.state = .join ∧ s.sys.vcnLoaded = false) ∧ (sAt .active 1).sys.state ≠ .join := by decide +kernel

theorem test_meets_SignatureCompareAndVcEnd :
    (let s := sAt .active 5; s.sys.vcOn = true ∧ s.live = true ∧ s.crd.censusDone = false)
    ∧ (let s := { withRegs (sAt .active 5) [(Reg.SYS_PHASE_DONE, 0xF)] with vau := { State.reset.vau with pending := 4 } }
       s.sys.vcOn = true ∧ s.regB Reg.SYS_PHASE_DONE 3 = true ∧ s.sys.mode = .t3 ∧ s.vau.seqRegion = none ∧ bitAt s.vau.pending 2 = true
         ∧ ∀ j, j < 2 → bitAt s.vau.pending j = false)
    ∧ (let s := { withRegs (sAt .active 5) [(Reg.SYS_PHASE_DONE, 0xF)] with vau := { State.reset.vau with seqRegion := some 2 } }
       s.regB Reg.SYS_PHASE_DONE 3 = true ∧ s.sys.mode = .t3 ∧ s.vau.seqRegion = some 2 ∧ s.vau.seqVc = 0 ∧ s.vau.pending = 0
         ∧ s.sys.state = .active) := by decide +kernel

/-- Regions 0 and 1 present one pair, region 2 another or none; all three the same; no two the same; two voters that differ. -/
def sigAt (c : BitVec 3) (g : Tbl Word) : State := { sAt .active 5 with
  vau := { State.reset.vau with captured := c, sig := g }, crd := { State.reset.crd with censusDone := true } }

theorem test_meets_SignatureCompare :
    (let s := sigAt 7 [(2, 1)]
     s.sys.vcOn = true ∧ s.vau.debug = false ∧ s.sys.mode = .t3 ∧ s.sys.fenced = none ∧ s.sys.split = none ∧ s.vau.pending = 0 ∧ s.vau.seqRegion = none
       ∧ s.crd.censusDone = true ∧ sigOf s.vau 0 = some (0, 0) ∧ sigOf s.vau 1 = some (0, 0) ∧ sigOf s.vau 2 ≠ some (0, 0))
    ∧ ([0, 1, 2].map (sigOf (sigAt 3 []).vau) = [some (0, 0), some (0, 0), none])
    ∧ ([0, 1, 2].map (sigOf (sigAt 7 []).vau) = [some (0, 0), some (0, 0), some (0, 0)])
    ∧ ((sigAt 7 [(1, 1), (2, 2)]).live = true ∧ [0, 1, 2].map (sigOf (sigAt 7 [(1, 1), (2, 2)]).vau) = [some (0, 0), some (1, 0), some (2, 0)])
    ∧ (let s := { sigAt 3 [(1, 1)] with sys := { (sAt .active 5).sys with mode := .t2f, fenced := some 2 } }
       s.live = true ∧ voters s = [0, 1] ∧ sigOf s.vau 0 ≠ sigOf s.vau 1)
    ∧ (let s := { sigAt 2 [] with sys := { (sAt .active 5).sys with mode := .t2f, fenced := some 2 } }
       voters s = [0, 1] ∧ sigOf s.vau 0 = none) := by decide

/-- A write of a core without an upset. -/
def goodWrite (x : Txn) : QWrite := ⟨x, 0, 0, 0, 0⟩

/-- A transaction, and another one. -/
def txnX : Txn := ⟨0x40000000, 1, 1⟩
def txnY : Txn := ⟨0x40000000, 2, 1⟩

/-- Reads of one address agree whatever their data; writes do not (R73). -/
theorem test_voted_part : votedPart ⟨0x40000000, 1, 0⟩ = votedPart ⟨0x40000000, 2, 0⟩ ∧ votedPart txnX ≠ votedPart txnY := by decide

theorem test_meets_VoteOfThree : (let s := sAt .active 1
    s.vau.debug = false ∧ s.sys.fenced = none ∧ s.sys.split = none ∧ s.vau.pending = 0 ∧ s.vau.parityBad = false ∧ s.live = true
      ∧ ∀ k, k < 3 → Tbl.get s.vau.queue k = [] ∧ Tbl.get s.vau.copy k = none ∧ Tbl.get s.vau.owed k = 0) ∧ votedPart txnX ≠ votedPart txnY
    ∧ votedPart ⟨0x40000000, 3, 1⟩ ≠ votedPart txnX ∧ votedPart ⟨0x40000000, 3, 1⟩ ≠ votedPart txnY := by decide

theorem test_meets_VoteOfTwo : votedPart txnY ≠ votedPart txnX ∧ 0 < 3 ∧ 1 < 3 ∧ 2 < 3 ∧ 1 ≠ 2 ∧ 0 ≠ 1
    ∧ (∀ m, Tbl.get (sAt .active 1).vau.queue m = [] ∧ Tbl.get (sAt .active 1).vau.copy m = none ∧ Tbl.get (sAt .active 1).vau.owed m = 0)
    ∧ (sAt .active 1).vau.parityBad = false ∧ (∀ e ∈ [queueEntry (goodWrite txnY)], badParity e = false)
    ∧ (let s := { sAt .active 1 with sys := { (sAt .active 1).sys with fenced := some 2 } }
       s.vau.debug = false ∧ s.live = true ∧ s.sys.fenced = some 2 ∧ s.sys.split = none ∧ s.vau.pending = 0)
    ∧ (let s := { sAt .active 1 with sys := { (sAt .active 1).sys with split := some 0 } }
       s.sys.fenced = none ∧ s.sys.split = some 0 ∧ s.vau.pending = 0)
    ∧ (let s := { sAt .active 1 with vau := { State.reset.vau with pending := setBit 0 1 true } }
       s.sys.fenced = none ∧ s.sys.split = none ∧ s.vau.pending = setBit 0 1 true) :=
  ⟨by decide, by decide, by decide, by decide, by decide, by decide, fun m => ⟨rfl, rfl, rfl⟩, by decide, by decide, by decide, by decide, by decide⟩

/-- An entry whose first parity bit turns over, and one whose data does. -/
def badWrite : QWrite := { goodWrite txnX with upParity := 1 }
def badData : QWrite := { goodWrite txnX with upData := 2 }

theorem test_meets_VoterSelfChecks : (let s := sAt .active 1
    let q := [goodWrite txnX]
    s.live = true ∧ (gatherCopies q q q s).vau.parityBad = false ∧ (gatherCopies [badWrite] q q s).vau.parityBad = true
      ∧ (gatherCopies [] [] [badData] s).vau.parityBad = true ∧ badParity (queueEntry badWrite) = true ∧ badParity (queueEntry badData) = true
      ∧ liveRegion s 2 = true ∧ Tbl.get s.vau.queue 2 = [] ∧ Tbl.get s.vau.copy 2 = none) := by decide

theorem test_meets_RegionEvents : 2 < 3 ∧ State.reset.sys.fenced = none ∧ State.reset.sys.split = none ∧ State.reset.vau.pending = 0
    ∧ bitAt 1#32 0 = true ∧ State.reset.vau.captureWritten = false ∧ State.reset.vau.captured = 0
    ∧ ({ State.reset.vau with captureWritten := true } : Vau).captureWritten = true ∧ (Tbl.get State.reset.vau.queue 2).length ≠ 8
    ∧ (∃ q, Tbl.get ({ State.reset.vau with queue := Tbl.set [] 2 (List.replicate 8 (queueEntry (goodWrite txnX))) } : Vau).queue 2
        = queueEntry (goodWrite txnX) :: q ∧ q.length = 7)
    ∧ (∃ q, Tbl.get ({ State.reset.vau with queue := Tbl.set [] 2 (List.replicate 8 (queueEntry badWrite)) } : Vau).queue 2
        = queueEntry badWrite :: q ∧ q.length = 7)
    ∧ Tbl.get State.reset.vau.copy 2 = none ∧ badParity (queueEntry (goodWrite txnX)) = false ∧ badParity (queueEntry badWrite) = true
    ∧ State.reset.vau.parityBad = false ∧ (sAt .active 1).live = true ∧ liveRegion (sAt .active 1) 2 = true :=
  ⟨by decide, by decide, by decide, by decide, by decide, by decide, by decide, by decide, by decide,
    ⟨List.replicate 7 (queueEntry (goodWrite txnX)), rfl, rfl⟩, ⟨List.replicate 7 (queueEntry badWrite), rfl, rfl⟩,
    by decide, by decide, by decide, by decide, by decide, by decide⟩

/-- A sample: supply of the three regions in mV, temperature in 0.125 °C, phase in 1/16 core cycle. -/
def sample (v0 v1 v2 : Nat) (t0 t1 t2 p0 p1 p2 : Int) : RegionSample :=
  ⟨[(0, v0), (1, v1), (2, v2)], [(0, t0), (1, t1), (2, t2)], [(0, p0), (1, p1), (2, p2)]⟩

/-- The limits of R94 themselves: 60 mV from the median and 15 °C are within; a region more is beyond, and both outer ones that lie equally
far; 2 core cycles and the absolute limits. -/
theorem test_region_limits :
    (let ok := sample 840 900 900 400 400 520 32 0 (-32)
     steep ok = false ∧ ∀ k < 3, beyondSupply ok k = false ∧ beyondPhase ok k = false ∧ beyondVolt ok k = false ∧ beyondHot ok k = false)
    ∧ ([0, 1, 2].map (beyondSupply (sample 839 900 961 0 0 0 0 0 0)) = [true, false, true])
    ∧ (steep (sample 900 900 900 339 400 460 0 0 0) = true ∧ outOfTemp (List.replicate 3 (sample 900 900 900 339 400 461 0 0 0)) = 5
      ∧ outOfTemp (List.replicate 3 (sample 900 900 900 340 400 461 0 0 0)) = 4)
    ∧ ([0, 1, 2].map (beyondPhase (sample 900 900 900 0 0 0 33 (-33) 32)) = [true, true, false])
    ∧ ([0, 1, 2].map (beyondVolt (sample 829 830 971 0 0 0 0 0 0)) = [true, false, true])
    ∧ ([0, 1, 2].map (beyondHot (sample 900 900 900 1001 1000 0 0 0 0)) = [true, false, false]) := by decide

theorem test_meets_RegionMonitors : (sAt .active 1).sys.fenced = none ∧ (sAt .active 1).sys.split = none ∧ (sAt .active 1).vau.pending = 0
    ∧ (sAt .active 1).live = true
    ∧ (let three (x : RegionSample) := [x, x, x]
       (let xs := three (sample 900 900 900 0 0 0 0 0 0); outOf beyondSupply xs ||| outOfTemp xs ||| outOf beyondPhase xs ||| (outOf beyondVolt xs ||| outOf beyondHot xs) = 0)
       ∧ (let xs := three (sample 900 961 900 0 0 0 0 0 0)
          outOf beyondSupply xs = setBit 0 1 true ∧ outOfTemp xs ||| outOf beyondPhase xs ||| (outOf beyondVolt xs ||| outOf beyondHot xs) = 0)
       ∧ (let xs := three (sample 900 900 900 0 0 121 0 0 0)
          outOfTemp xs = setBit 0 2 true ∧ outOf beyondSupply xs ||| outOf beyondPhase xs ||| (outOf beyondVolt xs ||| outOf beyondHot xs) = 0)
       ∧ (let xs := three (sample 900 900 900 0 0 0 33 0 0)
          outOf beyondPhase xs = setBit 0 0 true ∧ outOf beyondSupply xs ||| outOfTemp xs ||| (outOf beyondVolt xs ||| outOf beyondHot xs) = 0)
       ∧ (let xs := three (sample 920 971 920 0 0 0 0 0 0)
          (outOf beyondVolt xs ||| outOf beyondHot xs) = setBit 0 1 true ∧ outOf beyondSupply xs ||| outOfTemp xs ||| outOf beyondPhase xs = 0)
       ∧ (let xs := three (sample 900 900 900 1001 1000 1000 0 0 0)
          (outOf beyondVolt xs ||| outOf beyondHot xs) = setBit 0 0 true ∧ outOf beyondSupply xs ||| outOfTemp xs ||| outOf beyondPhase xs = 0)
       ∧ (let xs := three (sample 900 900 900 0 0 0 33 33 0)
          let m := outOf beyondSupply xs ||| outOfTemp xs ||| outOf beyondPhase xs ||| (outOf beyondVolt xs ||| outOf beyondHot xs)
          bitAt m 0 = true ∧ bitAt m 1 = true)
       ∧ (let s := { sAt .active 1 with sys := { (sAt .active 1).sys with fenced := some 2 } }
          bitAt (outOf beyondPhase (three (sample 900 900 900 0 0 0 33 0 0))) 0 = true ∧ liveRegion s 0 = true ∧ s.sys.fenced = some 2)) := by decide

theorem test_meets_SplitAndSelftest : field 0x5B170002 31 16 = 0x5B17 ∧ field 0x5B170002 1 0 < 3 ∧ field 0x5B160002 31 16 ≠ 0x5B17
    ∧ (let s := sAt .active 1; s.sys.mode = .t3 ∧ s.sys.state = .active ∧ s.reg Reg.VAU_RM_STAT = 0 ∧ s.vau.sinceChange = none ∧ s.vau.seqRegion = none)
    ∧ (∀ n, ({ State.reset.vau with sinceChange := some 101 } : Vau).sinceChange = some n → 101 ≤ n)
    ∧ (∃ n, ({ State.reset.vau with sinceChange := some 100 } : Vau).sinceChange = some n ∧ ¬ 101 ≤ n)
    ∧ (∀ x ∈ [540, 600], 540 ≤ x ∧ (x - 540) % 60 = 0) ∧ (541 - 540) % 60 ≠ 0
    ∧ (let s := { sAt .active 1 with sys := { (sAt .active 1).sys with mode := .t2s, split := some 2 }, vau := { State.reset.vau with seqRegion := some 2, seqVc := 24 } }
       s.sys.mode = .t2s ∧ s.vau.seqRegion = some 2 ∧ s.vau.seqVc ≤ 24 ∧ s.vau.seqSelftestDone = false ∧ s.vau.seqFence = false) :=
  ⟨by decide +kernel, by decide +kernel, by decide +kernel, by decide +kernel, fun n h => by cases h; decide, ⟨100, rfl, by decide⟩, by decide, by decide,
    by decide⟩

theorem test_meets_DebuggerAttaches : (sAt .active 1).live = true ∧ (sAt .configCheck 1).sys.state = .configCheck ∧ (sAt .maint 1).live = false
    ∧ (sAt .maint 1).sys.state ≠ .configCheck := by decide

/-- The engine runs with the session descriptor of session 1 at the given word. -/
def engineRuns (d : Word) : State :=
  { withRegs { sAt .maint 1 with regs := [] } [(Reg.ITE_SES, d)] with ite := { State.reset.ite with busy := true } }

theorem test_meets_EngineEvaluation : bitAt 1#32 0 = true ∧ (sAt .active 1).ite.busy = false ∧ (sAt .active 1).ite.goTaken = false
    ∧ ({ State.reset.ite with goTaken := true } : Ite).goTaken = true ∧ (sAt .active 2).sys.phase ≠ 1 ∧ (sAt .active 1).live = true
    ∧ (let s := engineRuns 0x80000000; s.ite.busy = true ∧ s.crd.heldOps = [] ∧ sequences s = false ∧ (evaluate (routeActive s) (crdResume s)).2 = false
       ∧ s.regB (sesReg 1) 31 = true ∧ s.regB (sesReg 255) 31 = false
       ∧ evalSes { st := crdResume s, tok := Tbl.get s.ite.frozen, ses := 1, rtActive := routeActive s } (s.reg (sesReg 1)) = some 0x87000000) := by
  decide +kernel

/-- The site with a token, a subject and a timer in CRD_OPA. -/
def siteOp (i : Nat) (w opa : Word) : State := (siteTok i w).setReg Reg.CRD_OPA opa

/-- An element of the site where the ledger works at once. -/
theorem test_meets_LedgerOperations_open : (∀ s ∈ [siteTok 0 0], s.ite.copying = false ∧ s.sys.phase = 1 ∧ s.live = true)
    ∧ (∀ i ∈ [0, 1, 2, 3, 1016, 1019], tokFrozen (siteTok 0 0) i = false ∧ (posKind (siteTok 0 0) i = 1 ∨ posKind (siteTok 0 0) i = 2)) := by decide +kernel

theorem test_meets_LedgerOperations :
    (let s := siteOp 0 (mkTok 1 0 9) 0x09000001
     posKind s 0 = 1 ∧ tokSt (s.tok 0) = 1 ∧ tokHolder (s.tok 0) = s.opSubj ∧ 1 ≤ s.opTimer ∧ 255 ≠ s.opSubj)
    ∧ (let s := siteOp 3 (mkTok 5 0 255) 0xFF0927C0; tokSt (s.tok 3) = 5 ∧ tokHolder (s.tok 3) = s.opSubj ∧ s.opTimer = 600000 ∧ posKind s 3 = 2)
    ∧ (let s := siteOp 0 0 0; posKind s 0 = 1 ∧ tokSt (s.tok 0) = 0 ∧ 7 ≠ s.ownSlot ∧ posKind s 3 = 2 ∧ tokSt (s.tok 3) = 0)
    ∧ (let s := siteOp 0 (mkTok 3 0 7) 0; tokSt (s.tok 0) = 3 ∧ tokHolder (s.tok 0) ≤ 7)
    ∧ (let s := siteOp 0 (mkTok 4 0 1) 0x01000001; tokSt (s.tok 0) = 4 ∧ tokHolder (s.tok 0) = s.opSubj ∧ 1 ≤ s.opTimer)
    ∧ (let s := siteOp 3 (mkTok 2 0 0) 0; posKind s 3 = 2 ∧ tokHolder (s.tok 3) = s.opSubj ∧ tokSt (s.tok 3) = 2 ∧ tokTimer (s.tok 3) = 0)
    ∧ (let s := siteOp 0 (mkTok 3 0 0xF8) 1; tokSt (s.tok 0) = 3 ∧ tokHolder (s.tok 0) = 0xF8 ∧ 1 ≤ s.opTimer) := by decide +kernel

theorem test_meets_LedgerPhases : (sAt .active 2).ite.copying = false ∧ (sAt .active 2).sys.phase ≠ 1
    ∧ (sAt .safe 1).live = false ∧ (sAt .safe 1).sys.state ≠ .maint ∧ (sAt .active 1).sys.phase ≠ 4
    ∧ (sAt .maint 1).sys.phase = 1 ∧ (sAt .join 4).sys.phase = 4 ∧ (sAt .join 4).sys.state = .join ∧ 1023 < 1024 ∧ 127 < 128 := by decide

theorem test_meets_LedgerRefusesAndAcquires :
    (let s := (siteTok 0 0).setReg Reg.CRD_FREEZE 0x80; s.ite.copying = false ∧ s.sys.phase = 1 ∧ s.live = true ∧ tokFrozen s 1023 = true
       ∧ tokFrozen s 4 = false ∧ posKind s 4 = 0)
    ∧ (let s := siteOp 0 (mkTok 1 0 9) 0x08000000; tokSt (s.tok 0) ≠ 0 ∧ posKind s 0 = 1 ∧ tokSt (s.tok 0) = 1 ∧ tokHolder (s.tok 0) ≠ s.opSubj ∧ 7 ≠ s.ownSlot)
    ∧ (let s := siteTok 3 (mkTok 5 0 9); tokSt (s.tok 3) ≠ 0 ∧ posKind s 3 = 2)
    ∧ (let s := (siteTok 0 0).setReg Reg.CRD_LIST 0x10000; let xs := (List.range 2).map (listEntry s)
       xs.Nodup ∧ ∀ x ∈ xs, posKind s x = 1 ∧ tokFrozen s x = false ∧ s.tok x = 0)
    ∧ (let xs := (List.range 2).map (listEntry (siteTok 0 0)); ¬ xs.Nodup)
    ∧ (let s := (siteTok 0 0).setReg Reg.CRD_LIST 3; ∃ x ∈ (List.range 1).map (listEntry s), posKind s x ≠ 1) := by decide +kernel

theorem test_meets_LedgerCensusAndLocks : (sAt .join 4).ite.copying = false ∧ (sAt .join 4).sys.phase = 4
    ∧ ({ State.reset.crd with loadBegun := true } : Crd).loadBegun = true ∧ bitAt 1#32 0 = true ∧ (sAt .active 5).sys.phase = 5
    ∧ (sAt .active 5).crd.censusGo = false ∧ (sAt .active 5).crd.censusDone = false ∧ (sAt .active 5).crd.heldOps = []
    ∧ (let s := { sAt .active 5 with crd := { State.reset.crd with censusGo := true } }
       s.crd.censusGo = true ∧ s.live = true ∧ censusCountOk s = true)
    ∧ (let s := { sAt .active 5 with crd := { State.reset.crd with censusGo := true, nFree := 1023 } }; s.live = true ∧ censusCountOk s = false)
    ∧ ({ State.reset.ite with copying := true } : Ite).copying = true ∧ bitAt ((withRegs State.reset [(Reg.CRD_ATTR_LOCK, 1)]).reg Reg.CRD_ATTR_LOCK) 0 = true := by
  decide +kernel

/-- For every ledger there is a sum register that a census finds right, and one that it finds wrong; a ledger of
free tokens is lawful. -/
theorem test_meets_LedgerCensusAndLocks_sum (s : State) :
    (let sum := (List.range 1024).foldl (fun a i => a + tokSum i (s.tok i)) 0#32
     censusSumOk (s.setReg Reg.CRD_TSUM sum) = true ∧ censusSumOk (s.setReg Reg.CRD_TSUM (sum + 1)) = false)
    ∧ censusUnlawful { State.reset with regs := [] } = none := by
  have tok (w : Word) (i : Nat) : (s.setReg Reg.CRD_TSUM w).tok i = s.tok i := rfl
  have reg (w : Word) : (s.setReg Reg.CRD_TSUM w).reg Reg.CRD_TSUM = w := by simp [State.reg, State.setReg]
  refine ⟨⟨?_, ?_⟩, by decide +kernel⟩
  · simp only [censusSumOk, tok, reg, beq_self_eq_true]
  · simp only [censusSumOk, tok, reg, beq_eq_false_iff_ne, ne_eq]
    generalize List.foldl (fun a i => a + tokSum i (s.tok i)) 0#32 (List.range 1024) = x
    bv_omega

theorem test_meets_LendingHandOver :
    (∀ s ∈ [siteLend 0 0 [] []], s.sys.state = .active ∧ popsNow s = true ∧ epochOk s (lendMsg 0) = true ∧ peerBanked s = false ∧ tokFrozen s 0 = false
       ∧ 1 ≠ s.ownSlot ∧ posKind s 0 = 1 ∧ s.tok 0 = 0 ∧ matchLoan s (lendMsg 0) = none)
    ∧ (let s := siteLend 0 (mkTok 1 0 9) [] []; s.tok 0 ≠ 0 ∧ ¬ (tokSt (s.tok 0) = 4 ∧ tokHolder (s.tok 0) = 1))
    ∧ (let b : Borrow := { elem := 3, owner := 1, ses := 9, lseq := 5, isRet := false, sent := 0 }
       let s := siteSes 9 { (default : Session) with st := .locking } (siteLend 3 0 [b] [])
       matchBorrow s (lendMsg 3) false = some b ∧ posKind s 3 = 2 ∧ tokSt (s.tok 3) = 0 ∧ (s.ses b.ses).used = true ∧ (s.ses b.ses).st = .locking)
    ∧ (let b : Borrow := { elem := 3, owner := 1, ses := 9, lseq := 5, isRet := false, sent := 0 }
       let s := siteLend 3 0 [b] []; matchBorrow s (lendMsg 3) false = some b ∧ (s.ses b.ses).st ≠ .locking)
    ∧ (let l : Loan := { elem := 0, borrower := 1, lseq := 5, confirmed := false, sent := 0, audited := 0 }
       let s := siteLend 0 (mkTok 4 0 1) [] [l]; matchLoan s (lendMsg 0) = some l ∧ posKind s 0 = 1 ∧ tokSt (s.tok 0) = 4 ∧ tokHolder (s.tok 0) = 1)
    ∧ (let b : Borrow := { elem := 3, owner := 1, ses := 0, lseq := 5, isRet := true, sent := 0 }
       matchBorrow (siteLend 3 0 [b] []) (lendMsg 3) true = some b)
    ∧ ((site .active 2).sys.state = .active ∧ (site .active 2).pcl.handing = false ∧ popsNow (site .active 2) = false ∧ (site .join 1).sys.state ≠ .active) := by
  decide +kernel

theorem test_meets_LendingClaimsAndAudits :
    (let s := siteTok 0 0; s.sys.state = .active ∧ popsNow s = true ∧ lendsNow s = true ∧ epochOk s (lendMsg 0) = false)
    ∧ (let s := siteLend 0 0 [] []; s.sys.state = .active ∧ popsNow s = true ∧ epochOk s (lendMsg 0) = true ∧ peerBanked s = false ∧ matchLoan s (lendMsg 0) = none
       ∧ matchBorrow s (lendMsg 0) false = none ∧ matchBorrow s (lendMsg 0) true = none ∧ tokSt (s.tok 0) = 0 ∧ Tbl.get s.lend.epochs 1 = 1 + 1)
    ∧ (let t := siteLend 0 (mkTok 3 0 0xF8) [] []
       let s := { t with lend := { t.lend with claiming := true }, sys := { t.sys with vcn := 100 } }
       s.lend.claiming = true ∧ lendsNow s = true ∧ popsNow s = true ∧ s.sys.state = .active ∧ s.sys.phase = 1 ∧ epochOk s (lendMsg 0) = true
         ∧ peerBanked s = false ∧ posKind s 0 = 1 ∧ s.tok 0 = mkTok 3 0 0xF8 ∧ tokFrozen s 0 = false
         ∧ 1 ≤ s.rt.startT ∧ s.rt.startT ≤ 6000 ∧ 100 ≤ since s.sys.vcn s.lend.queried ∧ since 99 s.lend.queried < 100
         ∧ (otherSlots s).all (claimsFrom s) = true) := by decide +kernel

/-- A packet of host 0, tag 0. -/
def pkt (opc ses : Nat) (ps : List Byte) : Pkt := mkPkt opc 0 0 ses 1 0 ps

theorem test_meets_HostCommandsQueued : (∀ o ∈ [0x01, 0x10, 0x38, 0x48], let p := pkt o 0 [0, 0, 0, 0]; let s := site .active 4
    s.sys.state = .active ∧ inShare s p.host p.tag = true ∧ (s.tag p.tag).st = .held ∧ (s.tag p.tag).hseq ≠ some p.hseq
      ∧ s.regB Reg.CMD_HSEQV p.host = false ∧ later p.hvcn s.sys.vcn = false ∧ s.sys.phase ≠ 1)
    ∧ ({ site .active 1 with ite := { State.reset.ite with goTaken := true } } : State).ite.goTaken = true
    ∧ ({ site .active 1 with pcl := { State.reset.pcl with handing := true } } : State).pcl.handing = true
    ∧ (let s := withRegs (site .active 4) [(Reg.CMD_HSEQV, 1)]; s.regB Reg.CMD_HSEQV 0 = true ∧ later 1 (s.reg Reg.CMD_HSEQ) = true) := by decide +kernel

/-- The packet comes to its turn at once. -/
def turnAt (s : State) (p : Pkt) : Bool :=
  s.sys.state == .active && inShare s p.host p.tag && (s.tag p.tag).st == .held && (s.tag p.tag).hseq != some p.hseq
    && !s.regB Reg.CMD_HSEQV p.host && !later p.hvcn s.sys.vcn && s.sys.phase == 1 && s.cmd.queue.isEmpty && decide (s.cmd.handed < 32)
    && !s.ite.goTaken && !s.pcl.handing
    && !tooOld s p && decide (p.host < 8 ∧ p.tag < 256)

theorem test_meets_HostCommandsApplied : (∀ o ∈ [0x01, 0x10, 0x11, 0x12, 0x18, 0x19, 0x1A, 0x20, 0x30, 0x31, 0x32, 0x33, 0x34, 0x35, 0x38, 0x39, 0x40, 0x41,
    0x42, 0x48], turnAt (site .active 1) (pkt o 0 [0, 0, 0, 0]) = true)
    ∧ (let s := site .active 1
       routeDefined s 0 = true ∧ sesOf s .route 0 = none ∧ freeSes s = some 1 ∧ elemKind s 1 = 2 ∧ (elemOf s 1).owner = s.ownSlot ∧ edgeEquipped s 0 = true
         ∧ (berthTrack s 0).isSome = true ∧ (s.edge 0).st ≠ .localSafe ∧ sesOf s .door 0 = none ∧ posKind s 0 = 1 ∧ tokFrozen s 0 = false
         ∧ s.tok 0 = 0 ∧ elemKind s 2 = 3 ∧ (elemOf s 2).owner = s.ownSlot ∧ unitDeclared s (0 / 32) (0 % 32 / 2) = true ∧ leafDeclared s 0 = true
         ∧ s.dsu.lcmds.length < 16 ∧ bitAt (hostReg s 0) 29 = true ∧ bitAt (hostReg s 0) 30 = true ∧ (statusResult s 0 0).isSome = true
         ∧ inShare s 0 3 = true ∧ (countResult s 0 1 0).isSome = true)
    ∧ (let s := siteTok 0 (mkTok 3 0 7); tokSt (s.tok 0) = 3 ∧ tokHolder (s.tok 0) ≤ 7)
    ∧ (let s := withRegs (site .active 1) [(Reg.DSU_EIN, 0x08000000), (Reg.PDS_ECONF, 0x81E01)]
       eF s Reg.DSU_EIN 0 28 27 = 1 ∧ field (s.reg (Reg.PDS_ECONF + 4 * 0)) 19 18 = 2) := by decide +kernel

/-- The cases of doors, of routes that are cancelled or released, and of a trial, each in its turn in the site. -/
theorem test_meets_HostCommandsApplied_sessions :
    (let t := siteSes 9 { (default : Session) with kind := .door, st := .set_ } (updEdge 0 (fun d => { d with st := .enabled }) (site .active 1))
     let s := { t with mnt := { t.mnt with da := 1 } }
     turnAt s (pkt 0x31 9 [0, 0, 0, 0]) = true ∧ sesFits s (pkt 0x31 9 [0, 0, 0, 0]) .door 0 = true ∧ (s.ses 9).st = .set_ ∧ (s.edge 0).st = .enabled
       ∧ bitAt s.mnt.da 0 = true ∧ eF s Reg.DSU_EIN 0 28 27 ≠ 1 ∧ (s.ses 9).endTag = none)
    ∧ (let s := siteSes 9 { (default : Session) with kind := .door, st := .set_ } (updEdge 0 (fun d => { d with st := .closing }) (site .active 1))
       turnAt s (pkt 0x32 9 [0, 0, 0, 0]) = true ∧ sesFits s (pkt 0x32 9 [0, 0, 0, 0]) .door 0 = true ∧ (s.edge 0).st = .closing)
    ∧ (let s := siteSes 9 { (default : Session) with kind := .route, st := .checking, replied := true } (site .active 1)
       turnAt s (pkt 0x11 9 [0, 0, 0, 0]) = true ∧ sesFits s (pkt 0x11 9 [0, 0, 0, 0]) .route 0 = true ∧ (s.ses 9).st = .checking ∧ (s.ses 9).replied = true)
    ∧ (let t := siteSes 9 { (default : Session) with kind := .route, st := .requested, tag := 2 } (site .active 1)
       let s := t.setTag 2 { (t.tag 2) with st := .active }
       turnAt s (pkt 0x11 9 [0, 0, 0, 0]) = true ∧ sesFits s (pkt 0x11 9 [0, 0, 0, 0]) .route 0 = true ∧ (s.ses 9).st = .requested ∧ (s.ses 9).replied = false
         ∧ (s.ses 9).tag = 2 ∧ (s.tag 2).st = .active ∧ (s.tag 2).replay = 0)
    ∧ (let s := siteSes 9 { (default : Session) with kind := .route, st := .set_, replied := true } (site .active 1)
       turnAt s (pkt 0x12 9 [0, 0, 0, 0]) = true ∧ sesFits s (pkt 0x12 9 [0, 0, 0, 0]) .route 0 = true ∧ (s.ses 9).st = .set_ ∧ (s.ses 9).replied = true) := by
  decide +kernel

/-- SUI with the running slot 0 on trial, bundle 77. -/
def trialSui : Sui := programSel { (default : Sel) with st := 2, bundle := 77 } State.reset.sui

theorem test_meets_HostCommandsApplied_trial : (let s := { site .active 1 with sui := trialSui }
    turnAt s (pkt 0x48 0 (le4 77)) = true ∧ bitAt (hostReg s 0) 30 = true ∧ onTrialWith 77 s.sui = true ∧ s.sui.failed = false
      ∧ s.sui.writing = none) := by decide +kernel

/-- The edge of the site in LOCAL_SAFE, with what a restoration needs. -/
def siteLocal : State := updEdge 0 (fun d => { d with st := .localSafe }) (withRegs (site .active 1) [(Reg.PDS_TRACK, 0), (Reg.ITE_INPUT, 1)])

theorem test_meets_HostCommandsApplied_restore : restoreGuard siteLocal 0 = true ∧ turnAt siteLocal (pkt 0x32 0 [0, 1, 0, 0]) = true := by decide +kernel

/-- The site with session 9 as the runtime comes to it after DONE, in the VC given. -/
def turn9 (v : Nat) (x : Session) : State :=
  let s := siteSes 9 x (site .active 1)
  { s with sys := { s.sys with vcn := word v }, ite := { s.ite with done := true } }

/-- A VC before every time has elapsed, and one in which each has. -/
def vcs : List Nat := [0, 120000]

theorem test_meets_RequestTimes_lend : ∀ v ∈ vcs, let s := turn9 v { (default : Session) with kind := .route, st := .locking }
    turnNow s = true ∧ (s.ses 9).used = true ∧ (s.ses 9).kind = .route ∧ (s.ses 9).st = .locking
      ∧ (locksOf s (routeOf s (s.ses 9).obj)).all (fun l => frozenOwned s 9 l.elem) = false
      ∧ elapsed s (s.ses 9).acqVcn ((routeOf s (s.ses 9).obj).lendT * 10) = (v != 0) := by decide +kernel

theorem test_meets_RequestTimes_set : ∀ v ∈ vcs, let s := turn9 v { (default : Session) with kind := .route, st := .setting, setVcn := some 0 }
    (s.ses 9).st = .setting ∧ (s.ses 9).cleared = false ∧ pOk s 9 = false ∧ (s.ses 9).setVcn = some 0
      ∧ elapsed s 0 ((routeOf s (s.ses 9).obj).setT * 10) = (v != 0) := by decide +kernel

theorem test_meets_RequestTimes_throw : ∀ v ∈ vcs,
    let s := turn9 v { (default : Session) with kind := .point, st := .setting, obj := 1, target := 2, setVcn := some 0 }
    (s.ses 9).kind = .point ∧ estBit s (s.ses 9).obj (if (s.ses 9).target = 1 then 2 else 3) = false
      ∧ elapsed s 0 ((elemOf s (s.ses 9).obj).throwT * 10) = (v != 0) := by decide +kernel

theorem test_meets_RequestTimes_wait : ∀ v ∈ vcs, let s := turn9 v { (default : Session) with kind := .route, st := .checking }
    (s.ses 9).st = .checking ∧ cOk s 9 = false ∧ elapsed s (s.ses 9).born ((routeOf s (s.ses 9).obj).waitT * 100) = (v != 0) := by decide +kernel

theorem test_meets_RequestTimes_stop : ∀ v ∈ vcs, let s := turn9 v { (default : Session) with kind := .route, st := .releasing, relMode := .atStop }
    (s.ses 9).st = .releasing ∧ (s.ses 9).relMode = .atStop ∧ sigStop s (routeOf s (s.ses 9).obj).signal = false
      ∧ elapsed s (s.ses 9).endVcn 1000 = (v != 0) := by decide +kernel

theorem test_meets_RequestTimes_door : ∀ v ∈ vcs, let s := turn9 v { (default : Session) with kind := .door, st := .checking }
    sesOf s .door 0 = some 9 ∧ (s.ses 9).st = .checking ∧ cOk s 9 = false ∧ tokOwned (s.tok (1016 + 0)) 9 = false
      ∧ elapsed s (s.ses 9).born (eF s Reg.DSU_ECONF 0 23 16 * 1000) = (v != 0) := by decide +kernel

theorem test_meets_RequestTimes_grant : ∀ v ∈ vcs, let s := turn9 v { (default : Session) with kind := .door, st := .proving }
    sesOf s .door 0 = some 9 ∧ (s.ses 9).st = .proving ∧ bitAt s.mnt.da 0 = false ∧ elapsed s (s.ses 9).provVcn 10 = (v != 0) := by decide +kernel

theorem test_meets_RequestTimes_tokens :
    (∀ n ∈ [0, 1], let s := siteTok 0 (mkTok 2 n 0); tokSt (s.tok 0) = 2 ∧ tokFrozen s 0 = false ∧ tokTimer (s.tok 0) = n ∧ posKind s 0 = 1)
    ∧ (∀ n ∈ [0, 600000], let s := siteTok 3 (mkTok 2 n 9); tokSt (s.tok 3) = 2 ∧ tokFrozen s 3 = false ∧ tokTimer (s.tok 3) = n ∧ posKind s 3 = 2)
    ∧ (let t := site .active 1
       let s := { t with rt := { t.rt with berth := [(0, ⟨true, true, 0, 0, 0, true⟩)] }, sys := { t.sys with vcn := 3 } }
       (Tbl.get s.rt.berth 0).live = true ∧ s.regF Reg.CMD_CONF 3 0 ≤ since s.sys.vcn (Tbl.get s.rt.berth 0).vcn) := by decide +kernel
theorem test_meets_TravelClock : 7 < 8 ∧ 511 < 512 ∧ 31 < 32 ∧ (site .active 2).sys.phase ≠ 1 ∧ bitAt 1#32 0 = true
    ∧ (let s := site .active 1; slotRefused false (slotConf false (0x20000064 &&& 0xFCFFFFFF#32) (s.reg Reg.PDS_SLOTA)) (s.sys.phase == 1) (leafTracked s 0) = false
       ∧ slotRefused true (slotConf true (0x20000064 &&& 0xFCFFFFFF#32) (s.reg Reg.PDS_BSLOTA)) (s.sys.phase == 1) true = false)
    ∧ (∀ m ∈ [2, 1], let s := (site .active 1).setLeaf 1 { (default : PLeaf) with st := .coast, miss := m }
       leafTracked s 1 = true ∧ (s.leaf 1).st = .coast ∧ decide ((s.leaf 1).miss = s.regF Reg.PDS_CONF 9 8) = (m == 2)) := by decide +kernel

theorem test_meets_EdgeAndLeafCommands : (Instr.ecmdEnable 7 255, ecmdWord 1 255 0) ∈ [(Instr.ecmdEnable 7 255, ecmdWord 1 255 0), (.ecmdOpen 7, ecmdWord 2 0 0)]
    ∧ (sAt .active 1).sys.phase = 1 ∧ (sAt .active 4).sys.phase ≠ 1 ∧ (sAt .active 1).dsu.lcmds.length < 16
    ∧ 16 ≤ ({ State.reset.dsu with lcmds := List.replicate 16 1 } : Dsu).lcmds.length
    ∧ bitAt ((withRegs State.reset [(Reg.DSU_CONF_LOCK, 1)]).reg Reg.DSU_CONF_LOCK) 0 = true
    ∧ since 5000 (State.reset.edge 7).corrVcn = 5000 ∧ since State.reset.sys.vcn (State.reset.edge 7).corrVcn < 5000 := by decide +kernel

/-- The edge of the site in LOCAL_SAFE with a restoration of the VC before. -/
def siteRestoring (view : Word) : State :=
  let s := updEdge 0 (fun d => { d with st := .localSafe, restoring := true }) (withRegs (site .active 1) [(Reg.DSU_EVIEW, view)])
  { s with sys := { s.sys with vcn := 1 } }

theorem test_meets_DoorStepAndTimes :
    (let s := sAt .active 1; s.sys.phase = 1 ∧ s.dsu.go = false ∧ (List.range 8).all (fun e => !edgeEquipped s e || evB s e 7) = true)
    ∧ (let s := site .active 1; (List.range 8).all (fun e => !edgeEquipped s e || evB s e 7) = false ∧ s.live = true)
    ∧ (let d : Dsu := { State.reset.dsu with go := true }; d.go = true ∧ d.done = false)
    ∧ (sAt .configCheck 4).sys.phase = 4 ∧ (sAt .configCheck 4).sys.state = .configCheck
    ∧ (let s := { sAt .configCheck 4 with dsu := { State.reset.dsu with loading := true } }; s.dsu.loading = true ∧ countFail s = none)
    ∧ (let s := { sAt .configCheck 4 with dsu := { State.reset.dsu with loading := true, leaf := [(255, { (default : DLeaf) with opened := 1 })] } }
       s.dsu.loading = true ∧ countFail s = some 255)
    ∧ (let s := siteRestoring 0x10; (s.edge 0).st = .localSafe ∧ (s.edge 0).restoring = true ∧ later s.sys.vcn (s.edge 0).restVcn = true
       ∧ (s.edge 0).newCause = false ∧ evTrip s 0 = false ∧ evSA s 0 = true)
    ∧ (evSA (siteRestoring 0) 0 = false ∧ evTrip (siteRestoring 0x30) 0 = true) := by decide +kernel

theorem test_meets_DoorStepAndTimes_stop : ∀ n ∈ [49, 50],
    let s := (updLeaf 1 (fun d => { d with st := .stopping, stopT := n }) (site .active 1)).setReg Reg.DSU_ESSC 0x320000
    (s.dleaf 1).st = .stopping ∧ (s.edge (1 / 32)).st ≠ .localSafe ∧ decide (eF s Reg.DSU_ESSC (1 / 32) 31 16 ≤ (s.dleaf 1).stopT) = (n == 50) := by
  decide +kernel

theorem test_meets_DoorStepAndTimes_close : (let s := updEdge 7 (fun d => { d with closeT := some 199 }) ((site .active 1).setReg (Reg.DSU_ETIM + 28) 0x0A050200)
    (s.edge 7).closeT = some 199 ∧ 199 < 100 * eF s Reg.DSU_ETIM 7 15 8 ∧ 100 * eF s Reg.DSU_ETIM 7 15 8 ≤ 200) := by decide +kernel

/-- The unlocking leaf at its times, with and without LK. -/
theorem test_meets_DoorStepAndTimes_leaf : (∀ n ∈ [99, 100], ∀ m ∈ [499, 500], ∀ r ∈ [8, 0],
    let t := updLeaf 1 (fun d => { d with st := .unlocking, timer := n, openT := m }) ((site .active 1).setReg Reg.DSU_ETIM 0x0A050200)
    let s := { t with dsu := { t.dsu with unit := [(0, { (default : DUnit) with rep := word r })] } }
    (s.dleaf 1).st = .unlocking ∧ flagLK s 1 = (r == 8) ∧ flagLF s 1 = false ∧ flagIS s 1 = false ∧ (∀ x ∈ unitLeaves s (1 / 2), (s.leaf x).vel = 0)
      ∧ decide (10 * eF s Reg.DSU_ETIM (1 / 32) 31 24 ≤ (s.dleaf 1).timer) = (n == 100)
      ∧ decide (100 * eF s Reg.DSU_ETIM (1 / 32) 23 16 ≤ (s.dleaf 1).openT) = (m == 500)) := by decide +kernel

/-- Door bus channel 7 in a state. -/
def bus7 (d : Dbc) : State := (site .active 4).setBus 7 d

theorem test_meets_DoorBusSends :
    (let s := bus7 { (default : Dbc) with st := .backup, txRef := .pending }; (s.bus 7).txRef = .pending ∧ (s.bus 7).err ≠ 2 ∧ (s.bus 7).fly = none)
    ∧ (let s := bus7 { (default : Dbc) with st := .master, txOrd := .pending, txCmd := .pending }
       (s.bus 7).st = .master ∧ (s.bus 7).err ≠ 2 ∧ (s.bus 7).txOrd = .pending ∧ (s.bus 7).txCmd = .pending ∧ (s.bus 7).sending.hasSeal = false)
    ∧ (let s := bus7 { (default : Dbc) with st := .safeTx, txCmd := .pending }; (s.bus 7).st = .safeTx ∧ (s.bus 7).txCmd = .pending)
    ∧ (let s := bus7 { (default : Dbc) with st := .master, fly := some .order, txOrd := .pending }; (s.bus 7).fly = some .order ∧ (s.bus 7).txOrd = .pending)
    ∧ (let s := bus7 { (default : Dbc) with st := .master, fly := some .command, txCmd := .pending }; (s.bus 7).fly = some .command ∧ (s.bus 7).txCmd = .pending)
    ∧ (let s := bus7 { (default : Dbc) with st := .master, fly := some .reference }; (s.bus 7).fly = some .reference) := by decide +kernel

/-- A report of unit 0 of bus 7 with identity 0x1234, sealed for alive counter 0. -/
def report7 : List Byte := (safeFrame 7 0x100 0 [0, 0, 0, 0, 0, 0, 0, 0, 3, 0, 0x34, 0x12]).bytes

theorem test_meets_DoorBusReceives :
    (let bs := (safeFrame 7 0x10 0 [0, 0, 0, 0, 0, 0, 0, 0]).bytes; bs.length = 12 ∧ scrcOk 7 0x10 bs = true ∧ aliveOk (bus7 default).sys.vcn bs = true)
    ∧ (let bs := (safeFrame 7 0x11 0 [0, 0, 0, 0, 0, 0, 0, 0]).bytes; scrcOk 7 0x11 bs = true)
    ∧ (let s := bus7 { (default : Dbc) with st := .listen }; (s.bus 7).err ≠ 2 ∧ (s.bus 7).st = .listen ∧ (s.bus 7).hears = true ∧ s.live = true
       ∧ uwDecl (uwin s 7 0) = false)
    ∧ (let s := (bus7 { (default : Dbc) with st := .master }).setReg (busReg Reg.DBC_UWIN 7) 0x81CC1234
       (s.bus 7).hears = true ∧ uwDecl (uwin s 7 0) = true ∧ ofLe ((report7.drop 10).take 2) = uwIdent (uwin s 7 0) ∧ inWindow s 7 0 470 = true
         ∧ inWindow s 7 0 458 = true ∧ inWindow s 7 0 457 = false ∧ inWindow s 7 0 471 = false ∧ sofVcn s 7 0 470 = 0
         ∧ (reportOf s (sofVcn s 7 0 470) 7 0 report7).codeOk = true)
    ∧ ((bus7 default).bus 7).hears = false := by decide +kernel

theorem test_meets_DoorBusControls :
    (let s := bus7 { (default : Dbc) with st := .master, txOrd := .pending }; (s.bus 7).err = 0 ∧ (s.bus 7).err ≠ 2 ∧ (s.bus 7).fly = none
       ∧ (s.bus 7).txOrd = .pending ∧ sleepOk s 7 = true ∧ (s.bus 7).st = .master
       ∧ (s.bus 7).mayWake = true)
    ∧ ((bus7 { (default : Dbc) with st := .silent }).bus 7).mayWake = false
    ∧ (∀ n ∈ [1, 3], let s := bus7 { (default : Dbc) with st := .sleep, wakes := n }; (s.bus 7).mayWake = true ∧ 0 < (s.bus 7).wakes ∧ busEquipped s 7 = false)
    ∧ busEquipped ((bus7 default).setReg (busReg Reg.DBC_UWIN 7) 0x81CC1234) 7 = true
    ∧ (let s := (bus7 { (default : Dbc) with st := .master }).setReg (busReg Reg.DBC_UWIN 7) 0x81CC1234; sleepOk s 7 = false)
    ∧ (let s := bus7 { (default : Dbc) with st := .backup, err := 2, sleepNext := true, wakes := 1 }
       (s.bus 7).err = 2 ∧ (s.bus 7).sleepNext = true ∧ (s.bus 7).st = .backup ∧ 0 < (s.bus 7).wakes)
    ∧ (let s := bus7 { (default : Dbc) with st := .sleep }; (s.bus 7).st = .sleep ∧ s.regF (busReg Reg.DBC_CONF 7) 29 28 = 0 ∧ s.sys.state = .active)
    ∧ 5 < 6 ∧ bitAt 1#32 0 = true := by decide +kernel

/-- A site with connection 0 declared from address 1, port 2, on both networks. -/
def siteNet : State := withRegs (site .active 1) [(Reg.SNI_CONF, 0x78DC0120), (Reg.SNI_CIPA, 1), (Reg.SNI_CIPB, 1), (Reg.SNI_CPORT, 2), (Reg.SNI_CCONF, 0x80000000),
  (Reg.SNI_IPA, 9)]

theorem test_meets_SafetyNetworks :
    (let s := siteNet; sourceCon s false 7 2 = none ∧ sourceCon s false 1 2 = some 0 ∧ 9 = s.reg Reg.SNI_IPA ∧ 0x78DC = s.regF Reg.SNI_CONF 31 16
       ∧ s.sni.stageA.length < 128 ∧ s.sys.phase = 1)
    ∧ (∀ n ∈ [13, 14], let t := (site .active 1).setCon 135 { (default : Conn) with owed := true, base := some 3, heard := some 0, resyncT := 14 }
       let s := { t with sys := { t.sys with vcn := word n } }
       (s.con 135).owed = true ∧ (s.con 135).base.isSome = true ∧ abWin s < since s.sys.vcn (s.con 135).baseVcn
         ∧ decide ((s.con 135).resyncT ≤ since s.sys.vcn 0) = (n == 14))
    ∧ (let s := site .active 1; since s.sys.vcn (s.con 135).baseVcn ≤ abWin s)
    ∧ (let s := (site .active 1).setCon 135 { (default : Conn) with contentVcn := some 0 }; contentAge s (s.con 135) = some 0 ∧ (s.con 135).rxTmax ≤ 0)
    ∧ (let s := { site .active 1 with sni := { State.reset.sni with
         netA := { State.reset.sni.netA with on := true, down := 10, quiet := 101 }, netB := { State.reset.sni.netB with lost := true, good := 1000, quiet := 101 } } }
       s.sni.netA.on = true ∧ s.sni.netA.lost = false ∧ netFails (s.regF Reg.SNI_NETT 15 0) s.sni.netA s.sni.netB = true ∧ s.sni.netB.lost = true
         ∧ 1000 ≤ s.sni.netB.good ∧ s.live = true ∧ s.sni.silentNoted = false ∧ s.regF Reg.SNI_NETT 15 0 < silence s)
    ∧ (let s := site .active 1; netFails (s.regF Reg.SNI_NETT 15 0) s.sni.netA s.sni.netB = false ∧ s.sni.netB.good < 1000 ∧ s.sys.cp.reset = false)
    ∧ 63 < 64 ∧ (List.replicate 320 (0 : Byte)).length ≤ 320 ∧ 135 < 136 ∧ (site .active 4).sys.phase ≠ 1 := by decide +kernel

/-- The bytes of a reply of tag 0 in CMD_RBUF. -/
def siteReply (bs : List Byte) : State :=
  let s := site .active 1
  { s with cmd := { s.cmd with rbuf := Tbl.setList [] 0 bs } }

theorem test_meets_CommandFrontEnd : (site .active 4).sys.phase ≠ 1 ∧ (site .join 1).sys.state ≠ .active ∧ bitAt 1#32 0 = true
    ∧ (let t := site .active 1
       let s := { t with cmd := { t.cmd with queue := [pkt 1 0 []], handed := 31, tag := [(0, { (default : Tag) with st := .queued })] } }
       s.cmd.queue = pkt 1 0 [] :: [] ∧ (s.tag (pkt 1 0 []).tag).st = .queued ∧ s.cmd.handed < 32 ∧ s.sys.state = .active ∧ popsNow s = true)
    ∧ popsNow (site .active 4) = false
    ∧ replyHeaderOk (Tbl.getList (siteReply [1, 1, 3, 0, 0, 0, 4]).cmd.rbuf 0 256) = true
    ∧ replyHeaderOk (Tbl.getList (siteReply [1, 1, 2, 0, 0, 0, 4]).cmd.rbuf 0 256) = false
    ∧ (sAt .configCheck 4).sys.phase = 4 ∧ (sAt .join 4).sys.state = .join
    ∧ (let t := site .join 4
       let s := { t with cmd := { t.cmd with loading := true } }; s.cmd.loading = true ∧ creditsOk (recountCredits s) = true)
    ∧ creditsOk (site .active 5) = true
    ∧ (let t := site .active 5
       let s := { t with cmd := { t.cmd with nHeld := 3 } }; creditsOk s = false ∧ s.live = true) := by decide +kernel

theorem test_meets_FieldInputs : 63 < 64 ∧ 95 < 96 ∧ (let s := withRegs (site .active 1) [(Reg.FIO_ICONF + 4 * 95, 0x80000000)]; inDeclared 95 s = true)
    ∧ 7 < 8 ∧ (let s := site .active 1; inDeclared 95 s = false ∧ bitAt s.fio.undeclared 95 = false ∧ Tbl.get s.fio.feed 5 = 0)
    ∧ (let t := site .active 1
       let s := { t with fio := { t.fio with filtA := 1, differ := [(0, 20)] } }
       discT s ≤ Tbl.get s.fio.differ 0 ∧ inDiffers 0 s = true ∧ bitAt s.fio.disc 0 = false) := by decide +kernel

/-- Output 47 alone in its group, commanded on. -/
def siteOut (conf : Word) (on : Bool) : State :=
  let s := withRegs (site .active 3) [(Reg.FIO_OCONF + 4 * 47, conf)]
  { s with fio := { s.fio with on := setBit 0 47 on, grp := setBit 0 11 true }, mnt := { s.mnt with ga := setBit 0 11 true } }

theorem test_meets_FieldOutputs :
    (let s := site .active 3; s.sys.state = .active ∧ s.sys.phase = 3 ∧ s.fio.commits = 0
       ∧ commitCode s.sys.vcn 1 2 = commitCode s.sys.vcn 1 (2 &&& 0x0FFFFFFF#32) ∧ 0 ≠ commitCode s.sys.vcn 1 (2 &&& 0x0FFFFFFF#32))
    ∧ 0 < ({ State.reset.fio with commits := 1 } : Fio).commits ∧ (site .join 3).sys.state ≠ .active
    ∧ (let f : Fio := { State.reset.fio with idle := 3 }; 3 ≤ f.idle ∧ f.silent = false)
    ∧ (let s := siteOut 0x10000000 true; field (oFlt (parLow 47 s) s) 27 24 = 0 ∧ expected 47 s = true ∧ parLow 47 s < 48)
    ∧ (let s := siteOut 0x10000000 false; oDeclared 47 s = true ∧ expected 47 s = false)
    ∧ (let t := siteOut 0x10000000 true
       let s := { t with fio := { t.fio with pulse := setBit 0 47 true } }; bitAt s.fio.pulse 47 = true) ∧ oDeclared 47 (site .active 3) = false
    ∧ (let s := withRegs (siteOut 0x10000000 true) [(Reg.FIO_OFLT + 4 * 47, 0x01000000)]; field (oFlt (parLow 47 s) s) 27 24 = 1)
    ∧ field 0x6A0C0800 31 16 = 0x6A0C ∧ field 0x6A0D0800 31 16 ≠ 0x6A0C ∧ bitAt 0x6A0C0800#32 11 = true
    ∧ (let t := site .active 3
       let s := { t with fio := { t.fio with feedOpen := setBit 0 11 true } }
       bitAt s.fio.held 11 = true ∧ bitAt s.fio.faultOpen 11 = false ∧ Tbl.get s.fio.feed (11 / 2) = 0) := by decide +kernel

theorem test_meets_CheckUnits : (State.reset.unitC 7).failed = false ∧ (State.reset.unitC 7).open_ = false
    ∧ ((State.reset.setUnitC 7 { (default : Cvu) with failed := true }).unitC 7).failed = true
    ∧ (let s := cvuOpen 0x98000020; (s.unitC 0).open_ = true ∧ (s.unitC 0).failed = false ∧ field (cvuConf 0 s) 31 30 = 2 ∧ (s.unitC 0).held.length ≤ checkLen 0 s)
    ∧ field (cvuConf 0 (cvuOpen 0x18000020)) 31 30 ≠ 2 ∧ field 0x41#32 6 0 > 64 ∧ field 0x40#32 6 0 ≤ 64 ∧ field 0x40#32 6 0 ≠ 0 ∧ field 0xC0000020#32 31 30 = 3 := by
  decide +kernel

theorem test_meets_Mailboxes : 7 < 8 ∧ 8 ≤ 8 ∧ 15 < 16 ∧ (∀ c ∈ [0, 7, 8, 15], mbSender c ≠ mbReceiver c) ∧ mbLimit 11 = 16 ∧ mbLimit 15 = 64
    ∧ (sAt .active 1).sys.cp.reset = false ∧ (sAt .active 1).sys.sp.reset = false ∧ mbReaches 0 15 = true ∧ mbReaches 2 0 = false
    ∧ (let s := (sAt .active 1).setChan 15 { (default : Mbx) with full := true, st := .posted, len := 64 }; (s.chan 15).full = true)
    ∧ (let s := (sAt .active 1).setChan 12 { (default : Mbx) with st := .taken }; (s.chan 12).st = .taken) ∧ (State.reset.chan 7).full = false
    ∧ (State.reset.chan 12).st ≠ .taken ∧ agentRuns 1 State.reset = false ∧ agentRuns 2 State.reset = false := by decide

theorem test_meets_ObservationBlock : field 71 6 0 ≤ 71 ∧ 71 < field 72 6 0 ∧ 1 ≤ field 15 3 0 ∧ field 16 3 0 = 0 ∧ 4 ≤ field 0x401 12 8
    ∧ field 0x1401 12 8 ≤ 20 ∧ field 0x301 12 8 < 4 ∧ 20 < field 0x1501 12 8 ∧ State.reset.regB Reg.OBS_TAGCTL 0 = false
    ∧ (let s := withRegs State.reset [(Reg.OBS_TAGCTL, 0xA01)]; s.regB Reg.OBS_TAGCTL 0 = true)
    ∧ (let o : Obs := { State.reset.obs with tagValid := true }; o.tagValid = true ∧ o.tagRead = false) ∧ 47 < 48 ∧ 55 < 56
    ∧ obsOwn 46 = false ∧ obsOwn 47 = true ∧ obsClassT 46 = true ∧ (obsOwn 2 = false ∧ obsClassT 2 = false)
    ∧ (let s := withRegs State.reset [(Reg.OBS_PSEL, 0x8000002E), (Reg.OBS_PSEL + 28, 0x8000002F)]
       bitAt (psel s (48 - 48)) 31 = true ∧ obsOwn (field (psel s (48 - 48)) 6 0) = false ∧ obsOwn (field (psel s (55 - 48)) 6 0) = true
         ∧ bitAt (psel s (54 - 48)) 31 = false) := by decide +kernel

/-- The recorder after its scan, with a newest record. -/
def siteRec (n : Option LowRec) : State :=
  let s := sAt .active 4
  { s with evr := { s.evr with scanDone := true, newest := n, cyc := 1 } }

/-- The newest record of the tests: open, in the last slot, code 0x0901 of the intake. -/
def rec0 : LowRec := { rseq := 7, slot := 98303, code := 0x0901, src := 3, arg := 0xF0000000, ms := 0, rep := 998, open_ := true }

theorem test_meets_LowLevelRecords :
    (let s := siteRec (some rec0); s.evr.scanDone = true ∧ s.evr.newest = some rec0 ∧ rec0.rep + 1 < 0xFFFF ∧ s.evr.ms - rec0.ms < s.regF Reg.EVR_CONF 31 16
       ∧ Tbl.get s.evr.drops 3 = 0 ∧ rec0.slot < 98304 ∧ repeats ⟨3, 0x0902, 0⟩ s = false ∧ repeats ⟨1, 0x0201, 0⟩ s = false ∧ s.evr.lostCnt = 0
       ∧ s.evr.fill + 56 ≤ 262144 ∧ s.evr.slot < 98304 ∧ s.evr.rtThisVc < 64 ∧ Tbl.get s.evr.drops 0 = 0
       ∧ repeats ⟨0, s.regF Reg.EVR_LOGA 15 0, s.reg Reg.EVR_LOGB⟩ s = false)
    ∧ (4 = 4 ∧ ¬ 4 ≠ 4 ∧ 1 ≠ 4)
    ∧ (let s := sAt .active 4; s.evr.scanDone = false ∧ (s.evr.held.filter fun h => h.src == 1).length < holdPlaces 1 ∧ s.evr.newest = none)
    ∧ (let s := { sAt .active 4 with evr := { State.reset.evr with held := List.replicate 8 ⟨1, 0x0201, 0⟩ } }
       holdPlaces 1 ≤ (s.evr.held.filter fun h => h.src == 1).length)
    ∧ (let t := siteRec (some rec0)
       let s := { t with evr := { t.evr with rtThisVc := 64, ms := 1000, satNoted := true } }
       64 ≤ s.evr.rtThisVc ∧ s.regF Reg.EVR_CONF 31 16 ≤ s.evr.ms - rec0.ms ∧ s.evr.cyc ≠ 0 ∧ s.evr.satNoted = true
         ∧ min (2 ^ 42 - 1) (max s.evr.ms 5000) = s.evr.ckMs + 5000 ∧ min (2 ^ 42 - 1) (max 0 999) < s.evr.ckMs + 1000) := by decide +kernel

theorem test_meets_LowLevelRecords_scan : (let s := { sAt .active 4 with evr := { State.reset.evr with cyc := 1 } }; s.evr.cyc ≠ 0 ∧ s.evr.scanDone = false) := by
  decide

/-- A staged record. -/
def nrec : NandRec := ⟨3, List.replicate 24 0⟩

theorem test_meets_NandAndJournal : (sAt .active 3).sys.phase ≠ 4 ∧ field 0x02000018 31 24 = 2 ∧ field 0x08000800 31 24 = 8 ∧ field 0x08000800 11 0 = 2048
    ∧ field 0x02000018 11 0 = 24 ∧ field 0x09000018 31 24 = 9 ∧ field 0x02000016 11 0 = 22 ∧ (sAt .active 4).evr.lostCnt = 0
    ∧ (sAt .active 4).evr.fill + 2048 ≤ 262144
    ∧ (let e : Evr := { State.reset.evr with staged := [nrec], ms := 100 }; pageDue e = true ∧ pageTake 4080 (e.staged.drop e.programmed) ≠ [])
    ∧ pageDue { State.reset.evr with staged := [nrec], ms := 99 } = false
    ∧ later 5 (3 + 1) = true ∧ later 4 (3 + 1 : Word) = false
    ∧ (let s := { siteNet with evr := { State.reset.evr with ms := 60000 } }
       s.evr.corrMs + 1000 * s.regF Reg.EVR_CONF 15 8 ≤ s.evr.ms ∧ ∀ c ∈ connections s, (conHost s c && (s.con c).fresh) = false)
    ∧ siteNet.evr.ms < siteNet.evr.corrMs + 1000 * siteNet.regF Reg.EVR_CONF 15 8
    ∧ (let t := (siteNet.setReg Reg.SNI_CCONF 0xC0000000).setCon 0 { (default : Conn) with fresh := true }
       let s := { t with evr := { t.evr with ms := 60000 } }
       s.evr.corrMs + 1000 * s.regF Reg.EVR_CONF 15 8 ≤ s.evr.ms ∧ ((connections s).filter fun c => conHost s c && (s.con c).fresh) = [0])
    ∧ jnlOpen (sAt .boot 4) = false ∧ jnlOpen (sAt .active 4) = true ∧ (sAt .active 4).live = true ∧ 4079 < 4080 ∧ 1 < 2 := by decide +kernel

/-- A staging ring in which 2,048 bytes do not fit any more. -/
theorem test_meets_NandAndJournal_full (bs : List Byte) (h : bs.length = 262120) :
    262144 < ({ State.reset.evr with staged := [⟨0, bs⟩] } : Evr).fill + 2048 := by
  show 262144 < 0 + bs.length + 2048
  omega

/-- Member 0 of slot 0, paired. -/
def sitePair (m : ModState) (p : Nat) (regs : List (Nat × Word)) : State :=
  { withRegs (site m p) ((Reg.PCL_CONF, 0x80081832) :: regs) with
    conf := { State.reset.conf with modules := [⟨0, 0, true, 0, 0⟩, ⟨0, 1, true, 0, 0⟩, ⟨1, 0, false, 0, 0⟩] } }

/-- The peer's frame of a kind in this VC, with its CRC under the PAIR_ID of the site. -/
def frame0 (kind member : Nat) : PairFrame :=
  let f : PairFrame := { (default : PairFrame) with kind := kind, member := member }
  { f with crc := linkCrc (sitePair .banked 4 []) f }

theorem test_meets_PairFrames : bitAt 0#32 0 = false ∧ bitAt 1#32 0 = true ∧ (sAt .active 3).sys.phase ≠ 4 ∧ (sAt .active 4).pcl.sent = false
    ∧ (sAt .banked 4).sys.state = .banked ∧ (sAt .safe 4).sys.state = .safe ∧ (sAt .banked 4).rt.bg = [] ∧ (sAt .active 4).rt.bg = []
    ∧ ({ State.reset.pcl with sent := true } : Pcl).sent = true
    ∧ (let s := sitePair .banked 4 []; let m := frame0 1 1
       s.sys.phase = 4 ∧ mirrorOk s m = true ∧ s.pcl.trigger = none ∧ (∀ c ∈ m.body.journal, c.1 < 4080) ∧ countFail { s with dsu := m.body.dsu } = none
         ∧ (s.pcl.run = 0 ∧ s.pcl.gap = 0) ∧ s.pcl.takenNow = false)
    ∧ (let s := sitePair .banked 4 []; let f : PairFrame := { frame0 1 1 with body := { (default : MirrorBody) with dsu := { State.reset.dsu with
         leaf := [(255, { (default : DLeaf) with opened := 1 })] } } }
       let m := { f with crc := linkCrc s f }
       mirrorOk s m = true ∧ countFail { s with dsu := m.body.dsu } ≠ none)
    ∧ (let s := sitePair .join 4 []; mirrorOk s { frame0 1 1 with vcn := 1 } = false ∧ { frame0 1 1 with vcn := 1 }.crc ≠ linkCrc s { frame0 1 1 with vcn := 1 }
       ∧ (frame0 2 1).kind ≠ 1 ∧ linkOk s 1 (frame0 1 0) = true ∧ (frame0 1 0).slot = s.ownSlot ∧ (frame0 1 0).member = ownMember s
       ∧ s.pcl.mismatchNoted = false)
    ∧ (let s := sitePair .active 1 []
       linkOk s 1 (frame0 1 1) = true ∧ fromPeer s 0 1 = true ∧ s.sys.state = .active ∧ (frame0 1 1).safe = false ∧ inHandover s = false
         ∧ linkOk s 2 (frame0 2 1) = true ∧ fromPeer s 1 0 = false ∧ s.sys.state ≠ .banked ∧ s.sys.state ≠ .join)
    ∧ (let s := sitePair .banked 1 []; linkOk s 3 (frame0 3 1) = true ∧ fromPeer s 0 1 = true ∧ s.pcl.bulk = false) := by decide +kernel

theorem test_meets_RolesAndCascade :
    (let s := sitePair .active 1 [(Reg.PCL_STAT, 0x08F00000)]; s.sys.state = .active ∧ isPaired s = true ∧ s.reg Reg.PCL_SWAP_VCN = 0 ∧ peerBanked s = true
       ∧ s.sys.mode = .t3 ∧ s.pcl.trigger = none ∧ field 0x3C5A0001 31 16 = 0x3C5A ∧ bitAt 0x3C5A0001#32 0 = true ∧ field 0x3C5B0001 31 16 ≠ 0x3C5A)
    ∧ peerBanked (sitePair .active 1 []) = false
    ∧ (let s := { sitePair .active 1 [] with evr := { State.reset.evr with ms := 100000000 } }; s.regF Reg.PCL_CONF 15 8 * 3600000 ≤ s.evr.ms - s.pcl.roleMs)
    ∧ (let t := sitePair .active 1 []
       let s := { t with pcl := { t.pcl with swapWanted := true }, sys := { t.sys with vcn := 1000 } }
       s.pcl.swapWanted = true ∧ 1000 ≤ since s.sys.vcn s.pcl.swapTried)
    ∧ (let t := sitePair .active 2 [(Reg.PCL_SWAP_VCN, 33)]
       let s := { t with pcl := { t.pcl with handing := true }, sys := { t.sys with vcn := 33 } }
       inHandover s = true ∧ s.sys.state = .active ∧ s.pcl.handing = true ∧ s.pcl.confirmed = false)
    ∧ (let t := sitePair .banked 2 [(Reg.PCL_SWAP_VCN, 33)]
       let s := { t with pcl := { t.pcl with ackVcn := 32, ready := true, respVcn := some 32, run := 16 }, sys := { t.sys with vcn := 33 } }
       inHandover s = true ∧ s.sys.state = .banked ∧ s.pcl.ackVcn = s.sys.vcn - 1 ∧ s.pcl.ready = true ∧ s.pcl.respVcn = some (s.sys.vcn - 1)
         ∧ 16 ≤ s.pcl.run ∧ s.pcl.gap = 0)
    ∧ ((sitePair .banked 2 []).pcl.respVcn ≠ some ((sitePair .banked 2 []).sys.vcn - 1))
    ∧ (let t := sitePair .active 2 [(Reg.PCL_SWAP_VCN, 33)]
       let s := { t with pcl := { t.pcl with handing := true, confirmed := true }, sys := { t.sys with vcn := 33 } }
       inHandover s = true ∧ s.pcl.confirmed = true)
    ∧ (let t := sitePair .banked 2 []
       let s := { t with pcl := { t.pcl with linkAge := 2, oxfenAge := 2, run := 16, readyHeld := true, respVcn := some 0 } }
       s.pcl.trigger = none ∧ 2 ≤ s.pcl.linkAge ∧ 2 ≤ s.pcl.oxfenAge ∧ eligible s = true)
    ∧ (let t := sitePair .banked 2 []
       let s := { t with pcl := { t.pcl with peerBad := true } }; s.pcl.peerBad = true ∧ eligible s = false ∧ s.pcl.trigger = none)
    ∧ (let t := sitePair .banked 2 []
       let s := { t with pcl := { t.pcl with trigger := some 0 }, sys := { t.sys with vcn := 3 } }
       s.sys.state = .banked ∧ s.pcl.trigger = some 0 ∧ since s.sys.vcn 0 = 3) := by decide +kernel

theorem test_meets_RolesAndCascade_frames :
    (let t := sitePair .join 1 []
     let s := { t with pcl := { t.pcl with joinRun := 100000 } }
     s.sys.state = .join ∧ joinOver s = true ∧ peerState s ≠ 6 ∧ peerState s ≠ 4 ∧ s.pcl.mismatch = 0)
    ∧ (let s := sitePair .banked 1 []; followsPeer s = true ∧ followsPeer (sitePair .active 1 []) = false)
    ∧ (sitePair .active 4 []).sys.phase = 4 ∧ (sitePair .active 4 []).pcl.ctxSent = false ∧ lendSends (sitePair .active 4 []) = true ∧ lendSends (sitePair .banked 4 []) = false ∧ (sitePair .active 3 []).sys.phase ≠ 4
    ∧ (let s := sitePair .active 1 []
       let g : CascFrame := { (default : CascFrame) with slot := 1, msgs := [lendMsg 0] }
       let f : CascFrame := { g with crc := cascCrc s g }
       cascIndex s f.slot f.member = some 2 ∧ s.sys.state ≠ .join ∧ cascOk s f = true ∧ fromPeer s f.slot f.member = false
         ∧ cascOk s { f with vcn := 1 } = false ∧ cascIndex s 7 0 = none)
    ∧ (sitePair .join 1 []).sys.state = .join ∧ mismatched (sitePair .join 1 []) 1 0 0 = false
    ∧ ({ State.reset.pcl with ctxSent := true } : Pcl).ctxSent = true := by decide +kernel

/-- MAINT with the update lock held by session 1, authenticated. -/
def siteSui (u : Sui → Sui) : State :=
  let s := sAt .maint 4
  { s with sui := u { s.sui with lock := some 1, sessions := [(1, { (default : Sorlia) with open_ := true, authed := true, challenge := some (List.replicate 32 0) })] } }

/-- A head of session 1. -/
def head1 : SorliaHead := ⟨1, 0x10, 7⟩

theorem test_meets_ServiceSessions :
    (let s := siteSui id; sorliaServed s = true ∧ s.sui.recovery = false ∧ sessionOk s 1 = true ∧ s.sys.state = .maint
       ∧ s.sui.lock = some 1 ∧ s.sui.busy = 0 ∧ s.sui.failed = false ∧ s.sui.ckProg = 0 ∧ sessionOk s 2 = false
       ∧ (s.sui.session 2).challenge.any (fun c => authOk s c 0 ⟨[], []⟩) = false ∧ s.evr.ms < (s.sui.session 1).last + 600000)
    ∧ (siteSui fun u => { u with lock := none }).sui.lock = none ∧ (siteSui fun u => { u with busy := 1 }).sui.busy ≠ 0
    ∧ (siteSui fun u => { u with failed := true }).sui.failed = true ∧ (siteSui fun u => { u with recovery := true }).sui.recovery = true
    ∧ (let s := { siteSui id with sys := (sAt .active 4).sys }; sorliaServed s = true ∧ sessionOk s 1 = true ∧ s.sys.state ≠ .maint)
    ∧ sorliaServed State.reset = false
    ∧ (let s := siteSui fun u => { u with lock := some 2 }; sorliaServed s = true ∧ s.sui.lock = some 2 ∧ 2 ≠ head1.session)
    ∧ (let t := siteSui fun u => { u with ckProg := 9 }
       let s := { t with mnt := { t.mnt with ckProg := 9 } }
       ckLive s 0 = true ∧ ckLive s 3 = true ∧ s.sui.ckProg ≠ 0)
    ∧ (let s := { siteSui id with evr := { State.reset.evr with ms := 600000 } }; (s.sui.session 1).last + 600000 ≤ s.evr.ms) := by decide +kernel

theorem image_crc : crc32c (image4.take 76) = wordAt image4 76 := by
  have a : crc32c (image4.take 38) = 0x10c79873#32 := by decide +kernel
  have h : image4.take 76 = image4.take 38 ++ (image4.drop 38).take 38 := by decide +kernel
  rw [h, crc32c_append, a]
  decide +kernel

theorem image_recs : imageRecs image4 = cfgRecs 1 ((image4.drop 20).take 56) := by
  have n : image4.length = 80 := by decide +kernel
  have k : (wordAt image4 16).toNat = 1 := by decide +kernel
  have h : wordAt image4 0 = 0x43464731#32 ∧ halfAt image4 4 = 1 ∧ halfAt image4 6 = 0 ∧ (wordAt image4 8).toNat = 80 := by decide +kernel
  simp only [imageRecs, n, k, h.1, h.2.1, h.2.2.1, h.2.2.2, image_crc, and_self, if_true, show 80 - 4 = 76 from rfl, show 80 - 24 = 56 from rfl,
    show 24 ≤ 80 from by decide]

/-- The maintainer of image4 proves the key. -/
theorem image_maintainers (s : State) (h : s.conf.image = image4) : maintainers s = [sha384 keyX] := by
  simp only [maintainers, cfgWords, cfg, h, image_recs]
  decide +kernel

def authState : State := { siteSui id with conf := { State.reset.conf with image := image4 } }

theorem test_meets_ServiceSessions_auth : (authState.sui.session 1).challenge = some (List.replicate 32 0)
    ∧ authOk authState (List.replicate 32 0) 0 ⟨keyX, authSig⟩ = true := by
  refine ⟨rfl, ?_⟩
  have n : authState.sui.serial = List.replicate 16 0 := rfl
  have v : ecdsaVerify keyX (sha384 (List.replicate 32 0 ++ List.replicate 16 0)) authSig = true := by decide +kernel
  simp only [authOk, image_maintainers authState rfl, n, v, List.getElem?_cons_zero, beq_self_eq_true, Bool.and_self]

/-- The keys, and manifest3 staged. -/
def prepSui (u : Sui) : Sui := { u with vk := [(0, sha384 keyX)], ck := [(0, sha384 keyX)], ckProg := 1, staged := some manifest3 }

/-- What a PREPARE of manifest3 asks, with nothing else installed, and its end. -/
theorem test_meets_ImageUpdate_prepare : (let s := siteSui prepSui
    (manifestOf manifest3).any (fun m => sigOk m && keyOk s.sui m && fitsBoard s.sui m && compatible (s.sui.manifests s.sui.running) m && copiesOk s.sui m) = true
    ∧ suiFree 0x5E1F s = true ∧ sorliaServed s = true ∧ s.sys.state = .maint ∧ s.sui.lock = some head1.session ∧ sessionOk s head1.session = true
    ∧ (selNow s.sui).st ≠ 2 ∧ s.sui.staged = some manifest3 ∧ ¬ (s.sui.xfer.st = 2 ∧ s.sui.xfer.digest = sha384 manifest3)
    ∧ (siteSui fun u => { prepSui u with busy := 1 }).sui.busy = 1) := by decide +kernel

/-- The same manifest with its signature turned over. -/
theorem test_meets_ImageUpdate_signature : (manifestOf (manifest3.set 415 0)).any (fun m => !sigOk m) = true := by decide +kernel

/-- The transfer of manifest3's one block into slot 0, with slotSui's content already in place. -/
def xferSui : Sui := { slotSui with running := 1, xfer := { (default : Xfer) with st := 2, target := 0, group := 3, total := 1 } }

theorem xfer_manifests : xferSui.manifests 0 = [manifestOf manifest1, manifestOf manifest2, manifestOf manifest3, manifestOf manifest4] := by
  obtain ⟨h0, h1, h2, h3⟩ := slot_manifests
  have e (g : Nat) : xferSui.manifest 0 g = slotSui.manifest 0 g := rfl
  simp only [Sui.manifests, List.map_cons, List.map_nil, e, h0, h1, h2, h3]

/-- The block is taken at the place of the group's part. -/
theorem test_meets_ImageUpdate_block : blockWrite xferSui 0 block3 = some (0x70000, [0x33#8]) ∧ 0x70000 + [0x33#8].length ≤ slotOff (0 + 1) := by
  refine ⟨?_, by decide⟩
  have r (g : Nat) : xferSui.manifest 0 g = slotSui.manifest 0 g := rfl
  have e : xferSui.manifest 0 2 = manifestOf manifest3 := by rw [r, slot_manifests.2.2.1]
  have x : xferSui.xfer.target = 0 ∧ xferSui.xfer.group - 1 = 2 := ⟨rfl, rfl⟩
  simp only [blockWrite, x.1, x.2, e, xfer_manifests]
  decide +kernel

theorem any_sigOk {o : Option Manifest} {u : Sui} {g : Nat} (h : (o.any fun m => m.group == g && manifestOk u m) = true) : o.any sigOk = true := by
  cases o with
  | none => simp at h
  | some m =>
    simp only [Option.any_some, Bool.and_eq_true, manifestOk] at h
    exact h.2.2

/-- VERIFY finds no fault in the target slot 0. -/
theorem test_meets_ImageUpdate_verify : verifyFault xferSui = none := by
  have t : xferSui.xfer.target = 0 := rfl
  have h : hashesOk xferSui 0 = hashesOk slotSui 0 := rfl
  have k : manifestsOk xferSui 0 = manifestsOk slotSui 0 := rfl
  have p : slotPlaces [manifestOf manifest1, manifestOf manifest2, manifestOf manifest3, manifestOf manifest4]
      = [[0x50000], [0x60000], [0x70000], [0x80000, 0x90000, 0xA0000]] := by decide +kernel
  have q := slot_partsAt [[0x50000], [0x60000], [0x70000], [0x80000, 0x90000, 0xA0000]] (by decide +kernel)
  have a : targetHashes xferSui = true := by
    simp only [targetHashes, t, xfer_manifests, p, h, List.all_cons, List.all_nil, Bool.and_true, Bool.and_eq_true]
    have q0 := q 0 manifest1 (by simp)
    have q1 := q 1 manifest2 (by simp)
    have q2 := q 2 manifest3 (by simp)
    have q3 := q 3 manifest4 (by simp)
    simp only [List.getD_cons_zero, List.getD_cons_succ] at q0 q1 q2 q3 ⊢
    exact ⟨q0, q1, q2, q3⟩
  have b : ((xferSui.manifests 0).all fun m => m.any sigOk) = true := by
    simp only [xfer_manifests, List.all_cons, List.all_nil, Bool.and_true, any_sigOk slot_manifest1, any_sigOk slot_manifest2,
      any_sigOk slot_manifest3, any_sigOk slot_manifest4]
  have c : slotCompat (xferSui.manifests 0) = true := by
    rw [xfer_manifests]
    decide +kernel
  have r : xferSui.recovery = false := rfl
  simp only [verifyFault, r, a, t, b, k, slot_manifestsOk, c, Bool.not_true, Bool.false_eq_true, if_false]

theorem test_meets_ImageUpdate_committed : committed xferSui 0 = true := slot_committed.1

/-- The states of a transfer: open at its first block, all blocks taken, verified; and what VERIFY refuses of an empty slot. -/
theorem test_meets_ImageUpdate_transfer : (let at_ (st next target : Nat) : State := siteSui fun u => { u with
      xfer := { (default : Xfer) with st := st, next := next, target := target, group := 3, total := 1 } }
    (let s := at_ 2 0 1
     suiFree 0x5E1F s = true ∧ sorliaServed s = true ∧ s.sys.state = .maint ∧ s.sui.lock = some 1 ∧ sessionOk s 1 = true ∧ s.sui.xfer.st = 2
       ∧ 0 = s.sui.xfer.next ∧ 0 < s.sui.xfer.total ∧ 1 ≠ s.sui.xfer.next ∧ blockWrite s.sui 0 [] = none ∧ s.sui.xfer.st ≠ 3 ∧ s.sui.ckProg = 0)
    ∧ (let s := at_ 3 1 1; s.sui.xfer.next = s.sui.xfer.total ∧ s.sui.xfer.st = 3 ∧ s.sui.writing = none ∧ verifyFault s.sui = some (1, 0x0F07))
    ∧ suiFree 0x5E1E (siteSui id) = false ∧ suiFree 0x5E1F (siteSui fun u => { u with busy := 1 }) = false) := by
  refine ⟨?_, ?_, ?_⟩ <;> decide +kernel

/-- The running slot 0 on trial: in copy A of the selector. -/
def siteTrial (a : Option Nat) : State := let s := sAt .active 4
  { s with sui := programSel { (default : Sel) with st := 2, activeMs := a } s.sui, evr := { s.evr with ms := 86400001 } }

theorem test_meets_ImageUpdate_trial :
    (let s := siteTrial none; suiFree 0x5E1F s = true ∧ onTrial s.sui = true ∧ s.sui.writing = none ∧ s.sys.state = .active ∧ revertWhy s = some 3
       ∧ s.sui.confirmTags = [] ∧ s.sys.phase = 4)
    ∧ revertWhy (siteTrial (some 1)) = none ∧ revertWhy (siteTrial (some 0)) = some 2 ∧ onTrial (sAt .active 4).sui = false
    ∧ ({ State.reset.sui with confirmTags := [3] } : Sui).confirmTags ≠ [] ∧ (sAt .active 3).sys.phase ≠ 4 := by decide +kernel

theorem test_meets_ImageUpdate :
    (∀ k ∈ [4, 5, 6], let s := siteSui fun u => { u with busy := k, writing := some { (default : Sel) with st := 2 } }
      s.sui.writing = some { (default : Sel) with st := 2 } ∧ s.sui.busy = k ∧ s.sui.confirmTags = [])
    ∧ (∀ b ∈ [0, 510, 511, 512], ∀ l ∈ [0, 1], let t := sAt .active 4
       let s := { t with sui := { t.sui with verifying := some (l, b, true), refreshing := some (l, b) } }
       suiFree 0x5E1F s = true ∧ reverifyOpen s = true ∧ s.sui.verifying = some (l, b, true) ∧ s.sui.lock = none ∧ s.sui.refreshing = some (l, b)
         ∧ 0 = s.sui.running ∧ refWork s.sui = none)
    ∧ manifestsOk State.reset.sui 0 = false
    ∧ (let t := sAt .active 4
       let s := { t with evr := { t.evr with ms := 126230400000 } }
       s.sui.verifyMs + 2592000000 ≤ s.evr.ms ∧ s.sui.verifying = none ∧ reverifyOpen s = true ∧ s.sui.refreshMs + 126230400000 ≤ s.evr.ms
         ∧ s.sui.refreshing = none ∧ s.sui.lock = none)
    ∧ (sAt .active 4).evr.ms < (sAt .active 4).sui.verifyMs + 2592000000 ∧ (sAt .active 4).evr.ms < (sAt .active 4).sui.refreshMs + 126230400000 := by
  decide +kernel

/-- A full slot 0 is committed and its manifests hold, so a re-verification of it that fails marks it. -/
theorem test_meets_ImageUpdate_reverify : slotSui1.running = 1 ∧ committed slotSui1 0 = true ∧ manifestsOk slotSui1 0 = true ∧ slotHashes slotSui1 0 = true :=
  ⟨rfl, slot_committed.1, slot_manifestsOk, slot_hashes⟩
end Sys2Proof.Tests
end

section
/-!
PROOF. Class S events of a live module (R16, R36, R46): each command raises its fault, and a raised class S fault enters SAFE.
-/
namespace Sys2Proof.Machine

/-- `SAFE` entered from a state that has the VCN of another one is entered from that one too. -/
theorem enteredSafe_of_vcn_eq {cause : Word} {s u t : State} (h : enteredSafe cause u t) (hv : u.sys.vcn = s.sys.vcn) :
    enteredSafe cause s t := by
  obtain ⟨hst, hcause, hvcn, hcyc, hres⟩ := h
  exact ⟨hst, hcause, hvcn.trans hv, hcyc, hres⟩

/-- A command that raises a class S fault in a live state, whatever else it wrote before, answers with entry to `SAFE`. -/
theorem answers_enteredSafe_of_raiseS {c : Instr} {s u : State} {cause : Word} {code obj val : Nat}
    (he : exec c s = .next (raiseS code obj val u)) (hl : u.live = true) (hv : u.sys.vcn = s.sys.vcn)
    (hc : word (code % 65536) = cause) : Answers c s (enteredSafe cause s) :=
  ⟨_, he, hc ▸ enteredSafe_of_vcn_eq (raiseS_enteredSafe code obj val u hl) hv⟩

theorem exec_slotCodeChange_of_mismatch {s : State} {code : Nat} (hl : s.live = true)
    (h : slotCodeOk { s with sys := { s.sys with slotCode := code % 32 } } = false) :
    exec (.slotCodeChange code) s = .next (raiseS 0x0105 14 (code % 32) { s with sys := { s.sys with slotCode := code % 32 } }) := by
  have hc : slotConfigured { s with sys := { s.sys with slotCode := code % 32 } } = true := by
    unfold slotConfigured
    rw [show State.live { s with sys := { s.sys with slotCode := code % 32 } } = true from hl, Bool.true_or]
  change Host.Outcome.next (slotChange code s) = _
  unfold slotChange
  simp only [hc, h, Bool.not_false, Bool.and_self, if_true]

theorem exec_sysSafeReq_of_key {s : State} {w : Word} (h : field w 15 0 = 0xC0A1) :
    exec (.sysSafeReq w) s = .next (raiseS 0x0106 0 0 s) := by
  change execSysSafeReq w s = _
  unfold execSysSafeReq
  rw [if_pos h]

theorem exec_iteOvertime_of_busy {s : State} (h : s.ite.busy = true) : exec .iteOvertime s = .next (raiseS 0x0409 0 0 s) := by
  change execIteOvertime s = _
  unfold execIteOvertime
  rw [if_pos h]

theorem exec_dsuStepTimeout_of_started {s : State} (hg : s.dsu.go = true) (hd : s.dsu.done = false) :
    exec .dsuStepTimeout s = .next (raiseS 0x0713 0 0 s) := by
  change execDsuStepTimeout s = _
  unfold execDsuStepTimeout
  simp only [hg, hd, Bool.not_false, Bool.and_self, if_true]

theorem exec_netsSilentLimit_of_silent {s : State} (hl : s.live = true) (hon : s.sni.netA.on = true ∨ s.sni.netB.on = true)
    (hq : s.regF Reg.SNI_NETT 31 16 < silence s) : exec .netsSilentLimit s = .next (raiseS 0x090B 0 0 s) := by
  change execNetsSilentLimit s = _
  unfold execNetsSilentLimit
  rw [if_pos]
  simp only [hl, Bool.true_and, Bool.and_eq_true, Bool.or_eq_true, decide_eq_true_eq]
  exact ⟨hon, hq⟩

/-- Settles O7: each event raises its class S fault from a state that is live and has the VCN of `s`. -/
theorem classSEventsEnterSafe : Obligations.ClassSEventsEnterSafe := by
  intro s hl
  refine ⟨?lowSupply, ?highSupply, ?refClock, ?vcTimer, ?slotCode, ?safeRequest, ?engine, ?dsuStep, ?networks, ?selfChecks⟩
  case lowSupply => exact answers_enteredSafe_of_raiseS rfl hl rfl rfl
  case highSupply => exact answers_enteredSafe_of_raiseS rfl hl rfl rfl
  case refClock => exact answers_enteredSafe_of_raiseS rfl hl rfl rfl
  case vcTimer => exact answers_enteredSafe_of_raiseS rfl hl rfl rfl
  case slotCode =>
    intro code h
    exact answers_enteredSafe_of_raiseS (exec_slotCodeChange_of_mismatch hl h) hl rfl rfl
  case safeRequest =>
    intro w h
    exact answers_enteredSafe_of_raiseS (exec_sysSafeReq_of_key h) hl rfl rfl
  case engine =>
    intro h
    exact answers_enteredSafe_of_raiseS (exec_iteOvertime_of_busy h) hl rfl rfl
  case dsuStep =>
    intro hg hd
    exact answers_enteredSafe_of_raiseS (exec_dsuStepTimeout_of_started hg hd) hl rfl rfl
  case networks =>
    intro hon hq
    exact answers_enteredSafe_of_raiseS (exec_netsSilentLimit_of_silent hl hon hq) hl rfl rfl
  case selfChecks =>
    intro n
    refine ⟨?_, ?_, ?_, ?_, ?_, ?_, ?_, ?_⟩
    all_goals exact answers_enteredSafe_of_raiseS rfl hl rfl rfl

end Sys2Proof.Machine
end

section
/-!
PROOF. Geographic data RAM (R140): the store, the lock, and the commands that leave every byte.
-/
namespace Sys2Proof.Machine

/-- The commands that may change a byte of geographic data RAM: the resets, the boot, the end of an activation, and the writes of the
triad. -/
def mayWriteGd : Instr → Bool
  | .gdRamWrite .. | .registerWrite .. | .votedTransaction .. | .alignWindowClose .. | .bootComplete .. | .selectorWriteDone
  | .logicSupplyValid | .logicSupplyPowerDown | .resetButtonRelease .. | .resetButtonFault | .resetButtonFaultCleared
  | .sorliaRestartRequest => true
  | _ => false

/-- Every other command leaves geographic data RAM: its own law says so (Laws of geographic data RAM). -/
theorem landing_exec_gd (s u : State) (c : Instr) (hc : mayWriteGd c = false) : (landing (exec c s) u).gd = s.gd := by
  cases c
  case gdRamWrite | registerWrite | votedTransaction | alignWindowClose | bootComplete | selectorWriteDone | logicSupplyValid
    | logicSupplyPowerDown | resetButtonRelease | resetButtonFault | resetButtonFaultCleared | sorliaRestartRequest => cases hc
  all_goals
    dsimp only [exec]
    simp

theorem gd_eq_of_exec {s t : State} {c : Instr} (h : exec c s = .next t) (hc : mayWriteGd c = false) : t.gd = s.gd := by
  have hl := landing_exec_gd s s c hc
  rw [h] at hl
  exact hl

/-- A range just written reads as the values written. -/
theorem getList_setList_same {α : Type} [Inhabited α] [DecidableEq α] (vs : List α) (t : Tbl α) (k : Nat) :
    Tbl.getList (Tbl.setList t k vs) k vs.length = vs := by
  unfold Tbl.getList
  apply List.ext_getElem
  · simp
  · intro i _ hi
    rw [List.getElem_map, List.getElem_range, Tbl.get_setList_in _ _ _ _ hi]

theorem exec_gdRamWrite_of_open {s : State} {addr : Nat} {w : Word} (ha : addr + 4 ≤ 0x200000) (hk : s.regB Reg.ITE_LOCK 0 = false) :
    exec (.gdRamWrite addr w) s =
      .next (storeFold ⟨0x30000000 + addr, w, 0xF#4⟩ { s with gd := Tbl.setList s.gd addr (le4 w) }) := by
  change execGdRamWrite addr w s = _
  unfold execGdRamWrite
  rw [if_neg (by omega), hk, if_neg (by decide)]

theorem exec_gdRamWrite_of_locked {s : State} {addr : Nat} {w : Word} (ha : addr + 4 ≤ 0x200000) (hk : s.regB Reg.ITE_LOCK 0 = true) :
    exec (.gdRamWrite addr w) s = .next (raiseS 0x0408 0 0 s) := by
  change execGdRamWrite addr w s = _
  unfold execGdRamWrite
  rw [if_neg (by omega), hk, if_pos rfl]

theorem exec_iteLock_of_set {s : State} {w : Word} (h : bitAt w 0 = true) :
    exec (.iteLock w) s = .next (s.setRegB Reg.ITE_LOCK 0 true) := by
  change execIteLock w s = _
  unfold execIteLock
  rw [if_pos h]

theorem regB_setRegB_same (s : State) (a i : Nat) (b : Bool) (hi : i < 32) : (s.setRegB a i b).regB a i = b := by
  unfold State.regB State.setRegB
  rw [State.reg_setReg_same, bitAt_setBit_same _ _ _ hi]

/-- Settles O16: what an open and a locked store of geographic data RAM do, and the list of the commands that can change it. -/
theorem geographicDataRam : Obligations.GeographicDataRam := by
  refine ⟨?openStore, ?lockedStore, ?lock, ?frame⟩
  case openStore =>
    intro s addr w ha hk
    refine ⟨_, exec_gdRamWrite_of_open ha hk, ?_, rfl, ?_⟩
    · rw [storeFold_gd]
      exact getList_setList_same (le4 w) s.gd addr
    · intro a h
      rw [storeFold_gd]
      exact Tbl.get_setList_out _ _ _ _ h
  case lockedStore =>
    intro s addr w ha hk hl
    exact ⟨_, exec_gdRamWrite_of_locked ha hk, raiseS_enteredSafe 0x0408 0 0 s hl, raiseS_gd ..⟩
  case lock =>
    intro s w h
    exact ⟨_, exec_iteLock_of_set h, regB_setRegB_same _ _ _ _ (by decide), rfl⟩
  case frame =>
    intro s t c h
    cases c
    case gdRamWrite | registerWrite | votedTransaction | alignWindowClose | bootComplete | selectorWriteDone | logicSupplyValid
      | logicSupplyPowerDown | resetButtonRelease | resetButtonFault | resetButtonFaultCleared | sorliaRestartRequest => trivial
    all_goals exact gd_eq_of_exec h rfl

end Sys2Proof.Machine
end

section
/-!
PROOF. Register accesses by the access codes of R7; OBS counts a voted access of the triad before it is made (R28, R479).
-/
namespace Sys2Proof.Machine

theorem regB_withObs (s : State) (o : Obs) (a i : Nat) : State.regB { s with obs := o } a i = s.regB a i := id rfl
theorem unitC_withObs (s : State) (o : Obs) (n : Nat) : State.unitC { s with obs := o } n = s.unitC n := id rfl

/-- Whether a write is an operation does not turn on what OBS has counted. -/
theorem operationWrite_withObs_isNone (s : State) (o : Obs) (r : RegAt) (w : Word) :
    (operationWrite r w { s with obs := o }).isNone = (operationWrite r w s).isNone := by
  unfold operationWrite
  dsimp only
  split
  all_goals
    simp only [vauWrite, mntWrite, iteWrite, crdRegWrite, pdsWrite, dsuWrite, dbcWrite, sniWrite, fioWrite, cvuWrite, mbxWrite, evrWrite,
      pclWrite, obsWrite, sysWrite, cmdWrite, apply_ite Option.isNone, Option.isNone_some, Option.isNone_none, regB_withObs, unitC_withObs]

/-- Only OBS shows what OBS has counted. -/
theorem viewsAt_withObs (s : State) (o : Obs) (base n : Nat) (h : base ≠ 0x400F0000) :
    viewsAt { s with obs := o } base n = viewsAt s base n := by
  unfold viewsAt
  split
  case h_17 => exact absurd rfl h
  all_goals rfl

theorem regValue_withObs (s : State) (o : Obs) (a : Nat) (r : RegAt) (h : r.block.base ≠ 0x400F0000) :
    regValue { s with obs := o } a r = regValue s a r := by
  unfold regValue
  rw [viewsAt_withObs s o _ _ h]
  rfl

theorem accessNote_obs (r : RegAt) (s : State) : (accessNote r s).obs = s.obs := by
  unfold accessNote blockNote
  split <;> simp [noteBus, cvuNote]

/-- The state in which the triad makes an access: OBS has counted it as event `i` where it is voted (R28, R479). -/
def afterCount (i a : Nat) (s : State) : State := if votedAddr a then obsCount i 1 s else s

theorem afterCount_eq_withObs (i a : Nat) (s : State) : afterCount i a s = { s with obs := (afterCount i a s).obs } := by
  unfold afterCount
  split <;> rfl

theorem blockAt_of_regAt {a : Nat} {r : RegAt} (hr : regAt a = some r) : ∃ a0, blockAt a = some (r.block, r.unit, a0) := by
  unfold regAt at hr
  cases hb : blockAt a with
  | none =>
    rw [hb] at hr
    cases hr
  | some p =>
    obtain ⟨b, u, a0⟩ := p
    rw [hb] at hr
    obtain ⟨row, -, rfl⟩ := Option.map_eq_some_iff.1 hr
    exact ⟨a0, rfl⟩

/-- A register of OBS lies within its region: an access to it is not voted. -/
theorem votedAddr_of_obs {a : Nat} {r : RegAt} (hr : regAt a = some r) (hb : r.block.base = 0x400F0000) : votedAddr a = false := by
  obtain ⟨a0, hblock⟩ := blockAt_of_regAt hr
  unfold votedAddr
  rw [hblock]
  change (!regionBlock r.block.base) = false
  rw [hb]
  decide

/-- A 32-bit write of the triad to a register whose write is no operation goes by the register's access code. -/
theorem exec_registerWrite_of_code {s : State} {a : Nat} {r : RegAt} {w : Word} (hr : regAt a = some r) (hb : r.block.base ≠ 0x40090000)
    (ho : operationWrite r w s = none) :
    ∃ o, exec (.registerWrite ⟨0, a⟩ 32 w) s = .next (codeWrite a r w { s with obs := o }) := by
  refine ⟨(afterCount 12 a s).obs, ?_⟩
  have hnone : operationWrite r w (afterCount 12 a s) = none := by
    rw [afterCount_eq_withObs, ← Option.isNone_iff_eq_none, operationWrite_withObs_isNone, ho, Option.isNone_none]
  have hcode : accessWrite a 32 w (afterCount 12 a s) = codeWrite a r w (afterCount 12 a s) := by
    unfold accessWrite regWrite unitDead
    simp only [hr, hnone, beq_false_of_ne hb, Bool.false_and, Bool.false_eq_true, ne_eq, not_true_eq_false, if_false]
  rw [← afterCount_eq_withObs, ← hcode]
  rfl

/-- A 32-bit read of the triad at a register; one of OBS itself is not counted. -/
theorem exec_registerRead_of_regAt {s : State} {a : Nat} {r : RegAt} (hr : regAt a = some r) :
    ∃ o, exec (.registerRead ⟨0, a⟩ 32) s = .next (regRead a r { s with obs := o }) ∧ (r.block.base = 0x400F0000 → o = s.obs) := by
  refine ⟨(afterCount 13 a s).obs, ?_, fun hb => ?_⟩
  · have hread : accessRead a 32 (afterCount 13 a s) = regRead a r (afterCount 13 a s) := by
      unfold accessRead
      simp only [hr, ne_eq, not_true_eq_false, if_false]
    rw [← afterCount_eq_withObs, ← hread]
    rfl
  · unfold afterCount
    rw [votedAddr_of_obs hr hb]
    rfl

/-- None of the addresses holds a plain read-write register. -/
def noneReadWrite (l : List Nat) : Bool := l.all fun a => (regAt a).all fun r => r.row.acc != .rw

theorem not_mem_of_noneReadWrite {l : List Nat} {a : Nat} {r : RegAt} (hl : noneReadWrite l = true) (hr : regAt a = some r)
    (hacc : r.row.acc = .rw) : a ∉ l := by
  intro ha
  have h := List.all_eq_true.1 hl a ha
  rw [hr, Option.all_some, hacc] at h
  cases h

theorem isMonitor_of_rw {a : Nat} {r : RegAt} (hr : regAt a = some r) (hacc : r.row.acc = .rw) : isMonitor a = false := by
  have h := not_mem_of_noneReadWrite (l := List.range' Reg.VAU_RM_SUPPLY 36) (by decide +kernel) hr hacc
  rw [List.mem_range'_1] at h
  unfold isMonitor
  simpa using h

theorem isCounter_of_rw {a : Nat} {r : RegAt} (hr : regAt a = some r) (hacc : r.row.acc = .rw) : isCounter a = false := by
  have h := not_mem_of_noneReadWrite (l := List.range' 0x400F0100 56 8) (by decide +kernel) hr hacc
  rw [List.mem_range'] at h
  unfold isCounter Reg.OBS_FIX_LO Reg.OBS_PCNT_LO
  rw [Bool.eq_false_iff]
  intro hc
  simp only [Bool.and_eq_true, decide_eq_true_eq, beq_iff_eq] at hc
  obtain ⟨⟨hlow, hhigh⟩, hmod⟩ := hc
  exact h ⟨(a - 0x400F0100) / 8, by omega, by omega⟩

theorem ne_vcPos_of_rw {a : Nat} {r : RegAt} (hr : regAt a = some r) (hacc : r.row.acc = .rw) : a ≠ Reg.SYS_VC_POS := by
  have h := not_mem_of_noneReadWrite (l := [Reg.SYS_VC_POS]) (by decide +kernel) hr hacc
  simpa using h

/-- A plain read-write register reads as the map shows it, unless the model has no source for it. -/
theorem readValue_of_rw {a : Nat} {r : RegAt} (s : State) (hr : regAt a = some r) (hacc : r.row.acc = .rw) (ho : openValue a = false) :
    readValue a r s = (regValue s a r, s) := by
  unfold readValue
  simp only [isMonitor_of_rw hr hacc, ne_vcPos_of_rw hr hacc, isCounter_of_rw hr hacc, ho, Bool.false_eq_true, if_false]

theorem regRead_of_rw {a : Nat} {r : RegAt} (s : State) (hr : regAt a = some r) (hacc : r.row.acc = .rw) (hb : r.block.base ≠ 0x400A1000)
    (hhi : isHi r.row.lo = false) (hlo : pairHi r.row.lo = false) (ho : openValue a = false) :
    regRead a r s = s.answerRead (regValue s a r) := by
  unfold regRead
  simp only [hb, if_false, hacc, hhi, hlo, Bool.false_eq_true, readValue_of_rw s hr hacc ho]

theorem regRead_of_wo {a : Nat} {r : RegAt} (s : State) (hacc : r.row.acc = .wo) (hb : r.block.base ≠ 0x400A1000) :
    regRead a r s = s.answerRead 0 := by
  unfold regRead
  simp only [hb, if_false, hacc]

theorem codeWrite_of_rw {a : Nat} {r : RegAt} {w : Word} (s : State) (hacc : r.row.acc = .rw) : codeWrite a r w s = plainWrite a r w s := by
  unfold codeWrite
  rw [hacc]

theorem codeWrite_of_lock {a : Nat} {r : RegAt} {w : Word} (s : State) (hacc : r.row.acc = .lock) :
    codeWrite a r w s = if locked r s then accessNote r s else plainWrite a r w s := by
  unfold codeWrite
  rw [hacc]

theorem codeWrite_of_w1c {a : Nat} {r : RegAt} {w : Word} (s : State) (hacc : r.row.acc = .w1c) :
    codeWrite a r w s = s.setReg a (s.reg a &&& ~~~w) := by
  unfold codeWrite
  rw [hacc]

theorem locked_withObs (r : RegAt) (s : State) (o : Obs) : locked r { s with obs := o } = locked r s := rfl

/-- Settles O15: a write that is no operation goes by its access code, a read shows the map, and OBS alone counts the access. -/
theorem registerAccessCodes : Obligations.RegisterAccessCodes := by
  intro s a r w hr hb ho
  obtain ⟨o, hwrite⟩ := exec_registerWrite_of_code hr hb ho
  obtain ⟨p, hread, hobs⟩ := exec_registerRead_of_regAt (s := s) hr
  refine ⟨?plain, ?refused, ?clear, ?writeOnly, ?readBack⟩
  case plain =>
    rintro (hacc | ⟨hacc, hopen⟩)
    · rw [codeWrite_of_rw _ hacc] at hwrite
      exact ⟨_, hwrite, rfl⟩
    · rw [codeWrite_of_lock _ hacc, locked_withObs, hopen] at hwrite
      exact ⟨_, hwrite, rfl⟩
  case refused =>
    intro hacc hlock
    rw [codeWrite_of_lock _ hacc, locked_withObs, hlock, if_pos rfl] at hwrite
    exact ⟨_, hwrite, by simp only [accessNote_obs]⟩
  case clear =>
    intro hacc
    rw [codeWrite_of_w1c _ hacc] at hwrite
    exact ⟨_, hwrite, rfl⟩
  case writeOnly =>
    intro hacc hmbx
    rw [regRead_of_wo _ hacc hmbx] at hread
    exact ⟨_, hread, rfl⟩
  case readBack =>
    intro hacc hmbx hhi hlo hopen
    have hvalue : regValue { s with obs := p } a r = regValue s a r := by
      by_cases hself : r.block.base = 0x400F0000
      · rw [hobs hself]
      · exact regValue_withObs s p a r hself
    rw [regRead_of_rw _ hr hacc hmbx hhi hlo hopen, hvalue] at hread
    exact ⟨_, hread, rfl⟩

end Sys2Proof.Machine
end

section
/-!
PROOF. Mantle's parameter table (R126, R128), its faults (R120, R121) and its restart by its own supply (R103).
-/
namespace Sys2Proof.Machine

theorem exec_mantleTableLoad_of_wait {s : State} {bs : List Byte} (h : s.mnt.st = .wait) :
    exec (.mantleTableLoad bs) s =
      .next { s with mnt := { s.mnt with tab := Tbl.setList [] 0 bs, tabLen := bs.length, tabOk := false } } := by
  change execMantleTableLoad bs s = _
  unfold execMantleTableLoad
  rw [if_pos h]

theorem exec_mantleTableLoad_of_not_wait {s : State} {bs : List Byte} (h : s.mnt.st ≠ .wait) :
    exec (.mantleTableLoad bs) s = .next (note 0x0307 0 0 s) := by
  change execMantleTableLoad bs s = _
  unfold execMantleTableLoad
  rw [if_neg h]

theorem exec_mantleTableVerified_of_wait {s : State} {key : List Byte} (h : s.mnt.st = .wait) :
    exec (.mantleTableVerified key) s =
      .next { s with mnt := { s.mnt with tabOk := tableSigned s.mnt key && tableOk s.mnt s.conf.configId.toNat } } := by
  change execMantleTableVerified key s = _
  unfold execMantleTableVerified
  rw [if_pos h]

/-- What is loaded into an empty memory reads back byte by byte. -/
theorem get_setList_nil {α : Type} [Inhabited α] [DecidableEq α] (vs : List α) (i : Nat) (h : i < vs.length) :
    Tbl.get (Tbl.setList [] 0 vs) i = vs[i] := by
  have hget := Tbl.get_setList_in vs [] 0 i h
  rwa [Nat.zero_add] at hget

/-- Mantle's safe state stands with every line withdrawn after the reseals that the withdrawal brings. -/
theorem resealAfter_mFault_mnt (code : Nat) (s : State) (h : s.mnt.st ≠ .msafe) :
    (resealAfter s.mnt (mFault code s)).mnt.st = .msafe ∧ (resealAfter s.mnt (mFault code s)).mnt.ga = 0
      ∧ (resealAfter s.mnt (mFault code s)).mnt.sa = 0 ∧ (resealAfter s.mnt (mFault code s)).mnt.da = 0 := by
  rw [sealedOnly_mnt (resealAfter_sealedOnly s.mnt (mFault code s))]
  exact ⟨mFault_st code s, mFault_off code s h⟩

/-- Mantle as its own supply supervisor restarts it: in `WAIT`, with what the triad has read and the one-time-programmable memory kept. -/
def Mnt.restarted (m : Mnt) : Mnt :=
  { (default : Mnt) with
    readVec := m.readVec, readOk := m.readOk, msafeRead := m.msafeRead
    ck := m.ck, ckProg := m.ckProg, ckRev := m.ckRev }

/-- Clearing registers leaves Mantle. -/
theorem foldl_clearReg_mnt (l : List Nat) (s : State) : (l.foldl (fun s a => s.setReg a 0) s).mnt = s.mnt :=
  repliedOnly_mnt (foldl_repliedOnly l _ s fun u a => repliedOnly_of_recordedOnly (setReg_recordedOnly u a 0))

theorem exec_mantleSupplyReset (s : State) : ∃ t, exec .mantleSupplyReset s = .next t ∧ t.mnt = s.mnt.restarted :=
  ⟨_, rfl, foldl_clearReg_mnt _ _⟩

/-- Settles O22: the load port by Mantle's state, the verification, `MSAFE` by a failed self-check and a lost strobe, the restart. -/
theorem mantleTableAndFaults : Obligations.MantleTableAndFaults := by
  refine ⟨?load, ?refused, ?verified, ?faults, ?restart⟩
  case load =>
    intro s bs h
    exact ⟨_, exec_mantleTableLoad_of_wait h, rfl, rfl, get_setList_nil bs, rfl⟩
  case refused =>
    intro s bs h
    exact ⟨_, exec_mantleTableLoad_of_not_wait h, rfl⟩
  case verified =>
    intro s key h
    exact ⟨_, exec_mantleTableVerified_of_wait h, rfl⟩
  case faults =>
    intro s l h
    exact ⟨⟨_, rfl, resealAfter_mFault_mnt _ s h⟩, ⟨_, rfl, resealAfter_mFault_mnt _ s h⟩⟩
  case restart =>
    intro s
    obtain ⟨t, he, hm⟩ := exec_mantleSupplyReset s
    refine ⟨t, he, hm, ?_⟩
    rw [hm]
    exact ⟨rfl, rfl, rfl, rfl⟩

end Sys2Proof.Machine
end

section
/-!
PROOF. Fields of a word: what a field reads as after its own and after another field's update. The registers that recording leaves:
outside EVR's block it writes the event register of its code alone (R395–R399).
-/
namespace Sys2Proof

theorem mkField_getLsbD (hi lo v j : Nat) :
    (mkField hi lo v).getLsbD j = (decide (j < 32) && decide (lo ≤ j) && decide (j - lo < hi - lo + 1) && v.testBit (j - lo)) := by
  unfold mkField word
  rw [BitVec.getLsbD_ofNat, Nat.testBit_shiftLeft, Nat.testBit_mod_two_pow, Bool.and_assoc, Bool.and_assoc]

theorem mkField_ones_getLsbD (hi lo j : Nat) :
    (mkField hi lo (2 ^ (hi - lo + 1) - 1)).getLsbD j = (decide (j < 32) && decide (lo ≤ j) && decide (j - lo < hi - lo + 1)) := by
  rw [mkField_getLsbD, Nat.testBit_two_pow_sub_one, Bool.and_assoc, Bool.and_self]

/-- Bit by bit, `putField` takes the value within the field and keeps the word outside it. -/
theorem putField_getLsbD (w : Word) (hi lo v j : Nat) :
    (putField w hi lo v).getLsbD j =
      if j < 32 ∧ lo ≤ j ∧ j - lo < hi - lo + 1 then v.testBit (j - lo) else w.getLsbD j := by
  unfold putField
  rw [BitVec.getLsbD_or, BitVec.getLsbD_and, BitVec.getLsbD_not, mkField_ones_getLsbD, mkField_getLsbD]
  by_cases hj : j < 32
  · by_cases hf : lo ≤ j ∧ j - lo < hi - lo + 1
    · simp [hj, hf]
    · rw [not_and] at hf
      by_cases hlo : lo ≤ j
      · simp [hj, hlo, hf hlo]
      · simp [hj, hlo]
  · simp [hj, BitVec.getLsbD_of_ge w j (Nat.le_of_not_lt hj)]

theorem field_testBit (w : Word) (hi lo i : Nat) :
    (field w hi lo).testBit i = (decide (i < hi - lo + 1) && w.getLsbD (lo + i)) := by
  unfold field
  rw [Nat.testBit_mod_two_pow, Nat.testBit_shiftRight]
  rfl

theorem field_putField_same (w : Word) (hi lo v : Nat) (h : hi < 32) (hle : lo ≤ hi) :
    field (putField w hi lo v) hi lo = v % 2 ^ (hi - lo + 1) := by
  apply Nat.eq_of_testBit_eq
  intro i
  rw [field_testBit, putField_getLsbD, Nat.testBit_mod_two_pow, Nat.add_sub_cancel_left]
  by_cases hi' : i < hi - lo + 1
  · have hin : lo + i < 32 ∧ lo ≤ lo + i ∧ i < hi - lo + 1 := ⟨by omega, by omega, hi'⟩
    rw [if_pos hin]
  · simp only [hi', decide_false, Bool.false_and]

theorem field_putField_of_disjoint (w : Word) {hi lo hi' lo' : Nat} (v : Nat) (hle : lo ≤ hi) (h : hi < lo' ∨ hi' < lo) (hle' : lo' ≤ hi') :
    field (putField w hi' lo' v) hi lo = field w hi lo := by
  apply Nat.eq_of_testBit_eq
  intro i
  rw [field_testBit, field_testBit, putField_getLsbD]
  by_cases hin : i < hi - lo + 1
  · rw [if_neg (by omega)]
  · simp only [hin, decide_false, Bool.false_and]

/-- A lock bit that is written stays with what the register held before. -/
theorem bitAt_or_lockBit (v w : Word) (h : bitAt w 0 = true) : bitAt (v ||| (w &&& 1#32)) 0 = true := by
  unfold bitAt at h ⊢
  rw [BitVec.getLsbD_or, BitVec.getLsbD_and, h]
  simp

end Sys2Proof

namespace Sys2Proof.Machine

theorem answers_of_exec {c : Instr} {s t : State} {p : State → Prop} (he : exec c s = .next t) (hp : p t) : Answers c s p := ⟨t, he, hp⟩

theorem State.regF_setRegF_same (s : State) (a hi lo v : Nat) (h : hi < 32) (hle : lo ≤ hi) :
    (s.setRegF a hi lo v).regF a hi lo = v % 2 ^ (hi - lo + 1) := by
  unfold State.regF State.setRegF
  rw [State.reg_setReg_same, field_putField_same _ _ _ _ h hle]

theorem State.regF_setRegF_of_disjoint (s : State) (a : Nat) {hi lo hi' lo' : Nat} (v : Nat) (hle : lo ≤ hi) (h : hi < lo' ∨ hi' < lo)
    (hle' : lo' ≤ hi') : (s.setRegF a hi' lo' v).regF a hi lo = s.regF a hi lo := by
  unfold State.regF State.setRegF
  rw [State.reg_setReg_same, field_putField_of_disjoint _ _ hle h hle']

/-- An address outside EVR's block. -/
def outsideEvr (a : Nat) : Prop := a < Reg.EVR_STAT ∨ Reg.EVR_STAT + 0x10000 ≤ a

/-- The event register of a code, at a channel's or unit's offset, is not this register. -/
def eventElsewhere (code off a : Nat) : Prop := ∀ r ∈ faultRow code, ∀ p ∈ r.event, p.1 + off ≠ a

theorem setEvent_reg {code off a : Nat} (s : State) (h : eventElsewhere code off a) : (setEvent code off s).reg a = s.reg a := by
  unfold setEvent
  split
  next r hr =>
    split
    next p i he => exact State.reg_setReg_ne _ _ (h r hr (p, i) he)
    next => rfl
  next => rfl

theorem reg_withEvr (a : Nat) (s : State) (e : Evr) : State.reg { s with evr := e } a = s.reg a := rfl

theorem putDual_reg (a base : Nat) (slotB : Bool) (w : Word) (s : State) : (putDual base slotB w s).reg a = s.reg a := rfl

theorem stageFit_reg (a ty : Nat) (body : List Byte) (s : State) : (stageFit ty body s).reg a = s.reg a := rfl

theorem stageLost_reg (a : Nat) (s : State) : (stageLost s).reg a = s.reg a := by
  unfold stageLost
  split
  · rfl
  · exact stageFit_reg a ..

theorem evrRepeat_reg (a : Nat) (s : State) : (evrRepeat s).reg a = s.reg a := by
  unfold evrRepeat
  split <;> rfl

section
variable {a : Nat} (ha : outsideEvr a)
include ha

theorem ne_of_outsideEvr {b : Nat} (hb : Reg.EVR_STAT ≤ b ∧ b < Reg.EVR_STAT + 0x10000) : b ≠ a := by
  unfold outsideEvr at ha
  omega

/-- EVR's own codes set bits of its own event register. -/
theorem eventElsewhere_of_outsideEvr {code : Nat} (h : code = 0x0D01 ∨ code = 0x0D02 ∨ code = 0x0D03) : eventElsewhere code 0 a := by
  have hown : ∀ r ∈ faultRow code, ∀ p ∈ r.event, p.1 = Reg.EVR_EVENT := by
    rcases h with rfl | rfl | rfl <;> decide
  intro r hr p hp
  rw [hown r hr p hp]
  exact ne_of_outsideEvr ha (by decide)

theorem stage_reg (ty : Nat) (body : List Byte) (s : State) : (stage ty body s).1.reg a = s.reg a := by
  unfold stage
  extract_lets need e u
  split
  · exact (stageFit_reg a ty body (stageLost s)).trans (stageLost_reg a s)
  · exact State.reg_setReg_ne u _ (ne_of_outsideEvr ha (by decide))

theorem evrClose_reg (s : State) : (evrClose s).1.reg a = s.reg a := by
  unfold evrClose
  split
  · rfl
  · split
    · dsimp only
      rw [State.reg_setReg_ne _ _ (ne_of_outsideEvr ha (by decide)), reg_withEvr, putDual_reg, stage_reg ha, reg_withEvr]
    · rfl

theorem evrTake_reg (k : Nat) (r : LowReq) (s : State) : (evrTake k r s).reg a = s.reg a := by
  have hfull (u : State) : (setEvent 0x0D03 0 u).reg a = u.reg a :=
    setEvent_reg u (eventElsewhere_of_outsideEvr ha (by decide))
  induction k generalizing r s with
  | zero => rfl
  | succ k ih =>
    unfold evrTake
    dsimp only
    split
    · split
      · split
        · split
          · exact (evrClose_reg ha _).trans (evrRepeat_reg a s)
          · rw [ih, hfull, evrClose_reg ha, evrRepeat_reg a]
        · exact evrRepeat_reg a s
      · exact evrRepeat_reg a s
    · split
      · exact evrClose_reg ha s
      · rw [ih, hfull]
        exact evrClose_reg ha s

theorem evrDrop_reg (src : Nat) (s : State) : (evrDrop src s).reg a = s.reg a := by
  unfold evrDrop
  split <;> exact State.reg_setReg_ne _ _ (ne_of_outsideEvr ha (by decide))

theorem evrAnnounce_reg (src : Nat) (s : State) : (evrAnnounce src s).reg a = s.reg a := by
  unfold evrAnnounce
  dsimp only
  split
  · rfl
  · rw [evrTake_reg ha, setEvent_reg _ (eventElsewhere_of_outsideEvr ha (by split <;> decide))]
    rfl

theorem evrRequest_reg (r : LowReq) (s : State) : (evrRequest r s).reg a = s.reg a := by
  have hset (u : State) {b : Nat} (w : Word) (hb : Reg.EVR_STAT ≤ b ∧ b < Reg.EVR_STAT + 0x10000) : (u.setReg b w).reg a = u.reg a :=
    State.reg_setReg_ne u w (ne_of_outsideEvr ha hb)
  unfold evrRequest
  dsimp only
  (repeat' split)
  · rw [hset _ _ (by decide), hset _ _ (by decide), evrTake_reg ha]
  · rw [hset _ _ (by decide), hset _ _ (by decide)]
    exact (evrTake_reg ha ..).trans (evrAnnounce_reg ha ..)
  · rw [hset _ _ (by decide), evrDrop_reg ha]
  · rw [evrTake_reg ha, evrAnnounce_reg ha]
  · rfl
  · rw [hset _ _ (by decide), evrDrop_reg ha]
  · exact evrDrop_reg ha ..

theorem noteAt_reg {code off : Nat} (he : eventElsewhere code off a) (obj val : Nat) (s : State) :
    (noteAt off code obj val s).reg a = s.reg a := by
  unfold noteAt
  dsimp only
  rw [setEvent_reg _ he]
  split
  · unfold evrFlag
    split <;> rfl
  · exact evrRequest_reg ha ..

theorem noteIf_reg {code : Nat} (he : eventElsewhere code 0 a) (c : Bool) (obj val : Nat) (s : State) :
    (noteIf c code obj val s).reg a = s.reg a := by
  unfold noteIf
  split
  · exact noteAt_reg ha he obj val s
  · rfl

end

end Sys2Proof.Machine
end

section
/-!
PROOF. The door bus channel (R248, R261, R263, R270, R274, R277, R278): what each control leaves in its channel and in its edge.
-/
namespace Sys2Proof.Machine

/-! ### The channel and the edge after an update -/

theorem bus_of_dbc_eq {s t : State} (h : t.dbc = s.dbc) (b : Nat) : t.bus b = s.bus b := by
  unfold State.bus
  rw [h]

theorem edge_of_dsu_eq {s t : State} (h : t.dsu = s.dsu) (e : Nat) : t.edge e = s.edge e := by
  unfold State.edge
  rw [h]

@[simp] theorem bus_updBus_same (b : Nat) (f : Dbc → Dbc) (s : State) : (updBus b f s).bus b = f (s.bus b) := State.bus_setBus ..
@[simp] theorem bus_setReg (s : State) (a : Nat) (w : Word) (b : Nat) : (s.setReg a w).bus b = s.bus b := rfl
@[simp] theorem bus_setRegF (s : State) (a hi lo v b : Nat) : (s.setRegF a hi lo v).bus b = s.bus b := rfl
@[simp] theorem bus_noteBus (c code : Nat) (s : State) (b : Nat) : (noteBus c code s).bus b = s.bus b := bus_of_dbc_eq (noteAt_dbc ..) b
@[simp] theorem bus_localSafeEdge (e code : Nat) (s : State) (b : Nat) : (localSafeEdge e code s).bus b = s.bus b := rfl
@[simp] theorem bus_busLocal (c code : Nat) (s : State) (b : Nat) : (busLocal c code s).bus b = s.bus b := bus_noteBus ..
@[simp] theorem bus_brokenNote (c : Nat) (s : State) (b : Nat) : (brokenNote c s).bus b = s.bus b := by
  unfold brokenNote
  split <;> simp

@[simp] theorem dsu_brokenNote (c : Nat) (s : State) : (brokenNote c s).dsu = s.dsu := by
  unfold brokenNote
  split <;> simp [noteBus]

/-- A class L fault of a channel calls for its edge's `LOCAL_SAFE`; the first of several is the cause. -/
theorem edge_busLocal (b code : Nat) (s : State) :
    (busLocal b code s).edge b = { s.edge b with localReq := some ((s.edge b).localReq.getD code) } := by
  have hnote : (noteBus b code s).edge b = s.edge b := edge_of_dsu_eq (noteAt_dsu ..) b
  unfold busLocal localSafeEdge
  rw [State.edge_setEdge, hnote]

/-! ### Error states (R274) -/

theorem bus_passiveEvent_err (b : Nat) (s : State) (h : (s.bus b).err = 0) : ((passiveEvent b s).bus b).err = 1 := by
  unfold passiveEvent
  dsimp only
  generalize hu : (if tec s b < 128 then _ else s : State) = u
  have hbus : u.bus b = s.bus b := by
    rw [← hu]
    split <;> rfl
  unfold errorPassive
  rw [hbus, if_pos h]
  simp

/-- The end of a frame that bus-off brings: one that is pending fails. -/
def TxSt.broken (t : TxSt) : TxSt := if t = .pending then .failed else t

theorem TxSt.broken_ne_pending (t : TxSt) : t.broken ≠ .pending := by
  unfold TxSt.broken
  split
  · decide
  · assumption

/-- A channel as it goes bus-off. -/
def Dbc.toBusOff (d : Dbc) : Dbc :=
  { d with err := 2, fly := none, txRef := d.txRef.broken, txOrd := d.txOrd.broken, txCmd := d.txCmd.broken }

theorem bus_busOff (b : Nat) (s : State) (h : (s.bus b).err ≠ 2) : (busOff b s).bus b = (s.bus b).toBusOff := by
  unfold busOff
  rw [if_neg h]
  simp only [bus_busLocal, bus_setRegF, bus_updBus_same, bus_brokenNote]
  rfl

theorem edge_busOff (b : Nat) (s : State) (h : (s.bus b).err ≠ 2) :
    (busOff b s).edge b = { s.edge b with localReq := some ((s.edge b).localReq.getD 0x0804) } := by
  have hlocal (u : State) (hu : u.dsu = s.dsu) :
      (busLocal b 0x0804 u).edge b = { s.edge b with localReq := some ((s.edge b).localReq.getD 0x0804) } := by
    rw [edge_busLocal, edge_of_dsu_eq hu b]
  unfold busOff
  rw [if_neg h]
  exact hlocal _ (dsu_brokenNote b s)

theorem exec_busOffRecovery_of_busOff {s : State} {b : Nat} (h : (s.bus b).err = 2) :
    exec (.busOffRecovery b) s =
      .next (((updBus b (fun d => { d with err := 0 }) s).setRegF (busReg Reg.DBC_ERR b) 31 24 0).setRegF (busReg Reg.DBC_ERR b) 23 15 0) := by
  change execBusOffRecovery b s = _
  unfold execBusOffRecovery
  dsimp only
  rw [if_pos h]

/-! ### Sleep (R277) -/

theorem busSleep_of_accepted {s : State} {b : Nat} (h : sleepOk s b = true) :
    busSleep b s = updBus b (fun d => if d.st = .master then { d with sleepReq := true } else { d with sleepNext := true }) s := by
  unfold busSleep
  rw [if_pos h]

theorem busSleep_of_refused {s : State} {b : Nat} (h : sleepOk s b = false) : busSleep b s = noteBus b 0x080D s := by
  unfold busSleep
  rw [h, if_neg (by decide)]

/-- The end of the matrix cycle sends a channel to sleep with its frames gone. -/
theorem bus_sleepEnd (b : Nat) (s : State) (hn : (s.bus b).sleepNext = true)
    (hs : (s.bus b).st = .listen ∨ (s.bus b).st = .master ∨ (s.bus b).st = .backup) :
    (sleepEnd b s).bus b = { s.bus b with
      st := .sleep, wakes := 0, sleepReq := false, sleepNext := false, txRef := .none, txOrd := .none, txCmd := .none } := by
  unfold sleepEnd
  rw [bus_updBus_same, if_pos ⟨hn, hs⟩]

/-! ### Waking (R248, R278) -/

/-- A channel that has woken. -/
def Dbc.woken (m : ModState) (d : Dbc) : Dbc :=
  { d with st := wakeState m, wakes := 0, sleepReq := false, sleepNext := false, noCmd := 0 }

theorem bus_busWakes_of_sleep {s : State} {b : Nat} (hst : (s.bus b).st = .sleep) (he : busEquipped s b = true) :
    (busWakes b s).bus b = (s.bus b).woken s.sys.state := by
  unfold busWakes
  rw [if_pos ⟨hst, he⟩, bus_noteBus, bus_updBus_same]
  rfl

theorem busWakes_of_unequipped {s : State} {b : Nat} (he : busEquipped s b = false) : busWakes b s = s := by
  unfold busWakes
  rw [if_neg (by simp [he])]

theorem busWakes_of_not_sleep {s : State} {b : Nat} (hst : (s.bus b).st ≠ .sleep) : busWakes b s = s := by
  unfold busWakes
  rw [if_neg (by simp [hst])]

/-- A wake-up leaves the frames sent, and a count of wake frames that has run out. -/
theorem bus_busWakes_frame (b : Nat) (s : State) (hw : (s.bus b).wakes = 0) :
    ((busWakes b s).bus b).wakes = 0 ∧ ((busWakes b s).bus b).out = (s.bus b).out := by
  by_cases h : (s.bus b).st = .sleep ∧ busEquipped s b = true
  · rw [bus_busWakes_of_sleep h.1 h.2]
    exact ⟨rfl, rfl⟩
  · unfold busWakes
    rw [if_neg h]
    exact ⟨hw, rfl⟩

/-- A channel after one more wake frame. -/
def Dbc.afterWakeFrame (f : Frame) (d : Dbc) : Dbc := { d with wakes := d.wakes - 1, out := d.out ++ [f] }

/-- The state after one more wake frame of a channel. -/
def sentWake (b : Nat) (s : State) : State := updBus b (Dbc.afterWakeFrame (wakeFrame s b)) s

@[simp] theorem bus_sentWake (b : Nat) (s : State) : (sentWake b s).bus b = (s.bus b).afterWakeFrame (wakeFrame s b) := bus_updBus_same ..

theorem busEquipped_sentWake (b c : Nat) (s : State) : busEquipped (sentWake b s) c = busEquipped s c := rfl

/-- One wake frame is sent; the last of them wakes. -/
theorem sendWake_of_mayWake {s : State} {b : Nat} (hm : (s.bus b).mayWake = true) (hw : 0 < (s.bus b).wakes) :
    sendWake b s = if (s.bus b).wakes = 1 then busWakes b (sentWake b s) else sentWake b s := by
  unfold sendWake
  dsimp only
  rw [hm, decide_eq_true hw, Bool.and_self, if_pos rfl]
  rfl

theorem sendWake_of_silenced {s : State} {b : Nat} (hm : (s.bus b).mayWake = false) : sendWake b s = s := by
  unfold sendWake
  dsimp only
  rw [hm, Bool.false_and, if_neg (by decide)]

theorem bus_sendWake_frame {s : State} {b : Nat} (hm : (s.bus b).mayWake = true) (hw : 0 < (s.bus b).wakes) :
    ((sendWake b s).bus b).wakes = (s.bus b).wakes - 1 ∧ ((sendWake b s).bus b).out.length = (s.bus b).out.length + 1 := by
  have hout : ((s.bus b).afterWakeFrame (wakeFrame s b)).out.length = (s.bus b).out.length + 1 := List.length_append
  rw [sendWake_of_mayWake hm hw]
  split
  next h1 =>
    have hzero : ((sentWake b s).bus b).wakes = 0 := by
      rw [bus_sentWake]
      exact Nat.sub_eq_zero_of_le (Nat.le_of_eq h1)
    obtain ⟨hwakes, hsame⟩ := bus_busWakes_frame b (sentWake b s) hzero
    rw [hwakes, hsame, bus_sentWake, h1]
    exact ⟨rfl, hout⟩
  next =>
    rw [bus_sentWake]
    exact ⟨rfl, hout⟩

/-- The last wake frame wakes a sleeping channel of an equipped bus. -/
theorem bus_sendWake_st_of_last {s : State} {b : Nat} (hm : (s.bus b).mayWake = true) (hw : (s.bus b).wakes = 1) (hst : (s.bus b).st = .sleep)
    (he : busEquipped s b = true) : ((sendWake b s).bus b).st = wakeState s.sys.state := by
  rw [sendWake_of_mayWake hm (by omega), if_pos hw, bus_busWakes_of_sleep]
  · rfl
  · rw [bus_sentWake]
    exact hst
  · rw [busEquipped_sentWake, he]

/-- An earlier wake frame, and one of a channel that is awake, leaves the channel's state. -/
theorem bus_sendWake_st_of_awake {s : State} {b : Nat} (hm : (s.bus b).mayWake = true) (hw : 0 < (s.bus b).wakes)
    (h : (s.bus b).wakes ≠ 1 ∨ (s.bus b).st ≠ .sleep) : ((sendWake b s).bus b).st = (s.bus b).st := by
  have hsent : ((sentWake b s).bus b).st = (s.bus b).st := by
    rw [bus_sentWake]
    rfl
  rw [sendWake_of_mayWake hm hw]
  split
  next h1 =>
    have hst : (s.bus b).st ≠ .sleep := h.resolve_left fun hne => hne h1
    rw [busWakes_of_not_sleep (by rw [hsent]; exact hst), hsent]
  next => exact hsent

/-- A channel with three wake frames to send. -/
def threeWakes (b : Nat) (s : State) : State := updBus b (fun d => { d with wakes := 3 }) s

theorem exec_dbcWake_of_mayWake {s : State} {b : Nat} (h : (s.bus b).mayWake = true) :
    exec (.dbcWake b) s = .next (sendWake b (threeWakes b s)) := by
  change execDbcWake b s = _
  unfold execDbcWake
  rw [if_pos h]
  rfl

theorem exec_dbcWake_of_silenced {s : State} {b : Nat} (h : (s.bus b).mayWake = false) : exec (.dbcWake b) s = .next s := by
  change execDbcWake b s = _
  unfold execDbcWake
  rw [h, if_neg (by decide)]

theorem bus_threeWakes (b : Nat) (s : State) : (threeWakes b s).bus b = { s.bus b with wakes := 3 } := bus_updBus_same ..

theorem exec_wakeDetect_of_pattern {s : State} {b id dlc : Nat} {d : Byte} (h : s.regF (busReg Reg.DBC_CONF b) 29 28 = 0) :
    exec (.wakeDetect b true id dlc d) s = .next (busWakes b s) := by
  change execWakeDetect b true id dlc d s = _
  unfold execWakeDetect
  dsimp only
  rw [if_pos (Or.inl ⟨h, rfl⟩)]

/-! ### The command buffer's registers (R125, R261, R280) -/

/-- The loading copy's block and command bytes lie apart from EVR, and from the seal and the mark of the same channel. -/
theorem outsideEvr_loadingCopy {b i : Nat} (hb : b < 8) (hi : i < 6) : outsideEvr (busReg Reg.DBC_CBLK_LO b + 4 * i) := by
  unfold outsideEvr busReg Reg.DBC_CBLK_LO Reg.EVR_STAT
  omega

theorem eventElsewhere_sealRestricted (a : Nat) : eventElsewhere 0x0316 0 a := by
  have hnone : ∀ r ∈ faultRow 0x0316, r.event = none := by decide
  intro r hr p hp
  rw [hnone r hr] at hp
  cases hp

theorem countMasked_reg {a : Nat} (ha : outsideEvr a) (n : Nat) (s : State) : (countMasked n s).reg a = s.reg a := by
  unfold countMasked
  split
  · rfl
  · exact noteIf_reg ha (eventElsewhere_sealRestricted a) ..

/-- A new seal leaves the block and the command bytes of the loading copy. -/
theorem resealBus_reg_loadingCopy {b i : Nat} (hb : b < 8) (hi : i < 6) (s : State) :
    (resealBus b s).reg (busReg Reg.DBC_CBLK_LO b + 4 * i) = s.reg (busReg Reg.DBC_CBLK_LO b + 4 * i) := by
  unfold resealBus
  rw [countMasked_reg (outsideEvr_loadingCopy hb hi)]
  unfold sealBus State.setRegB
  dsimp only
  rw [State.reg_setReg_ne _ _ (by unfold busReg Reg.DBC_CREADY Reg.DBC_CBLK_LO; omega),
    State.reg_setReg_ne _ _ (by unfold busReg Reg.DBC_CSEAL_VCN Reg.DBC_CBLK_LO; omega),
    State.reg_setReg_ne _ _ (by unfold busReg Reg.DBC_CSEAL Reg.DBC_CBLK_LO; omega)]

theorem exec_dbcLoadingCopyWrite_of_lt {s : State} {b i : Nat} {w : Word} (hi : i < 6) :
    exec (.dbcLoadingCopyWrite b i w) s =
      .next (if s.regB (busReg Reg.DBC_CREADY b) 1 then resealBus b (s.setReg (busReg Reg.DBC_CBLK_LO b + 4 * i) w)
        else s.setReg (busReg Reg.DBC_CBLK_LO b + 4 * i) w) := by
  change execDbcLoadingCopyWrite b i w s = _
  unfold execDbcLoadingCopyWrite
  simp only [show ¬ i > 6 by omega, show i ≠ 6 by omega, if_false]

/-- A word written into the loading copy stands there; a copy that bore a seal is sealed anew, and nothing else changes. -/
theorem answers_dbcLoadingCopyWrite {s : State} {b i : Nat} {w : Word} (hb : b < 8) (hi : i < 6) :
    Answers (.dbcLoadingCopyWrite b i w) s (fun t => t.reg (busReg Reg.DBC_CBLK_LO b + 4 * i) = w ∧ sealedOnly s t
      ∧ (s.regB (busReg Reg.DBC_CREADY b) 1 = false → t = { s with regs := t.regs })) := by
  refine ⟨_, exec_dbcLoadingCopyWrite_of_lt hi, ?_⟩
  have hwrite : sealedOnly s (s.setReg (busReg Reg.DBC_CBLK_LO b + 4 * i) w) := sealedOnly_of_recordedOnly (setReg_recordedOnly ..)
  cases hseal : s.regB (busReg Reg.DBC_CREADY b) 1 with
  | true =>
    rw [if_pos rfl]
    refine ⟨?_, sealedOnly_trans hwrite (resealBus_sealedOnly ..), fun h => by cases h⟩
    rw [resealBus_reg_loadingCopy hb hi, State.reg_setReg_same]
  | false =>
    rw [if_neg (by decide)]
    exact ⟨State.reg_setReg_same .., hwrite, fun _ => rfl⟩

theorem exec_dbcCready_of_set {s : State} {b : Nat} {w : Word} (h : bitAt w 0 = true) :
    exec (.dbcCready b w) s = .next (s.setRegB (busReg Reg.DBC_CREADY b) 0 true) := by
  change execDbcCready b w s = _
  unfold execDbcCready
  rw [if_pos h]

theorem answers_dbcLock {s : State} {b : Nat} {w : Word} (h : bitAt w 0 = true) :
    Answers (.dbcLock b w) s (fun t => bitAt (t.reg (busReg Reg.DBC_LOCK b)) 0 = true ∧ t = { s with regs := t.regs }) := by
  refine ⟨s.setReg (busReg Reg.DBC_LOCK b) (s.reg (busReg Reg.DBC_LOCK b) ||| (w &&& 1#32)), rfl, ?_, rfl⟩
  rw [State.reg_setReg_same]
  exact bitAt_or_lockBit _ _ h

/-- Settles O47: the error states, the controls and the wake-up of a channel, and the registers of its command buffer. -/
theorem doorBusControls : Obligations.DoorBusControls := by
  refine ⟨?channel, ?wakeUp, ?registers⟩
  case channel =>
    intro s b
    refine ⟨?passive, ?busOff, ?recovery, ?cancel, ?sleep, ?sleepRefused, ?sleepEnter, ?wake, ?silenced, ?wakeRepeat⟩
    case passive =>
      intro h
      exact ⟨_, rfl, bus_passiveEvent_err b s h⟩
    case busOff =>
      intro h
      refine answers_of_exec (t := busOff b s) rfl ?_
      rw [bus_busOff b s h, edge_busOff b s h]
      exact ⟨rfl, rfl, TxSt.broken_ne_pending _, TxSt.broken_ne_pending _, TxSt.broken_ne_pending _, rfl⟩
    case recovery =>
      intro h
      refine answers_of_exec (exec_busOffRecovery_of_busOff h) ?_
      rw [bus_setRegF, bus_setRegF, bus_updBus_same, State.regF_setRegF_of_disjoint _ _ _ (by decide) (by decide) (by decide),
        State.regF_setRegF_same _ _ _ _ _ (by decide) (by decide), State.regF_setRegF_same _ _ _ _ _ (by decide) (by decide)]
      exact ⟨rfl, rfl, rfl, rfl⟩
    case cancel =>
      intro hfly hord
      refine ⟨busCancel b s, rfl, ?_, rfl⟩
      unfold busCancel
      rw [State.bus_setBus]
      unfold Dbc.cancel
      rw [hfly, hord]
      rfl
    case sleep =>
      intro hok hm
      refine answers_of_exec (t := busSleep b s) rfl ?_
      rw [busSleep_of_accepted hok, bus_updBus_same, if_pos hm]
    case sleepRefused =>
      intro hno
      exact ⟨busSleep b s, rfl, busSleep_of_refused hno⟩
    case sleepEnter =>
      intro hn hst
      refine answers_of_exec (t := sleepEnd b s) rfl ?_
      rw [bus_sleepEnd b s hn (or_assoc.2 hst).symm]
      exact ⟨rfl, rfl, rfl, rfl⟩
    case wake =>
      intro hm
      have hm3 : ((threeWakes b s).bus b).mayWake = true := by
        rw [bus_threeWakes]
        exact hm
      have hw3 : ((threeWakes b s).bus b).wakes = 3 := by rw [bus_threeWakes]
      obtain ⟨hwakes, hout⟩ := bus_sendWake_frame hm3 (by omega)
      have hst := bus_sendWake_st_of_awake hm3 (by omega) (Or.inl (by omega))
      refine answers_of_exec (exec_dbcWake_of_mayWake hm) ?_
      rw [hwakes, hout, hst, bus_threeWakes]
      exact ⟨rfl, rfl, rfl⟩
    case silenced =>
      intro hm
      exact ⟨⟨s, exec_dbcWake_of_silenced hm, rfl⟩, ⟨sendWake b s, rfl, sendWake_of_silenced hm⟩⟩
    case wakeRepeat =>
      intro hm hw
      obtain ⟨hwakes, hout⟩ := bus_sendWake_frame hm hw
      exact ⟨sendWake b s, rfl, hwakes, hout, bus_sendWake_st_of_last hm, bus_sendWake_st_of_awake hm hw⟩
  case wakeUp =>
    intro s b id dlc d hst hmode
    have hexec := exec_wakeDetect_of_pattern (id := id) (dlc := dlc) (d := d) hmode
    refine ⟨fun he => answers_of_exec hexec ?_, fun he => answers_of_exec hexec (busWakes_of_unequipped he)⟩
    rw [bus_busWakes_of_sleep hst he]
    rfl
  case registers =>
    intro s b i w hb
    exact ⟨fun h => ⟨_, exec_dbcCready_of_set h, regB_setRegB_same _ _ _ _ (by decide), rfl⟩, answers_dbcLoadingCopyWrite hb, answers_dbcLock⟩

end Sys2Proof.Machine
end

section
/-!
PROOF. The safety networks (R283, R287, R295, R297–R302): datagrams, the timers of a connection, the networks' states, a transmit slot.
-/
namespace Sys2Proof.Machine

/-! ### Datagrams (R283, R292) -/

section
variable {s : State} (h : s.sys.cp.reset = false) (pb : Bool) (ip dst : Word) (sp dp arr : Nat) (bs : List Byte)
include h

theorem datagramRx_of_not_plain : datagramRx pb false ip sp dst dp arr bs s = countDrop pb s := by
  unfold datagramRx
  rw [h]
  rfl

theorem datagramRx_of_undeclared (hc : sourceCon s pb ip sp = none) :
    datagramRx pb true ip sp dst dp arr bs s = note 0x0901 15 (bit pb) (countDrop pb s) := by
  unfold datagramRx
  rw [h, hc]
  rfl

/-- A datagram from a declared source to the module's own address joins the staging memory of its port. -/
theorem datagramRx_of_declared {c : Nat} (hc : sourceCon s pb ip sp = some c) (hip : dst = s.reg (if pb then Reg.SNI_IPB else Reg.SNI_IPA))
    (hport : dp = s.regF Reg.SNI_CONF 31 16) (hroom : (if pb then s.sni.stageB else s.sni.stageA).length < 128) :
    datagramRx pb true ip sp dst dp arr bs s =
      { s with sni := if pb then { s.sni with stageB := s.sni.stageB ++ [⟨c, bs, arr⟩] } else { s.sni with stageA := s.sni.stageA ++ [⟨c, bs, arr⟩] } } := by
  have hown : ¬ (dst ≠ s.reg (if pb then Reg.SNI_IPB else Reg.SNI_IPA) ∨ dp ≠ s.regF Reg.SNI_CONF 31 16) := by
    simp [hip, hport]
  unfold datagramRx
  simp only [h, hc, Bool.not_true, Bool.false_eq_true, if_false]
  rw [if_neg hown, if_neg (by omega)]
  cases pb <;> rfl

end

/-! ### A connection's timers (R295, R297, R300) -/

theorem con_of_sni_eq {s t : State} (h : t.sni = s.sni) (c : Nat) : t.con c = s.con c := by
  unfold State.con
  rw [h]

theorem con_setCon_ne (s : State) {n c : Nat} (x : Conn) (h : n ≠ c) : (s.setCon n x).con c = s.con c := Tbl.get_set_ne _ _ h

theorem con_updCon_same (c : Nat) (f : Conn → Conn) (s : State) : (updCon c f s).con c = f (s.con c) := State.con_setCon ..

/-- The connection after a MISS on the partner's port. -/
def Conn.missed (v : Conn) : Conn :=
  { v with
    owed := false
    cntA := if !v.basePortB then v.cntA else v.cntA.add 3
    cntB := if !v.basePortB then v.cntB.add 3 else v.cntB }

theorem conn_abResult_miss (c : Nat) (s : State) : (abResult c 3 s).sni.conn = Tbl.set s.sni.conn c (s.con c).missed := by
  unfold abResult Conn.missed
  dsimp only
  rw [if_pos rfl]
  cases (s.con c).basePortB <;> rfl

theorem con_abResult_miss (c : Nat) (s : State) : (abResult c 3 s).con c = (s.con c).missed :=
  (congrArg (fun t => Tbl.get t c) (conn_abResult_miss c s)).trans (Tbl.get_set_same ..)

theorem abExpire_of_elapsed {c : Nat} {s : State} (ho : (s.con c).owed = true) (hw : abWin s < since s.sys.vcn (s.con c).baseVcn) :
    abExpire c s = abResult c 3 s := by
  unfold abExpire
  dsimp only
  rw [ho, decide_eq_true hw, Bool.and_self, if_pos rfl]

theorem abExpire_of_within {c : Nat} {s : State} (hw : since s.sys.vcn (s.con c).baseVcn ≤ abWin s) : abExpire c s = s := by
  unfold abExpire
  dsimp only
  rw [decide_eq_false (by omega), Bool.and_false, if_neg (by decide)]

/-- A MISS is counted at the port that did not set BASE. -/
theorem Conn.missed_counts (v : Conn) :
    if v.basePortB then v.missed.cntA.miss = min 0xFFFF (v.cntA.miss + 1) else v.missed.cntB.miss = min 0xFFFF (v.cntB.miss + 1) := by
  unfold Conn.missed
  cases v.basePortB <;> exact rfl

theorem con_dropHseq (host : Nat) (s : State) (c : Nat) : (dropHseq host s).con c = s.con c := rfl

theorem con_dropBase (c : Nat) (s : State) : (dropBase c s).con c = { s.con c with base := none, owed := false } := by
  unfold dropBase
  dsimp only
  split
  · rw [con_dropHseq, con_updCon_same]
  · exact con_updCon_same ..

theorem resync_of_elapsed {c : Nat} {s : State} {h : Word} (hh : (s.con c).heard = some h) (hb : (s.con c).base.isSome = true)
    (ht : (s.con c).resyncT ≤ since s.sys.vcn h) : resync c s = dropBase c s := by
  unfold resync
  simp only [hh, hb, ge_iff_le, ht, decide_true, Bool.and_self, if_true]

theorem resync_of_within {c : Nat} {s : State} {h : Word} (hh : (s.con c).heard = some h) (ht : since s.sys.vcn h < (s.con c).resyncT) :
    resync c s = s := by
  unfold resync
  simp only [hh, ge_iff_le, Nat.not_le.mpr ht, decide_false, Bool.and_false, Bool.false_eq_true, if_false]

theorem con_judgeFresh (c x : Nat) (s : State) : (judgeFresh c s).con x = (s.setCon c { s.con c with fresh := freshNow s (s.con c) }).con x :=
  con_of_sni_eq (noteIf_sni ..) x

theorem freshNow_of_old {s : State} {v : Conn} {d : Nat} (ha : contentAge s v = some d) (hd : v.rxTmax ≤ d) : freshNow s v = false := by
  unfold freshNow
  simp only [ha, Nat.not_lt.mpr hd, decide_false, Bool.false_and]

/-! ### Network states (R298, R299) -/

theorem live_of_sys_eq {s t : State} (h : t.sys = s.sys) : t.live = s.live := by
  unfold State.live
  rw [h]

/-- Entering `SAFE` leaves the network interface but for the `READY` marks (R37), which stand in the register table. -/
theorem enterSafe_sni (code : Nat) (m : Bool) (s : State) : (enterSafe code m s).sni = s.sni := by
  unfold enterSafe
  simp only [State.setReg_sni]
  rw [repliedOnly_sni (abortAll_repliedOnly ..)]
  split
  · rw [repliedOnly_sni (clearReady_repliedOnly _), resealAfter_sni]
  · rw [resealAfter_sni]

theorem safeOn_sni (code : Nat) (m : Bool) (s : State) : (safeOn code m s).sni = s.sni := by
  unfold safeOn
  split
  case h_4 => rfl
  case h_5 => rfl
  all_goals exact enterSafe_sni code m s

theorem raiseS_sni (code obj val : Nat) (s : State) : (raiseS code obj val s).sni = s.sni :=
  (safeOn_sni ..).trans (noteAt_sni ..)

/-- Network A has entered `LOST`, which is recorded. -/
def lostA (s : State) : State := note 0x0907 0 0 { s with sni := { s.sni with netA := { s.sni.netA with lost := true, good := 0 } } }

theorem lostA_sys (s : State) : (lostA s).sys = s.sys := note_sys ..

theorem lostA_lost (s : State) : (lostA s).sni.netA.lost = true := by
  unfold lostA
  rw [note_sni]

theorem netLost_of_other_up {s : State} (hu : s.sni.netA.lost = false) (ho : s.sni.netB.lost = false) : netLost false s = lostA s := by
  unfold netLost
  simp only [Bool.false_eq_true, if_false, hu, ho]
  rfl

theorem netLost_of_other_lost {s : State} (hu : s.sni.netA.lost = false) (ho : s.sni.netB.lost = true) :
    netLost false s = raiseS 0x0909 0 0 (lostA s) := by
  unfold netLost
  simp only [Bool.false_eq_true, if_false, hu, ho, if_true]
  rfl

theorem exec_networkLost_of_failing {s : State} (hl : s.live = true) (hon : s.sni.netA.on = true)
    (hf : netFails (s.regF Reg.SNI_NETT 15 0) s.sni.netA s.sni.netB = true) : exec (.networkLost false) s = .next (netLost false s) := by
  change execNetworkLost false s = _
  unfold execNetworkLost
  simp only [Bool.false_eq_true, if_false, hl, hon, hf, Bool.and_self, if_true]

theorem exec_networkLost_of_standing {s : State}
    (h : s.sni.netA.on = false ∨ netFails (s.regF Reg.SNI_NETT 15 0) s.sni.netA s.sni.netB = false) :
    exec (.networkLost false) s = .next s := by
  change execNetworkLost false s = _
  unfold execNetworkLost
  rcases h with h | h <;> simp only [Bool.false_eq_true, if_false, h, Bool.and_false, Bool.false_and]

/-- Network A's loss; the second loss ends in `SAFE`. -/
theorem answers_networkLost {s : State} (hl : s.live = true) (hon : s.sni.netA.on = true) (hu : s.sni.netA.lost = false)
    (hf : netFails (s.regF Reg.SNI_NETT 15 0) s.sni.netA s.sni.netB = true) :
    Answers (.networkLost false) s (fun t => t.sni.netA.lost = true ∧ (s.sni.netB.lost = false → t.sys = s.sys)
      ∧ (s.sni.netB.lost = true → t.sys.state = .safe ∧ t.reg Reg.SYS_SAFE_CAUSE = 0x0909)) := by
  refine answers_of_exec (exec_networkLost_of_failing hl hon hf) ?_
  cases ho : s.sni.netB.lost with
  | false =>
    rw [netLost_of_other_up hu ho]
    exact ⟨lostA_lost s, fun _ => lostA_sys s, fun h => by cases h⟩
  | true =>
    have hlive : (lostA s).live = true := (live_of_sys_eq (lostA_sys s)).trans hl
    obtain ⟨hsafe, hcause, -, -, -⟩ := raiseS_enteredSafe 0x0909 0 0 (lostA s) hlive
    rw [netLost_of_other_lost hu ho]
    exact ⟨by rw [raiseS_sni, lostA_lost], fun h => (by cases h), fun _ => ⟨hsafe, hcause⟩⟩

theorem exec_networkRestored_of_early {s : State} (h : s.sni.netB.good < 1000) : exec (.networkRestored true) s = .next s := by
  change execNetworkRestored true s = _
  unfold execNetworkRestored
  rw [if_neg (by simpa using h)]

theorem exec_networkRestored_of_due {s : State} (hl : s.sni.netB.lost = true) (h : 1000 ≤ s.sni.netB.good) :
    exec (.networkRestored true) s =
      .next (note 0x0912 0 0 { s with sni := { s.sni with netB := { s.sni.netB with lost := false, good := 0 } } }) := by
  change execNetworkRestored true s = _
  unfold execNetworkRestored netRestored
  simp only [if_true, ge_iff_le, h, hl]

theorem exec_netsSilent_of_silent {s : State} (hl : s.live = true) (hon : s.sni.netA.on = true ∨ s.sni.netB.on = true)
    (hn : s.sni.silentNoted = false) (hq : s.regF Reg.SNI_NETT 15 0 < silence s) :
    exec .netsSilent s = .next (note 0x090A 0 0 { s with sni := { s.sni with silentNoted := true } }) := by
  have hon' : (s.sni.netA.on || s.sni.netB.on) = true := by simpa using hon
  change execNetsSilent s = _
  unfold execNetsSilent netsSilent
  simp only [hl, hon', hn, hq, decide_true, Bool.and_self, if_true, Bool.false_eq_true, if_false]

/-! ### A transmit slot (R124, R302) -/

theorem length_unsealed (bs : List Byte) : (unsealed bs).length = bs.length := by
  unfold unsealed
  simp only [List.length_append, List.length_take, List.length_map, List.length_drop]
  omega

/-- Outside the seal field the bytes of a slot stand as written. -/
theorem getElem?_unsealed (bs : List Byte) {i : Nat} (h : i < 28 ∨ 32 ≤ i) : (unsealed bs)[i]? = bs[i]? := by
  by_cases hl : i < bs.length
  · have hhead : (bs.take 28).length = min 28 bs.length := List.length_take
    have hseal : (((bs.drop 28).take 4).map fun _ => 0#8).length = min 4 (bs.length - 28) := by simp
    unfold unsealed
    rcases h with hbefore | hbehind
    · rw [List.append_assoc, List.getElem?_append_left (by omega), List.getElem?_take_of_lt hbefore]
    · rw [List.getElem?_append_right (by rw [List.length_append]; omega), List.getElem?_drop, List.length_append, hhead, hseal]
      congr 1
      omega
  · rw [List.getElem?_eq_none (by rw [length_unsealed]; omega), List.getElem?_eq_none (by omega)]

theorem slotReady_bytes (m c : Nat) (bs : List Byte) (s : State) {i : Nat} (hi : i < bs.length) (h : i < 28 ∨ 32 ≤ i) :
    (Tbl.get (slotReady m c bs s).sni.tx m)[i]? = bs[i]? := by
  unfold slotReady
  rw [State.setReg_sni, Tbl.get_set_same, getElem?_unsealed _ h, List.getElem?_append_left hi]

theorem slotReady_mark (m c : Nat) (bs : List Byte) (s : State) (hl : bs.length ≤ 320) (hc : c < 136) :
    (slotReady m c bs s).reg (Reg.SNI_TXC + 4 * m) = word (2 ^ 31 + bs.length * 2 ^ 16 + c * 256) := by
  unfold slotReady
  rw [State.reg_setReg_same, Nat.mod_eq_of_lt (by omega : bs.length < 512), Nat.mod_eq_of_lt (by omega : c < 256)]

theorem exec_sniTxcReady_of_P1 {s : State} {m c : Nat} {bs : List Byte} (h : s.sys.phase = 1) :
    exec (.sniTxcReady m c bs) s = .next (slotReady m c bs s) := by
  change execSniTxcReady m c bs s = _
  unfold execSniTxcReady
  rw [if_pos h]

theorem exec_sniTxcReady_of_not_P1 {s : State} {m c : Nat} {bs : List Byte} (h : s.sys.phase ≠ 1) :
    exec (.sniTxcReady m c bs) s = .next (note 0x0910 0 0 s) := by
  change execSniTxcReady m c bs s = _
  unfold execSniTxcReady
  rw [if_neg h]

theorem answers_sniLock {s : State} {w : Word} (h : bitAt w 0 = true) :
    Answers (.sniLock w) s (fun t => bitAt (t.reg Reg.SNI_LOCK) 0 = true ∧ t = { s with regs := t.regs }) := by
  refine answers_of_exec (t := s.setReg Reg.SNI_LOCK (s.reg Reg.SNI_LOCK ||| (w &&& 1#32))) rfl ⟨?_, rfl⟩
  rw [State.reg_setReg_same]
  exact bitAt_or_lockBit _ _ h

/-- Settles O48: what a datagram joins, the timers of a connection on both sides, the networks' states, and a slot's bytes and mark. -/
theorem safetyNetworks : Obligations.SafetyNetworks := by
  refine ⟨?datagrams, ?timers, ?networks, ?slots⟩
  case datagrams =>
    intro s pb ip dst sp dp arr bs h
    refine ⟨⟨_, rfl, datagramRx_of_not_plain h ..⟩, fun hc => ⟨_, rfl, datagramRx_of_undeclared h pb ip dst sp dp arr bs hc⟩, ?_⟩
    intro c hc hip hport hroom
    refine answers_of_exec (t := datagramRx pb true ip sp dst dp arr bs s) rfl ?_
    rw [datagramRx_of_declared h pb ip dst sp dp arr bs hc hip hport hroom]
    cases pb <;> exact ⟨rfl, rfl⟩
  case timers =>
    intro s c
    refine ⟨?expired, ?within, ?base, ?stale⟩
    case expired =>
      intro ho hw
      refine answers_of_exec (t := abExpire c s) rfl ?_
      rw [abExpire_of_elapsed ho hw, con_abResult_miss]
      exact ⟨rfl, (s.con c).missed_counts⟩
    case within =>
      intro hw
      exact ⟨abExpire c s, rfl, abExpire_of_within hw⟩
    case base =>
      intro h hh
      refine ⟨fun hb ht => answers_of_exec (t := resync c s) rfl ?_, fun ht => ⟨resync c s, rfl, resync_of_within hh ht⟩⟩
      rw [resync_of_elapsed hh hb ht, con_dropBase]
      exact ⟨rfl, rfl⟩
    case stale =>
      have hfresh : ((judgeFresh c s).con c).fresh = freshNow s (s.con c) := by rw [con_judgeFresh, State.con_setCon]
      refine ⟨judgeFresh c s, rfl, hfresh, ?_, ?_⟩
      · intro x hx
        rw [con_judgeFresh, con_setCon_ne _ _ hx.symm]
      · intro d ha hd
        rw [hfresh, freshNow_of_old ha hd]
  case networks =>
    intro s up
    refine ⟨⟨_, rfl, rfl, rfl⟩, ⟨_, rfl, rfl, rfl⟩, ⟨_, rfl, rfl, rfl⟩, answers_networkLost, ?standing, ?early, ?restored, ?silent⟩
    case standing =>
      intro h
      exact ⟨s, exec_networkLost_of_standing h, rfl⟩
    case early =>
      intro h
      exact ⟨s, exec_networkRestored_of_early h, rfl⟩
    case restored =>
      intro hl h
      refine answers_of_exec (exec_networkRestored_of_due hl h) ?_
      rw [note_sni]
      exact ⟨rfl, rfl⟩
    case silent =>
      intro hl hon hn hq
      refine answers_of_exec (exec_netsSilent_of_silent hl hon hn hq) ?_
      rw [note_sni, note_sys]
      exact ⟨rfl, rfl⟩
  case slots =>
    intro s m c bs w _
    refine ⟨?ready, fun h => ⟨_, exec_sniTxcReady_of_not_P1 h, rfl⟩, answers_sniLock⟩
    intro hp hl hc
    exact ⟨_, exec_sniTxcReady_of_P1 hp, fun i => slotReady_bytes m c bs s, slotReady_mark m c bs s hl hc⟩

end Sys2Proof.Machine
end

section
/-!
PROOF. The travel clock (R197, R198, R203, R210, R217): what each write leaves in its registers, and the loss of a tracked leaf.
-/
namespace Sys2Proof.Machine

/-! ### Slots (R203) -/

/-- A word, its result and its time written at three addresses: the word stands. -/
theorem reg_slotWords (s : State) {c r t : Nat} (w x y : Word) (hr : r ≠ c) (ht : t ≠ c) :
    (((s.setReg c w).setReg r x).setReg t y).reg c = w := by
  rw [State.reg_setReg_ne _ _ ht, State.reg_setReg_ne _ _ hr, State.reg_setReg_same]

/-- A leaf slot's write that is not refused leaves the configuration written. -/
theorem slotPut_reg_leafSlot {ok : Bool} {i : Nat} {w : Word} {s : State}
    (h : slotRefused false (slotConf false (w &&& 0xFCFFFFFF#32) (s.reg (Reg.PDS_SLOTA + 4 * i))) ok (leafTracked s (i / 2)) = false) :
    (slotPut ok false i w s).reg (Reg.PDS_SLOTC + 4 * i) = w &&& 0xFCFFFFFF#32 := by
  unfold slotPut
  simp only [Bool.false_eq_true, if_false, h]
  exact reg_slotWords _ _ _ _ (by unfold Reg.PDS_SLOTR Reg.PDS_SLOTC; omega) (by unfold Reg.PDS_SLOTT Reg.PDS_SLOTC; omega)

/-- A berth slot's write that is not refused leaves the configuration written. -/
theorem slotPut_reg_berthSlot {ok : Bool} {i : Nat} {w : Word} {s : State}
    (h : slotRefused true (slotConf true (w &&& 0xFCFFFFFF#32) (s.reg (Reg.PDS_BSLOTA + 4 * i))) ok true = false) :
    (slotPut ok true i w s).reg (Reg.PDS_BSLOTC + 4 * i) = w &&& 0xFCFFFFFF#32 := by
  have hany : slotRefused true (slotConf true (w &&& 0xFCFFFFFF#32) (s.reg (Reg.PDS_BSLOTA + 4 * i))) ok (leafTracked s (i / 2)) = false := h
  unfold slotPut
  simp only [if_true, hany, Bool.false_eq_true, if_false]
  exact reg_slotWords _ _ _ _ (by unfold Reg.PDS_BSLOTR Reg.PDS_BSLOTC; omega) (by unfold Reg.PDS_BSLOTT Reg.PDS_BSLOTC; omega)

/-- Outside P1 every slot's write is refused: it is recorded and changes nothing else. -/
theorem slotWrite_of_not_P1 {s : State} (h : s.sys.phase ≠ 1) (berth : Bool) (i : Nat) (w : Word) :
    slotWrite berth i w s = note 0x0607 (if berth then 2 else 3) (if berth then i / 4 else i / 2) s := by
  have hphase : (s.sys.phase == 1) = false := beq_false_of_ne h
  have hrefused (c : SlotConf) (tr : Bool) : slotRefused berth c false tr = true := rfl
  unfold slotWrite slotPut
  rw [hphase]
  simp only [hrefused, if_true]

/-! ### Lost leaves (R198) -/

theorem leaf_of_pds_eq {s t : State} (h : t.pds = s.pds) (l : Nat) : t.leaf l = s.leaf l := by
  unfold State.leaf
  rw [h]

theorem onSlot_pds (cB rB tB : Nat) (berth : Bool) (f : SlotConf → Word → Word → Word × Word) (s : State) (i : Nat) :
    (onSlot cB rB tB berth f s i).pds = s.pds := by
  unfold onSlot
  dsimp only
  split <;> rfl

theorem onLeafSlots_pds (l : Nat) (f : SlotConf → Word → Word → Word × Word) (s : State) : (onLeafSlots l f s).pds = s.pds := by
  unfold onLeafSlots
  simp only [List.foldl_cons, List.foldl_nil, onSlot_pds]

theorem raiseEdge_pds (e code obj val : Nat) (s : State) : (raiseEdge e code obj val s).pds = s.pds := note_pds ..

/-- A missing report's record leaves PDS_CONF. -/
theorem note_reportMissing_reg_conf (obj val : Nat) (s : State) : (note 0x0601 obj val s).reg Reg.PDS_CONF = s.reg Reg.PDS_CONF := by
  have hother : eventElsewhere 0x0601 0 Reg.PDS_CONF := by
    have hrow : ∀ r ∈ faultRow 0x0601, ∀ p ∈ r.event, p.1 = Reg.PDS_EVENT := by decide
    intro r hr p hp
    rw [hrow r hr p hp]
    decide
  exact noteAt_reg (Or.inl (by decide)) hother obj val s

/-- A leaf that misses one report more than COAST_MAX is lost. -/
theorem leaf_leafMissing_st_of_coastMax {l : Nat} {s : State} (hst : (s.leaf l).st = .valid ∨ (s.leaf l).st = .coast)
    (hm : (s.leaf l).miss = s.regF Reg.PDS_CONF 9 8) : ((leafMissing l s).leaf l).st = .lost := by
  have hmax : (note 0x0601 3 l s).regF Reg.PDS_CONF 9 8 = (s.leaf l).miss := by
    unfold State.regF at hm ⊢
    rw [note_reportMissing_reg_conf, hm]
  unfold leafMissing
  dsimp only
  rw [if_pos hst, hmax, if_pos (Nat.lt_succ_self _), leaf_of_pds_eq (raiseEdge_pds ..), leaf_of_pds_eq (onLeafSlots_pds ..),
    State.leaf_setLeaf]

theorem exec_leafLost_of_coastMax {s : State} {l : Nat} (ht : leafTracked s l = true)
    (hst : (s.leaf l).st = .valid ∨ (s.leaf l).st = .coast) (hm : (s.leaf l).miss = s.regF Reg.PDS_CONF 9 8) :
    exec (.leafLost l) s = .next (leafMissing l s) := by
  have hknown : ((s.leaf l).st == .valid || (s.leaf l).st == .coast) = true := by
    rcases hst with h | h <;> rw [h] <;> rfl
  change execLeafLost l s = _
  unfold execLeafLost
  dsimp only
  rw [ht, hknown, decide_eq_true hm, Bool.and_self, Bool.and_self, if_pos rfl]

theorem exec_leafLost_of_other_count {s : State} {l : Nat} (hm : (s.leaf l).miss ≠ s.regF Reg.PDS_CONF 9 8) :
    exec (.leafLost l) s = .next s := by
  change execLeafLost l s = _
  unfold execLeafLost
  dsimp only
  rw [decide_eq_false hm, Bool.and_false, if_neg (by decide)]

/-! ### The configuration lock (R217) -/

/-- The lock bit is set by a write of it, and stands once it is set. -/
theorem bitAt_or_lockBit_of_either (v w : Word) (h : bitAt w 0 = true ∨ bitAt v 0 = true) : bitAt (v ||| (w &&& 1#32)) 0 = true := by
  rcases h with hwrite | hstood
  · exact bitAt_or_lockBit v w hwrite
  · unfold bitAt at hstood ⊢
    rw [BitVec.getLsbD_or, hstood, Bool.true_or]

/-- Settles O42: the registers after each write of the travel clock, the writes refused outside P1, and the loss of a tracked leaf. -/
theorem travelClock : Obligations.TravelClock := by
  refine ⟨?track, ?leafSlot, ?berthSlot, ?berthSource, ?lock, ?lost⟩
  case track =>
    intro s m w _
    exact ⟨trackWrite m w s, rfl, State.reg_setReg_same ..⟩
  case leafSlot =>
    intro s i w _
    exact ⟨fun h => ⟨slotWrite false i w s, rfl, slotPut_reg_leafSlot h⟩, fun h => ⟨slotWrite false i w s, rfl, slotWrite_of_not_P1 h false i w⟩⟩
  case berthSlot =>
    intro s i w _
    exact ⟨fun h => ⟨slotWrite true i w s, rfl, slotPut_reg_berthSlot h⟩, fun h => ⟨slotWrite true i w s, rfl, slotWrite_of_not_P1 h true i w⟩⟩
  case berthSource =>
    intro s e w _
    exact ⟨_, rfl, rfl⟩
  case lock =>
    intro s w
    refine ⟨s.setReg Reg.PDS_CONF_LOCK (s.reg Reg.PDS_CONF_LOCK ||| (w &&& 1#32)), rfl, rfl, fun h => ?_⟩
    rw [State.reg_setReg_same]
    exact bitAt_or_lockBit_of_either _ _ h
  case lost =>
    intro s l ht hst
    exact ⟨fun hm => ⟨_, exec_leafLost_of_coastMax ht hst hm, leaf_leafMissing_st_of_coastMax hst hm⟩,
      fun hm => ⟨s, exec_leafLost_of_other_count hm, rfl⟩⟩

end Sys2Proof.Machine
end

section
/-!
PROOF. The door bus channel as it receives (R196, R248, R260, R265, R266, R268): what a good reception changes, references, reports and
foreign frames.
-/
namespace Sys2Proof.Machine

/-! ### A frame received well (R274) -/

/-- From `s` to `t` channel `b` has received a frame well: its error state and its error counters may have changed, and the model's free
values. -/
structure ReceivedWell (b : Nat) (s t : State) : Prop where
  frame : t = { s with dbc := t.dbc, regs := t.regs, freeCtr := t.freeCtr }
  bus : ∃ e, t.bus b = { s.bus b with err := e }
  reg : ∀ a, a ≠ busReg Reg.DBC_ERR b → t.reg a = s.reg a

/-- REC with a new value. -/
def recCounted (b v c : Nat) (s : State) : State := { s with freeCtr := c }.setRegF (busReg Reg.DBC_ERR b) 31 24 v

theorem errorActive_cases (b : Nat) (s : State) : errorActive b s = s ∨ errorActive b s = updBus b (fun d => { d with err := 0 }) s := by
  unfold errorActive
  split
  · exact Or.inr rfl
  · exact Or.inl rfl

theorem rxGood_cases (b : Nat) (s : State) : rxGood b s = s ∨ ∃ v c, rxGood b s = errorActive b (recCounted b v c s) := by
  unfold rxGood
  dsimp only
  split
  · exact Or.inl rfl
  · split
    · exact Or.inr ⟨_, _, rfl⟩
    · exact Or.inr ⟨_, s.freeCtr, rfl⟩

theorem reg_recCounted (b v c : Nat) (s : State) {a : Nat} (h : a ≠ busReg Reg.DBC_ERR b) : (recCounted b v c s).reg a = s.reg a :=
  State.reg_setReg_ne { s with freeCtr := c } _ h.symm

theorem rxGood_receivedWell (b : Nat) (s : State) : ReceivedWell b s (rxGood b s) := by
  rcases rxGood_cases b s with h | ⟨v, c, h⟩
  · rw [h]
    exact ⟨rfl, ⟨_, rfl⟩, fun _ _ => rfl⟩
  · rw [h]
    rcases errorActive_cases b (recCounted b v c s) with hstays | hactive
    · rw [hstays]
      exact ⟨rfl, ⟨_, rfl⟩, fun _ => reg_recCounted b v c s⟩
    · rw [hactive]
      exact ⟨rfl, ⟨0, bus_updBus_same ..⟩, fun _ => reg_recCounted b v c s⟩

theorem rxGood_sys (b : Nat) (s : State) : (rxGood b s).sys = s.sys := by rw [(rxGood_receivedWell b s).frame]

/-- A good reception leaves the units' windows. -/
theorem uwin_rxGood (b u : Nat) (s : State) : uwin (rxGood b s) b u = uwin s b u :=
  (rxGood_receivedWell b s).reg _ (by unfold busReg Reg.DBC_UWIN Reg.DBC_ERR; omega)

theorem fast_rxGood (b : Nat) (s : State) : fast (rxGood b s) b = fast s b := by
  have h := (rxGood_receivedWell b s).reg (busReg Reg.DBC_CONF b) (by unfold busReg Reg.DBC_CONF Reg.DBC_ERR; omega)
  unfold fast State.regB
  rw [h]

theorem sofVcn_rxGood (b u sof : Nat) (s : State) : sofVcn (rxGood b s) b u sof = sofVcn s b u sof := by
  unfold sofVcn
  rw [rxGood_sys, fast_rxGood, uwin_rxGood]

theorem inWindow_rxGood (b u sof : Nat) (s : State) : inWindow (rxGood b s) b u sof = inWindow s b u sof := by
  unfold inWindow
  rw [uwin_rxGood, sofVcn_rxGood]

theorem reportOf_rxGood (v : Word) (b u : Nat) (bs : List Byte) (s : State) : reportOf (rxGood b s) v b u bs = reportOf s v b u bs := by
  unfold reportOf
  rw [uwin_rxGood]

/-! ### References (R256, R257, R268) -/

theorem Dbc.hears_of_state {d : Dbc} (hoff : d.st ≠ .off) (hsleep : d.st ≠ .sleep) (herr : d.err ≠ 2) : d.hears = true := by
  unfold Dbc.hears
  rw [Bool.and_eq_true, Bool.and_eq_true, bne_iff_ne, bne_iff_ne, bne_iff_ne]
  exact ⟨⟨hoff, hsleep⟩, herr⟩

theorem validRef_fdFrame {vcn : Word} {b id : Nat} {bs : List Byte} (hl : bs.length = 12) (hc : scrcOk b id bs = true)
    (ha : aliveOk vcn bs = true) (hid : id = 0x10 ∨ id = 0x11) : validRef vcn b (fdFrame id bs) = true := by
  unfold validRef fdFrame
  dsimp only
  rw [hc, ha, beq_iff_eq.2 hl]
  rcases hid with rfl | rfl <;> rfl

/-- A reference received well and counted in DBC_REF. -/
def refCounted (b : Nat) (s : State) : State :=
  (rxGood b s).setRegF (busReg Reg.DBC_REF b) 31 16 ((rxGood b s).regF (busReg Reg.DBC_REF b) 31 16 + 1)

theorem refCounted_sys (b : Nat) (s : State) : (refCounted b s).sys = s.sys := rxGood_sys b s

theorem st_refCounted (b : Nat) (s : State) : ((refCounted b s).bus b).st = (s.bus b).st := by
  obtain ⟨e, he⟩ := (rxGood_receivedWell b s).bus
  unfold refCounted
  rw [bus_setRegF, he]

/-- A cancelled frame is not pending any more. -/
theorem cancelFrame_ne_pending (flying : Bool) (t : TxSt) : cancelFrame flying t ≠ .pending := by
  unfold cancelFrame
  split
  · cases flying <;> decide
  · assumption

/-- A channel that listens, or a `BACKUP`, synchronised to a reference, with its SLEEP_NEXT observed by a `BACKUP` (R277). -/
def Dbc.synced (vcn : Word) (ofs : Nat) (bs : List Byte) (d : Dbc) : Dbc :=
  { d.sync vcn ofs bs with sleepNext := d.sleepNext || ((bs[1]?.getD 0).getLsbD 5 && d.st == .backup) }

/-- A channel in `SAFE_TX` that has heard a reference of another: its frames are cancelled and it listens only. -/
def Dbc.silenced (vcn : Word) (ofs : Nat) (bs : List Byte) (d : Dbc) : Dbc := { d.cancel.sync vcn ofs bs with st := .silent }

theorem Dbc.silenced_frames_ne_pending (vcn : Word) (ofs : Nat) (bs : List Byte) (d : Dbc) :
    (d.silenced vcn ofs bs).txOrd ≠ .pending ∧ (d.silenced vcn ofs bs).txCmd ≠ .pending :=
  ⟨cancelFrame_ne_pending (d.fly == some .order) d.txOrd, cancelFrame_ne_pending (d.fly == some .command) d.txCmd⟩

/-- A `MASTER` that has observed a reference of another. -/
def Dbc.overheard (bs : List Byte) (d : Dbc) : Dbc := { d with refOther := true, sinceRef := some 0, bc := (bs[0]?.getD 0).toNat % 8 }

section
variable {s : State} {b ofs : Nat} {f : Frame} (hv : validRef s.sys.vcn b f = true) (hears : (s.bus b).hears = true)
include hv hears

theorem refRx_of_listening (hst : (s.bus b).st = .listen ∨ (s.bus b).st = .backup) :
    refRx b ofs f s = updBus b (Dbc.synced s.sys.vcn ofs f.bytes) (refCounted b s) := by
  unfold refRx
  simp only [hears, State.setRegF_sys, rxGood_sys, hv, Bool.not_true, Bool.false_eq_true, if_false]
  rcases hst with h | h <;> rw [h] <;> rfl

theorem refRx_of_safeTx (hst : (s.bus b).st = .safeTx) :
    refRx b ofs f s = updBus b (Dbc.silenced s.sys.vcn ofs f.bytes) (refCounted b s) := by
  unfold refRx
  simp only [hears, State.setRegF_sys, rxGood_sys, hv, Bool.not_true, Bool.false_eq_true, if_false]
  rw [hst]
  rfl

/-- A `MASTER` that observes a normal reference of another raises the conflict. -/
theorem refRx_of_master_normal (hst : (s.bus b).st = .master) (hid : f.id = 0x10) :
    refRx b ofs f s = raiseSAt (0x1000 * b) 0x080B 13 b (updBus b (Dbc.overheard f.bytes) (refCounted b s)) := by
  unfold refRx
  simp only [hears, rxGood_sys, hv, Bool.not_true, Bool.false_eq_true, if_false]
  rw [hst]
  exact if_pos hid

end

/-! ### Reports (R260, R265, R266) -/

theorem updBus_frame (b : Nat) (g : Dbc → Dbc) (s : State) : updBus b g s = { s with dbc := (updBus b g s).dbc } := rfl

/-- A channel with a unit's report in its buffer. -/
def Dbc.buffered (u : Nat) (r : UnitRep) (d : Dbc) : Dbc := { d with buf := Tbl.set d.buf u r }

theorem Dbc.buf_buffered (u : Nat) (r : UnitRep) (d : Dbc) : (d.buffered u r).buf = Tbl.set d.buf u r := rfl

section
variable {s : State} {b u sof : Nat} {bs : List Byte} (hears : (s.bus b).hears = true)
include hears

/-- A report of a declared unit in its window whose code is right joins the buffer. -/
theorem reportRx_of_taken (hd : uwDecl (uwin s b u) = true) (hi : ofLe ((bs.drop 10).take 2) = uwIdent (uwin s b u))
    (hw : inWindow s b u sof = true) (hc : (reportOf s (sofVcn s b u sof) b u bs).codeOk = true) :
    reportRx b u sof bs s =
      updBus b (Dbc.buffered u (reportOf s (sofVcn s b u sof) b u bs)) (rxGood b s) := by
  unfold reportRx
  simp only [hears, hd, hi, inWindow_rxGood, hw, sofVcn_rxGood, reportOf_rxGood, hc, Bool.not_true, Bool.false_eq_true, if_false,
    ne_eq, not_true_eq_false, if_true]
  rfl

theorem reportRx_of_undeclared (hd : uwDecl (uwin s b u) = false) :
    reportRx b u sof bs s = noteBus b 0x0809 (countFd b (rxGood b s)) := by
  unfold reportRx
  simp only [hears, hd, Bool.not_true, Bool.not_false, Bool.false_eq_true, if_false, if_true]

end

/-! ### Foreign frames (R266) -/

theorem foreignRx_of_deaf {s : State} {b : Nat} (h : (s.bus b).hears = false) (id sof : Nat) (fd : Bool) : foreignRx b id sof fd s = s := by
  unfold foreignRx
  simp only [h, Bool.not_false, if_true]

theorem foreignRx_of_other_format {s : State} {b : Nat} (h : (s.bus b).hears = true) (id sof : Nat) :
    foreignRx b id sof false s = countOther b (rxGood b s) := by
  unfold foreignRx
  simp only [h, Bool.not_true, Bool.not_false, Bool.false_eq_true, if_false, if_true]

/-- A `MASTER` records another's door command frame. -/
theorem foreignRx_of_own_command {s : State} {b : Nat} (h : (s.bus b).hears = true) (hm : (s.bus b).st = .master) (sof : Nat) :
    foreignRx b 0x20 sof true s = noteBus b 0x0809 (countFd b (rxGood b s)) := by
  unfold foreignRx
  simp only [h, hm, Bool.not_true, Bool.false_eq_true, if_false, true_or, if_true]

/-- Settles O46: a valid reference by the channel's state, a report by its unit's declaration, a foreign frame by what the channel hears. -/
theorem doorBusReceives : Obligations.DoorBusReceives := by
  refine ⟨?references, ?reports, ?foreign⟩
  case references =>
    intro s b ofs id bs hl hc ha hid herr
    have hv : validRef s.sys.vcn b (fdFrame id bs) = true := validRef_fdFrame hl hc ha hid
    refine ⟨?listening, ?safeTx, ?master⟩
    case listening =>
      intro hst
      have hears : (s.bus b).hears = true :=
        Dbc.hears_of_state (by rcases hst with h | h <;> rw [h] <;> decide) (by rcases hst with h | h <;> rw [h] <;> decide) herr
      refine answers_of_exec (t := refRx b ofs (fdFrame id bs) s) rfl ?_
      rw [refRx_of_listening hv hears hst, bus_updBus_same]
      exact ⟨rfl, rfl, st_refCounted b s⟩
    case safeTx =>
      intro hst
      have hears : (s.bus b).hears = true := Dbc.hears_of_state (by rw [hst]; decide) (by rw [hst]; decide) herr
      refine answers_of_exec (t := refRx b ofs (fdFrame id bs) s) rfl ?_
      rw [refRx_of_safeTx hv hears hst, bus_updBus_same]
      exact ⟨rfl, Dbc.silenced_frames_ne_pending ..⟩
    case master =>
      intro hst hnormal hlive
      have hears : (s.bus b).hears = true := Dbc.hears_of_state (by rw [hst]; decide) (by rw [hst]; decide) herr
      have hlive' : (updBus b (Dbc.overheard bs) (refCounted b s)).live = true := (live_of_sys_eq (refCounted_sys b s)).trans hlive
      obtain ⟨hsafe, hcause, -, -, -⟩ := raiseSAt_enteredSafe (0x1000 * b) 0x080B 13 b _ hlive'
      refine answers_of_exec (t := refRx b ofs (fdFrame id bs) s) rfl ?_
      rw [refRx_of_master_normal hv hears hst hnormal]
      exact ⟨hsafe, hcause⟩
  case reports =>
    intro s b u sof bs hears
    refine ⟨?taken, ?undeclared⟩
    case taken =>
      intro hd hi hw hc
      have hgood := rxGood_receivedWell b s
      obtain ⟨e, he⟩ := hgood.bus
      have hbuf : ((rxGood b s).bus b).buf = (s.bus b).buf := by rw [he]
      refine answers_of_exec (t := reportRx b u sof bs s) rfl ?_
      rw [reportRx_of_taken hears hd hi hw hc, bus_updBus_same, Dbc.buf_buffered, hbuf]
      refine ⟨Tbl.get_set_same .., fun x hx => Tbl.get_set_ne _ _ hx.symm, ?_⟩
      rw [updBus_frame, hgood.frame]
    case undeclared =>
      intro hd
      refine answers_of_exec (t := reportRx b u sof bs s) rfl ?_
      rw [reportRx_of_undeclared hears hd]
      exact ⟨rfl, noteAt_dbc ..⟩
  case foreign =>
    intro s b id sof
    exact ⟨fun h fd => ⟨_, rfl, foreignRx_of_deaf h id sof fd⟩, fun h => ⟨_, rfl, foreignRx_of_other_format h id sof⟩,
      fun h hm => ⟨_, rfl, foreignRx_of_own_command h hm sof⟩⟩

end Sys2Proof.Machine
end

section
/-!
PROOF. Edge and leaf commands (R225, R230, R240, R247, R508): what a write leaves for the step, where it is recorded instead, the lock, and
the end of a correspondence.
-/
namespace Sys2Proof.Machine

/-! ### Commands of an edge (R508) -/

@[simp] theorem edge_updEdge_same (e : Nat) (f : DEdge → DEdge) (s : State) : (updEdge e f s).edge e = f (s.edge e) := State.edge_setEdge ..

theorem edge_setEdge_ne (s : State) {e x : Nat} (d : DEdge) (h : e ≠ x) : (s.setEdge e d).edge x = s.edge x := Tbl.get_set_ne _ _ h

/-- `t` is `s` with a command word for an edge in place of an earlier one. -/
def commandLeft (e : Nat) (w : Word) (s t : State) : Prop :=
  t.edge e = { s.edge e with ecmd := w } ∧ (∀ x, x ≠ e → t.edge x = s.edge x) ∧ t = { s with dsu := t.dsu }

theorem ecmdWrite_of_P1 {s : State} (h : s.sys.phase = 1) (e : Nat) (w : Word) : commandLeft e w s (ecmdWrite e w s) := by
  unfold ecmdWrite
  rw [if_pos h]
  exact ⟨edge_updEdge_same .., fun x hx => edge_setEdge_ne s _ hx.symm, rfl⟩

theorem ecmdWrite_of_not_P1 {s : State} (h : s.sys.phase ≠ 1) (e : Nat) (w : Word) :
    ecmdWrite e w s = note 0x0711 2 e s ∧ recordedOnly s (ecmdWrite e w s) := by
  unfold ecmdWrite
  rw [if_neg h]
  exact ⟨rfl, note_recordedOnly ..⟩

/-! ### Commands of a leaf (R240) -/

theorem lcmdWrite_of_room {s : State} (hp : s.sys.phase = 1) (hn : s.dsu.lcmds.length < 16) (cmd l : Nat) :
    lcmdWrite cmd l s = { s with dsu := { s.dsu with lcmds := s.dsu.lcmds ++ [word (cmd % 16 * 2 ^ 28 + l % 256)] } } := by
  unfold lcmdWrite
  rw [if_pos ⟨hp, hn⟩]

theorem lcmdWrite_of_no_room {s : State} (h : s.sys.phase ≠ 1 ∨ 16 ≤ s.dsu.lcmds.length) (cmd l : Nat) : lcmdWrite cmd l s = note 0x0711 3 l s := by
  unfold lcmdWrite
  rw [if_neg (by omega)]

/-! ### The correspondence of an edge (R225) -/

/-- 5,000 VC after the last TRAIN_DOORS the correspondence is not valid, and no other register has changed. -/
theorem corrTurn_of_elapsed {s : State} {e : Nat} (h : 5000 ≤ since s.sys.vcn (s.edge e).corrVcn) :
    (corrTurn s e).regB (Reg.DSU_CORR + 4 * e) 31 = false ∧ ∀ a, a ≠ Reg.DSU_CORR + 4 * e → (corrTurn s e).reg a = s.reg a := by
  have helapsed : elapsed s (s.edge e).corrVcn 5000 = true := decide_eq_true h
  unfold corrTurn
  rw [helapsed, Bool.and_true]
  cases hvalid : s.regB (Reg.DSU_CORR + 4 * e) 31 with
  | true => exact ⟨regB_setRegB_same _ _ _ _ (by decide), fun a ha => State.reg_setReg_ne _ _ ha.symm⟩
  | false => exact ⟨hvalid, fun _ _ => rfl⟩

theorem corrTurn_of_within {s : State} {e : Nat} (h : since s.sys.vcn (s.edge e).corrVcn < 5000) : corrTurn s e = s := by
  have helapsed : elapsed s (s.edge e).corrVcn 5000 = false := decide_eq_false (Nat.not_le.2 h)
  unfold corrTurn
  rw [helapsed, Bool.and_false, if_neg Bool.false_ne_true]

/-- Settles O43: each row's write by the phase, the leaf commands by the room of the VC, the lock, and the correspondence on both sides of
its time. -/
theorem edgeAndLeafCommands : Obligations.EdgeAndLeafCommands := by
  refine ⟨?edges, ?leaves, ?leavesRefused, ?others⟩
  case edges =>
    intro s e ses code _
    refine ⟨fun hp => ?_, fun hp => ?_⟩
    · have left (w : Word) : commandLeft e w s (ecmdWrite e w s) := ecmdWrite_of_P1 hp e w
      exact ⟨⟨_, rfl, left _⟩, ⟨_, rfl, left _⟩, ⟨_, rfl, left _⟩, ⟨_, rfl, left _⟩, ⟨_, rfl, left _⟩, ⟨_, rfl, left _⟩,
        ⟨_, rfl, left _⟩, ⟨_, rfl, left _⟩⟩
    · have refused (w : Word) : ecmdWrite e w s = note 0x0711 2 e s ∧ recordedOnly s (ecmdWrite e w s) := ecmdWrite_of_not_P1 hp e w
      exact ⟨⟨_, rfl, refused _⟩, ⟨_, rfl, refused _⟩, ⟨_, rfl, refused _⟩, ⟨_, rfl, refused _⟩, ⟨_, rfl, refused _⟩, ⟨_, rfl, refused _⟩,
        ⟨_, rfl, refused _⟩, ⟨_, rfl, refused _⟩⟩
  case leaves =>
    intro s l hp hn
    exact ⟨⟨_, rfl, lcmdWrite_of_room hp hn 1 l⟩, ⟨_, rfl, lcmdWrite_of_room hp hn 2 l⟩⟩
  case leavesRefused =>
    intro s l h
    exact ⟨⟨_, rfl, lcmdWrite_of_no_room h 1 l⟩, ⟨_, rfl, lcmdWrite_of_no_room h 2 l⟩⟩
  case others =>
    intro s w e _
    refine ⟨⟨_, rfl, rfl, fun h => ?_⟩, fun h => ⟨_, rfl, corrTurn_of_elapsed h⟩, fun h => ⟨_, rfl, corrTurn_of_within h⟩⟩
    rw [State.reg_setReg_same]
    exact bitAt_or_lockBit_of_either _ _ h

end Sys2Proof.Machine
end

section
/-!
PROOF. What door supervision leaves as its machines move (R226, R229, R230, R231, R244): the entry of a leaf into a state changes that leaf's
machine alone, and nothing within a step takes GO back.
-/
namespace Sys2Proof.Machine

/-- A fold over steps that each leave a part of the state leaves it. -/
theorem foldl_keeps {α β γ : Type} (g : α → γ) (f : α → β → α) (h : ∀ a b, g (f a b) = g a) (l : List β) (a : α) : g (l.foldl f a) = g a := by
  induction l generalizing a with
  | nil => rfl
  | cons b l ih => rw [List.foldl_cons, ih, h]

/-! ### What the updates of the supervision leave in it -/

@[simp] theorem setEdge_dsu (s : State) (e : Nat) (d : DEdge) : (s.setEdge e d).dsu = { s.dsu with edge := Tbl.set s.dsu.edge e d } := rfl
@[simp] theorem setDleaf_dsu (s : State) (l : Nat) (d : DLeaf) : (s.setDleaf l d).dsu = { s.dsu with leaf := Tbl.set s.dsu.leaf l d } := rfl
@[simp] theorem updLeaf_dsu (l : Nat) (f : DLeaf → DLeaf) (s : State) :
    (updLeaf l f s).dsu = { s.dsu with leaf := Tbl.set s.dsu.leaf l (f (s.dleaf l)) } := rfl
@[simp] theorem updEdge_dsu (e : Nat) (f : DEdge → DEdge) (s : State) :
    (updEdge e f s).dsu = { s.dsu with edge := Tbl.set s.dsu.edge e (f (s.edge e)) } := rfl
@[simp] theorem doorEvent_dsu (v : DoorEvent) (s : State) : (doorEvent v s).dsu = { s.dsu with events := s.dsu.events ++ [v] } := rfl
@[simp] theorem setStoAtOnce_dsu (u : Nat) (b : Bool) (s : State) :
    (setStoAtOnce u b s).dsu = { s.dsu with unit := Tbl.set s.dsu.unit u { s.dunit u with stoAtOnce := b } } := rfl
@[simp] theorem localSafeEdge_dsu (e code : Nat) (s : State) :
    (localSafeEdge e code s).dsu = { s.dsu with edge := Tbl.set s.dsu.edge e { s.edge e with localReq := some ((s.edge e).localReq.getD code) } } := rfl
@[simp] theorem busCancel_dsu (b : Nat) (s : State) : (busCancel b s).dsu = s.dsu := rfl
@[simp] theorem obsCount_dsu (i n : Nat) (s : State) : (obsCount i n s).dsu = s.dsu := rfl
@[simp] theorem recordLater_dsu (ty : Nat) (body : List Byte) (s : State) : (recordLater ty body s).dsu = s.dsu := rfl

/-! ### The travel clock's slots and tracking leave the supervision (R197, R227) -/

@[simp] theorem onSlot_dsu (cB rB tB : Nat) (berth : Bool) (f : SlotConf → Word → Word → Word × Word) (s : State) (i : Nat) :
    (onSlot cB rB tB berth f s i).dsu = s.dsu := by
  unfold onSlot
  dsimp only
  split <;> rfl

@[simp] theorem onLeafSlots_dsu (l : Nat) (f : SlotConf → Word → Word → Word × Word) (s : State) : (onLeafSlots l f s).dsu = s.dsu :=
  foldl_keeps State.dsu _ (fun _ _ => onSlot_dsu ..) _ _

@[simp] theorem trackWrite_dsu (m : Nat) (w : Word) (s : State) : (trackWrite m w s).dsu = s.dsu := by
  unfold trackWrite
  dsimp only
  rw [State.setReg_dsu, foldl_keeps State.dsu _ fun _ _ => onLeafSlots_dsu ..]
  split
  · rfl
  · exact foldl_keeps State.dsu _ (fun _ _ => note_dsu ..) _ _

@[simp] theorem setTracked_dsu (l : Nat) (b : Bool) (s : State) : (setTracked l b s).dsu = s.dsu := trackWrite_dsu ..

@[simp] theorem slotPut_dsu (ok berth : Bool) (i : Nat) (w : Word) (s : State) : (slotPut ok berth i w s).dsu = s.dsu := by
  cases berth
  all_goals
    unfold slotPut
    simp only [Bool.false_eq_true, if_false, if_true]
    split
    · exact note_dsu ..
    · rw [State.setReg_dsu, State.setReg_dsu, State.setReg_dsu]
      split <;> rfl

@[simp] theorem dsuSlot_dsu (i : Nat) (w : Word) (arg : Nat) (s : State) : (dsuSlot i w arg s).dsu = s.dsu := by
  unfold dsuSlot
  split
  · exact (slotPut_dsu ..).trans (State.setReg_dsu ..)
  · rfl

@[simp] theorem armFor_dsu (l : Nat) (st : LeafSt) (creep dirOpen : Bool) (s : State) : (armFor l st creep dirOpen s).dsu = s.dsu := by
  cases st
  case closing => cases creep <;> simp [armFor]
  all_goals simp [armFor]

@[simp] theorem logCycle_dsu (l endState : Nat) (s : State) : (logCycle l endState s).dsu = s.dsu := by
  unfold logCycle
  dsimp only
  split <;> rfl

/-! ### The entry of a leaf into a state (R226) -/

/-- A leaf's machine as it enters a state. -/
def DLeaf.entered (st : LeafSt) (vcn : Word) (d : DLeaf) : DLeaf :=
  logEntry st vcn { d with
    st := st, timer := 0, lockT := 0, unitSs := false, limit := 0, moved := d.moved || st == .stopping || st == .torqueOff || st == .fault }

theorem DLeaf.entered_st (st : LeafSt) (vcn : Word) (d : DLeaf) : (d.entered st vcn).st = st := by
  cases st <;> rfl

@[simp] theorem enterLeaf_dsu (l : Nat) (st : LeafSt) (s : State) :
    (enterLeaf l st s).dsu = { s.dsu with leaf := Tbl.set s.dsu.leaf l ((s.dleaf l).entered st s.sys.vcn) } := by
  unfold enterLeaf
  exact armFor_dsu ..

theorem dleaf_enterLeaf_same (l : Nat) (st : LeafSt) (s : State) : ((enterLeaf l st s).dleaf l).st = st := by
  rw [State.dleaf, enterLeaf_dsu, Tbl.get_set_same, DLeaf.entered_st]

theorem dleaf_enterLeaf_ne {l x : Nat} (h : x ≠ l) (st : LeafSt) (s : State) : (enterLeaf x st s).dleaf l = s.dleaf l := by
  rw [State.dleaf, enterLeaf_dsu, Tbl.get_set_ne _ _ h, State.dleaf]

theorem edge_enterLeaf (l : Nat) (st : LeafSt) (s : State) (e : Nat) : (enterLeaf l st s).edge e = s.edge e := by
  rw [State.edge, enterLeaf_dsu, State.edge]

/-! ### An edge in `LOCAL_SAFE`, and its release (R230, R239) -/

/-- What the entry of an edge into `LOCAL_SAFE` does to a leaf: one that is not at rest or faulty loses its torque. -/
def torqueRemoved (s : State) (l : Nat) : State :=
  match (s.dleaf l).st with
  | .closedLocked | .isolated | .fault => s
  | _ => enterLeaf l .torqueOff s

/-- An edge as it enters `LOCAL_SAFE` with a cause. -/
def DEdge.toLocalSafe (code : Nat) (d : DEdge) : DEdge := { d with
  st := .localSafe, ss := false, restoring := false, newCause := true, wdPend := false, clk := false, tDoe := false, tSto := false
  pcount := 0, cause := code, closeT := none, openSet := 0 }

theorem torqueRemoved_cases (s : State) (l : Nat) : torqueRemoved s l = s ∨ torqueRemoved s l = enterLeaf l .torqueOff s := by
  unfold torqueRemoved
  split
  case h_4 => exact Or.inr rfl
  all_goals exact Or.inl rfl

theorem enterLocal_of_entering {s : State} {e : Nat} (h : (s.edge e).st ≠ .localSafe) (code : Nat) :
    (enterLocal e code s).dsu = (doorEvent (.stopped e code)
      ((edgeLeaves (updEdge e (DEdge.toLocalSafe code) s) e).foldl torqueRemoved (updEdge e (DEdge.toLocalSafe code) s))).dsu := by
  unfold enterLocal
  rw [if_neg h]
  rfl

/-- What a release does to a leaf: one without torque or with a fault is restored. -/
def leafReleased (s : State) (l : Nat) : State :=
  match (s.dleaf l).st with
  | .torqueOff | .fault => leafRestore l s
  | _ => s

theorem restorationRelease_of_abandoned {s : State} {e : Nat} (h : ((s.edge e).newCause || evTrip s e || !evSA s e) = true) :
    restorationRelease e s =
      doorEvent (.restoreRefused e) (note 0x0715 2 e (updEdge e (fun d => { d with restoring := false, newCause := false }) s)) := by
  unfold restorationRelease
  dsimp only
  rw [h, if_pos rfl]
  rfl

/-- An edge whose restoration is released closes (R239). -/
def DEdge.released (d : DEdge) : DEdge := { d with st := .closing, pcount := 0, cause := 0, closeT := none, wdPend := false }

theorem restorationRelease_of_released {s : State} {e : Nat} (h : ((s.edge e).newCause || evTrip s e || !evSA s e) = false) :
    restorationRelease e s =
      ((edgeLeaves (updEdge e DEdge.released s) e).filter fun l => !((updEdge e DEdge.released s).dleaf l).moved).foldl leafReleased
        (updEdge e DEdge.released s) := by
  unfold restorationRelease
  dsimp only
  rw [h, if_neg Bool.false_ne_true]
  rfl

/-! ### GO stands through a step (R231, R244) -/

@[simp] theorem ite_go (c : Prop) [Decidable c] (a b : State) : (if c then a else b).dsu.go = if c then a.dsu.go else b.dsu.go := by
  split <;> rfl

@[simp] theorem foldl_go {β : Type} (l : List β) (f : State → β → State) (s : State) (h : ∀ s b, (f s b).dsu.go = s.dsu.go) :
    (l.foldl f s).dsu.go = s.dsu.go := foldl_keeps (fun u => u.dsu.go) f h l s

@[simp] theorem logReport_go (s : State) (l : Nat) : (logReport s l).dsu.go = s.dsu.go := by
  unfold logReport
  simp

@[simp] theorem abortCycle_go (l endState : Nat) (s : State) : (abortCycle l endState s).dsu.go = s.dsu.go := by
  unfold abortCycle
  simp

theorem torqueRemoved_go (s : State) (l : Nat) : (torqueRemoved s l).dsu.go = s.dsu.go := by
  rcases torqueRemoved_cases s l with h | h <;> rw [h]
  simp

@[simp] theorem enterLocal_go (e code : Nat) (s : State) : (enterLocal e code s).dsu.go = s.dsu.go := by
  by_cases h : (s.edge e).st = .localSafe
  · unfold enterLocal
    rw [if_pos h]
    rfl
  · rw [enterLocal_of_entering h, doorEvent_dsu]
    exact foldl_go _ _ _ torqueRemoved_go

@[simp] theorem localCause_go (e code obj val : Nat) (s : State) : (localCause e code obj val s).dsu.go = s.dsu.go := by
  unfold localCause
  simp

@[simp] theorem startLeaf_go (s : State) (l : Nat) : (startLeaf s l).dsu.go = s.dsu.go := by
  unfold startLeaf
  simp

@[simp] theorem plunger_go (s : State) (e : Nat) : (plunger s e).dsu.go = s.dsu.go := by
  unfold plunger
  simp

@[simp] theorem stoInput_go (s : State) (u : Nat) : (stoInput s u).dsu.go = s.dsu.go := by
  unfold stoInput
  simp

@[simp] theorem creepCheck_go (s : State) (l : Nat) : (creepCheck s l).dsu.go = s.dsu.go := by
  unfold creepCheck
  simp

@[simp] theorem stepLocal_go (s : State) (e : Nat) : (stepLocal s e).dsu.go = s.dsu.go := by
  unfold stepLocal
  dsimp only
  split <;> split <;> simp

@[simp] theorem rampFault_go (l code : Nat) (s : State) : (rampFault l code s).dsu.go = s.dsu.go := by
  unfold rampFault
  simp

@[simp] theorem stepRamp_go (s : State) (l : Nat) : (stepRamp s l).dsu.go = s.dsu.go := by
  unfold stepRamp
  simp

@[simp] theorem stopLeaf_go (unitLevel : Bool) (s : State) (l : Nat) : (stopLeaf unitLevel s l).dsu.go = s.dsu.go := by
  unfold stopLeaf
  simp

@[simp] theorem edgeStop_go (e code : Nat) (s : State) : (edgeStop e code s).dsu.go = s.dsu.go := by
  unfold edgeStop
  simp

@[simp] theorem stepStop_go (s : State) (e : Nat) : (stepStop s e).dsu.go = s.dsu.go := by
  unfold stepStop
  dsimp only
  split <;> simp

@[simp] theorem faultAction_go (l : Nat) (s : State) : (faultAction l s).dsu.go = s.dsu.go := by
  unfold faultAction
  simp

@[simp] theorem leafFails_go (code l : Nat) (s : State) : (leafFails code l s).dsu.go = s.dsu.go := by
  unfold leafFails
  simp

@[simp] theorem stepFault_go (s : State) (l : Nat) : (stepFault s l).dsu.go = s.dsu.go := by
  unfold stepFault
  dsimp only
  cases leafFault s l <;> simp

@[simp] theorem leavesToClosing_go (e : Nat) (s : State) : (leavesToClosing e s).dsu.go = s.dsu.go :=
  foldl_go _ _ _ fun u l => by split <;> simp

@[simp] theorem edgeToClosing_go (e : Nat) (s : State) : (edgeToClosing e s).dsu.go = s.dsu.go := by
  unfold edgeToClosing
  simp

@[simp] theorem liftHolds_go (e : Nat) (s : State) : (liftHolds e s).dsu.go = s.dsu.go := by
  unfold liftHolds
  simp

@[simp] theorem leafRestore_go (l : Nat) (s : State) : (leafRestore l s).dsu.go = s.dsu.go := by
  unfold leafRestore
  simp

@[simp] theorem edgeOpen_go (e : Nat) (s : State) : (edgeOpen e s).dsu.go = s.dsu.go := by
  unfold edgeOpen
  simp

@[simp] theorem edgeCommand_go (e : Nat) (s : State) : (edgeCommand e s).1.dsu.go = s.dsu.go := by
  unfold edgeCommand
  dsimp only
  (repeat' split) <;> simp

theorem leafReleased_go (s : State) (l : Nat) : (leafReleased s l).dsu.go = s.dsu.go := by
  unfold leafReleased
  split <;> simp

@[simp] theorem restorationRelease_go (e : Nat) (s : State) : (restorationRelease e s).dsu.go = s.dsu.go := by
  cases h : (s.edge e).newCause || evTrip s e || !evSA s e with
  | true => rw [restorationRelease_of_abandoned h]; simp
  | false => rw [restorationRelease_of_released h, foldl_go _ _ _ leafReleased_go]; rfl

@[simp] theorem stepCommand_go (s : State) (e : Nat) : (stepCommand s e).dsu.go = s.dsu.go := by
  unfold stepCommand
  dsimp only
  generalize hu : (if (s.edge e).st = .localSafe ∧ (s.edge e).restoring = true ∧ later s.sys.vcn (s.edge e).restVcn = true
    then restorationRelease e s else s) = u
  have hgo : u.dsu.go = s.dsu.go := by rw [← hu]; simp
  split
  · exact hgo
  · have hcmd := (edgeCommand_go e u).trans hgo
    split <;> rename_i h <;> rw [h] at hcmd <;> simpa using hcmd

@[simp] theorem leafCommand_go (s : State) (w : Word) : (leafCommand s w).dsu.go = s.dsu.go := by
  unfold leafCommand
  dsimp only
  split <;> simp

@[simp] theorem closingLeaf_go (l : Nat) (s : State) : (closingLeaf l s).dsu.go = s.dsu.go := by
  unfold closingLeaf
  simp

@[simp] theorem stepLeaf_go (s : State) (l : Nat) : (stepLeaf s l).dsu.go = s.dsu.go := by
  unfold stepLeaf
  dsimp only
  split
  · rfl
  · split <;> simp

@[simp] theorem provingDone_go (e : Nat) (s : State) : (provingDone e s).dsu.go = s.dsu.go := by
  unfold provingDone
  simp

@[simp] theorem edgeProve_go (e : Nat) (lt : Bool) (s : State) : (edgeProve e lt s).dsu.go = s.dsu.go := by
  unfold edgeProve
  dsimp only
  cases (s.edge e).st <;> simp

@[simp] theorem closeTimer_go (e : Nat) (s : State) : (closeTimer e s).dsu.go = s.dsu.go := by
  unfold closeTimer
  dsimp only
  split <;> simp

@[simp] theorem stepEdge_go (s : State) (e : Nat) : (stepEdge s e).dsu.go = s.dsu.go := by
  unfold stepEdge
  simp

@[simp] theorem edgesTakeover_go (s : State) : (edgesTakeover s).dsu.go = s.dsu.go := by
  unfold edgesTakeover
  simp [raiseEdge]

end Sys2Proof.Machine
end

section
/-!
PROOF. What the settling of a step's events (R224, R508), the late acceptances (R323) and the forming of a VC's content (R163, R232, R244)
leave of door supervision: they answer host commands, and a refused post withdraws the edges' enables with the entry into SAFE.
-/
namespace Sys2Proof.Machine

/-- From `s` to `t` the leaf machines and the marks of the step stand, and no edge has changed but in its enable. -/
structure MachinesKept (s t : State) : Prop where
  leaf : t.dsu.leaf = s.dsu.leaf
  edge : ∀ e, ∃ b, t.edge e = { s.edge e with tDoe := b }
  go : t.dsu.go = s.dsu.go
  done : t.dsu.done = s.dsu.done
  lcmds : t.dsu.lcmds = s.dsu.lcmds

namespace MachinesKept

theorem of_dsu_eq {s t : State} (h : t.dsu = s.dsu) : MachinesKept s t :=
  ⟨by rw [h], fun e => ⟨(s.edge e).tDoe, by rw [edge_of_dsu_eq h]⟩, by rw [h], by rw [h], by rw [h]⟩

theorem refl (s : State) : MachinesKept s s := of_dsu_eq rfl

theorem trans {s t u : State} (h : MachinesKept s t) (k : MachinesKept t u) : MachinesKept s u where
  leaf := k.leaf.trans h.leaf
  edge e := by
    obtain ⟨b, hb⟩ := h.edge e
    obtain ⟨c, hc⟩ := k.edge e
    exact ⟨c, by rw [hc, hb]⟩
  go := k.go.trans h.go
  done := k.done.trans h.done
  lcmds := k.lcmds.trans h.lcmds

theorem foldl {β : Type} {f : State → β → State} (h : ∀ s b, MachinesKept s (f s b)) (l : List β) (s : State) : MachinesKept s (l.foldl f s) := by
  induction l generalizing s with
  | nil => exact refl s
  | cons b l ih => exact (h s b).trans (ih _)

theorem of_repliedOnly {s t : State} (h : repliedOnly s t) : MachinesKept s t := of_dsu_eq (repliedOnly_dsu h)

theorem dleaf {s t : State} (h : MachinesKept s t) (l : Nat) : t.dleaf l = s.dleaf l := by
  unfold State.dleaf
  rw [h.leaf]

end MachinesKept

/-! ### The entry into `SAFE` -/

theorem enterSafe_dsu (code : Nat) (m : Bool) (s : State) : (enterSafe code m s).dsu = enablesOff s.dsu := by
  unfold enterSafe
  simp only [State.setReg_dsu]
  rw [repliedOnly_dsu (abortAll_repliedOnly ..)]
  split
  · rw [repliedOnly_dsu (clearReady_repliedOnly _), resealAfter_dsu]
  · rw [resealAfter_dsu]

theorem enterSafe_machinesKept (code : Nat) (m : Bool) (s : State) : MachinesKept s (enterSafe code m s) := by
  have hd := enterSafe_dsu code m s
  unfold enablesOff at hd
  refine ⟨by rw [hd], fun e => ?_, by rw [hd], by rw [hd], by rw [hd]⟩
  rw [State.edge, hd]
  dsimp only
  rw [get_foldl_upd _ _ List.nodup_range]
  split
  · exact ⟨false, rfl⟩
  · exact ⟨_, rfl⟩

theorem raiseS_machinesKept (code obj val : Nat) (s : State) : MachinesKept s (raiseS code obj val s) := by
  have hnote : MachinesKept s (noteAt 0 code obj val s) := .of_dsu_eq (noteAt_dsu ..)
  unfold raiseS raiseSAt safeOn
  split
  case h_4 => exact hnote.trans (.of_dsu_eq rfl)
  case h_5 => exact hnote
  all_goals exact hnote.trans (enterSafe_machinesKept ..)

/-! ### Replies (R317, R323) -/

theorem postBytes_machinesKept (r : List Byte) (s : State) : MachinesKept s (postBytes r s) := by
  unfold postBytes postRefused
  dsimp only
  split
  · exact .trans (t := (writeRbuf r s).setReg Reg.CMD_RSTAT _) (.of_dsu_eq rfl) (raiseS_machinesKept ..)
  · exact .of_repliedOnly (repliedOnly_trans (writeRbuf_repliedOnly ..) (storeReply_repliedOnly ..))

theorem postReply_machinesKept (tag ses status detail fault : Nat) (results : List Byte) (s : State) :
    MachinesKept s (postReply tag ses status detail fault results s) := by
  unfold postReply
  dsimp only
  split
  · exact .of_dsu_eq rfl
  · exact postBytes_machinesKept ..

theorem postIfActive_machinesKept (tag ses status detail fault : Nat) (results : List Byte) (s : State) :
    MachinesKept s (postIfActive tag ses status detail fault results s) := by
  unfold postIfActive
  split
  · exact postReply_machinesKept ..
  · exact .refl s

theorem replyCreator_machinesKept (n status detail fault : Nat) (results : List Byte) (s : State) :
    MachinesKept s (replyCreator n status detail fault results s) := by
  unfold replyCreator
  split
  · exact .refl s
  · exact (postIfActive_machinesKept ..).trans (.of_dsu_eq (updSes_dsu ..))

theorem replyEnder_machinesKept (n status fault : Nat) (s : State) : MachinesKept s (replyEnder n status fault s) := by
  unfold replyEnder
  split
  · exact (postIfActive_machinesKept ..).trans (.of_dsu_eq (updSes_dsu ..))
  · exact .refl s

theorem acceptLate_machinesKept (s : State) : MachinesKept s (acceptLate s) := by
  unfold acceptLate
  split
  · exact .refl s
  · refine .foldl (fun u t => ?_) _ _
    dsimp only
    split
    · unfold postAccepted
      dsimp only
      split
      · exact postReply_machinesKept ..
      · exact .refl u
    · exact .refl u

/-! ### The events of a step (R224, R508) -/

theorem endPend_machinesKept (p : DoorPend) (status code : Nat) (results : List Byte) (s : State) :
    MachinesKept s (endPend p status code results s) := by
  unfold endPend
  exact .trans (t := { s with rt := { s.rt with pend := s.rt.pend.filter (· != p) } }) (.of_dsu_eq rfl) (postIfActive_machinesKept ..)

theorem endPends_machinesKept (e kind status code : Nat) (results : List Byte) (s : State) :
    MachinesKept s (endPends e kind status code results s) :=
  .foldl (fun _ _ => endPend_machinesKept ..) _ _

theorem edgeAccepted_machinesKept (e : Nat) (s : State) : MachinesKept s (edgeAccepted e s) := by
  unfold edgeAccepted
  dsimp only
  split
  · exact (endPends_machinesKept ..).trans (.of_dsu_eq rfl)
  · exact .of_dsu_eq rfl

theorem edgeStopped_machinesKept (e code : Nat) (s : State) : MachinesKept s (edgeStopped e code s) := by
  unfold edgeStopped
  dsimp only
  generalize hu : List.foldl _ s _ = u
  have hpends : MachinesKept s u := hu ▸ .foldl (fun _ _ => endPend_machinesKept ..) _ _
  split
  · exact hpends.trans ((replyCreator_machinesKept ..).trans (replyEnder_machinesKept ..))
  · exact hpends

theorem settleOne_machinesKept (s : State) (v : DoorEvent) : MachinesKept s (settleOne s v) := by
  cases v with
  | accepted e => exact edgeAccepted_machinesKept ..
  | refused e c => exact .foldl (fun _ _ => endPend_machinesKept ..) _ _
  | opened e => exact endPends_machinesKept ..
  | openTimeout e => exact endPends_machinesKept ..
  | closed e => exact endPends_machinesKept ..
  | closeTimeout e => exact endPends_machinesKept ..
  | stopped e c => exact edgeStopped_machinesKept ..
  | restored e =>
    unfold settleOne
    dsimp only
    split
    · exact (endPends_machinesKept ..).trans (.of_dsu_eq (updSes_dsu ..))
    · exact endPends_machinesKept ..
  | restoreRefused e => exact endPends_machinesKept ..
  | leafAccepted l =>
    unfold settleOne
    dsimp only
    split
    · split
      · exact endPend_machinesKept ..
      · exact .of_dsu_eq rfl
    · exact .refl s
  | leafRefused l =>
    unfold settleOne
    dsimp only
    split
    · exact endPend_machinesKept ..
    · exact .refl s

theorem settleDoors_machinesKept (s : State) : MachinesKept s (settleDoors s) := by
  have htaken : MachinesKept s { s with dsu := { s.dsu with events := [] } } := ⟨rfl, fun _ => ⟨_, rfl⟩, rfl, rfl, rfl⟩
  exact htaken.trans ((MachinesKept.foldl settleOne_machinesKept ..).trans (.foldl (fun _ _ => endPend_machinesKept ..) _ _))

/-! ### The content of a VC (R163, R232, R244) -/

theorem viewsUsed_dsu (s : State) : (viewsUsed s).dsu = s.dsu :=
  foldl_keeps State.dsu _ (fun u e => by split <;> rfl) _ _

theorem loadBus_dsu (s : State) (e : Nat) : (loadBus s e).dsu = s.dsu := by
  unfold loadBus
  dsimp only
  rw [State.setReg_dsu, State.setReg_dsu, foldl_keeps State.dsu _ fun _ _ => State.setReg_dsu .., State.setReg_dsu, State.setReg_dsu]

theorem loadBuses_dsu (s : State) : (loadBuses s).dsu = s.dsu := foldl_keeps State.dsu _ loadBus_dsu _ _

theorem telegramReady_dsu {m c : Nat} {t : Option (List Byte)} {done failed : State} (h : failed.dsu = done.dsu) :
    (telegramReady m c t done failed).dsu = done.dsu := by
  unfold telegramReady
  split
  · rfl
  · exact (note_dsu ..).trans h

theorem formTelegram_dsu (safe : Bool) (s : State) (p : Nat × Nat) : (formTelegram safe s p).dsu = s.dsu := by
  unfold formTelegram
  dsimp only
  split
  · exact telegramReady_dsu rfl
  · exact telegramReady_dsu rfl

theorem formTelegrams_dsu (s : State) : (formTelegrams s).dsu = s.dsu := by
  unfold formTelegrams
  dsimp only
  exact (foldl_keeps State.dsu _ (fun _ _ => updSes_dsu ..) _ _).trans (foldl_keeps State.dsu _ (formTelegram_dsu false) _ _)

theorem formContent_dsu (s : State) : (formContent s).dsu = s.dsu := by
  unfold formContent
  dsimp only
  split
  · rw [formTelegrams_dsu, loadBuses_dsu]
    rfl
  · rfl

/-- The end of a step that has been started sets DONE. -/
theorem dsuStepDone_of_started {s : State} (hg : s.dsu.go = true) (hd : s.dsu.done = false) : (dsuStepDone s).dsu.done = true := by
  unfold dsuStepDone
  simp only [hg, hd, Bool.not_false, Bool.and_self, if_true]
  generalize hu : viewsUsed _ = u
  have hdone : u.dsu.done = true := by rw [← hu, viewsUsed_dsu]
  have hsettled : (acceptLate (settleDoors u)).dsu.done = true := by
    rw [(acceptLate_machinesKept _).done, (settleDoors_machinesKept u).done, hdone]
  split
  · split
    · exact hsettled
    · rw [formContent_dsu, hsettled]
  · split
    · exact hdone
    · exact hdone

end Sys2Proof.Machine
end

section
/-!
PROOF. The door step and the times of edges and leaves (R224, R226, R228, R229, R236, R239, R241, R242, R244).
-/
namespace Sys2Proof.Machine

theorem eventElsewhere_of_row {code e a : Nat} (hrow : ∀ r ∈ faultRow code, ∀ p ∈ r.event, p.1 = e) (h : e ≠ a) : eventElsewhere code 0 a :=
  fun r hr p hp => by rw [hrow r hr p hp]; exact h

@[simp] theorem dleaf_note (code obj val : Nat) (s : State) (l : Nat) : (note code obj val s).dleaf l = s.dleaf l := by
  unfold State.dleaf
  rw [note_dsu]

@[simp] theorem edge_note (code obj val : Nat) (s : State) (e : Nat) : (note code obj val s).edge e = s.edge e := edge_of_dsu_eq (note_dsu ..) e

/-! ### The step (R244) -/

theorem countCheck_machinesKept (s : State) : MachinesKept s (countCheck s) := by
  unfold countCheck
  split
  · exact .of_dsu_eq (State.setReg_dsu ..)
  · exact .trans (.of_dsu_eq (State.setReg_dsu ..)) (raiseS_machinesKept ..)

theorem foldl_updEdge_go (f : DEdge → DEdge) (es : List Nat) (s : State) : (es.foldl (fun s e => updEdge e f s) s).dsu.go = s.dsu.go :=
  foldl_go _ _ _ fun _ _ => rfl

/-- A step leaves GO as it was and takes every leaf command. -/
theorem dsuStep_marks (s : State) : (dsuStep s).dsu.go = s.dsu.go ∧ (dsuStep s).dsu.lcmds = [] := by
  unfold dsuStep
  dsimp only
  generalize hu : List.foldl (fun s e => updEdge e (fun d => { d with ecmd := 0 }) s) _ _ = u
  have hgo : u.dsu.go = s.dsu.go := by
    rw [← hu, foldl_updEdge_go, foldl_go _ _ _ stepEdge_go, foldl_go _ _ _ leafCommand_go, foldl_go _ _ _ stepCommand_go,
      foldl_go _ _ _ stepFault_go, foldl_go _ _ _ stepStop_go, foldl_go _ _ _ stepRamp_go, foldl_go _ _ _ stepLocal_go, foldl_updEdge_go]
    exact foldl_go _ _ _ fun _ _ => logReport_go ..
  have hkept := countCheck_machinesKept { u with dsu := { u.dsu with lcmds := [] } }
  exact ⟨hkept.go.trans hgo, hkept.lcmds⟩

theorem exec_dsuStep_of_views {s : State} (hp : s.sys.phase = 1) (hg : s.dsu.go = false)
    (hv : (List.range 8).all (fun e => !edgeEquipped s e || evB s e 7) = true) :
    exec .dsuStep s = .next (dsuStep (edgesTakeover (obsCount 29 1 { s with dsu := { s.dsu with go := true } }))) := by
  change execDsuStep s = _
  unfold execDsuStep
  rw [if_neg (not_not_intro hp), if_neg (by simp [hg])]
  exact congrArg Host.Outcome.next (if_pos hv)

theorem exec_dsuStep_of_missing_view {s : State} (hp : s.sys.phase = 1) (hg : s.dsu.go = false)
    (hv : (List.range 8).all (fun e => !edgeEquipped s e || evB s e 7) = false) :
    exec .dsuStep s = .next (raiseS 0x0713 0 0 { s with dsu := { s.dsu with go := true } }) := by
  change execDsuStep s = _
  unfold execDsuStep
  rw [if_neg (not_not_intro hp), if_neg (by simp [hg])]
  exact congrArg Host.Outcome.next (if_neg (Bool.eq_false_iff.1 hv))

/-! ### The load window and the counts (R241, R242) -/

theorem exec_dsuLoadBegin_of_open {s : State} (hp : s.sys.phase = 4) (hst : s.sys.state = .configCheck ∨ s.sys.state = .join ∨ s.sys.state = .banked) :
    exec .dsuLoadBegin s = .next { s with dsu := { s.dsu with loading := true } } := by
  change execDsuLoadBegin s = _
  unfold execDsuLoadBegin
  rw [if_pos ⟨hp, hst⟩]

theorem exec_dsuLoadEnd_of_configCheck {s : State} (hl : s.dsu.loading = true) (hst : s.sys.state = .configCheck) :
    exec .dsuLoadEnd s = .next (countCheck { s with dsu := { s.dsu with loading := false } }) := by
  change execDsuLoadEnd s = _
  unfold execDsuLoadEnd
  simp [hl, hst]

theorem countCheck_of_right {s : State} (h : countFail s = none) : countCheck s = s.setReg Reg.DSU_COUNT_CHECK 0xC0000000#32 := by
  unfold countCheck
  rw [h]

/-- A class S fault in `CONFIG_CHECK` leads to `MAINT` with its cause (R30). -/
theorem raiseS_of_configCheck {s : State} (h : s.sys.state = .configCheck) (code obj val : Nat) :
    (raiseS code obj val s).sys.state = .maint ∧ (raiseS code obj val s).reg Reg.SYS_SAFE_CAUSE = word (code % 65536) := by
  have hnote : (noteAt 0 code obj val s).sys.state = .configCheck := by rw [noteAt_sys, h]
  unfold raiseS raiseSAt safeOn
  rw [hnote]
  dsimp only
  unfold enterMaint
  rw [State.reg_setReg_same]
  exact ⟨rfl, by simp [bit]⟩

/-- A leaf whose counts do not add up takes a module in `CONFIG_CHECK` to `MAINT`. -/
theorem countCheck_of_wrong {s : State} {l : Nat} (hst : s.sys.state = .configCheck) (h : countFail s = some l) :
    (countCheck s).sys.state = .maint ∧ (countCheck s).reg Reg.SYS_SAFE_CAUSE = 0x0710 := by
  have hchecked : (s.setReg Reg.DSU_COUNT_CHECK (word (2 ^ 31 + l))).sys.state = .configCheck := hst
  unfold countCheck
  rw [h]
  exact raiseS_of_configCheck hchecked ..

/-! ### The end of a ramp (R230, R236) -/

theorem edge_torqueRemoved (s : State) (l e : Nat) : (torqueRemoved s l).edge e = s.edge e := by
  rcases torqueRemoved_cases s l with h | h <;> rw [h]
  exact edge_enterLeaf ..

/-- A leaf without torque stays so while others lose theirs. -/
theorem dleaf_torqueRemoved {s : State} {l : Nat} (h : (s.dleaf l).st = .torqueOff) (x : Nat) : ((torqueRemoved s x).dleaf l).st = .torqueOff := by
  rcases torqueRemoved_cases s x with hx | hx <;> rw [hx]
  · exact h
  · by_cases hxl : x = l
    · rw [hxl, dleaf_enterLeaf_same]
    · rw [dleaf_enterLeaf_ne hxl, h]

/-- An edge that enters `LOCAL_SAFE` has its cause and no enable, and a leaf without torque stays so. -/
theorem enterLocal_enters {s : State} {e l : Nat} (h : (s.edge e).st ≠ .localSafe) (hl : (s.dleaf l).st = .torqueOff) (code : Nat) :
    (enterLocal e code s).edge e = (s.edge e).toLocalSafe code ∧ ((enterLocal e code s).dleaf l).st = .torqueOff := by
  have hd := enterLocal_of_entering h code
  constructor
  · rw [edge_of_dsu_eq hd]
    change (List.foldl torqueRemoved _ _).edge e = _
    rw [foldl_keeps (fun u => u.edge e) torqueRemoved fun u x => edge_torqueRemoved u x e, edge_updEdge_same]
  · rw [State.dleaf, hd]
    change ((List.foldl torqueRemoved _ _).dleaf l).st = .torqueOff
    exact List.foldlRecOn _ _ (motive := fun u : State => (u.dleaf l).st = .torqueOff) hl fun u hu x _ => dleaf_torqueRemoved hu x

theorem rampFault_enters {s : State} {l : Nat} (h : (s.edge (l / 32)).st ≠ .localSafe) (code : Nat) :
    (rampFault l code s).edge (l / 32) = (s.edge (l / 32)).toLocalSafe code ∧ ((rampFault l code s).dleaf l).st = .torqueOff := by
  have hedge : (note code 3 l (enterLeaf l .torqueOff s)).edge (l / 32) = s.edge (l / 32) := by rw [edge_note, edge_enterLeaf]
  have hleaf : ((note code 3 l (enterLeaf l .torqueOff s)).dleaf l).st = .torqueOff := by rw [dleaf_note, dleaf_enterLeaf_same]
  unfold rampFault localCause
  rw [← hedge]
  exact enterLocal_enters (by rw [hedge]; exact h) hleaf code

/-! ### The lock and open times of a leaf (R228, R229) -/

/-- The fault of an unlocking leaf whose report shows neither LF nor IS: LK_T with LK still set, then OPEN_T. -/
theorem leafFault_of_unlocking {s : State} {l : Nat} (hst : (s.dleaf l).st = .unlocking) (hlf : flagLF s l = false) (his : flagIS s l = false) :
    leafFault s l =
      if flagLK s l = true ∧ 10 * eF s Reg.DSU_ETIM (l / 32) 31 24 ≤ (s.dleaf l).timer then some 0x0709
      else if 100 * eF s Reg.DSU_ETIM (l / 32) 23 16 ≤ (s.dleaf l).openT then some 0x070A
      else none := by
  unfold leafFault
  simp [hst, hlf, his]

theorem exec_lockTimeout_of_fault {s : State} {l : Nat} (h : leafFault s l = some 0x0709) :
    exec (.lockTimeout l) s = .next (settleDoors (leafFails 0x0709 l s)) := by
  change execLockTimeout l s = _
  unfold execLockTimeout
  rw [if_pos h]

theorem exec_lockTimeout_of_no_fault {s : State} {l : Nat} (h : leafFault s l ≠ some 0x0709) : exec (.lockTimeout l) s = .next s := by
  change execLockTimeout l s = _
  unfold execLockTimeout
  rw [if_neg h]

theorem exec_openTimeout_of_fault {s : State} {l : Nat} (h : leafFault s l = some 0x070A) :
    exec (.openTimeout l) s = .next (settleDoors (leafFails 0x070A l s)) := by
  change execOpenTimeout l s = _
  unfold execOpenTimeout
  rw [if_pos h]

theorem exec_openTimeout_of_no_fault {s : State} {l : Nat} (h : leafFault s l ≠ some 0x070A) : exec (.openTimeout l) s = .next s := by
  change execOpenTimeout l s = _
  unfold execOpenTimeout
  rw [if_neg h]

/-- The fault action on a unit whose leaves stand still: its leaf is faulty. -/
theorem dleaf_faultAction_of_still {s : State} {l : Nat} (h : ∀ x ∈ unitLeaves s (l / 2), (s.leaf x).vel = 0) :
    ((faultAction l s).dleaf l).st = .fault := by
  have hstill : ((unitLeaves s (l / 2)).any fun x => decide ((s.leaf x).vel.natAbs > eF s Reg.DSU_ESSB (l / 32) 23 16)) = false := by
    rw [List.any_eq_false]
    intro x hx
    simp [h x hx]
  unfold faultAction
  dsimp only
  rw [hstill, if_neg Bool.false_ne_true]
  refine List.foldlRecOn _ _ (motive := fun u : State => (u.dleaf l).st = .fault) (dleaf_enterLeaf_same l .fault s) fun u hu x _ => ?_
  split
  · rename_i hx
    rw [dleaf_enterLeaf_ne hx.1, hu]
  · exact hu

/-- A record of a leaf's fault leaves the declaration of the leaves. -/
theorem leafDeclared_note {code x : Nat} (hrow : ∀ r ∈ faultRow code, ∀ p ∈ r.event, p.1 = Reg.DSU_EVENT) (hx : x < 256) (obj val : Nat) (s : State) :
    leafDeclared (note code obj val s) x = leafDeclared s x := by
  have hreg : (note code obj val s).reg (Reg.PDS_DECL + 4 * (x / 32)) = s.reg (Reg.PDS_DECL + 4 * (x / 32)) :=
    noteAt_reg (Or.inl (by unfold Reg.PDS_DECL Reg.EVR_STAT; omega)) (eventElsewhere_of_row hrow (by unfold Reg.DSU_EVENT Reg.PDS_DECL; omega)) ..
  unfold leafDeclared State.regB
  rw [hreg]

theorem unitLeaves_note {code l : Nat} (hrow : ∀ r ∈ faultRow code, ∀ p ∈ r.event, p.1 = Reg.DSU_EVENT) (hl : l < 256) (obj val : Nat) (s : State) :
    unitLeaves (note code obj val s) (l / 2) = unitLeaves s (l / 2) := by
  refine List.filter_congr fun x hx => leafDeclared_note hrow ?_ ..
  simp only [List.mem_cons, List.not_mem_nil, or_false] at hx
  omega

/-- A leaf that fails on a time, its unit standing still, is faulty once the door commands are settled. -/
theorem dleaf_settled_leafFails {s : State} {code l : Nat} (hl : l < 256) (hrow : ∀ r ∈ faultRow code, ∀ p ∈ r.event, p.1 = Reg.DSU_EVENT)
    (h : ∀ x ∈ unitLeaves s (l / 2), (s.leaf x).vel = 0) : ((settleDoors (leafFails code l s)).dleaf l).st = .fault := by
  rw [(settleDoors_machinesKept _).dleaf]
  unfold leafFails
  dsimp only
  generalize hu : (if code = 0x070A then doorEvent (.openTimeout (l / 32)) s else s) = u
  have hsame : unitLeaves u (l / 2) = unitLeaves s (l / 2) ∧ u.pds = s.pds := by
    rw [← hu]
    split <;> exact ⟨rfl, rfl⟩
  apply dleaf_faultAction_of_still
  intro x hx
  rw [unitLeaves_note hrow hl, hsame.1] at hx
  rw [leaf_of_pds_eq (note_pds ..), leaf_of_pds_eq hsame.2, h x hx]

/-! ### The close time of an edge (R224) -/

/-- What CLOSE_TIMEOUT settles: the time has ended and is recorded, and DOOR_CLOSE is told. -/
def closeTimedOut (e : Nat) (s : State) : State := doorEvent (.closeTimeout e) (note 0x070B 2 e (updEdge e (fun d => { d with closeT := none }) s))

theorem edge_closeTimedOut (e : Nat) (s : State) : (closeTimedOut e s).edge e = { s.edge e with closeT := none } := by
  rw [closeTimedOut, State.edge, doorEvent_dsu]
  exact (edge_note ..).trans (edge_updEdge_same ..)

theorem exec_closeTimeout_of_elapsed {s : State} {e n : Nat} (h : (s.edge e).closeT = some n) (hn : 100 * eF s Reg.DSU_ETIM e 15 8 ≤ n) :
    exec (.closeTimeout e) s = .next (settleDoors (closeTimedOut e s)) := by
  change execCloseTimeout e s = _
  unfold execCloseTimeout
  rw [h]
  exact congrArg Host.Outcome.next (if_pos (decide_eq_true hn))

theorem exec_closeTimeout_of_within {s : State} {e n : Nat} (h : (s.edge e).closeT = some n) (hn : n < 100 * eF s Reg.DSU_ETIM e 15 8) :
    exec (.closeTimeout e) s = .next s := by
  change execCloseTimeout e s = _
  unfold execCloseTimeout
  rw [h, if_neg (by simpa using hn)]

/-! ### The release of a restoration (R239) -/

theorem edge_leafRestore (l : Nat) (s : State) (e : Nat) : (leafRestore l s).edge e = s.edge e := by
  unfold leafRestore abortCycle
  dsimp only
  split
  · rw [edge_enterLeaf]
    simp [State.edge]
  · rw [edge_enterLeaf]
    simp [State.edge]

theorem edge_leafReleased (s : State) (l e : Nat) : (leafReleased s l).edge e = s.edge e := by
  unfold leafReleased
  split
  · exact edge_leafRestore ..
  · exact edge_leafRestore ..
  · rfl

/-- A cause that has come, or a trip or a withdrawn STO of Mantle, abandons the restoration. -/
theorem edge_restorationRelease_abandoned {s : State} {e : Nat} (h : (s.edge e).newCause = true ∨ evTrip s e = true ∨ evSA s e = false) :
    (restorationRelease e s).edge e = { s.edge e with restoring := false, newCause := false } := by
  rw [restorationRelease_of_abandoned (by simpa [or_assoc] using h), State.edge, doorEvent_dsu]
  exact (edge_note ..).trans (edge_updEdge_same ..)

theorem edge_restorationRelease_released {s : State} {e : Nat} (hc : (s.edge e).newCause = false) (ht : evTrip s e = false) (ha : evSA s e = true) :
    (restorationRelease e s).edge e = (s.edge e).released := by
  rw [restorationRelease_of_released (by simp [hc, ht, ha]), foldl_keeps (fun u => u.edge e) leafReleased fun u x => edge_leafReleased u x e,
    edge_updEdge_same]

theorem exec_restorationRelease_of_due {s : State} {e : Nat} (hst : (s.edge e).st = .localSafe) (hr : (s.edge e).restoring = true)
    (hv : later s.sys.vcn (s.edge e).restVcn = true) : exec (.restorationRelease e) s = .next (settleDoors (restorationRelease e s)) := by
  change execRestorationRelease e s = _
  unfold execRestorationRelease
  dsimp only
  rw [if_pos ⟨hst, hr, hv⟩]

/-- Settles O44: the step by its phase and its views, its end, the load window with the counts, and each time on both sides of its end. -/
theorem doorStepAndTimes : Obligations.DoorStepAndTimes := by
  refine ⟨?step, ?stepDone, ?loadBegin, ?loadEnd, ?ramp, ?leafTimes, ?closeTime, ?release⟩
  case step =>
    intro s hp hg
    refine ⟨fun hv => answers_of_exec (exec_dsuStep_of_views hp hg hv) ?_, fun hv hl => ?_⟩
    · obtain ⟨hgo, hlcmds⟩ := dsuStep_marks (edgesTakeover (obsCount 29 1 { s with dsu := { s.dsu with go := true } }))
      exact ⟨hgo.trans (edgesTakeover_go _), hlcmds⟩
    · exact answers_enteredSafe_of_raiseS (exec_dsuStep_of_missing_view hp hg hv) hl rfl rfl
  case stepDone =>
    intro s hg hd
    exact ⟨_, rfl, dsuStepDone_of_started hg hd⟩
  case loadBegin =>
    intro s hp hst
    exact ⟨_, exec_dsuLoadBegin_of_open hp hst, rfl⟩
  case loadEnd =>
    intro s hl hst
    refine ⟨fun h => answers_of_exec (exec_dsuLoadEnd_of_configCheck hl hst) ?_, fun l h => answers_of_exec (exec_dsuLoadEnd_of_configCheck hl hst) ?_⟩
    · rw [countCheck_of_right (show countFail { s with dsu := { s.dsu with loading := false } } = none from h)]
      exact ⟨rfl, State.reg_setReg_same .., rfl⟩
    · exact countCheck_of_wrong (s := { s with dsu := { s.dsu with loading := false } }) hst h
  case ramp =>
    intro s l _ hst he
    refine ⟨fun ht => ?_, fun ht => ⟨s, congrArg Host.Outcome.next (if_neg (by omega)), rfl⟩⟩
    refine answers_of_exec (t := rampFault l 0x0703 s) (congrArg Host.Outcome.next (if_pos ⟨hst, ht⟩)) ?_
    obtain ⟨hedge, hleaf⟩ := rampFault_enters he 0x0703
    rw [hedge]
    exact ⟨hleaf, rfl, rfl, rfl⟩
  case leafTimes =>
    intro s l hl hst hlf his hstill
    have hfault := leafFault_of_unlocking hst hlf his
    refine ⟨fun hlk ht => ?lockOver, fun ht => ?lockWithin, fun hlk ht => ?openOver, fun ht => ?openWithin⟩
    case lockOver =>
      exact answers_of_exec (exec_lockTimeout_of_fault (by rw [hfault, if_pos ⟨hlk, ht⟩])) (dleaf_settled_leafFails hl (by decide) hstill)
    case lockWithin =>
      refine ⟨s, exec_lockTimeout_of_no_fault ?_, rfl⟩
      rw [hfault, if_neg fun h => absurd h.2 (Nat.not_le.2 ht)]
      split <;> decide
    case openOver =>
      have hno : ¬ (flagLK s l = true ∧ 10 * eF s Reg.DSU_ETIM (l / 32) 31 24 ≤ (s.dleaf l).timer) := by
        rcases hlk with hlk | hlk
        · simp [hlk]
        · exact fun h => absurd h.2 (Nat.not_le.2 hlk)
      exact answers_of_exec (exec_openTimeout_of_fault (by rw [hfault, if_neg hno, if_pos ht])) (dleaf_settled_leafFails hl (by decide) hstill)
    case openWithin =>
      refine ⟨s, exec_openTimeout_of_no_fault ?_, rfl⟩
      rw [hfault, if_neg (Nat.not_le.2 ht)]
      split <;> decide
  case closeTime =>
    intro s e n h
    refine ⟨fun hn => answers_of_exec (exec_closeTimeout_of_elapsed h hn) ?_, fun hn => ⟨s, exec_closeTimeout_of_within h hn, rfl⟩⟩
    obtain ⟨b, hb⟩ := (settleDoors_machinesKept (closeTimedOut e s)).edge e
    rw [hb, edge_closeTimedOut]
  case release =>
    intro s e _ hst hr hv
    obtain ⟨b, hb⟩ := (settleDoors_machinesKept (restorationRelease e s)).edge e
    refine ⟨fun h => answers_of_exec (exec_restorationRelease_of_due hst hr hv) ?_,
      fun hc ht ha => answers_of_exec (exec_restorationRelease_of_due hst hr hv) ?_⟩
    · rw [hb, edge_restorationRelease_abandoned h]
      exact ⟨hst, rfl⟩
    · rw [hb, edge_restorationRelease_released hc ht ha]
      exact ⟨rfl, hr, rfl⟩

end Sys2Proof.Machine
end

section
/-!
PROOF. The field outputs (R239, R350, R351, R353, R355, R356, R358, R360): what a commit, the on delay, a test pulse, a detection, a
classification, a restore and the silent state leave in FIO.
-/
namespace Sys2Proof.Machine

/-! ### Operations that leave a part of the state -/

/-- A record of a code whose event bit, if any, is FIO's leaves the other registers of FIO's window. -/
theorem note_reg_of_fioCode {code a : Nat} (hrow : ∀ r ∈ faultRow code, ∀ p ∈ r.event, p.1 = Reg.FIO_EVENT)
    (ha : Reg.FIO_EVENT < a ∧ a < Reg.EVR_STAT) (obj val : Nat) (s : State) : (note code obj val s).reg a = s.reg a :=
  noteAt_reg (Or.inl ha.2) (eventElsewhere_of_row hrow (Nat.ne_of_lt ha.1)) obj val s

theorem enterSafe_fio (code : Nat) (m : Bool) (s : State) : (enterSafe code m s).fio = fioOff s.fio := by
  unfold enterSafe
  simp only [State.setReg_fio]
  rw [repliedOnly_fio (abortAll_repliedOnly ..)]
  split
  · rw [repliedOnly_fio (clearReady_repliedOnly _), resealAfter_fio]
  · rw [resealAfter_fio]

/-- A class S fault neither enters nor leaves the silent state. -/
theorem raiseS_silent (code obj val : Nat) (s : State) : (raiseS code obj val s).fio.silent = s.fio.silent := by
  have hnote : (noteAt 0 code obj val s).fio = s.fio := noteAt_fio ..
  unfold raiseS raiseSAt safeOn
  split
  case h_4 => exact congrArg Fio.silent hnote
  case h_5 => exact congrArg Fio.silent hnote
  all_goals
    rw [enterSafe_fio, hnote]
    rfl

theorem live_of_active {s : State} (h : s.sys.state = .active) : s.live = true := by
  unfold State.live
  rw [h]

/-! ### Parallel sets (R349) -/

theorem div_four_of_mem_parSet {n k : Nat} {s : State} (h : k ∈ parSet n s) : k / 4 = n / 4 := by
  have hlower : ∀ x ∈ [4 * (n / 4), 4 * (n / 4) + 1], x / 4 = n / 4 := by
    intro x hx
    simp only [List.mem_cons, List.not_mem_nil, or_false] at hx
    omega
  have hupper : ∀ x ∈ [4 * (n / 4) + 2, 4 * (n / 4) + 3], x / 4 = n / 4 := by
    intro x hx
    simp only [List.mem_cons, List.not_mem_nil, or_false] at hx
    omega
  have halone : ∀ x ∈ [n], x / 4 = n / 4 := by simp
  unfold parSet at h
  dsimp only at h
  split at h
  · split at h
    · exact hlower k h
    · exact halone k h
  · split at h
    · exact halone k h
    · exact hupper k h
  · split at h
    · exact hlower k h
    · exact hupper k h
  · rcases List.mem_append.1 h with h | h
    · exact hlower k h
    · exact hupper k h
  · exact halone k h

/-- The output for which a set's faults stand is of the set's group. -/
theorem parLow_div_four (n : Nat) (s : State) : parLow n s / 4 = n / 4 := by
  unfold parLow
  cases hset : parSet n s with
  | nil => rfl
  | cons k ks => exact div_four_of_mem_parSet (by rw [hset]; exact List.mem_cons_self ..)

/-! ### The commit (R350) -/

/-- The configuration of the outputs and of their groups is the same in both states. -/
structure OutputConfKept (s t : State) : Prop where
  output : ∀ n < 48, oConf n t = oConf n s
  group : ∀ g < 12, gConf g t = gConf g s

theorem bitsOf_congr {n : Nat} {f g : Nat → Bool} (h : ∀ i < n, f i = g i) : bitsOf n f = bitsOf n g := by
  apply BitVec.eq_of_getLsbD_eq
  intro i hi
  rw [bitsOf_getLsbD, bitsOf_getLsbD, h i hi]

theorem takenOn_of_confKept {s t : State} (hc : OutputConfKept s t) (hf : t.fio = s.fio) (w0 w1 : Word) : takenOn w0 w1 t = takenOn w0 w1 s := by
  unfold takenOn
  dsimp only
  apply bitsOf_congr
  intro n hn
  have hset : parSet n t = parSet n s := by
    unfold parSet
    dsimp only
    rw [hc.group (n / 4) (by omega)]
  rw [hset, Bool.eq_iff_iff, List.all_eq_true, List.all_eq_true]
  refine forall₂_congr fun k hk => ?_
  have hk48 : k < 48 := by
    have := div_four_of_mem_parSet hk
    omega
  rw [hf, oDeclared, oDeclared, oUse, oUse, hc.output k hk48]

theorem takenGrp_of_confKept {s t : State} (hc : OutputConfKept s t) (hf : t.fio = s.fio) (w1 : Word) : takenGrp w1 t = takenGrp w1 s := by
  unfold takenGrp
  apply bitsOf_congr
  intro g hg
  rw [hf, hc.group g hg]

/-- A commit's records leave a part of the state that each single record leaves. -/
theorem commitNotes_keeps {γ : Type} (g : State → γ) (hon : ∀ c obj val s, g (noteIf c 0x0A11 obj val s) = g s)
    (hgrp : ∀ c obj val s, g (noteIf c 0x0A12 obj val s) = g s) (w0 w1 : Word) (s : State) : g (commitNotes w0 w1 s) = g s := by
  unfold commitNotes
  dsimp only
  rw [foldl_keeps g _ (fun _ _ => hgrp ..), foldl_keeps g _ (fun _ _ => hon ..), foldl_keeps g _ (fun _ _ => hon ..),
    foldl_keeps g _ (fun _ _ => hon ..)]

theorem commitNotes_fio (w0 w1 : Word) (s : State) : (commitNotes w0 w1 s).fio = s.fio :=
  commitNotes_keeps State.fio (fun _ _ _ _ => noteIf_fio ..) (fun _ _ _ _ => noteIf_fio ..) w0 w1 s

theorem commitNotes_sys (w0 w1 : Word) (s : State) : (commitNotes w0 w1 s).sys = s.sys :=
  commitNotes_keeps State.sys (fun _ _ _ _ => noteIf_sys ..) (fun _ _ _ _ => noteIf_sys ..) w0 w1 s

theorem commitNotes_reg {a : Nat} (ha : Reg.FIO_EVENT < a ∧ a < Reg.EVR_STAT) (w0 w1 : Word) (s : State) :
    (commitNotes w0 w1 s).reg a = s.reg a := by
  have hrow : ∀ code ∈ [0x0A11, 0x0A12], ∀ r ∈ faultRow code, ∀ p ∈ r.event, p.1 = Reg.FIO_EVENT := by decide
  have hother (code : Nat) (h : code ∈ [0x0A11, 0x0A12]) : eventElsewhere code 0 a := eventElsewhere_of_row (hrow code h) (Nat.ne_of_lt ha.1)
  exact commitNotes_keeps (fun u => u.reg a) (fun _ _ _ _ => noteIf_reg (Or.inl ha.2) (hother _ (by decide)) ..)
    (fun _ _ _ _ => noteIf_reg (Or.inl ha.2) (hother _ (by decide)) ..) w0 w1 s

/-- The two command words of a commit are written. -/
def wordsWritten (a b : Word) (s : State) : State := (s.setReg Reg.FIO_OCMD0 a).setReg Reg.FIO_OCMD1 b

theorem wordsWritten_reg {c : Nat} (h : Reg.FIO_OCMD1 < c) (a b : Word) (s : State) : (wordsWritten a b s).reg c = s.reg c := by
  have hcmd : Reg.FIO_OCMD0 < Reg.FIO_OCMD1 := by decide
  unfold wordsWritten
  rw [State.reg_setReg_ne _ _ (by omega), State.reg_setReg_ne _ _ (by omega)]

theorem writeCode_wordsWritten {s : State} (ha : s.sys.state = .active) (hp : s.sys.phase = 3) (code a b : Word) :
    writeCode code (wordsWritten a b s) = commit a b code (wordsWritten a b s) := by
  have h0 : (wordsWritten a b s).reg Reg.FIO_OCMD0 = a := by
    unfold wordsWritten
    rw [State.reg_setReg_ne _ _ (by decide), State.reg_setReg_same]
  have h1 : (wordsWritten a b s).reg Reg.FIO_OCMD1 = b := State.reg_setReg_same ..
  unfold writeCode
  rw [if_pos (show (wordsWritten a b s).sys.state = .active from ha), if_pos (show (wordsWritten a b s).sys.phase = 3 from hp), h0, h1]

/-- The words of a commit with its code: as the runtime commands them (log entry 119). -/
theorem exec_outputCommit_of_code {s : State} {w0 w1 code : Word} (ha : s.sys.state = .active) (hp : s.sys.phase = 3)
    (hc : code = commitCode s.sys.vcn w0 (w1 &&& 0x0FFFFFFF#32)) :
    exec (.outputCommit w0 w1 code) s =
      .next (commit (commitWords w0 w1 s).1 ((commitWords w0 w1 s).2 &&& 0x0FFFFFFF#32)
        (commitCode s.sys.vcn (commitWords w0 w1 s).1 ((commitWords w0 w1 s).2 &&& 0x0FFFFFFF#32))
        (wordsWritten (commitWords w0 w1 s).1 ((commitWords w0 w1 s).2 &&& 0x0FFFFFFF#32) s)) := by
  have hok : (code == commitCode s.sys.vcn w0 (w1 &&& 0x0FFFFFFF#32)) = true := by rw [hc, beq_self_eq_true]
  rw [← writeCode_wordsWritten ha hp]
  change execOutputCommit w0 w1 code s = _
  unfold execOutputCommit
  simp only [hok, if_true]
  rfl

theorem exec_outputCommit_of_wrong_code {s : State} {w0 w1 code : Word} (ha : s.sys.state = .active) (hp : s.sys.phase = 3)
    (hc : code ≠ commitCode s.sys.vcn w0 (w1 &&& 0x0FFFFFFF#32)) :
    exec (.outputCommit w0 w1 code) s =
      .next (commit w0 (w1 &&& 0x0FFFFFFF#32) code (wordsWritten w0 (w1 &&& 0x0FFFFFFF#32) s)) := by
  have hbad : (code == commitCode s.sys.vcn w0 (w1 &&& 0x0FFFFFFF#32)) = false := beq_false_of_ne hc
  rw [← writeCode_wordsWritten ha hp]
  change execOutputCommit w0 w1 code s = _
  unfold execOutputCommit
  simp only [hbad, Bool.false_eq_true, if_false]
  rfl

/-- Outside `ACTIVE` a commit leaves its words alone. -/
theorem exec_outputCommit_of_not_active {s : State} (h : s.sys.state ≠ .active) (w0 w1 code : Word) :
    ∃ a b, exec (.outputCommit w0 w1 code) s = .next (wordsWritten a b s) := by
  have hignored (c a b : Word) : writeCode c (wordsWritten a b s) = wordsWritten a b s := if_neg h
  change ∃ a b, execOutputCommit w0 w1 code s = _
  unfold execOutputCommit
  exact ⟨_, _, congrArg Host.Outcome.next (hignored ..)⟩

/-- The first commit with its code is taken: off at once, on at the next VC start. -/
theorem commit_of_right {s : State} {w0 w1 code : Word} (hc : code = commitCode s.sys.vcn w0 w1) (hn : s.fio.commits = 0) :
    let u := commitNotes w0 w1 s
    let f := (commit w0 w1 code s).fio
    f.committed = true ∧ f.nextOn = takenOn w0 w1 u ∧ f.nextGrp = takenGrp w1 u ∧ f.on = s.fio.on &&& f.nextOn ∧ (commit w0 w1 code s).sys = s.sys := by
  have hcode : (code != commitCode s.sys.vcn w0 w1 || decide (0 < s.fio.commits)) = false := by simp [hc, hn]
  unfold commit
  dsimp only
  rw [hcode, if_neg Bool.false_ne_true, commitNotes_fio]
  exact ⟨rfl, rfl, rfl, rfl, commitNotes_sys w0 w1 s⟩

theorem confKept_commitNotes_wordsWritten (w0 w1 a b : Word) (s : State) : OutputConfKept s (commitNotes w0 w1 (wordsWritten a b s)) := by
  have hreg {c : Nat} (h : Reg.FIO_OCONF ≤ c ∧ c < Reg.FIO_OFLT) : (commitNotes w0 w1 (wordsWritten a b s)).reg c = s.reg c := by
    have hevent : Reg.FIO_EVENT < Reg.FIO_OCONF ∧ Reg.FIO_OCMD1 < Reg.FIO_OCONF ∧ Reg.FIO_OFLT < Reg.EVR_STAT := by decide
    rw [commitNotes_reg ⟨by omega, by omega⟩, wordsWritten_reg (by omega)]
  constructor
  · intro n hn
    exact hreg ⟨by omega, by unfold Reg.FIO_OCONF Reg.FIO_OFLT; omega⟩
  · intro g hg
    exact hreg ⟨by unfold Reg.FIO_OCONF Reg.FIO_GCONF; omega, by unfold Reg.FIO_GCONF Reg.FIO_OFLT; omega⟩

/-- A commit with a wrong code, or a second one, enters `SAFE` with the outputs off. -/
theorem commit_of_refused {s : State} {w0 w1 code : Word} (ha : s.sys.state = .active)
    (h : code ≠ commitCode s.sys.vcn w0 w1 ∨ 0 < s.fio.commits) :
    let t := commit w0 w1 code s
    t.sys.state = .safe ∧ t.reg Reg.SYS_SAFE_CAUSE = 0x0A0F ∧ t.fio.grp = 0 ∧ (s.fio.silent = false → t.fio.on = 0) := by
  have hrefused : (code != commitCode s.sys.vcn w0 w1 || decide (0 < s.fio.commits)) = true := by simpa using h
  intro t
  have ht : t = raiseS 0x0A0F 0 0 { s with fio := { fioOff s.fio with commits := s.fio.commits + 1 } } := by
    change commit w0 w1 code s = _
    unfold commit
    dsimp only
    rw [hrefused, if_pos rfl]
  obtain ⟨hstate, hcause, -, -, hres⟩ := raiseS_enteredSafe 0x0A0F 0 0 { s with fio := { fioOff s.fio with commits := s.fio.commits + 1 } }
    (live_of_active ha)
  rw [← ht] at hstate hcause hres
  obtain ⟨-, -, -, -, hgrp, -, -, -, hon, -, -⟩ := hres
  have hsilent : t.fio.silent = s.fio.silent := by rw [ht, raiseS_silent]; rfl
  exact ⟨hstate, hcause, hgrp, fun hs => hon (hsilent.trans hs)⟩

/-! ### The silent state and the test pulse (R351, R353) -/

theorem silentState_of_due {s : State} (ha : s.sys.state = .active) (hi : 3 ≤ s.fio.idle) (hs : s.fio.silent = false) :
    let t := silentState s
    t.fio.silent = true ∧ t.sys.state = .safe ∧ t.reg Reg.SYS_SAFE_CAUSE = 0x0A10 := by
  unfold silentState
  rw [if_pos ⟨ha, hi, by simp [hs]⟩]
  dsimp only
  generalize hu : ({ s with fio := _ } : State) = u
  have hlive : u.live = true := by rw [← hu]; exact live_of_active ha
  obtain ⟨hstate, hcause, -, -, -⟩ := raiseS_enteredSafe 0x0A10 0 0 u hlive
  exact ⟨by rw [raiseS_silent, ← hu], hstate, hcause⟩

theorem exec_testPulse_off (s : State) : exec (.testPulse false) s = .next { s with fio := { s.fio with pulse := 0 } } := by
  have hnone : (bitsOf 48 fun n => false && bitAt (oConf n s) 22 && pinOn n s && s.sys.vcn.toNat % 50 == parLow n s) = 0 :=
    bitsOf_congr (g := fun _ => false) (fun _ _ => rfl)
  change execTestPulse false s = _
  unfold execTestPulse
  rw [hnone]

/-! ### Detections and classifications (R355, R356) -/

theorem outputL_fio (n code : Nat) (s : State) : (outputL n code s).fio = s.fio := by
  unfold outputL
  dsimp only
  split
  · exact note_fio ..
  · exact note_fio ..

theorem oFlt_outputL {code o : Nat} (hrow : ∀ r ∈ faultRow code, ∀ p ∈ r.event, p.1 = Reg.FIO_EVENT) (ho : o < 48) (n : Nat) (s : State) :
    oFlt o (outputL n code s) = oFlt o s := by
  have hnote : (note code 10 n s).reg (Reg.FIO_OFLT + 4 * o) = s.reg (Reg.FIO_OFLT + 4 * o) :=
    note_reg_of_fioCode hrow ⟨by unfold Reg.FIO_EVENT Reg.FIO_OFLT; omega, by unfold Reg.FIO_OFLT Reg.EVR_STAT; omega⟩ ..
  unfold outputL
  dsimp only
  split
  · exact hnote
  · exact hnote

/-- DET and RES of an output's fault register together. -/
theorem field_det_res (w : Word) : field w 31 24 = 16 * field w 31 28 + field w 27 24 := by
  have := w.isLt
  simp only [field, Nat.shiftRight_eq_div_pow]
  omega

theorem openForFault_faultOpen {g : Nat} (hg : g < 12) (code : Nat) (f : Fio) : bitAt (openForFault g code f).faultOpen g = true :=
  bitAt_setBit_same _ _ _ hg

theorem openForFault_grp {g : Nat} (hg : g < 12) (code : Nat) (f : Fio) : bitAt (openForFault g code f).grp g = false := by
  have hmask : (setBit (0#12) g true).getLsbD g = true := bitAt_setBit_same _ _ _ hg
  change (f.grp &&& ~~~setBit 0#12 g true).getLsbD g = false
  rw [BitVec.getLsbD_and, BitVec.getLsbD_not, hmask, Bool.not_true, Bool.and_false, Bool.and_false]

/-- A detection on an output that has none opens its group and stands with its code. -/
theorem detect_of_none {n det res code : Nat} {s : State} (hn : n < 48) (hnone : field (oFlt (parLow n s) s) 27 24 = 0)
    (hdet : det < 16) (hres : res < 16) (hrow : ∀ r ∈ faultRow code, ∀ p ∈ r.event, p.1 = Reg.FIO_EVENT) :
    let t := detect n det res code s
    (bitAt t.fio.faultOpen (parLow n s / 4) = true ∧ bitAt t.fio.grp (parLow n s / 4) = false)
      ∧ field (oFlt (parLow n s) t) 31 24 = 16 * det + res := by
  have hgroup := parLow_div_four n s
  have hg : parLow n s / 4 < 12 := by omega
  unfold detect
  dsimp only
  rw [hnone, if_neg (by decide), if_neg (by decide), outputL_fio, oFlt_outputL hrow (by omega), State.setReg_fio]
  refine ⟨⟨openForFault_faultOpen hg .., openForFault_grp hg ..⟩, ?_⟩
  rw [oFlt, State.reg_setReg_same, field_det_res,
    field_putField_of_disjoint _ _ (by decide) (by decide) (by decide), field_putField_of_disjoint _ _ (by decide) (by decide) (by decide),
    field_putField_same _ _ _ _ (by decide) (by decide),
    field_putField_of_disjoint _ _ (by decide) (by decide) (by decide), field_putField_same _ _ _ _ (by decide) (by decide),
    Nat.mod_eq_of_lt (b := 2 ^ (31 - 28 + 1)) hdet, Nat.mod_eq_of_lt (b := 2 ^ (27 - 24 + 1)) hres]

/-- RES and the partner of an output's fault register as a classification writes them. -/
def classified (o res p : Nat) (s : State) : State := s.setReg (Reg.FIO_OFLT + 4 * o) (putField (putField (oFlt o s) 27 24 res) 21 16 p)

theorem field_oFlt_classified {res p : Nat} (hres : res < 16) (hp : p < 64) (o : Nat) (s : State) :
    field (oFlt o (classified o res p s)) 27 24 = res ∧ field (oFlt o (classified o res p s)) 21 16 = p := by
  rw [oFlt, classified, State.reg_setReg_same, field_putField_of_disjoint _ _ (by decide) (by decide) (by decide),
    field_putField_same _ _ _ _ (by decide) (by decide), field_putField_same _ _ _ _ (by decide) (by decide),
    Nat.mod_eq_of_lt (b := 2 ^ (27 - 24 + 1)) hres, Nat.mod_eq_of_lt (b := 2 ^ (21 - 16 + 1)) hp]
  exact ⟨rfl, rfl⟩

theorem classify_stuckOn {n p : Nat} {s : State} (h : field (oFlt (parLow n s) s) 27 24 = 1) :
    classify n 2 p s = outputL (parLow n s) 0x0A08 (classified (parLow n s) 2 0x3F s) := by
  unfold classify
  rw [if_pos h]
  rfl

theorem classify_crosstalk {n p : Nat} {s : State} (h : field (oFlt (parLow n s) s) 27 24 = 1) :
    classify n 3 p s = outputL (parLow n s) 0x0A0B (classified (parLow n s) 3 p { s with fio := openForFault (p / 4) 0x0A0B s.fio }) := by
  unfold classify
  rw [if_pos h]
  rfl

/-! ### The restore (R358) -/

/-- One group's turn in a write of FIO_GRESTORE with its key. -/
def restoreTurn (w : Word) (s : State) (g : Nat) : State :=
  if !bitAt w g then s
  else if bitAt s.fio.faultOpen g || Tbl.get s.fio.feed (g / 2) != 0 then note 0x0A17 11 g s
  else { s with fio := { s.fio with restore := setBit s.fio.restore g (bitAt s.fio.held g) } }

theorem exec_fioGrestore_of_key {s : State} {w : Word} (h : field w 31 16 = 0x6A0C) :
    exec (.fioGrestore w) s = .next ((List.range 12).foldl (restoreTurn w) s) := by
  change execFioGrestore w s = _
  unfold execFioGrestore
  rw [if_pos h]
  rfl

theorem exec_fioGrestore_of_wrong_key {s : State} {w : Word} (h : field w 31 16 ≠ 0x6A0C) : exec (.fioGrestore w) s = .next (note 0x0A16 0 0 s) := by
  change execFioGrestore w s = _
  unfold execFioGrestore
  rw [if_neg h]

/-- A turn changes no more of FIO than the restores that wait, and of these its own group's alone. -/
theorem restoreTurn_fio (w : Word) (s : State) (x : Nat) :
    (restoreTurn w s x).fio = { s.fio with restore := (restoreTurn w s x).fio.restore }
      ∧ ∀ g, g ≠ x → bitAt (restoreTurn w s x).fio.restore g = bitAt s.fio.restore g := by
  unfold restoreTurn
  split
  · exact ⟨rfl, fun _ _ => rfl⟩
  · split
    · rw [note_fio]
      exact ⟨rfl, fun _ _ => rfl⟩
    · refine ⟨rfl, fun g hg => ?_⟩
      dsimp only
      unfold bitAt
      rw [setBit_getLsbD, if_neg (fun h => hg h.1)]

/-- Group `g` is held for no fault: neither an output fault nor a feed that is not OK. -/
def heldForNoFault (g : Nat) (f : Fio) : Prop := bitAt f.held g = true ∧ bitAt f.faultOpen g = false ∧ Tbl.get f.feed (g / 2) = 0

theorem restoreTurn_of_heldForNoFault {w : Word} {s : State} {g : Nat} (hg : g < 12) (hw : bitAt w g = true) (h : heldForNoFault g s.fio) :
    bitAt (restoreTurn w s g).fio.restore g = true := by
  obtain ⟨hheld, hopen, hfeed⟩ := h
  unfold restoreTurn
  simp only [hw, hopen, hfeed, hheld, Bool.not_true, Bool.false_eq_true, if_false, bne_self_eq_false, Bool.or_self]
  exact bitAt_setBit_same _ _ _ hg

/-- Among the turns of a write that restores group `g` its restore waits from its own turn on. -/
theorem foldl_restoreTurn {w : Word} {g : Nat} (hg : g < 12) (hw : bitAt w g = true) (l : List Nat) (s : State) (h : heldForNoFault g s.fio)
    (hl : g ∈ l ∨ bitAt s.fio.restore g = true) : bitAt (l.foldl (restoreTurn w) s).fio.restore g = true := by
  induction l generalizing s with
  | nil => exact hl.resolve_left (List.not_mem_nil)
  | cons x l ih =>
    obtain ⟨hkept, hothers⟩ := restoreTurn_fio w s x
    refine ih _ (by rw [hkept]; exact h) ?_
    by_cases hx : g = x
    · subst hx
      exact Or.inr (restoreTurn_of_heldForNoFault hg hw h)
    · rw [hothers g hx]
      exact hl.imp_left fun hmem => (List.mem_cons.1 hmem).resolve_left hx

/-- Settles O51: the commit by its code and its place in the VC, the on delay, the silent state, the test pulse, the detections and their
classification, the restore and the lock. -/
theorem fieldOutputs : Obligations.FieldOutputs := by
  refine ⟨?commits, ?ignored, ?onDelay, ?silent, ?pulse, ?detections, ?undeclared, ?classes, ?controls⟩
  case commits =>
    intro s w0 w1 code ha hp
    refine ⟨fun hc hn => answers_of_exec (exec_outputCommit_of_code ha hp hc) ?_, fun h => ?_⟩
    · obtain ⟨hcommitted, hon, hgrp, hoff, hsys⟩ := commit_of_right
        (s := wordsWritten (commitWords w0 w1 s).1 ((commitWords w0 w1 s).2 &&& 0x0FFFFFFF#32) s) rfl hn
      have hconf := confKept_commitNotes_wordsWritten (commitWords w0 w1 s).1 ((commitWords w0 w1 s).2 &&& 0x0FFFFFFF#32)
        (commitWords w0 w1 s).1 ((commitWords w0 w1 s).2 &&& 0x0FFFFFFF#32) s
      exact ⟨hcommitted, hon.trans (takenOn_of_confKept hconf (commitNotes_fio ..) ..), hgrp.trans (takenGrp_of_confKept hconf (commitNotes_fio ..) ..),
        hoff, hsys⟩
    · by_cases hc : code = commitCode s.sys.vcn w0 (w1 &&& 0x0FFFFFFF#32)
      · exact answers_of_exec (exec_outputCommit_of_code ha hp hc) (commit_of_refused ha (Or.inr (h.resolve_left (not_not_intro hc))))
      · exact answers_of_exec (exec_outputCommit_of_wrong_code ha hp hc) (commit_of_refused ha (Or.inl hc))
  case ignored =>
    intro s w0 w1 code ha
    obtain ⟨a, b, he⟩ := exec_outputCommit_of_not_active ha w0 w1 code
    exact ⟨_, he, rfl, rfl⟩
  case onDelay =>
    intro s
    exact ⟨_, rfl, rfl, rfl, rfl⟩
  case silent =>
    intro s ha hi hs
    exact ⟨_, rfl, silentState_of_due ha hi hs⟩
  case pulse =>
    intro s
    refine ⟨⟨_, exec_testPulse_off s, rfl, rfl⟩, ⟨_, rfl, rfl, fun n hn hpulse => ?_⟩⟩
    rw [bitAt_bitsOf] at hpulse
    simp only [hn, decide_true, Bool.true_and, Bool.and_eq_true] at hpulse
    exact ⟨hpulse.1.2, hpulse.1.1⟩
  case detections =>
    intro s n hn hnone
    refine ⟨fun hpulse hpin => ?_, fun h => ?_, fun hd he => ?_, fun he => ?_⟩
    · exact answers_of_exec (if_pos ⟨hpulse, hpin⟩) (detect_of_none hn hnone (by decide) (by decide) (by decide))
    · exact ⟨s, if_neg (by rcases h with h | h <;> simp [h]), rfl⟩
    · exact answers_of_exec (if_pos ⟨hd, by simp [he]⟩) (detect_of_none hn hnone (by decide) (by decide) (by decide))
    · exact answers_of_exec (if_pos he) (detect_of_none hn hnone (by decide) (by decide) (by decide))
  case undeclared =>
    intro s n h
    refine answers_of_exec (t := noteIf (!oDeclared n s) 0x0A0E 10 n s) rfl ?_
    rw [h]
    rfl
  case classes =>
    intro s n p hn hp h
    have ho : parLow n s < 48 := by
      have := parLow_div_four n s
      omega
    constructor
    · refine answers_of_exec (t := classify n 2 p s) rfl ?_
      rw [classify_stuckOn h, oFlt_outputL (by decide) ho]
      exact field_oFlt_classified (by decide) (by decide) ..
    · refine answers_of_exec (t := classify n 3 p s) rfl ?_
      rw [classify_crosstalk h, oFlt_outputL (by decide) ho, outputL_fio]
      obtain ⟨hres, hpartner⟩ := field_oFlt_classified (res := 3) (by decide) (Nat.lt_trans hp (by decide)) (parLow n s)
        { s with fio := openForFault (p / 4) 0x0A0B s.fio }
      exact ⟨hres, hpartner, openForFault_faultOpen (by omega) ..⟩
  case controls =>
    intro s w
    refine ⟨fun hkey g hg hw hheld hopen hfeed => ?_, fun hkey => ?_, fun hlock => ?_⟩
    · exact answers_of_exec (exec_fioGrestore_of_key hkey)
        (foldl_restoreTurn hg hw _ s ⟨hheld, hopen, hfeed⟩ (Or.inl (List.mem_range.2 hg)))
    · exact ⟨_, exec_fioGrestore_of_wrong_key hkey, rfl, note_recordedOnly ..⟩
    · refine answers_of_exec (t := s.setRegB Reg.FIO_LOCK 0 true) (congrArg Host.Outcome.next (if_pos hlock)) ?_
      exact ⟨regB_setRegB_same _ _ _ _ (by decide), rfl⟩

end Sys2Proof.Machine
end

section
/-!
PROOF. The door bus channel as it sends (R248, R257–R259, R261, R262, R268): what a frame that goes out leaves, and what its end leaves.
-/
namespace Sys2Proof.Machine

/-! ### Frames that go out (R261, R262, R268) -/

theorem bus_updBus_ne {b c : Nat} (f : Dbc → Dbc) (s : State) (h : c ≠ b) : (updBus b f s).bus c = s.bus c := Tbl.get_set_ne _ _ h.symm

@[simp] theorem bus_send_same (k : FrameKind) (f : Frame) (b : Nat) (s : State) :
    (send k f b s).bus b = { s.bus b with fly := some k, out := (s.bus b).out ++ [{ f with esi := (s.bus b).err == 1 }] } := bus_updBus_same ..

theorem bus_send_ne {b c : Nat} (k : FrameKind) (f : Frame) (s : State) (h : c ≠ b) : (send k f b s).bus c = s.bus c := bus_updBus_ne _ s h

/-- An own frame on the bus changes the door buses alone. -/
theorem send_frame (k : FrameKind) (f : Frame) (b : Nat) (s : State) : send k f b s = { s with dbc := (send k f b s).dbc } := updBus_frame ..

section
variable {s : State} {b : Nat}

theorem exec_referenceSend_of_due (hp : (s.bus b).txRef = .pending)
    (hst : (s.bus b).st = .master ∨ (s.bus b).st = .safeTx ∨ (s.bus b).st = .backup)
    (herr : (s.bus b).err ≠ 2) (hfly : (s.bus b).fly = none) (busy : Bool) :
    exec (.referenceSend b busy) s =
      .next (if busy then updBus b (fun d => { d with txRef := .busBusy }) s else send .reference (refFrame s b) b s) :=
  congrArg Host.Outcome.next (if_pos ⟨hp, hst, herr, hfly⟩)

variable (hst : (s.bus b).st = .master ∨ (s.bus b).st = .safeTx) (herr : (s.bus b).err ≠ 2)
include hst herr

theorem exec_orderFrameSend_of_due (hp : (s.bus b).txOrd = .pending) :
    exec (.orderFrameSend b) s = .next (send .order (orderFrame s b) b s) :=
  congrArg Host.Outcome.next (if_pos ⟨hp, hst, herr⟩)

theorem exec_doorCommandFrameSend_of_due (hp : (s.bus b).txCmd = .pending) :
    exec (.doorCommandFrameSend b) s =
      .next (if (s.bus b).st = .master ∧ ¬ (s.bus b).sending.hasSeal then noteBus b 0x0805 (updBus b (fun d => { d with txCmd := .notSealed }) s)
        else send .command (commandFrame s b) b s) :=
  congrArg Host.Outcome.next (if_pos ⟨hp, hst, herr⟩)

/-- A channel in `SAFE_TX` needs no seal of the loading copy: its block is 0 with the restrictive seal (R264). -/
theorem exec_doorCommandFrameSend_of_sealed (hp : (s.bus b).txCmd = .pending) (hseal : (s.bus b).st = .safeTx ∨ (s.bus b).sending.hasSeal = true) :
    exec (.doorCommandFrameSend b) s = .next (send .command (commandFrame s b) b s) := by
  have hno : ¬ ((s.bus b).st = .master ∧ ¬ (s.bus b).sending.hasSeal = true) := by
    rintro ⟨hmaster, hunsealed⟩
    rcases hseal with hsafe | hsealed
    · rw [hmaster] at hsafe
      cases hsafe
    · exact hunsealed hsealed
  rw [exec_doorCommandFrameSend_of_due hst herr hp, if_neg hno]

end

theorem exec_doorCommandFrameSend_of_unsealed {s : State} {b : Nat} (hp : (s.bus b).txCmd = .pending) (hst : (s.bus b).st = .master)
    (herr : (s.bus b).err ≠ 2) (hseal : (s.bus b).sending.hasSeal = false) :
    exec (.doorCommandFrameSend b) s = .next (noteBus b 0x0805 (updBus b (fun d => { d with txCmd := .notSealed }) s)) := by
  rw [exec_doorCommandFrameSend_of_due (Or.inl hst) herr hp, if_pos ⟨hst, by simp [hseal]⟩]

/-! ### The end of a frame (R250, R262, R268, R275) -/

@[simp] theorem bus_loopDelay (c tdcv : Nat) (s : State) (b : Nat) : (loopDelay c tdcv s).bus b = s.bus b := by
  unfold loopDelay
  dsimp only
  split
  · rw [bus_busLocal, bus_setRegF]
  · exact bus_setRegF ..

/-- A successful transmission leaves its channel but for the error state, which may become error-active. -/
theorem bus_txGood (b : Nat) (s : State) : ∃ e, (txGood b s).bus b = { s.bus b with err := e } := by
  unfold txGood
  rcases errorActive_cases b (s.setRegF (busReg Reg.DBC_ERR b) 23 15 (tec s b - 1)) with hstays | hactive
  · rw [hstays]
    exact ⟨_, rfl⟩
  · rw [hactive]
    exact ⟨0, bus_updBus_same ..⟩

theorem frameEnd_good_of_pending {t : TxSt} (h : t = .pending) : frameEnd 0 t = .sent := by
  rw [h]
  rfl

/-- A channel whose order or door command frame has ended with a result. -/
def Dbc.frameEnded (k : FrameKind) (result : Nat) (d : Dbc) : Dbc :=
  if k = .order then { d with fly := none, txOrd := frameEnd result d.txOrd }
  else { d with fly := none, txCmd := frameEnd result d.txCmd, cmdSent := d.cmdSent || result == 0 }

/-- A channel whose reference with a CYCLE has ended well. -/
def Dbc.referenceSent (cyc : Nat) (d : Dbc) : Dbc :=
  { d.inOrder cyc with fly := none, txRef := .sent, alone := false, refOther := false, unack := 0 }

theorem txEnd_of_idle {s : State} {b : Nat} (h : (s.bus b).fly = none) (result tdcv : Nat) : txEnd b result tdcv s = s := by
  unfold txEnd
  rw [h]

section
variable {s : State} {b : Nat} {k : FrameKind} (hk : k ≠ .reference) (hfly : (s.bus b).fly = some k)
include hk hfly

theorem txEnd_of_good (tdcv : Nat) : txEnd b 0 tdcv s = txGood b (updBus b (Dbc.frameEnded k 0) (loopDelay b tdcv s)) := by
  unfold txEnd
  rw [hfly]
  cases k with
  | reference => exact absurd rfl hk
  | order => rfl
  | command => rfl

/-- A frame that lost arbitration shows no loop delay and counts no error. -/
theorem txEnd_of_lost_arbitration (tdcv : Nat) : txEnd b 7 tdcv s = noteBus b 0x0806 (updBus b (Dbc.frameEnded k 7) s) := by
  unfold txEnd
  rw [hfly]
  cases k with
  | reference => exact absurd rfl hk
  | order => rfl
  | command => rfl

theorem bus_txEnd_of_good (tdcv : Nat) : ∃ e, (txEnd b 0 tdcv s).bus b = { (s.bus b).frameEnded k 0 with err := e } := by
  obtain ⟨e, he⟩ := bus_txGood b (updBus b (Dbc.frameEnded k 0) (loopDelay b tdcv s))
  refine ⟨e, ?_⟩
  rw [txEnd_of_good hk hfly, he, bus_updBus_same, bus_loopDelay]

theorem bus_txEnd_of_lost_arbitration (tdcv : Nat) : (txEnd b 7 tdcv s).bus b = (s.bus b).frameEnded k 7 := by
  rw [txEnd_of_lost_arbitration hk hfly, bus_noteBus, bus_updBus_same]

end

/-- The own reference that ends well carried the BC of the VCN. -/
theorem bus_txEnd_of_reference_good {s : State} {b : Nat} (hfly : (s.bus b).fly = some .reference) (tdcv : Nat) :
    ∃ e, (txEnd b 0 tdcv s).bus b = { (s.bus b).referenceSent (s.sys.vcn.toNat / 2 % 8) with err := e } := by
  have hend : txEnd b 0 tdcv s = loopDelay b tdcv (refEnd b 0 (updBus b (fun d => { d with fly := none }) s)) := by
    unfold txEnd
    rw [hfly]
    rfl
  rw [hend, bus_loopDelay]
  unfold refEnd setUnack
  rw [if_pos rfl]
  obtain ⟨e, he⟩ := bus_txGood b _
  refine ⟨e, he.trans ?_⟩
  rw [bus_setRegF, bus_updBus_same, bus_updBus_same, bus_updBus_same]
  rfl

/-- Settles O45: each frame as it goes out or is held back, and its end by the frame on the bus. -/
theorem doorBusSends : Obligations.DoorBusSends := by
  refine ⟨?reference, ?frames, ?ends⟩
  case reference =>
    intro s b hp hst herr hfly
    have hexec := exec_referenceSend_of_due hp hst herr hfly
    refine ⟨answers_of_exec (hexec false) ?_, answers_of_exec (hexec true) ?_⟩
    · rw [if_neg (by decide), bus_send_same]
      exact ⟨rfl, rfl, fun x hx => bus_send_ne _ _ _ hx, send_frame ..⟩
    · rw [if_pos rfl]
      exact ⟨bus_updBus_same .., fun x hx => bus_updBus_ne _ _ hx, updBus_frame ..⟩
  case frames =>
    intro s b hst herr
    refine ⟨fun hp => ?order, fun hp hseal => ?command, fun hp hmaster hseal => ?unsealed⟩
    case order =>
      refine answers_of_exec (exec_orderFrameSend_of_due hst herr hp) ?_
      rw [bus_send_same]
      exact ⟨rfl, rfl, send_frame ..⟩
    case command =>
      refine answers_of_exec (exec_doorCommandFrameSend_of_sealed hst herr hp hseal) ?_
      rw [bus_send_same]
      exact ⟨rfl, rfl, send_frame ..⟩
    case unsealed =>
      refine answers_of_exec (exec_doorCommandFrameSend_of_unsealed hp hmaster herr hseal) ?_
      rw [bus_noteBus, bus_updBus_same]
      exact ⟨rfl, rfl⟩
  case ends =>
    intro s b tdcv
    refine ⟨fun hidle r => ⟨_, rfl, txEnd_of_idle hidle r tdcv⟩, fun hfly hp => ⟨?orderSent, ?orderLost⟩, fun hfly hp => ?commandSent,
      fun hfly => ?referenceSent⟩
    case orderSent =>
      obtain ⟨e, he⟩ := bus_txEnd_of_good (by decide) hfly tdcv
      refine answers_of_exec (t := txEnd b 0 tdcv s) rfl ?_
      rw [he]
      exact ⟨frameEnd_good_of_pending hp, rfl⟩
    case orderLost =>
      refine answers_of_exec (t := txEnd b 7 tdcv s) rfl ?_
      rw [bus_txEnd_of_lost_arbitration (by decide) hfly]
      exact ⟨rfl, rfl, rfl⟩
    case commandSent =>
      obtain ⟨e, he⟩ := bus_txEnd_of_good (by decide) hfly tdcv
      refine answers_of_exec (t := txEnd b 0 tdcv s) rfl ?_
      rw [he]
      exact ⟨frameEnd_good_of_pending hp, Bool.or_true _, rfl⟩
    case referenceSent =>
      obtain ⟨e, he⟩ := bus_txEnd_of_reference_good hfly tdcv
      refine answers_of_exec (t := txEnd b 0 tdcv s) rfl ?_
      rw [he]
      exact ⟨rfl, rfl, rfl, rfl⟩

end Sys2Proof.Machine
end

section
/-!
PROOF. The command front end (R310, R313, R314, R316, R317, R328, R331, R335): what a fed telegram, a pop, a post, the out queues, the load
window, the recount and the lock leave.
-/
namespace Sys2Proof.Machine

/-! ### CMD_FEED (R313, R331) -/

section
variable {s : State} (host : Nat) (telegram : List Byte)

theorem feedTelegram_of_not_p1 (hp : s.sys.phase ≠ 1) : feedTelegram host telegram s = note 0x100C 0 0 s := by
  unfold feedTelegram
  rw [if_pos hp]

theorem feedTelegram_of_not_active (hp : s.sys.phase = 1) (ha : s.sys.state ≠ .active) : feedTelegram host telegram s = s := by
  unfold feedTelegram
  rw [if_neg (not_not_intro hp), if_pos ha]

theorem feedTelegram_of_active (hp : s.sys.phase = 1) (ha : s.sys.state = .active) :
    feedTelegram host telegram s = feedBody 20 host ((telegram.drop 32).take (telegram.length - 36)) s := by
  unfold feedTelegram
  rw [if_neg (not_not_intro hp), if_neg (not_not_intro ha)]

end

/-! ### CMD_POP (R152, R314) -/

/-- The entry of a packet's tag as the packet is handed over. -/
def handedOver (p : Pkt) (s : State) : Tag := { s.tag p.tag with st := .active, applied := s.sys.vcn, params := wordAt p.params 0 }

/-- The state once a packet is handed over and `ps` wait behind it. -/
def popped (p : Pkt) (ps : List Pkt) (s : State) : State :=
  { s with cmd := { s.cmd with
    tag := Tbl.set s.cmd.tag p.tag (handedOver p s), queue := ps, handed := s.cmd.handed + 1
    dirty := if s.cmd.dirty.contains p.tag then s.cmd.dirty else s.cmd.dirty ++ [p.tag] } }

theorem tag_popped (p : Pkt) (ps : List Pkt) (s : State) : (popped p ps s).tag p.tag = handedOver p s :=
  Tbl.get_set_same s.cmd.tag p.tag (handedOver p s)

theorem popHead_of_queued {s : State} {p : Pkt} {ps : List Pkt} (hq : s.cmd.queue = p :: ps) (ht : (s.tag p.tag).st = .queued)
    (hh : s.cmd.handed < 32) (ha : s.sys.state = .active) : popHead s = some (p, popped p ps s) := by
  have hhead : (s.cmd.queue.dropWhile fun p => (s.tag p.tag).st != .queued) = p :: ps := by
    rw [hq, List.dropWhile_cons_of_neg]
    simp [ht]
  have hmay : ¬ (s.cmd.handed ≥ 32 ∨ s.sys.state ≠ .active) := by simp [ha, hh]
  unfold popHead
  rw [hhead]
  dsimp only
  rw [if_neg hmay]
  rfl

theorem applyCommands_one_of_popHead {s u : State} {p : Pkt} (h : popHead s = some (p, u)) : applyCommands 1 s = applyPacket p u := by
  unfold applyCommands
  rw [h]
  rfl

theorem exec_cmdPop_of_pops {s : State} {w : Word} (hw : bitAt w 0 = true) (hp : popsNow s = true) :
    exec (.cmdPop w) s = .next (applyCommands 1 s) := by
  change execCmdPop w s = _
  unfold execCmdPop
  rw [hw, hp, Bool.and_self, if_pos rfl]

theorem exec_cmdPop_of_clear {s : State} {w : Word} (hw : bitAt w 0 = false) : exec (.cmdPop w) s = .next s := by
  change execCmdPop w s = _
  unfold execCmdPop
  rw [hw, Bool.false_and, if_neg Bool.false_ne_true]

theorem exec_cmdPop_of_waits {s : State} (w : Word) (hp : popsNow s = false) : exec (.cmdPop w) s = .next s := by
  change execCmdPop w s = _
  unfold execCmdPop
  rw [hp, Bool.and_false, if_neg Bool.false_ne_true]

/-! ### CMD_RPLY and the out queues (R317, R328) -/

theorem exec_cmdRply_of_set {s : State} {w : Word} (hw : bitAt w 0 = true) : exec (.cmdRply w) s = .next (postRbuf s) := by
  change execCmdRply w s = _
  unfold execCmdRply
  rw [if_pos hw]

theorem postRbuf_of_header_ok {s : State} (h : replyHeaderOk (Tbl.getList s.cmd.rbuf 0 256) = true) :
    postRbuf s = postBytes ((Tbl.getList s.cmd.rbuf 0 256).take (16 + halfAt (Tbl.getList s.cmd.rbuf 0 256) 6)) s := by
  unfold postRbuf
  simp only [h, Bool.not_true, Bool.false_eq_true, if_false]

theorem postRbuf_of_header_refused {s : State} (h : replyHeaderOk (Tbl.getList s.cmd.rbuf 0 256) = false) :
    postRbuf s = s.setReg Reg.CMD_RSTAT (word (2 ^ 31 + 2 * 2 ^ 24 + byteAt (Tbl.getList s.cmd.rbuf 0 256) 5)) := by
  unfold postRbuf
  simp only [h, Bool.not_false, if_true]

/-- The result field of CMD_RSTAT after a post whose header is refused, whatever tag the low byte names. -/
theorem field_rstat_header_refused {tag : Nat} (h : tag < 256) : field (word (2 ^ 31 + 2 * 2 ^ 24 + tag)) 27 24 = 2 := by
  unfold field word
  rw [BitVec.toNat_ofNat, Nat.shiftRight_eq_div_pow]
  omega

theorem byteAt_lt (bs : List Byte) (i : Nat) : byteAt bs i < 256 := BitVec.isLt _

theorem exec_cmdOutpop_of_set {s : State} {w : Word} (hw : bitAt w 0 = true) : exec (.cmdOutpop w) s = .next (popOut s) := by
  change execCmdOutpop w s = _
  unfold execCmdOutpop
  rw [if_pos hw]

theorem out_popOut (s : State) (h : Nat) :
    Tbl.get (popOut s).cmd.out h = if s.cmd.outSel = h then (Tbl.get s.cmd.out s.cmd.outSel).drop 1 else Tbl.get s.cmd.out h :=
  Tbl.get_upd ..

/-! ### The load window and the recount (R316, R331) -/

theorem exec_cmdLoadBegin_of_opens {s : State} (hp : s.sys.phase = 4)
    (hs : s.sys.state = .configCheck ∨ s.sys.state = .join ∨ s.sys.state = .banked) :
    exec .cmdLoadBegin s = .next { s with cmd := { s.cmd with loading := true } } := by
  have hload : loadState s = true := by
    unfold loadState
    rcases hs with h | h | h <;> rw [h]
  change execCmdLoadBegin s = _
  unfold execCmdLoadBegin
  rw [if_pos ⟨hp, hload⟩]

theorem exec_cmdLoadEnd_of_loading {s : State} (h : s.cmd.loading = true) :
    exec .cmdLoadEnd s = .next (creditRecount (recountCredits { s with cmd := { s.cmd with loading := false } })) := by
  change execCmdLoadEnd s = _
  unfold execCmdLoadEnd
  rw [if_pos h]

theorem creditRecount_of_ok {s : State} (h : creditsOk s = true) :
    creditRecount s = { s with cmd := { s.cmd with creditOk := true } } := by
  unfold creditRecount
  simp only [h, if_true]

theorem creditRecount_of_wrong {s : State} (h : creditsOk s = false) :
    creditRecount s = raiseS 0x1008 0 0 { s with cmd := { s.cmd with creditOk := false } } := by
  unfold creditRecount
  simp only [h, Bool.false_eq_true, if_false]

/-- The check of R316 does not ask whether the load window is open. -/
theorem creditsOk_withLoading (s : State) (b : Bool) :
    creditsOk (recountCredits { s with cmd := { s.cmd with loading := b } }) = creditsOk (recountCredits s) := rfl

/-! ### CMD_LOCK (R315, R335) -/

theorem tag_setTag_ne (s : State) {n t : Nat} (g : Tag) (h : n ≠ t) : (s.setTag n g).tag t = s.tag t := Tbl.get_set_ne _ _ h

theorem inAnyShare_of_regs_eq {s t : State} (h : t.regs = s.regs) (i : Nat) : inAnyShare t i = inAnyShare s i := by
  unfold inAnyShare inShare hostReg State.regB State.reg
  rw [h]

theorem holdTag_regs (s : State) (i : Nat) : (holdTag s i).regs = s.regs := by
  unfold holdTag
  split <;> rfl

theorem foldl_holdTag_regs (l : List Nat) (s : State) : (l.foldl holdTag s).regs = s.regs := by
  induction l generalizing s with
  | nil => rfl
  | cons i l ih => exact (ih _).trans (holdTag_regs s i)

/-- A tag of a share is no longer `FREE` once it has been held. -/
theorem holdTag_st_of_inAnyShare {s : State} {i : Nat} (h : inAnyShare s i = true) : ((holdTag s i).tag i).st ≠ .free := by
  unfold holdTag
  by_cases hf : (s.tag i).st = .free
  · rw [if_pos ⟨h, hf⟩, State.tag_setTag]
    exact TagSt.noConfusion
  · rw [if_neg fun hc => hf hc.2]
    exact hf

/-- Holding a tag frees none. -/
theorem holdTag_st_of_not_free {s : State} {i : Nat} (j : Nat) (h : (s.tag i).st ≠ .free) : ((holdTag s j).tag i).st ≠ .free := by
  unfold holdTag
  split
  next hc =>
    have hne : j ≠ i := by
      rintro rfl
      exact h hc.2
    rw [tag_setTag_ne _ _ hne]
    exact h
  next => exact h

theorem foldl_holdTag_st_of_not_free (l : List Nat) {s : State} {i : Nat} (h : (s.tag i).st ≠ .free) :
    ((l.foldl holdTag s).tag i).st ≠ .free := by
  induction l generalizing s with
  | nil => exact h
  | cons j l ih => exact ih (holdTag_st_of_not_free j h)

/-- Every listed tag of a share is held. -/
theorem foldl_holdTag_st_of_inAnyShare {l : List Nat} {s : State} {i : Nat} (hi : i ∈ l) (h : inAnyShare s i = true) :
    ((l.foldl holdTag s).tag i).st ≠ .free := by
  induction l generalizing s with
  | nil => cases hi
  | cons j l ih =>
    rcases List.mem_cons.1 hi with rfl | htail
    · exact foldl_holdTag_st_of_not_free l (holdTag_st_of_inAnyShare h)
    · exact ih htail ((inAnyShare_of_regs_eq (holdTag_regs s j) i).trans h)

theorem tag_recountCredits (s : State) (i : Nat) : (recountCredits s).tag i = s.tag i := rfl

theorem lockCommands_regs (s : State) : (lockCommands s).regs = (s.setRegB Reg.CMD_LOCK 0 true).regs := foldl_holdTag_regs ..

theorem lockCommands_locked (s : State) : (lockCommands s).regB Reg.CMD_LOCK 0 = true := by
  unfold State.regB State.reg
  rw [lockCommands_regs]
  exact regB_setRegB_same s Reg.CMD_LOCK 0 true (by decide)

theorem lockCommands_st_of_inAnyShare {s : State} {i : Nat} (hi : i < 256) (h : inAnyShare (lockCommands s) i = true) :
    ((lockCommands s).tag i).st ≠ .free := by
  rw [inAnyShare_of_regs_eq (lockCommands_regs s)] at h
  unfold lockCommands
  rw [tag_recountCredits]
  exact foldl_holdTag_st_of_inAnyShare (List.mem_range.2 hi) h

theorem exec_cmdLock_of_set {s : State} {w : Word} (hw : bitAt w 0 = true) : exec (.cmdLock w) s = .next (lockCommands s) := by
  change execCmdLock w s = _
  unfold execCmdLock
  rw [if_pos hw]

/-- Settles O49: each operation of the front end by the lemma that says what it leaves. -/
theorem commandFrontEnd : Obligations.CommandFrontEnd := by
  refine ⟨?feed, ?pop, ?posted, ?refused, ?outsel, ?outpop, ?load, ?recount, ?lock⟩
  case feed =>
    intro s pb k h
    refine ⟨fun hp => ⟨_, rfl, ?_⟩, fun hp ha => ⟨_, rfl, feedTelegram_of_not_active _ _ hp ha⟩,
      fun hp ha => ⟨_, rfl, feedTelegram_of_active _ _ hp ha⟩⟩
    rw [feedTelegram_of_not_p1 _ _ hp]
    exact ⟨rfl, note_recordedOnly ..⟩
  case pop =>
    intro s w p ps hq ht hh ha
    refine ⟨fun hwaits => answers_of_exec (exec_cmdPop_of_waits w hwaits) rfl, fun hpops => ⟨fun hw => ?_, fun hw =>
      answers_of_exec (exec_cmdPop_of_clear hw) rfl⟩⟩
    exact answers_of_exec (exec_cmdPop_of_pops hw hpops) ⟨popped p ps s, applyCommands_one_of_popHead (popHead_of_queued hq ht hh ha),
      congrArg Tag.st (tag_popped p ps s), rfl, rfl, rfl⟩
  case posted =>
    intro s w hw hok
    exact answers_of_exec (exec_cmdRply_of_set hw) (postRbuf_of_header_ok hok)
  case refused =>
    intro s w hw hbad
    refine answers_of_exec (exec_cmdRply_of_set hw) ?_
    rw [postRbuf_of_header_refused hbad]
    refine ⟨?_, rfl⟩
    unfold State.regF
    rw [State.reg_setReg_same, field_rstat_header_refused (byteAt_lt _ _)]
  case outsel =>
    intro s h hh
    refine ⟨_, rfl, ?_⟩
    rw [Nat.mod_eq_of_lt hh]
  case outpop =>
    intro s w hw
    refine answers_of_exec (exec_cmdOutpop_of_set hw) ⟨?_, fun x hx => ?_⟩
    · rw [out_popOut, if_pos rfl]
    · rw [out_popOut, if_neg hx.symm]
  case load =>
    intro s
    refine ⟨fun hp hs => answers_of_exec (exec_cmdLoadBegin_of_opens hp hs) rfl, fun hl hok => ?_⟩
    refine answers_of_exec (exec_cmdLoadEnd_of_loading hl) ?_
    rw [creditRecount_of_ok ((creditsOk_withLoading s false).trans hok)]
    exact ⟨rfl, rfl, rfl, rfl⟩
  case recount =>
    intro s
    refine ⟨fun hok => ⟨_, rfl, creditRecount_of_ok hok⟩, fun hbad hl => ?_⟩
    exact answers_enteredSafe_of_raiseS (congrArg Host.Outcome.next (creditRecount_of_wrong hbad)) hl rfl rfl
  case lock =>
    intro s w hw
    exact answers_of_exec (exec_cmdLock_of_set hw) ⟨lockCommands_locked s, fun i hi h => lockCommands_st_of_inAnyShare hi h⟩

end Sys2Proof.Machine
end
